-- ==== Sys2Proof/Word.lean ====
section
/-! DEFINITION. The words of the package and their plainest arithmetic: bytes, sparse maps as plain data,
bit fields of a number (00 R8) and two's complement readings. -/
namespace Sys2Proof

/-- One byte. -/
abbrev Byte := BitVec 8

/-- A sparse table keyed by number, in ascending key with no entry equal to its default. -/
abbrev SMap (α : Type) := List (Nat × α)

/-- A 128-bit op word (03 R86) or lace symbol (05 R172), bit 0 the least significant bit of byte 0. -/
abbrev Word128 := BitVec 128

/-- Bits `lo + len − 1` to `lo` of a number (R8). -/
def field (w lo len : Nat) : Nat := (w >>> lo) % 2 ^ len

/-- Bit `i` of a number (R8). -/
def fbit (w i : Nat) : Bool := field w i 1 == 1

/-- A number read as a two's complement value of `n` bits. -/
def signed (n w : Nat) : Int :=
  if w % 2 ^ n < 2 ^ (n - 1) then Int.ofNat (w % 2 ^ n) else Int.ofNat (w % 2 ^ n) - Int.ofNat (2 ^ n)

/-- A value written as `n` bits of two's complement. -/
def unsigned (n : Nat) (z : Int) : Nat := (z % Int.ofNat (2 ^ n)).toNat

/-- The smallest number of pieces of size `b` that hold `a`. -/
def ceilDiv (a b : Nat) : Nat := (a + b - 1) / b

end Sys2Proof
end

