-- ==== Sys2Proof/Syntax.lean ====
section
/-! DEFINITION. The commands that act on the package: one constructor per row of spec/opcode_table.json, and the
plain data their operands carry. -/
namespace Sys2Proof

/-- A Kopitre port, 0 to 63 (01 R23). -/
abbrev Port := Fin 64
/-- A partition, 0 to 7 (12 R420). -/
abbrev Part := Fin 8
/-- A last slot, 0 to 63 (04 R151). -/
abbrev Slot := Fin 64
/-- A logical cluster, 0 to 303 (01 R18). -/
abbrev Lcl := Fin 304

/-- A core of a logical cluster. -/
structure CoreRef where
  lcl : Lcl
  core : Fin 64
  deriving DecidableEq, Repr

/-- The access paths of 14 R458; `keeper` is the keeper's own auto-start write (18 R584). -/
inductive Path where | localPort | inBand | hostMailbox | i3c | keeper
  deriving DecidableEq, Repr

/-- Who makes a Relum access: the path, the mailbox and sender's node that its origin names (14 R458), its world and
the lock key it carries (14 R480). -/
structure Acc where
  path : Path
  box : Nat
  node : Nat
  secure : Bool
  key : Nat
  deriving DecidableEq, Repr

/-- A hardware thread of a control core: cores 0 to 319 are the cluster control cores by physical cluster (C-die × 20 +
physical cluster), cores 320 to 327 the supervisor cores 0 to 7 (13 R433). -/
structure Hart where
  core : Nat
  thread : Nat
  deriving DecidableEq, Repr

/-- The strap lands of 18 R575. -/
structure Straps where
  node : Nat
  role : Nat
  bootSrc : Nat
  i3cAddr : Nat
  deriving DecidableEq, Repr

/-- The fuses of 15 R497, with the production values that other chapters read from fuses: stepping and serial (14 R488),
the cluster health masks (18 R580) and the VDD_CORE trims in mV (17 R543). -/
structure Fuses where
  uds : List Byte
  keyHash : List (List Byte)
  revoke : Nat
  svnMin : Nat
  alarmFloor : Nat
  debugLock : Nat
  crc : Nat
  stepping : Nat
  serial : Nat
  health : List Nat
  trims : List Nat
  deriving DecidableEq, Repr

/-- What the boot ROM meets in the boot source: the bytes at the offsets of copies A and B (18 R577) and the outcome of the
random generator's start-up test (15 R500 step 2). -/
structure BootIn where
  copyA : List Byte
  copyB : List Byte
  rngOk : Bool
  deriving DecidableEq, Repr

/-- A channel that failed DRAM training a third time, with its step (18 R588). -/
structure DramFail where
  channel : Nat
  step : Nat
  deriving DecidableEq, Repr

/-- An instruction shifted into the test access port (15 R506). -/
inductive TapInstr where | idcode | bypass | other
  deriving DecidableEq, Repr

/-- One value for each VDD_CORE group 0 to 3 (17 R541). -/
structure Vec4 where
  g0 : Nat
  g1 : Nat
  g2 : Nat
  g3 : Nat
  deriving DecidableEq, Repr

/-- Where a fabric packet comes from: a link port, or an agent or ordering point of this package (09 R316). -/
inductive FabIn where
  | link (p : Port)
  | inside
  deriving DecidableEq, Repr

/-- Atomic instructions of 13 R438. -/
inductive AmoOp where | add | or | and | min | max | minu | maxu | swap | xor | lr | sc
  deriving DecidableEq, Repr

/-- An object-space access (06 R222): requester (09 R313), its C-die, world, address, bytes read, or the data written. -/
structure TileReq where
  req : Nat
  die : Nat
  secure : Bool
  addr : Nat
  len : Nat
  data : Option (List Byte)
  deriving DecidableEq, Repr

/-- What a training meets on the line (08 R283): the median round trip in 1/8 cycle at 1.0 GHz, the peer's IDENT, the class
its end chose and whether its end accepts this end's class, or the step and cause that fails. -/
inductive TrainIn where
  | measured (rtt peerNode peerLogical peerPort : Nat) (peerKopitre peerAgrees : Bool)
  | fails (step cause : Nat)
  deriving DecidableEq, Repr


/-- The commands the block takes: one constructor per row of spec/opcode_table.json, in the table's order. -/
inductive Instr where
  /-- MARK_UNHEALTHY (R21): A secure write of object 0x2012.01 marks a physical cluster unhealthy and raises event 0x2204. -/
  | markUnhealthy (acc : Acc) (v : Nat)
  /-- NOP (R86): The core issues a NOP op word, which may gate the stream on a WAIT bit. -/
  | opNop (core : CoreRef) (ix : Nat) (w : Word128)
  /-- SETDESC (R88): The core issues SETDESC, which writes one operand descriptor. -/
  | setdesc (core : CoreRef) (ix : Nat) (w : Word128)
  /-- MATMUL (R93): The core issues a tile multiplication and folds it onto the array in the standard or the wide, shallow arrangement. -/
  | matmul (core : CoreRef) (ix : Nat) (w : Word128)
  /-- PACKMM (R99): The core issues two to four small multiplications side by side on quarters of the array. -/
  | packmm (core : CoreRef) (ix : Nat) (w : Word128)
  /-- REQUANT (R101): The core issues a requantisation of binary32 rows to A8 or A16. -/
  | requant (core : CoreRef) (ix : Nat) (w : Word128)
  /-- ROTATE (R102): The core issues a Walsh-Hadamard rotation through the cluster rotation unit. -/
  | rotate (core : CoreRef) (ix : Nat) (w : Word128)
  /-- VECT_ADD (R104): VECT with FN 0x0 adds X and Y element by element. -/
  | vectAdd (core : CoreRef) (ix : Nat) (w : Word128)
  /-- VECT_SUB (R104): VECT with FN 0x1 subtracts Y from X. -/
  | vectSub (core : CoreRef) (ix : Nat) (w : Word128)
  /-- VECT_MUL (R104): VECT with FN 0x2 multiplies X and Y. -/
  | vectMul (core : CoreRef) (ix : Nat) (w : Word128)
  /-- VECT_MAX (R104): VECT with FN 0x3 takes the larger of X and Y. -/
  | vectMax (core : CoreRef) (ix : Nat) (w : Word128)
  /-- VECT_MIN (R104): VECT with FN 0x4 takes the smaller of X and Y. -/
  | vectMin (core : CoreRef) (ix : Nat) (w : Word128)
  /-- VECT_EXP (R104): VECT with FN 0x5 computes e^x. -/
  | vectExp (core : CoreRef) (ix : Nat) (w : Word128)
  /-- VECT_RECIP (R104): VECT with FN 0x6 computes 1/x. -/
  | vectRecip (core : CoreRef) (ix : Nat) (w : Word128)
  /-- VECT_RSQRT (R104): VECT with FN 0x7 computes 1/sqrt(x). -/
  | vectRsqrt (core : CoreRef) (ix : Nat) (w : Word128)
  /-- VECT_SILU (R104): VECT with FN 0x8 computes SiLU. -/
  | vectSilu (core : CoreRef) (ix : Nat) (w : Word128)
  /-- VECT_TANH (R104): VECT with FN 0x9 computes tanh. -/
  | vectTanh (core : CoreRef) (ix : Nat) (w : Word128)
  /-- ROWSUM (R105): VECT with FN 0xa sums each row in 16 lanes and a fixed tree. -/
  | rowsum (core : CoreRef) (ix : Nat) (w : Word128)
  /-- ROWMAX (R104): VECT with FN 0xb writes the largest element of each row. -/
  | rowmax (core : CoreRef) (ix : Nat) (w : Word128)
  /-- VECT_COPY (R104): VECT with FN 0xc copies X. -/
  | vectCopy (core : CoreRef) (ix : Nat) (w : Word128)
  /-- OPERATION_COMPLETE (R110): An issued operation reaches its fixed latency and its results and requantised blocks become readable. -/
  | operationComplete (core : CoreRef) (ix : Nat)
  /-- RESOLE_FLAG_ARRIVAL (R72): A row flag reaches the resole unit of the consumer's cluster and is ordered. -/
  | resoleFlagArrival (lcl : Lcl)
  /-- RESOLE_WINDOW_OPEN (R73): A resole window opens, drops masked rows and starts recomputations that fit the budget. -/
  | resoleWindowOpen (lcl : Lcl)
  /-- RESOLE_RECOMPUTATION_DONE (R147): A recomputation finishes within its charged cost, replaces the consumer row, and the next flag is judged. -/
  | resoleRecomputationDone (lcl : Lcl)
  /-- RESOLE_WINDOW_CLOSE (R74): A resole window closes and its undone rows are reported. -/
  | resoleWindowClose (lcl : Lcl)
  /-- LAST_LOAD (R151): A write of 1 to object 0x3030.03 starts loading a last container into a slot. -/
  | lastLoad (acc : Acc)
  /-- LAST_UNLOAD (R152): A write of 2 to object 0x3030.03 unloads a slot. -/
  | lastUnload (acc : Acc)
  /-- LAST_LOAD_COMPLETE (R153): A last load ends, either loaded with event 0x3001 or refused with a reason. -/
  | lastLoadComplete
  /-- ACTIVE_SLOT_WRITE (R154): A write of object 0x3020 sets a partition's active last slot after the port check. -/
  | activeSlotWrite (acc : Acc) (part : Part) (v : Nat)
  /-- ARRIVAL (R126): A producer arrives and sets its scoreboard bit, which ends a hold when it is the last clear bit. -/
  | arrival (core : CoreRef) (bit : Nat)
  /-- TRANSFER_START (R133): A link transfer starts at SEND, sends its head flit and occupies its link slots. -/
  | transferStart (part : Part) (ix : Nat)
  /-- AWL_DESCRIPTOR_START (R237): An awl descriptor starts on its channel or stream at START, or late when it waits. -/
  | awlDescriptorStart (lcl : Lcl) (ix : Nat)
  /-- AWL_DESCRIPTOR_COMPLETE (R238): An awl descriptor sets its bit at cycle A and frees its channel. -/
  | awlDescriptorComplete (lcl : Lcl) (ix : Nat)
  /-- REDUCTION_START (R135): The awl starts a reduction at its START cycle. -/
  | reductionStart (part : Part) (ix : Nat)
  /-- REDUCTION_CONTRIBUTION (R135): The awl waits on a contributor's bit and adds its P16 contribution in list order. -/
  | reductionContribution (part : Part) (ix : Nat)
  /-- MASK_POINT (R141): At a MASK point the received slot-mask updates take effect. -/
  | maskPoint (part : Part) (ix : Nat)
  /-- ADMIT_POINT (R354): At an ADMIT point the serving engine writes a feed record for every slot of the group. -/
  | admitPoint (part : Part) (ix : Nat)
  /-- SAMPLE_POINT (R367): At a SAMPLE point the sampler takes the logits of the due slots of the group. -/
  | samplePoint (part : Part) (ix : Nat)
  /-- EXPERT_POINT (R396): At an EXPERT point an armed revision flips the partition's active route bank. -/
  | expertPoint (part : Part) (ix : Nat)
  /-- REPLAY_POINT (R377): A REPLAY point lets a rewound slot's step run again from the next ADMIT point. -/
  | replayPoint (part : Part) (ix : Nat)
  /-- SLEEP_START (R549): A sleep hint gates a cluster's cores, awl, rotation unit and resole unit for its span. -/
  | sleepStart (part : Part) (ix : Nat)
  /-- PORT_SLEEP (R550): A sleep hint gates a port's transfer engine and schedule path. -/
  | portSleep (part : Part) (ix : Nat)
  /-- WAKE_UP_START (R552): A wake-up starts LEAD ticks before its PTICK, with PLL start and ungating. -/
  | wakeUpStart (part : Part) (ix : Nat)
  /-- WAKE_UP_COMPLETE (R552): The PLL and power ungating have completed and the clocks are enabled. -/
  | wakeUpComplete (part : Part) (ix : Nat)
  /-- SYNC_SEND (R173): Every 512 cycles a parent sends SYNC to its children. -/
  | syncSend
  /-- SYNC (R175): A SYNC from the parent is time-stamped and steers the PLL. -/
  | syncSymbol (port : Port) (sym : Word128) (eighth : Nat)
  /-- EPOCH (R521): An EPOCH symbol from the parent is compared with the local tick count. -/
  | epochSymbol (port : Port) (sym : Word128)
  /-- ROOT (R170): A ROOT symbol that outranks the best seen is recorded and forwarded. -/
  | rootSymbol (port : Port) (sym : Word128)
  /-- ELECTION_END (R170): 1 ms after the last better rank the election ends and the parent port is chosen. -/
  | electionEnd
  /-- CONFIG (R167): A CONFIG symbol carries the domain settings in force and the horizon is derived. -/
  | configSymbol (port : Port) (sym : Word128)
  /-- VOTE (R179): A stretch vote is received, recorded, combined and forwarded. -/
  | voteSymbol (port : Port) (sym : Word128)
  /-- FAULT (R183): A FAULT symbol makes the package treat tick T as faulted. -/
  | faultSymbol (port : Port) (sym : Word128)
  /-- HALT_RECEIVED (R198): A package that first receives HALT stops its schedule within 64 cycles and enters HALTED. -/
  | haltReceived (port : Port) (sym : Word128)
  /-- START (R188): A START symbol is received and is held for its start tick. -/
  | startSymbol (port : Port) (sym : Word128)
  /-- SWITCH (R189): A SWITCH symbol is received and is held for its switch tick. -/
  | switchSymbol (port : Port) (sym : Word128)
  /-- FREQ (R186): A FREQ symbol is received and the operating-point change is prepared. -/
  | freqSymbol (port : Port) (sym : Word128)
  /-- ADOPT (R194): An ADOPT symbol is received and peers record the adopter as the port's trained peer. -/
  | adoptSymbol (port : Port) (sym : Word128)
  /-- MASK (R187): A MASK symbol is received and held for the first MASK point of its effect tick. -/
  | maskSymbol (port : Port) (sym : Word128)
  /-- PARENT_LOSS (R176): After 8 SYNC intervals without SYNC the package moves to its alternate parent and raises event 0x3103. -/
  | parentLoss
  /-- HOLDOVER (R176): After 16 intervals without a root SYNC the package enters holdover and raises event 0x310d. -/
  | holdover
  /-- ROOT_TAKEOVER (R177): At the tick boundary after entering holdover, the standby root becomes tick root and floods ROOT. -/
  | rootTakeover
  /-- TICK_END (R179): The phase reaches the end fixed by the counted votes, the tick ends and the next tick begins. -/
  | tickEnd
  /-- FAULTED_PARTITION_STOP (R183): From tick T + H every partition runs no segment. -/
  | faultedPartitionStop
  /-- RUNNING_ENTRY (R188): At the start tick of START an armed package enters RUNNING and its partitions take T0. -/
  | runningEntry
  /-- FALLBACK_SWITCH (R190): At the switch tick the package activates the fallback slot, rebinds clusters and clears scoreboards. -/
  | fallbackSwitch (part : Part)
  /-- IDENTITY_ADOPTED (R196): At tick E the adopter raises event 0x310b and may enter RUNNING with the fallback. -/
  | identityAdopted
  /-- START_TICK (R188): A write of object 0x3014.01 on the active manager floods START and the mask sets. -/
  | startTick (acc : Acc) (tick : Nat)
  /-- SWITCH_COMMAND (R189): A write of object 0x3015.01 floods SWITCH naming a fallback and a partition. -/
  | switchCommand (acc : Acc) (v : Nat)
  /-- HALT_COMMAND (R197): A write of 1 to object 0x3016.01 floods HALT with cause 0x0001. -/
  | haltCommand (acc : Acc)
  /-- LOGICAL_NODE_TO_ADOPT (R193): A write of object 0x3017.01 names the logical node to adopt. -/
  | logicalNodeToAdopt (acc : Acc) (n : Nat)
  /-- ADOPTION_TICK (R193): A write of object 0x3017.02 sets the adopted node and floods ADOPT. -/
  | adoptionTick (acc : Acc) (tick : Nat)
  /-- COMMAND_RING_DOORBELL (R223): A doorbell write publishes new object command ring entries for execution. -/
  | commandRingDoorbell (acc : Acc) (ring : Bool) (v : Nat)
  /-- CREATE (R218): An object command creates an object with its DRAM home and tile entries. -/
  | objCreate (ring : Bool)
  /-- SETCLASS (R230): An object command changes an object's placement class. -/
  | objSetclass (ring : Bool)
  /-- OBJECT_READ (R225): An object command copies from an object to a memory operand. -/
  | objRead (ring : Bool)
  /-- OBJECT_WRITE (R225): An object command copies from a memory operand into an object. -/
  | objWrite (ring : Bool)
  /-- DESTROY (R225): An object command frees an object's copies and DRAM home. -/
  | objDestroy (ring : Bool)
  /-- TILE_ACCESS (R222): An object-space access is served at its tile controller after the world and region checks. -/
  | tileAccess (t : TileReq)
  /-- MIGRATION_COMPLETE (R231): A tile copy completes and the tile entry changes in one step. -/
  | migrationComplete (tile : Nat)
  /-- SCRUB (R215): Within each scrub interval the package scrubs stacked SRAM tiles in ascending order. -/
  | scrub (die : Fin 16)
  /-- LAST_STORE_RESIZE (R209): A write of object 0x4002 resizes a last store and demotes copies in new tiles. -/
  | lastStoreResize (acc : Acc) (die : Fin 16) (v : Nat)
  /-- TABLE_BUILD_FROM_OBJECT (R258): Table command 1 builds the mode-4 table from a sample object. -/
  | tableBuildFromObject (acc : Acc)
  /-- TABLE_BUILD_FROM_SAMPLE (R258): Table command 2 builds the mode-4 table from the firmware sample. -/
  | tableBuildFromSample (acc : Acc)
  /-- TABLE_INVALIDATE (R259): Table command 3 invalidates the built table. -/
  | tableInvalidate (acc : Acc)
  /-- TABLE_INSTALL (R261): Table command 4 checks and installs the staging copy. -/
  | tableInstall (acc : Acc)
  /-- TABLE_BUILD_COMPLETE (R258): A table build ends and raises event 0x9013. -/
  | tableBuildComplete
  /-- LINE_BLOCK (R268): A 136-byte line block is received, corrected, CRC-checked and passed on by kind. -/
  | lineBlock (port : Port) (bytes : List Byte) (eighth : Nat)
  /-- SCHEDULE_HEAD (R275): A transfer head flit is received and checked against bindings. -/
  | scheduleHead (port : Port) (flit : List Byte)
  /-- SCHEDULE_DATA (R274): A schedule data flit is received into the receive buffer. -/
  | scheduleData (port : Port) (flit : List Byte) (last : Bool)
  /-- TRANSFER_RELEASE (R274): The port releases a transfer's flits ending at STAMP + C and sets the destination bit. -/
  | transferRelease (port : Port)
  /-- ACK (R280): An ACK control word frees covered flits from the replay buffer. -/
  | ackWord (port : Port) (word : Word128)
  /-- NAK (R281): A NAK control word makes the sender replay from the named flit. -/
  | nakWord (port : Port) (word : Word128)
  /-- CREDIT (R277): A CREDIT control word returns fabric or management credit. -/
  | creditWord (port : Port) (word : Word128)
  /-- PROBE (R284): A PROBE is echoed with its turnaround. -/
  | probeWord (port : Port) (word : Word128) (eighth : Nat)
  /-- PROBE_REPLY (R284): A PROBE_REPLY gives a round trip and updates the measured latency. -/
  | probeReplyWord (port : Port) (word : Word128) (eighth : Nat)
  /-- IDENT (R290): An IDENT control word records the peer's identity and compression tag. -/
  | identWord (port : Port) (word : Word128)
  /-- DOWN (R287): A DOWN word from the peer makes the port lost. -/
  | downWord (port : Port) (word : Word128)
  /-- ACK_INTERVAL (R280): The receiver sends an ACK every 64 sequenced flits or 256 cycles. -/
  | ackInterval (port : Port)
  /-- ACK_TIMEOUT (R287): No ACK for 4 times the round trip makes the port lost. -/
  | ackTimeout (port : Port)
  /-- PORT_TRAINING_START (R283): An enabled port in state down starts training. -/
  | portTrainingStart (port : Port)
  /-- PORT_TRAINING_COMPLETE (R283): Training ends with the port up and event 0x5001, or with a failure. -/
  | portTrainingComplete (port : Port) (res : TrainIn)
  /-- TRAINING_RETRY (R283): 100 ms after a failure the port trains again. -/
  | trainingRetry (port : Port)
  /-- PROBE_INTERVAL (R286): Every 100 µs an up port sends a PROBE. -/
  | probeInterval (port : Port)
  /-- PORT_RETRAIN (R289): Port command 1 retrains the port. -/
  | portRetrain (acc : Acc) (port : Port)
  /-- PORT_TAKE_DOWN (R289): Port command 2 takes the port down. -/
  | portTakeDown (acc : Acc) (port : Port)
  /-- STORAGE_MODE (R291): A write of object 0x5080.01 sets ports 60-63 to Kopitre or Ethernet mode. -/
  | storageMode (acc : Acc) (v : Nat)
  /-- QP_MAKE_READY (R295): Queue pair command 1 reads the context and makes the queue pair ready. -/
  | qpMakeReady (acc : Acc) (qp : Fin 64)
  /-- QP_RESET (R295): Queue pair command 2 resets the queue pair. -/
  | qpReset (acc : Acc) (qp : Fin 64)
  /-- PULL_DOORBELL (R296): A pull doorbell write publishes new pull descriptors. -/
  | pullDoorbell (acc : Acc) (v : Nat)
  /-- PULL_DESCRIPTOR (R297): The requester takes a pull descriptor and issues READ requests within its bounds. -/
  | pullDescriptor
  /-- READ_RESPONSE (R297): A READ RESPONSE frame is received and its payload is written in PSN order. -/
  | readResponse (eth : Fin 4) (frame : List Byte)
  /-- ACKNOWLEDGE (R299): An ACKNOWLEDGE frame is received, including NAKs that put the queue pair in error. -/
  | acknowledge (eth : Fin 4) (frame : List Byte)
  /-- QP_RESPONSE_TIMEOUT (R299): No response within TIMEOUT makes the queue pair resend or enter error. -/
  | qpResponseTimeout (qp : Fin 64)
  /-- PFC_FRAME (R292): A PFC frame is received and applied. -/
  | pfcFrame (eth : Fin 4) (frame : List Byte)
  /-- FRAME_DROPPED (R293): Any other received frame is dropped and counted. -/
  | frameDropped (eth : Fin 4) (frame : List Byte)
  /-- ETHERNET_LINK_CHANGE (R302): An Ethernet port gains or loses PCS lock and raises event 0x5010. -/
  | ethernetLinkChange (eth : Fin 4) (up : Bool)
  /-- FABRIC_READ (R312): A READ takes effect at its ordering point and returns the line. -/
  | fabricRead (src : FabIn) (flit : List Byte)
  /-- FABRIC_WRITE (R312): A WRITE writes the masked bytes and returns ACK. -/
  | fabricWrite (src : FabIn) (flit : List Byte)
  /-- FABRIC_ADD (R312): ADD adds the operand and returns the old value. -/
  | fabricAdd (src : FabIn) (flit : List Byte)
  /-- FABRIC_OR (R312): OR ors the operand and returns the old value. -/
  | fabricOr (src : FabIn) (flit : List Byte)
  /-- FABRIC_AND (R312): AND ands the operand and returns the old value. -/
  | fabricAnd (src : FabIn) (flit : List Byte)
  /-- FABRIC_MIN (R312): MIN keeps the signed smaller value. -/
  | fabricMin (src : FabIn) (flit : List Byte)
  /-- FABRIC_MAX (R312): MAX keeps the signed larger value. -/
  | fabricMax (src : FabIn) (flit : List Byte)
  /-- FABRIC_MINU (R312): MINU keeps the unsigned smaller value. -/
  | fabricMinu (src : FabIn) (flit : List Byte)
  /-- FABRIC_MAXU (R312): MAXU keeps the unsigned larger value. -/
  | fabricMaxu (src : FabIn) (flit : List Byte)
  /-- FABRIC_SWAP (R312): SWAP writes the operand and returns the old value. -/
  | fabricSwap (src : FabIn) (flit : List Byte)
  /-- FABRIC_CAS (R312): CAS writes the new value when the old value equals the compare value. -/
  | fabricCas (src : FabIn) (flit : List Byte)
  /-- FABRIC_LEASE_ACQ (R329): LEASE_ACQ grants a lease when none is live. -/
  | fabricLeaseAcq (src : FabIn) (flit : List Byte)
  /-- FABRIC_LEASE_RENEW (R329): LEASE_RENEW extends a live lease of the same owner and incarnation. -/
  | fabricLeaseRenew (src : FabIn) (flit : List Byte)
  /-- FABRIC_LEASE_REL (R329): LEASE_REL frees a lease of the same owner and incarnation. -/
  | fabricLeaseRel (src : FabIn) (flit : List Byte)
  /-- FABRIC_RESPONSE (R320): A READ_DATA, ACK or RESULT response reaches the requester, or is fanned out to group members, and frees its tag. -/
  | fabricResponse (src : FabIn) (flit : List Byte)
  /-- FABRIC_PACKET_FORWARD (R308): A router forwards a fabric packet on its route, or answers it as unreachable. -/
  | fabricPacketForward (src : FabIn) (flit : List Byte)
  /-- FABRIC_TAG_TIMEOUT (R324): A request without a response completes with status 0x04 and raises event 0x4011. -/
  | fabricTagTimeout (tag : Nat)
  /-- ROUTE_ENTRY_WRITE (R310): A write of a route entry holds new requests toward the node until earlier ones drain. -/
  | routeEntryWrite (acc : Acc) (v : Nat)
  /-- ROUTE_CHANGE_EFFECT (R310): When earlier requests have drained, the new route entry takes effect. -/
  | routeChangeEffect (node : Nat)
  /-- MANAGER_RELEASE (R335): Manager command 0 releases both manager roles. -/
  | managerRelease (acc : Acc)
  /-- MANAGER_ACTIVE (R335): Manager command 1 names this package the active manager. -/
  | managerActive (acc : Acc)
  /-- MANAGER_STANDBY (R335): Manager command 2 names this package the standby manager. -/
  | managerStandby (acc : Acc)
  /-- MANAGER_TAKE_OVER (R337): Manager command 3 arms a takeover at tick E. -/
  | managerTakeOver (acc : Acc)
  /-- MANAGER_TAKEOVER (R337): At tick E the standby becomes active, restores the mirror and rewinds requests. -/
  | managerTakeover
  /-- COMMIT_DOORBELL (R344): A commit doorbell write advances a submission queue's commit index. -/
  | commitDoorbell (acc : Acc) (q : Fin 64) (v : Nat) (page : Bool)
  /-- QUEUE_FLUSH (R346): A flush raises the queue epoch and discards uncommitted words. -/
  | queueFlush (acc : Acc) (q : Fin 64)
  /-- TICK_PASS (R351): At phase 0 of each tick the serving engine runs its bookkeeping pass. -/
  | tickPass
  /-- CANCEL_EYELET (R364): A write of object 0x6030.01 cancels a request by eyelet index. -/
  | cancelEyelet (acc : Acc) (v : Nat)
  /-- SAMPLER_RESULT (R369): The sampler completes a slot's token and updates its state. -/
  | samplerResult
  /-- ROUTE_PLAN_BIND (R388): A write of object 0x3025 binds or unbinds a route plan after its checks. -/
  | routePlanBind (acc : Acc) (slot : Slot) (v : Nat)
  /-- ROUND_0 (R389): Route round 0 selects, weights and places each token's expert choices. -/
  | round0 (lcl : Lcl) (ix : Nat)
  /-- DISPATCH_ROUND (R391): A later dispatch round places carried choices. -/
  | dispatchRound (lcl : Lcl) (ix : Nat)
  /-- COMBINE (R393): The combine sums weighted expert outputs into each token's row. -/
  | combine (lcl : Lcl) (ix : Nat)
  /-- POPULARITY_COUNT_ADD (R400): A route step's counts are added to the count region by fabric ADD. -/
  | popularityCountAdd
  /-- REVISION_ARM (R395): A write of object 0x3026.03 arms a placement revision at tick E. -/
  | revisionArm (acc : Acc) (v : Nat)
  /-- OPEN (R413): Image command 1 checks a manifest and creates the owned objects. -/
  | openImage (acc : Acc)
  /-- SEAL (R415): Image command 2 decrypts and verifies owned shards, then clears WRITABLE and pins. -/
  | sealImage (acc : Acc)
  /-- DEMOTE (R417): Image command 3 makes an image's pinned objects COLD. -/
  | demoteImage (acc : Acc)
  /-- PIN (R417): Image command 4 gives every object its manifest class. -/
  | pinImage (acc : Acc)
  /-- EVICT (R412): Image command 5 destroys an image's objects. -/
  | evictImage (acc : Acc)
  /-- CLOSE (R412): Image command 6 destroys an image's objects and frees the entry. -/
  | closeImage (acc : Acc)
  /-- IMAGE_COMMAND_COMPLETE (R412): An image command finishes and raises event 0xA001. -/
  | imageCommandComplete
  /-- DEFINE_COUNT (R421): Partition command 1 takes N free clusters by the placement mode. -/
  | defineCount (acc : Acc)
  /-- DEFINE_SET (R421): Partition command 2 takes the named clusters. -/
  | defineSet (acc : Acc)
  /-- RELEASE (R421): Partition command 3 frees the clusters and direct regions. -/
  | releasePartition (acc : Acc)
  /-- CLEAR (R421): Partition command 4 frees the DRAM range and share. -/
  | clearPartition (acc : Acc)
  /-- CONTROL_CORE_LOAD (R437): A control-core load reads local RAM or sends a fabric READ. -/
  | controlCoreLoad (hart : Hart) (rd : Fin 32) (addr : Nat) (bytes : Nat) (sgn : Bool)
  /-- CONTROL_CORE_STORE (R441): A control-core store updates the cached line and sends a fabric WRITE. -/
  | controlCoreStore (hart : Hart) (addr : Nat) (bytes : Nat) (data : Nat)
  /-- AMO (R438): An atomic instruction runs locally or as a fabric atomic. -/
  | amo (hart : Hart) (op : AmoOp) (rd : Fin 32) (addr : Nat) (wide : Bool) (data : Nat)
  /-- FAB_FENCE (R321): A fabric fence stops the thread until earlier writes and atomics are answered. -/
  | fabFence (hart : Hart)
  /-- FAB_INV (R322): A fabric invalidate removes remote lines from the data cache. -/
  | fabInv (hart : Hart) (base : Nat) (len : Nat)
  /-- FAB_CAS (R440): FAB.CAS sends a fabric CAS with the compare value of FN_FCMP. -/
  | fabCas (hart : Hart) (rd : Fin 32) (addr : Nat) (wide : Bool) (data : Nat)
  /-- LEASE_ACQ (R440): LEASE.ACQ sends a fabric LEASE_ACQ. -/
  | leaseAcq (hart : Hart) (rd : Fin 32) (addr : Nat) (len : Nat)
  /-- LEASE_RENEW (R440): LEASE.RENEW sends a fabric LEASE_RENEW. -/
  | leaseRenew (hart : Hart) (rd : Fin 32) (addr : Nat) (len : Nat)
  /-- LEASE_REL (R440): LEASE.REL sends a fabric LEASE_REL. -/
  | leaseRel (hart : Hart) (rd : Fin 32) (addr : Nat)
  /-- FN_WORLD (R443): A write of FN_WORLD lowers the thread's world, and a raise is refused with event 0x1004. -/
  | fnWorld (hart : Hart) (v : Nat)
  /-- FN_AWLSUB (R444): A write of FN_AWLSUB submits an unscheduled awl descriptor. -/
  | fnAwlsub (hart : Hart) (v : Nat)
  /-- FN_AWLDONE (R442): A read of FN_AWLDONE returns and clears the unscheduled completion counts. -/
  | fnAwldone (hart : Hart) (rd : Fin 32)
  /-- FN_FSTAT (R442): A write of FN_FSTAT sets STATUS and clears STICKY by W1C. -/
  | fnFstat (hart : Hart) (v : Nat)
  /-- THREAD_START (R445): FN_THCTL START bits start parked threads at FN_TVEC. -/
  | threadStart (hart : Hart) (v : Nat)
  /-- THREAD_RESET (R445): FN_THCTL RESET bits stop and park threads and raise their incarnations. -/
  | threadReset (hart : Hart) (v : Nat)
  /-- TIMER_INTERRUPT (R436): A thread's mtimecmp falls due and raises the machine timer interrupt. -/
  | timerInterrupt (hart : Hart)
  /-- CORE_RUN (R448): A core-control write of RUN = 1 releases a bound cluster control core from reset. -/
  | coreRun (core : Nat) (secure : Bool)
  /-- CORE_RESET (R448): A core-control write of RUN = 0 resets the core. -/
  | coreReset (core : Nat) (secure : Bool)
  /-- HOST_WINDOW_WRITE (R449): A write to the host-write window becomes a PCIe posted write, or is dropped with event 0x1005. -/
  | hostWindowWrite (req : Nat) (secure : Bool) (off : Nat) (data : List Byte)
  /-- IMAGE_CHECK (R452): A write of 1 to object 0x1020.03 starts the check of a candidate firmware image. -/
  | imageCheck (acc : Acc)
  /-- IMAGE_CHECK_COMPLETE (R452): The firmware image check ends and raises event 0x1003. -/
  | imageCheckComplete
  /-- READ (R482): A Relum READ frame returns an object's value after the access checks. -/
  | relumRead (acc : Acc) (frame : List Byte)
  /-- WRITE (R482): A Relum WRITE frame writes an object after the access checks. -/
  | relumWrite (acc : Acc) (frame : List Byte)
  /-- DESCRIBE (R464): A Relum DESCRIBE frame returns an entry's description. -/
  | relumDescribe (acc : Acc) (frame : List Byte)
  /-- LOCK (R479): A Relum LOCK frame grants an exclusive-access lock over an index range. -/
  | relumLock (acc : Acc) (frame : List Byte)
  /-- UNLOCK (R481): A Relum UNLOCK frame frees a lock by key or by FORCE. -/
  | relumUnlock (acc : Acc) (frame : List Byte)
  /-- LOCK_EXPIRY (R481): A lock whose expiry passes is freed and raises event 0x1006. -/
  | lockExpiry (entry : Nat)
  /-- ENTDAA (R467): The I3C target takes part in dynamic address assignment. -/
  | entdaa (addr : Nat)
  /-- SETDASA (R467): The I3C target takes a dynamic address from its static address. -/
  | setdasa (addr : Nat)
  /-- SETNEWDA (R467): The I3C target takes a new dynamic address. -/
  | setnewda (addr : Nat)
  /-- RSTDAA (R467): The I3C target drops its dynamic address. -/
  | rstdaa
  /-- ENEC (R467): The I3C target enables IBIs. -/
  | enec
  /-- DISEC (R467): The I3C target disables IBIs. -/
  | disec
  /-- GETPID (R467): The I3C target returns its provisional ID. -/
  | getpid
  /-- GETBCR (R467): The I3C target returns BCR 0x06. -/
  | getbcr
  /-- GETDCR (R467): The I3C target returns DCR 0x00. -/
  | getdcr
  /-- GETSTATUS (R467): The I3C target returns pending events and response ready. -/
  | getstatus
  /-- GETMWL (R467): The I3C target reports a maximum write length of 80 bytes. -/
  | getmwl
  /-- GETMRL (R467): The I3C target reports a maximum read length of 80 bytes and an IBI payload of 4. -/
  | getmrl
  /-- SETMWL (R467): The I3C target accepts a maximum write length. -/
  | setmwl (n : Nat)
  /-- SETMRL (R467): The I3C target accepts a maximum read length. -/
  | setmrl (n : Nat)
  /-- I3C_PRIVATE_WRITE (R468): A private write carries a Relum request frame over I3C. -/
  | i3cPrivateWrite (frame : List Byte)
  /-- I3C_PRIVATE_READ (R468): A private read returns the response, or is NACKed while none is ready. -/
  | i3cPrivateRead
  /-- HOST_MAILBOX_DOORBELL (R469): A DOORBELL write submits the host mailbox request, and MSI-X follows the response. -/
  | hostMailboxDoorbell (req : List Byte) (v : Nat)
  /-- MAILBOX_STATUS (R469): A write of a mailbox STATUS register clears DONE, OVERRUN or TIMEOUT by W1C. -/
  | mailboxStatus (box : Nat) (v : Nat)
  /-- LOCAL_PORT_DOORBELL (R470): A local-port DOORBELL write executes or forwards the mailbox request. -/
  | localPortDoorbell (hart : Hart) (box : Nat) (req : List Byte) (v : Nat)
  /-- MAILBOX_TIMEOUT (R470): A remote request without response within 10 ms sets TIMEOUT. -/
  | mailboxTimeout (box : Nat)
  /-- IN_BAND_REQUEST (R471): A management flit with a Relum request is executed at the target and answered. -/
  | inBandRequest (port : Port) (flit : List Byte)
  /-- IN_BAND_RESPONSE (R471): A management flit with a response is placed in the sending mailbox. -/
  | inBandResponse (port : Port) (flit : List Byte)
  /-- NOTIFY (R478): A NOTIFY flit is placed in the mailbox named for notification. -/
  | notifyFlit (port : Port) (flit : List Byte)
  /-- STATE_COMMAND_KEEPER (R474): A write of KEEPER to object 0x2001 runs the power-down sequence. -/
  | stateCommandKeeper (acc : Acc)
  /-- STATE_COMMAND_STANDBY (R474): A write of STANDBY starts power-up and boot, or the change from READY, HALTED or ALARM. -/
  | stateCommandStandby (acc : Acc)
  /-- STATE_COMMAND_READY (R474): A write of READY starts bring-up from STANDBY, returns from HALTED or cancels an armed RUNNING. -/
  | stateCommandReady (acc : Acc)
  /-- STATE_COMMAND_RUNNING (R474): A write of RUNNING arms entry into RUNNING after the checks of R168 and R561. -/
  | stateCommandRunning (acc : Acc)
  /-- STATE_COMMAND_DRAINING (R474): A write of DRAINING stops admission from the next pass. -/
  | stateCommandDraining (acc : Acc)
  /-- STATE_CHANGE_COMPLETE (R474): A state change in progress reaches its target state. -/
  | stateChangeComplete
  /-- PERSIST_EXPORT (R485): Persist command 1 exports persist values into the staging area. -/
  | persistExport (acc : Acc)
  /-- PERSIST_IMPORT (R486): Persist command 2 applies the staging record as writes. -/
  | persistImport (acc : Acc)
  /-- PERSIST_DEFAULTS (R485): Persist command 3 restores the defaults of writable persist entries. -/
  | persistDefaults (acc : Acc)
  /-- RAISE_MINIMUM_SVN (R499): A write of object 0x7030.01 blows SVN_MIN fuse bits. -/
  | raiseMinimumSvn (acc : Acc) (v : Nat)
  /-- REVOKE_KEY_HASH (R499): A write of object 0x7030.02 blows a FW_KEY_REVOKE bit. -/
  | revokeKeyHash (acc : Acc) (k : Nat)
  /-- FUSES_PROGRAMMED (R499): Fuse programming completes, updates the shadow and raises event 0x7002. -/
  | fusesProgrammed
  /-- KEY_WRITE (R504): Key command 1 loads a slot from the staging value. -/
  | keyWrite (acc : Acc)
  /-- KEY_DERIVE (R504): Key command 2 derives a slot by HKDF-SHA-384. -/
  | keyDerive (acc : Acc)
  /-- KEY_CLEAR (R504): Key command 3 zeroes a slot. -/
  | keyClear (acc : Acc)
  /-- ARMING_LEVEL (R513): A write of object 0x7100 sets the arming level, and a raise in ALARM adds actions. -/
  | armingLevel (acc : Acc) (v : Nat)
  /-- VOLTAGE_GLITCH (R506): A monitored rail leaves 85-115 % of its set point for 5 ns or more. -/
  | voltageGlitch (rail : Nat) (permille : Nat) (ns : Nat)
  /-- CLOCK_GLITCH (R506): A watched clock period deviates more than 25 %, or REFCLK is lost. -/
  | clockGlitch (clk : Nat) (permille : Nat) (lost : Bool) (ns : Nat)
  /-- DEBUG_INTRUSION (R506): The test access port receives an instruction other than IDCODE or BYPASS. -/
  | debugIntrusion (ir : TapInstr) (code : Nat) (ns : Nat)
  /-- FUSE_READBACK (R498): Every 100 ms the keeper rereads the fuses and compares them with the shadow. -/
  | fuseReadback (bad : Option Nat)
  /-- ALARM_HOT_SET_CLEAR (R508): The level-2 clear of image tiles completes and image objects become COLD. -/
  | alarmHotSetClear
  /-- VIOLATION_WINDOW (R507): At each window boundary the world-violation count restarts. -/
  | violationWindow
  /-- EVENT_QUEUE_HEAD (R530): A consumer write of the event queue head frees room and clears MEIP. -/
  | eventQueueHead (acc : Acc) (v : Nat) (hart : Option Hart)
  /-- EVENT_QUEUE_ENABLE (R528): Enabling the event queue writes the held records first. -/
  | eventQueueEnable (acc : Acc) (v : Nat)
  /-- MSI_X_INTERVAL (R529): At the end of an MSI-X spacing interval with withheld records, the vector is sent. -/
  | msiXInterval (vec : Nat)
  /-- RECOVERY_OVERDUE (R533): The recovery timer expires, raises event 0x8003 and restarts. -/
  | recoveryOverdue (timer : Nat)
  /-- WELT_FLIT_ERROR (R26): A welt flit fails and is retried once inside the fixed latency. -/
  | weltFlitError (welt : Nat) (flit : Nat)
  /-- FREQ_COMMAND (R545): A write of object 0x2200.02 floods FREQ for a domain-wide operating-point change. -/
  | freqCommand (acc : Acc) (tick : Nat)
  /-- OPERATING_POINT_SWITCH (R546): At the effect tick the clock switches to the locked PLL and event 0x2102 is raised. -/
  | operatingPointSwitch
  /-- VOLTAGE_STEP_DONE (R546): A VDD_CORE set-point change for the new point completes. -/
  | voltageStepDone (group : Nat)
  /-- AVSBUS_CURRENT_POLL (R542): Every 10 µs the package polls Current on each AVSBus. -/
  | avsbusCurrentPoll (amps : Vec4)
  /-- OCP_N (R566): Assertion of OCP_N is a current-limit trip. -/
  | ocpN
  /-- ESTIMATOR_STEP (R554): Every microsecond the package forms its power estimate. -/
  | estimatorStep (volts : Vec4) (tele : Nat)
  /-- GOVERNOR_STEP (R557): Every microsecond the governor moves the floor and sets ballast. -/
  | governorStep
  /-- PRE_RAMP_START (R561): A write of 1 to object 0x2110.01 starts a pre-ramp. -/
  | preRampStart (acc : Acc)
  /-- PRE_RAMP_STOP (R561): A write of 0 to object 0x2110.01 ends the pre-ramp. -/
  | preRampStop (acc : Acc)
  /-- THERMAL_SAMPLE (R564): Every microsecond the junction sensors are sampled. -/
  | thermalSample (temps : List Int)
  /-- POWER_GOOD_RISE (R567): A rail's power-good arrives and the power-up sequence goes to its next step. -/
  | powerGoodRise (rail : Nat) (boot : BootIn)
  /-- POWER_GOOD_TIMEOUT (R567): A power-good that does not arrive within its bound fails power-up. -/
  | powerGoodTimeout
  /-- POWER_GOOD_FALL (R568): A rail's power-good falls during power-down and the sequence goes on. -/
  | powerGoodFall (rail : Nat)
  /-- POWER_DOWN_TIMEOUT (R568): A power-good still high after 20 ms is logged and the sequence goes on. -/
  | powerDownTimeout
  /-- RAIL_FAULT (R569): A main rail's power-good falls outside KEEPER and is logged with event 0x2101. -/
  | railFault (rail : Nat) (regulator : Bool)
  /-- POWER_ON_RESET (R584): VDD_AON power-good starts the keeper, reads fuses and enters KEEPER. -/
  | powerOnReset (fuses : Fuses)
  /-- STRAP_SAMPLE (R576): 1 ms after VDD_AON power-good the keeper samples the straps. -/
  | strapSample (straps : Straps)
  /-- AUTO_START (R584): The keeper writes the auto-start target to object 0x2001 once. -/
  | autoStart
  /-- RESET_N_ASSERT (R581): RESET_N asserted for 1 µs or longer causes a package reset. -/
  | resetNAssert (ns : Nat)
  /-- RESET_N_DEASSERT (R581): Deassertion of RESET_N lets the keeper proceed to auto-start. -/
  | resetNDeassert
  /-- RESET_COMMAND (R581): A write of 1 to object 0x2003.02 causes a package reset. -/
  | resetCommand (acc : Acc)
  /-- FIRMWARE_READY (R586): A write of object 0x2003.05 lets the change to STANDBY complete. -/
  | firmwareReady (acc : Acc)
  /-- PERST_N_DEASSERT (R586): PERST_N deassertion lets the host port train. -/
  | perstNDeassert
  /-- BOOT_LEN (R578): A write of BOOT_LEN in BAR4 starts verification of the host-written image. -/
  | bootLen (len : Nat) (image : List Byte) (rngOk : Bool)
  /-- BOOT_TIMEOUT (R578): BOOT_LEN not written within 60 s of link-up fails boot with code 2. -/
  | bootTimeout
  /-- DRAM_TRAINING_COMPLETE (R588): DRAM training of the channels ends, or fails and raises event 0x2202. -/
  | dramTrainingComplete (fail : Option DramFail)
  /-- OBJECT_WRITE_GENERIC (R12): A write of an object without a row of its own applies the access, state and range checks. -/
  | objectWriteGeneric (acc : Acc) (index : Nat) (sub : Nat) (data : List Byte)
  /-- VDD_AON_LOSS (R484): VDD_AON is lost, so the keeper domain, persist store, logs and incarnations are lost until the next power-on. -/
  | vddAonLoss
  /-- IBI_SPACING (R478): The IBI spacing of object 0x1070.04 runs out and a withheld IBI may be requested. -/
  | ibiSpacing
  /-- IBI_SERVED (R478): The I3C controller serves a requested IBI and reads its payload, which restarts the pending count. -/
  | ibiServed
  /-- PCIE_LINK_UP (R586): The host port link completes training and comes up. -/
  | pcieLinkUp
  /-- BLOCK_BOUNDARY (R278): At each block boundary the sending port sends the first waiting kind of flit, taking a sequence number and a replay-buffer place. -/
  | blockBoundary (port : Port)
  deriving DecidableEq, Repr

end Sys2Proof
end

