-- ==== Sys2Proof/Decode.lean ====
section
/-! DEFINITION. Words that spell commands. Every row of spec/opcode_table.json gives no bits ("fields": []), so no word
spells a command by the table's bits. -/
namespace Sys2Proof

/-- The command that a word spells by the table's bits: the table gives no row any bits, so none. -/
def decodeTableWord (_nbits _w : Nat) : Option Instr := none

end Sys2Proof
end

