-- ==== Sys2Proof/Config.lean ====
section
/-! DEFINITION. What an implementation fixes and what the spec leaves open. An opaque constant has no body: nothing can be
proved about its value, so every claim holds whatever it is. Each is applied to the model's own counter `State.free`, which
a draw advances, or to the operands that it depends on. -/
namespace Sys2Proof

/-- Byte of a scratchpad address in contents epoch `e` that nothing has written since (04 R149; log entry 20). -/
opaque Config.undefByte (e addr : Nat) : Byte

/-- A draw of the random generator (14 R479, 09 R328, 15 R502; log entry 21). -/
opaque Config.random (n : Nat) : Nat

/-- A value that the spec leaves undefined or does not state (log entry 22). -/
opaque Config.freeValue (n : Nat) : Nat

/-- A byte of such a value. -/
opaque Config.freeByte (n i : Nat) : Byte

end Sys2Proof
end

