-- ==== Sys2Proof/Machine/Bits.lean ====
section
/-! DEFINITION. Helpers over bytes and sparse maps: little-endian conversion (00 R8), the canonical sparse map,
CRC-32 of 04 R120 and CRC-8 of 03 R87. -/
namespace Sys2Proof.Machine

/-- The value an entry of a sparse map holds, `d` where it lists none. -/
def mget {α : Type} (d : α) : SMap α → Nat → α
  | [], _ => d
  | (k, v) :: r, i => if k = i then v else if i < k then d else mget d r i

/-- A sparse map with one entry changed, kept in ascending key and without default entries. -/
def mset {α : Type} [DecidableEq α] (d : α) : SMap α → Nat → α → SMap α
  | [], i, v => if v = d then [] else [(i, v)]
  | (k, w) :: r, i, v =>
    if i < k then (if v = d then (k, w) :: r else (i, v) :: (k, w) :: r)
    else if i = k then (if v = d then r else (k, v) :: r)
    else (k, w) :: mset d r i v

/-- The canonical form of a sparse map: keys strictly rising, no entry equal to the default. -/
def mapWf {α : Type} [DecidableEq α] (d : α) : SMap α → Bool
  | [] => true
  | (k, v) :: r => v != d && (r.head?.all (fun e => decide (k < e.1)) && mapWf d r)

/-- The entry of a map that lists its keys explicitly, where presence itself is the information. -/
def mfind {α : Type} : SMap α → Nat → Option α
  | [], _ => none
  | (k, v) :: r, i => if k = i then some v else mfind r i

/-- A map with one key bound, in ascending key. -/
def mbind {α : Type} : SMap α → Nat → α → SMap α
  | [], i, v => [(i, v)]
  | (k, w) :: r, i, v =>
    if i < k then (i, v) :: (k, w) :: r else if i = k then (k, v) :: r else (k, w) :: mbind r i v

/-- A map with one key removed. -/
def mdrop {α : Type} (m : SMap α) (i : Nat) : SMap α := m.filter (fun e => e.1 != i)

/-- The number that bytes spell little-endian (00 R8). -/
def leNat : List Byte → Nat
  | [] => 0
  | b :: r => b.toNat + 256 * leNat r

/-- `n` little-endian bytes of a number (00 R8). -/
def leBytes : Nat → Nat → List Byte
  | 0, _ => []
  | n + 1, v => BitVec.ofNat 8 v :: leBytes n (v / 256)

/-- A difference modulo 2^32 (ring indices, lace cycle numbers). -/
def sub32 (a b : Nat) : Nat := (BitVec.ofNat 32 a - BitVec.ofNat 32 b).toNat

/-- `n` bytes of a list from offset `o`, short where the list ends. -/
def sub (l : List Byte) (o n : Nat) : List Byte := (l.drop o).take n

/-- The little-endian number in bytes `o` to `o + n − 1` of a list. -/
def fieldB (l : List Byte) (o n : Nat) : Nat := leNat (sub l o n)

/-- A list brought to `n` bytes, filled with 0x00 or cut. -/
def padTo (n : Nat) (l : List Byte) : List Byte := l.take n ++ List.replicate (n - l.length) 0

/-- One bit step of CRC-32 with polynomial 0x04c1_1db7 in reflected form (04 R120). -/
def crc32Bit (c : Nat) : Nat := if c % 2 = 1 then (c / 2) ^^^ 0xedb88320 else c / 2

def crc32Bits : Nat → Nat → Nat
  | 0, c => c
  | n + 1, c => crc32Bits n (crc32Bit c)

/-- A function of a number, the number taken by cases, so that an evaluator reduces it before it goes on. -/
def onNat {α : Type} (f : Nat → α) : Nat → α
  | 0 => f 0
  | n + 1 => f (n + 1)

def crc32Run : List Byte → Nat → Nat
  | [], c => c
  | b :: r, c => onNat (crc32Run r) (crc32Bits 8 (c ^^^ b.toNat))

/-- CRC-32 of 04 R120: initial value and final XOR 0xffff_ffff. -/
def crc32 (l : List Byte) : Nat := crc32Run l 0xffffffff ^^^ 0xffffffff

/-! ## Order -/

/-- An element put into a list before the first one that does not come before it. -/
def insertBy {α : Type} (le : α → α → Bool) (x : α) : List α → List α
  | [] => [x]
  | y :: r => if le x y then x :: y :: r else y :: insertBy le x r

/-- The stable order of a list: of two elements that come before each other, the one that stood first stays first. -/
def sortBy {α : Type} (le : α → α → Bool) (l : List α) : List α := l.foldr (insertBy le) []

end Sys2Proof.Machine
end

