-- ==== Sys2Proof/Machine/ObjTable.lean ====
section
/-! DEFINITION. The object dictionary (14 R458–R489): one row per line of the object tables of chapters 1 to 18
(R31, R75, R116, R160, R202, R244, R261, R301, R332, R379, R404, R430, R456, R488, R516, R539, R573, R592). -/
namespace Sys2Proof.Machine

/-- Access codes of 00 R10. -/
inductive Access where | ro | rw | wo | w1c | rc
  deriving DecidableEq, Repr

/-- Data types of 14 R462. -/
inductive OTy where | u8 | u16 | u32 | u64 | i8 | i16 | i32 | i64 | f32 | str | dom
  deriving DecidableEq, Repr

/-- One line of an object table: `idxN` indices from `idx`, `subN` subindices from `sub`, each with the same entry.
`ws` has bit s − 1 set for every state s in which the entry may be written (R473). `lo` and `hi` are the least and
the greatest value accepted (R464). -/
structure ObjRow where
  idx : Nat
  idxN : Nat
  sub : Nat
  subN : Nat
  ty : OTy
  size : Nat
  acc : Access
  sec : Bool
  keeper : Bool
  persist : Bool
  dflt : Nat
  lo : Int
  hi : Int
  ws : Nat
  deriving DecidableEq, Repr

/-- Objects of chapter 1 (R31). -/
def objRowsPackage : List ObjRow :=
  [
⟨0x1010, 1, 1, 1, .u16, 2, .ro, false, false, false, 0, 0, 65535, 0x0⟩,
   ⟨0x1010, 1, 2, 1, .u16, 2, .ro, false, false, false, 0, 0, 65535, 0x0⟩,
   ⟨0x1010, 1, 3, 1, .u8, 1, .ro, false, false, false, 0, 0, 255, 0x0⟩,
   ⟨0x1010, 1, 4, 1, .u8, 1, .ro, false, false, false, 0, 0, 255, 0x0⟩,
   ⟨0x2010, 1, 1, 16, .u32, 4, .ro, false, false, false, 0, 0, 4294967295, 0x0⟩,
   ⟨0x2011, 1, 1, 16, .u8, 1, .ro, false, false, false, 19, 0, 255, 0x0⟩,
   ⟨0x2012, 1, 1, 1, .u16, 2, .wo, true, false, false, 0, 0, 511, 0x3e⟩]

/-- Objects of chapter 2 (R75). -/
def objRowsArithmetic : List ObjRow :=
  [
⟨0x9000, 1, 1, 1, .u8, 1, .rw, false, false, true, 100, 0, 100, 0x6⟩,
   ⟨0x9000, 1, 2, 1, .u8, 1, .rw, false, false, true, 1, 0, 1, 0x6⟩,
   ⟨0x9020, 1, 1, 1, .u8, 1, .rw, true, false, false, 16, 1, 16, 0x6⟩,
   ⟨0x9020, 1, 2, 1, .u8, 1, .rw, true, false, false, 16, 1, 16, 0x6⟩,
   ⟨0x9020, 1, 3, 1, .u8, 1, .rw, true, false, false, 16, 1, 16, 0x6⟩,
   ⟨0x9020, 1, 4, 1, .u8, 1, .rw, true, false, false, 2, 1, 2, 0x6⟩,
   ⟨0x9030, 1, 1, 1, .u64, 8, .ro, false, false, false, 0, 0, 18446744073709551615, 0x0⟩,
   ⟨0x9030, 1, 2, 1, .u64, 8, .ro, false, false, false, 0, 0, 18446744073709551615, 0x0⟩,
   ⟨0x9030, 1, 3, 1, .u64, 8, .ro, false, false, false, 0, 0, 18446744073709551615, 0x0⟩,
   ⟨0x9030, 1, 4, 1, .u64, 8, .ro, false, false, false, 0, 0, 18446744073709551615, 0x0⟩,
   ⟨0x9030, 1, 5, 1, .u64, 8, .ro, false, false, false, 0, 0, 18446744073709551615, 0x0⟩,
   ⟨0x9030, 1, 6, 1, .u64, 8, .ro, false, false, false, 0, 0, 18446744073709551615, 0x0⟩,
   ⟨0x9030, 1, 7, 1, .u64, 8, .ro, false, false, false, 0, 0, 18446744073709551615, 0x0⟩,
   ⟨0x9030, 1, 8, 1, .u64, 8, .ro, false, false, false, 0, 0, 18446744073709551615, 0x0⟩,
   ⟨0x9030, 1, 9, 1, .u64, 8, .ro, false, false, false, 0, 0, 18446744073709551615, 0x0⟩,
   ⟨0x9030, 1, 10, 1, .u64, 8, .ro, false, false, false, 0, 0, 18446744073709551615, 0x0⟩,
   ⟨0x9030, 1, 11, 1, .u64, 8, .ro, false, false, false, 0, 0, 18446744073709551615, 0x0⟩,
   ⟨0x9030, 1, 12, 1, .u64, 8, .ro, false, false, false, 0, 0, 18446744073709551615, 0x0⟩]

/-- Objects of chapter 3 (R116). -/
def objRowsEngines : List ObjRow :=
  [
⟨0x9040, 1, 1, 1, .u8, 1, .ro, false, false, false, 12, 0, 255, 0x0⟩,
   ⟨0x9040, 1, 2, 1, .u8, 1, .ro, false, false, false, 15, 0, 255, 0x0⟩,
   ⟨0x9040, 1, 3, 1, .u8, 1, .ro, false, false, false, 16, 0, 255, 0x0⟩,
   ⟨0x9040, 1, 4, 1, .u8, 1, .ro, false, false, false, 16, 0, 255, 0x0⟩,
   ⟨0x9040, 1, 5, 1, .u8, 1, .ro, false, false, false, 16, 0, 255, 0x0⟩,
   ⟨0x9041, 1, 1, 1, .u64, 8, .ro, false, false, false, 0, 0, 18446744073709551615, 0x0⟩,
   ⟨0x9041, 1, 2, 1, .u64, 8, .ro, false, false, false, 0, 0, 18446744073709551615, 0x0⟩,
   ⟨0x9041, 1, 3, 1, .u64, 8, .ro, false, false, false, 0, 0, 18446744073709551615, 0x0⟩,
   ⟨0x9041, 1, 4, 1, .u64, 8, .ro, false, false, false, 0, 0, 18446744073709551615, 0x0⟩,
   ⟨0x9041, 1, 5, 1, .u64, 8, .ro, false, false, false, 0, 0, 18446744073709551615, 0x0⟩]

/-- Objects of chapter 4 (R160). -/
def objRowsLast : List ObjRow :=
  [
⟨0x3020, 1, 1, 8, .u8, 1, .rw, false, false, false, 255, 0, 255, 0x4⟩,
   ⟨0x3021, 1, 1, 64, .u64, 8, .ro, false, false, false, 0, 0, 18446744073709551615, 0x0⟩,
   ⟨0x3022, 1, 1, 64, .u8, 1, .ro, false, false, false, 0, 0, 255, 0x0⟩,
   ⟨0x3030, 1, 1, 1, .u64, 8, .rw, false, false, false, 0, 0, 281474976710655, 0xc⟩,
   ⟨0x3030, 1, 2, 1, .u8, 1, .rw, false, false, false, 0, 0, 63, 0xc⟩,
   ⟨0x3030, 1, 3, 1, .u8, 1, .wo, false, false, false, 0, 1, 2, 0xc⟩,
   ⟨0x3031, 1, 1, 1, .u8, 1, .ro, false, false, false, 0, 0, 255, 0x0⟩,
   ⟨0x3031, 1, 2, 1, .u16, 2, .ro, false, false, false, 0, 0, 65535, 0x0⟩,
   ⟨0x3031, 1, 3, 1, .u32, 4, .ro, false, false, false, 0, 0, 4294967295, 0x0⟩,
   ⟨0x3031, 1, 4, 1, .u8, 1, .ro, false, false, false, 0, 0, 255, 0x0⟩,
   ⟨0x3040, 1, 1, 1, .u64, 8, .ro, false, false, false, 0, 0, 18446744073709551615, 0x0⟩,
   ⟨0x3040, 1, 2, 1, .u64, 8, .ro, false, false, false, 0, 0, 18446744073709551615, 0x0⟩,
   ⟨0x3040, 1, 3, 1, .u64, 8, .ro, false, false, false, 0, 0, 18446744073709551615, 0x0⟩,
   ⟨0x3040, 1, 4, 1, .u64, 8, .ro, false, false, false, 0, 0, 18446744073709551615, 0x0⟩,
   ⟨0x3040, 1, 5, 1, .u64, 8, .ro, false, false, false, 0, 0, 18446744073709551615, 0x0⟩,
   ⟨0x3040, 1, 6, 1, .u64, 8, .ro, false, false, false, 0, 0, 18446744073709551615, 0x0⟩,
   ⟨0x3050, 16, 1, 19, .u8, 1, .ro, false, false, false, 0, 0, 255, 0x0⟩]

/-- Objects of chapter 5 (R202), part 1. -/
def objRowsLace1 : List ObjRow :=
  [
⟨0x3000, 1, 0, 1, .u32, 4, .rw, false, false, true, 2048, 512, 65536, 0x6⟩,
   ⟨0x3001, 1, 0, 1, .u16, 2, .rw, false, false, true, 64, 16, 256, 0x6⟩,
   ⟨0x3002, 1, 0, 1, .u8, 1, .rw, false, false, true, 16, 0, 32, 0x6⟩,
   ⟨0x3010, 1, 1, 1, .u64, 8, .ro, false, false, false, 0, 0, 18446744073709551615, 0x0⟩,
   ⟨0x3010, 1, 2, 1, .u16, 2, .ro, false, false, false, 0, 0, 65535, 0x0⟩,
   ⟨0x3011, 1, 1, 1, .u8, 1, .rw, false, false, true, 128, 0, 255, 0x6⟩,
   ⟨0x3011, 1, 2, 1, .u16, 2, .ro, false, false, false, 65535, 0, 65535, 0x0⟩,
   ⟨0x3011, 1, 3, 1, .u16, 2, .ro, false, false, false, 65535, 0, 65535, 0x0⟩,
   ⟨0x3011, 1, 4, 1, .u8, 1, .ro, false, false, false, 255, 0, 255, 0x0⟩,
   ⟨0x3011, 1, 5, 1, .u8, 1, .ro, false, false, false, 255, 0, 255, 0x0⟩,
   ⟨0x3011, 1, 6, 1, .u8, 1, .ro, false, false, false, 0, 0, 255, 0x0⟩,
   ⟨0x3011, 1, 7, 1, .u32, 4, .ro, false, false, false, 0, 0, 4294967295, 0x0⟩,
   ⟨0x3012, 1, 1, 1, .u8, 1, .ro, false, false, false, 0, 0, 255, 0x0⟩,
   ⟨0x3012, 1, 2, 1, .i16, 2, .ro, false, false, false, 0, -32768, 32767, 0x0⟩,
   ⟨0x3012, 1, 3, 1, .i32, 4, .ro, false, false, false, 0, -2147483648, 2147483647, 0x0⟩,
   ⟨0x3013, 1, 1, 1, .u16, 2, .rw, false, false, true, 0, 0, 65535, 0x6⟩,
   ⟨0x3013, 1, 2, 1, .u8, 1, .ro, false, false, false, 0, 0, 255, 0x0⟩,
   ⟨0x3013, 1, 3, 1, .u32, 4, .ro, false, false, false, 0, 0, 4294967295, 0x0⟩,
   ⟨0x3013, 1, 4, 1, .u16, 2, .ro, false, false, false, 0, 0, 65535, 0x0⟩,
   ⟨0x3013, 1, 5, 1, .u8, 1, .ro, false, false, false, 0, 0, 255, 0x0⟩,
   ⟨0x3013, 1, 6, 1, .u16, 2, .ro, false, false, false, 0, 0, 65535, 0x0⟩,
   ⟨0x3014, 1, 1, 1, .u64, 8, .wo, false, false, false, 0, 0, 18446744073709551615, 0xc⟩,
   ⟨0x3014, 1, 2, 1, .u8, 1, .rw, false, false, false, 255, 0, 255, 0x3e⟩,
   ⟨0x3015, 1, 1, 1, .u16, 2, .wo, false, false, false, 0, 0, 511, 0x8⟩,
   ⟨0x3015, 1, 2, 1, .u64, 8, .rw, false, false, false, 0, 0, 18446744073709551615, 0x8⟩,
   ⟨0x3016, 1, 1, 1, .u8, 1, .wo, false, false, false, 0, 1, 1, 0x3e⟩,
   ⟨0x3017, 1, 1, 1, .u16, 2, .rw, false, false, false, 65535, 0, 65535, 0x4⟩,
   ⟨0x3017, 1, 2, 1, .u64, 8, .rw, false, false, false, 0, 0, 18446744073709551615, 0x4⟩,
   ⟨0x3024, 1, 1, 64, .u64, 8, .rw, false, false, false, 0, 0, 18446744073709551615, 0xc⟩,
   ⟨0x3060, 1, 1, 1, .u64, 8, .ro, false, false, false, 0, 0, 18446744073709551615, 0x0⟩]

/-- Objects of chapter 5 (R202), part 2. -/
def objRowsLace2 : List ObjRow :=
  [
⟨0x3060, 1, 2, 1, .u64, 8, .ro, false, false, false, 0, 0, 18446744073709551615, 0x0⟩,
   ⟨0x3060, 1, 3, 1, .u64, 8, .ro, false, false, false, 0, 0, 18446744073709551615, 0x0⟩,
   ⟨0x3060, 1, 4, 1, .u64, 8, .ro, false, false, false, 0, 0, 18446744073709551615, 0x0⟩,
   ⟨0x3060, 1, 5, 1, .u64, 8, .ro, false, false, false, 0, 0, 18446744073709551615, 0x0⟩,
   ⟨0x3060, 1, 6, 1, .u64, 8, .ro, false, false, false, 0, 0, 18446744073709551615, 0x0⟩,
   ⟨0x3060, 1, 7, 1, .u64, 8, .ro, false, false, false, 0, 0, 18446744073709551615, 0x0⟩,
   ⟨0x3060, 1, 8, 1, .u64, 8, .ro, false, false, false, 0, 0, 18446744073709551615, 0x0⟩,
   ⟨0x3060, 1, 9, 1, .u64, 8, .ro, false, false, false, 0, 0, 18446744073709551615, 0x0⟩]

/-- Objects of chapter 5 (R202). -/
def objRowsLace : List ObjRow := objRowsLace1 ++ objRowsLace2

/-- Objects of chapter 6 (R244), part 1. -/
def objRowsMemory1 : List ObjRow :=
  [
⟨0x4000, 1, 1, 1, .u64, 8, .ro, false, false, false, 412316860416, 0, 18446744073709551615, 0x0⟩,
   ⟨0x4000, 1, 2, 1, .u16, 2, .ro, false, false, false, 28672, 0, 65535, 0x0⟩,
   ⟨0x4001, 1, 1, 1, .u64, 8, .rw, false, false, true, 1073741824, 0, 281474976710655, 0x6⟩,
   ⟨0x4001, 1, 2, 1, .u64, 8, .rw, false, false, true, 410169376768, 0, 18446744073709551615, 0x6⟩,
   ⟨0x4002, 1, 1, 16, .u16, 2, .rw, false, false, true, 1024, 64, 8192, 0x6⟩,
   ⟨0x4003, 1, 1, 1, .u8, 1, .rw, false, false, true, 4, 1, 15, 0x6⟩,
   ⟨0x4003, 1, 2, 1, .u16, 2, .rw, false, false, true, 256, 0, 65535, 0x6⟩,
   ⟨0x4003, 1, 3, 1, .u16, 2, .rw, false, false, true, 512, 0, 65535, 0x6⟩,
   ⟨0x4003, 1, 4, 1, .u8, 1, .rw, false, false, true, 1, 0, 1, 0x6⟩,
   ⟨0x4003, 1, 5, 1, .u32, 4, .rw, false, false, true, 1000, 100, 60000, 0x6⟩,
   ⟨0x4010, 1, 1, 1, .u64, 8, .rw, false, false, false, 0, 0, 281474976710655, 0x6⟩,
   ⟨0x4010, 1, 2, 1, .u8, 1, .rw, false, false, false, 6, 6, 16, 0x6⟩,
   ⟨0x4010, 1, 3, 1, .u32, 4, .wo, false, false, false, 0, 0, 4294967295, 0xc⟩,
   ⟨0x4010, 1, 4, 1, .u32, 4, .ro, false, false, false, 0, 0, 4294967295, 0x0⟩,
   ⟨0x4011, 1, 1, 1, .u64, 8, .rw, false, false, true, 0, 0, 281474976710655, 0x6⟩,
   ⟨0x4011, 1, 2, 1, .u32, 4, .rw, false, false, true, 65536, 1024, 131072, 0x6⟩,
   ⟨0x4011, 1, 3, 1, .u32, 4, .ro, false, false, false, 0, 0, 4294967295, 0x0⟩,
   ⟨0x4012, 1, 1, 1, .u64, 8, .rw, true, false, false, 0, 0, 281474976710655, 0x6⟩,
   ⟨0x4012, 1, 2, 1, .u8, 1, .rw, true, false, false, 6, 6, 16, 0x6⟩,
   ⟨0x4012, 1, 3, 1, .u32, 4, .wo, true, false, false, 0, 0, 4294967295, 0xc⟩,
   ⟨0x4012, 1, 4, 1, .u32, 4, .ro, true, false, false, 0, 0, 4294967295, 0x0⟩,
   ⟨0x4020, 1, 1, 1, .u64, 8, .ro, false, false, false, 0, 0, 18446744073709551615, 0x0⟩,
   ⟨0x4020, 1, 2, 1, .u64, 8, .ro, false, false, false, 0, 0, 18446744073709551615, 0x0⟩,
   ⟨0x4020, 1, 3, 1, .u64, 8, .ro, false, false, false, 0, 0, 18446744073709551615, 0x0⟩,
   ⟨0x4020, 1, 4, 1, .u64, 8, .ro, false, false, false, 0, 0, 18446744073709551615, 0x0⟩,
   ⟨0x4020, 1, 5, 1, .u64, 8, .ro, false, false, false, 0, 0, 18446744073709551615, 0x0⟩,
   ⟨0x4020, 1, 6, 1, .u64, 8, .ro, false, false, false, 0, 0, 18446744073709551615, 0x0⟩,
   ⟨0x4020, 1, 7, 1, .u64, 8, .ro, false, false, false, 0, 0, 18446744073709551615, 0x0⟩,
   ⟨0x4020, 1, 8, 1, .u64, 8, .ro, false, false, false, 0, 0, 18446744073709551615, 0x0⟩,
   ⟨0x4020, 1, 9, 1, .u64, 8, .ro, false, false, false, 0, 0, 18446744073709551615, 0x0⟩]

/-- Objects of chapter 6 (R244), part 2. -/
def objRowsMemory2 : List ObjRow :=
  [
⟨0x4020, 1, 10, 1, .u64, 8, .ro, false, false, false, 0, 0, 18446744073709551615, 0x0⟩,
   ⟨0x4020, 1, 11, 1, .u64, 8, .ro, false, false, false, 0, 0, 18446744073709551615, 0x0⟩,
   ⟨0x4020, 1, 12, 1, .u64, 8, .ro, false, false, false, 0, 0, 18446744073709551615, 0x0⟩,
   ⟨0x4030, 1, 1, 16, .u16, 2, .ro, false, false, false, 0, 0, 65535, 0x0⟩,
   ⟨0x4030, 1, 17, 16, .u16, 2, .ro, false, false, false, 0, 0, 65535, 0x0⟩]

/-- Objects of chapter 6 (R244). -/
def objRowsMemory : List ObjRow := objRowsMemory1 ++ objRowsMemory2

/-- Objects of chapter 7 (R261). -/
def objRowsCompression : List ObjRow :=
  [
⟨0x9060, 1, 1, 1, .u8, 1, .rw, false, false, true, 3, 0, 3, 0x6⟩,
   ⟨0x9060, 1, 2, 1, .u8, 1, .rw, false, false, true, 1, 0, 1, 0x6⟩,
   ⟨0x9061, 1, 1, 1, .u8, 1, .wo, false, false, false, 0, 1, 4, 0x6⟩,
   ⟨0x9061, 1, 2, 1, .u64, 8, .rw, false, false, false, 0, 0, 18446744073709551615, 0x6⟩,
   ⟨0x9061, 1, 3, 1, .u8, 1, .ro, false, false, false, 0, 0, 255, 0x0⟩,
   ⟨0x9061, 1, 4, 1, .u16, 2, .ro, false, false, false, 0, 0, 65535, 0x0⟩,
   ⟨0x9061, 1, 5, 1, .u8, 1, .rw, false, false, false, 0, 0, 3, 0x6⟩,
   ⟨0x9061, 1, 6, 1, .u8, 1, .ro, false, false, false, 0, 0, 255, 0x0⟩,
   ⟨0x9062, 1, 1, 64, .u32, 4, .rw, false, false, false, 0, 0, 4294967295, 0x6⟩,
   ⟨0x9063, 1, 1, 1, .u64, 8, .ro, false, false, false, 0, 0, 18446744073709551615, 0x0⟩,
   ⟨0x9063, 1, 2, 1, .u64, 8, .ro, false, false, false, 0, 0, 18446744073709551615, 0x0⟩,
   ⟨0x9063, 1, 3, 1, .u64, 8, .ro, false, false, false, 0, 0, 18446744073709551615, 0x0⟩,
   ⟨0x9063, 1, 4, 1, .u64, 8, .ro, false, false, false, 0, 0, 18446744073709551615, 0x0⟩,
   ⟨0x9063, 1, 5, 1, .u64, 8, .ro, false, false, false, 0, 0, 18446744073709551615, 0x0⟩,
   ⟨0x9063, 1, 6, 1, .u64, 8, .ro, false, false, false, 0, 0, 18446744073709551615, 0x0⟩,
   ⟨0x9063, 1, 7, 1, .u64, 8, .ro, false, false, false, 0, 0, 18446744073709551615, 0x0⟩,
   ⟨0x9063, 1, 8, 1, .u64, 8, .ro, false, false, false, 0, 0, 18446744073709551615, 0x0⟩]

/-- Objects of chapter 8 (R301), part 1. -/
def objRowsLinks1 : List ObjRow :=
  [
⟨0x5000, 64, 1, 1, .u8, 1, .rw, false, false, true, 1, 0, 1, 0x6⟩,
   ⟨0x5000, 64, 2, 1, .u8, 1, .rw, false, false, true, 0, 0, 3, 0x6⟩,
   ⟨0x5000, 64, 3, 1, .u8, 1, .rw, false, false, true, 1, 0, 1, 0x6⟩,
   ⟨0x5000, 64, 4, 1, .u8, 1, .rw, false, false, true, 1, 0, 5, 0x6⟩,
   ⟨0x5000, 64, 5, 1, .u8, 1, .rw, false, false, true, 0, 0, 255, 0x6⟩,
   ⟨0x5000, 64, 6, 1, .u8, 1, .rw, false, false, true, 228, 0, 255, 0x6⟩,
   ⟨0x5000, 64, 7, 1, .i16, 2, .rw, false, false, true, 0, -32768, 32767, 0x6⟩,
   ⟨0x5000, 64, 8, 1, .u16, 2, .rw, false, false, true, 64, 0, 65535, 0x6⟩,
   ⟨0x5000, 64, 9, 1, .u8, 1, .wo, false, false, false, 0, 1, 2, 0x3e⟩,
   ⟨0x5040, 1, 1, 1, .u16, 2, .rw, false, false, true, 1024, 768, 1536, 0x6⟩,
   ⟨0x5041, 1, 1, 1, .u64, 8, .ro, false, false, false, 0, 0, 18446744073709551615, 0x0⟩,
   ⟨0x5100, 64, 1, 1, .u8, 1, .ro, false, false, false, 0, 0, 255, 0x0⟩,
   ⟨0x5100, 64, 2, 1, .u8, 1, .ro, false, false, false, 0, 0, 255, 0x0⟩,
   ⟨0x5100, 64, 3, 1, .u16, 2, .ro, false, false, false, 0, 0, 65535, 0x0⟩,
   ⟨0x5100, 64, 4, 1, .u32, 4, .ro, false, false, false, 0, 0, 4294967295, 0x0⟩,
   ⟨0x5100, 64, 5, 1, .u16, 2, .ro, false, false, false, 0, 0, 65535, 0x0⟩,
   ⟨0x5100, 64, 6, 1, .i16, 2, .ro, false, false, false, 0, -32768, 32767, 0x0⟩,
   ⟨0x5100, 64, 7, 1, .u16, 2, .ro, false, false, false, 65535, 0, 65535, 0x0⟩,
   ⟨0x5100, 64, 8, 1, .u16, 2, .ro, false, false, false, 65535, 0, 65535, 0x0⟩,
   ⟨0x5100, 64, 9, 1, .u8, 1, .ro, false, false, false, 255, 0, 255, 0x0⟩,
   ⟨0x5100, 64, 10, 1, .u32, 4, .ro, false, false, false, 0, 0, 4294967295, 0x0⟩,
   ⟨0x5100, 64, 11, 1, .u8, 1, .ro, false, false, false, 0, 0, 255, 0x0⟩,
   ⟨0x5100, 64, 16, 1, .u64, 8, .ro, false, false, false, 0, 0, 18446744073709551615, 0x0⟩,
   ⟨0x5100, 64, 17, 1, .u64, 8, .ro, false, false, false, 0, 0, 18446744073709551615, 0x0⟩,
   ⟨0x5100, 64, 18, 1, .u64, 8, .ro, false, false, false, 0, 0, 18446744073709551615, 0x0⟩,
   ⟨0x5100, 64, 19, 1, .u64, 8, .ro, false, false, false, 0, 0, 18446744073709551615, 0x0⟩,
   ⟨0x5100, 64, 20, 1, .u64, 8, .ro, false, false, false, 0, 0, 18446744073709551615, 0x0⟩,
   ⟨0x5100, 64, 21, 1, .u64, 8, .ro, false, false, false, 0, 0, 18446744073709551615, 0x0⟩,
   ⟨0x5080, 1, 1, 1, .u8, 1, .rw, false, false, true, 0, 0, 1, 0x6⟩,
   ⟨0x5081, 1, 1, 4, .u64, 8, .rw, false, false, true, 0, 0, 281474976710655, 0x6⟩]

/-- Objects of chapter 8 (R301), part 2. -/
def objRowsLinks2 : List ObjRow :=
  [
⟨0x5082, 1, 1, 4, .u32, 4, .rw, false, false, true, 0, 0, 4294967295, 0x6⟩,
   ⟨0x5083, 1, 1, 8, .u64, 8, .rw, false, false, true, 0, 0, 18446744073709551615, 0x6⟩,
   ⟨0x5084, 1, 1, 1, .u8, 1, .rw, false, false, true, 255, 0, 255, 0x6⟩,
   ⟨0x5090, 1, 1, 1, .u64, 8, .rw, false, false, false, 0, 0, 281474976710655, 0xc⟩,
   ⟨0x5090, 1, 2, 1, .u16, 2, .wo, false, false, false, 0, 0, 65535, 0xc⟩,
   ⟨0x5090, 1, 3, 1, .u64, 8, .rw, false, false, false, 0, 0, 18446744073709551615, 0xc⟩,
   ⟨0x5090, 1, 4, 1, .u8, 1, .rw, false, false, false, 6, 6, 14, 0xc⟩,
   ⟨0x5090, 1, 5, 1, .u32, 4, .wo, false, false, false, 0, 0, 4294967295, 0xc⟩,
   ⟨0x5090, 1, 6, 1, .u32, 4, .ro, false, false, false, 0, 0, 4294967295, 0x0⟩,
   ⟨0x5090, 1, 7, 1, .u64, 8, .rw, false, false, false, 0, 0, 18446744073709551615, 0xc⟩,
   ⟨0x5090, 1, 8, 1, .u8, 1, .rw, false, false, false, 6, 6, 14, 0xc⟩,
   ⟨0x5090, 1, 9, 1, .u32, 4, .ro, false, false, false, 0, 0, 4294967295, 0x0⟩,
   ⟨0x5090, 1, 10, 1, .u32, 4, .rw, false, false, false, 0, 0, 4294967295, 0xc⟩,
   ⟨0x5090, 1, 11, 1, .u16, 2, .rw, false, false, true, 50, 1, 1000, 0xc⟩,
   ⟨0x5091, 1, 1, 1, .u64, 8, .ro, false, false, false, 0, 0, 18446744073709551615, 0x0⟩,
   ⟨0x5091, 1, 2, 1, .u64, 8, .ro, false, false, false, 0, 0, 18446744073709551615, 0x0⟩,
   ⟨0x5091, 1, 3, 1, .u64, 8, .ro, false, false, false, 0, 0, 18446744073709551615, 0x0⟩,
   ⟨0x5091, 1, 4, 1, .u64, 8, .ro, false, false, false, 0, 0, 18446744073709551615, 0x0⟩,
   ⟨0x5091, 1, 5, 1, .u64, 8, .ro, false, false, false, 0, 0, 18446744073709551615, 0x0⟩,
   ⟨0x5091, 1, 6, 1, .u64, 8, .ro, false, false, false, 0, 0, 18446744073709551615, 0x0⟩,
   ⟨0x5092, 1, 1, 64, .u8, 1, .ro, false, false, false, 0, 0, 255, 0x0⟩]

/-- Objects of chapter 8 (R301). -/
def objRowsLinks : List ObjRow := objRowsLinks1 ++ objRowsLinks2

/-- Objects of chapter 9 (R332). -/
def objRowsFabric : List ObjRow :=
  [
⟨0x4040, 1, 1, 1, .u16, 2, .ro, false, false, false, 0, 0, 65535, 0x0⟩,
   ⟨0x4040, 1, 2, 1, .u16, 2, .rw, true, false, true, 512, 0, 4096, 0x6⟩,
   ⟨0x4040, 1, 3, 1, .u32, 4, .rw, false, false, true, 1000, 10, 100000, 0x6⟩,
   ⟨0x4040, 1, 4, 1, .u8, 1, .rw, false, false, true, 8, 1, 16, 0x6⟩,
   ⟨0x4040, 1, 5, 1, .u32, 4, .rw, false, false, true, 1048576, 1, 4194303, 0x6⟩,
   ⟨0x4040, 1, 6, 1, .u8, 1, .rw, false, false, true, 3, 0, 3, 0x6⟩,
   ⟨0x4041, 1, 1, 1, .u16, 2, .rw, false, false, false, 0, 0, 2047, 0xe⟩,
   ⟨0x4041, 1, 2, 1, .u16, 2, .rw, false, false, false, 0, 0, 65535, 0xe⟩,
   ⟨0x4042, 1, 1, 1, .u16, 2, .rw, false, false, false, 0, 0, 2047, 0xe⟩,
   ⟨0x4042, 1, 2, 1, .u16, 2, .rw, false, false, false, 65535, 0, 65535, 0xe⟩,
   ⟨0x4050, 1, 1, 1, .u64, 8, .ro, false, false, false, 0, 0, 18446744073709551615, 0x0⟩,
   ⟨0x4050, 1, 2, 1, .u64, 8, .ro, false, false, false, 0, 0, 18446744073709551615, 0x0⟩,
   ⟨0x4050, 1, 3, 1, .u64, 8, .ro, false, false, false, 0, 0, 18446744073709551615, 0x0⟩,
   ⟨0x4050, 1, 4, 1, .u64, 8, .ro, false, false, false, 0, 0, 18446744073709551615, 0x0⟩,
   ⟨0x4050, 1, 5, 1, .u64, 8, .ro, false, false, false, 0, 0, 18446744073709551615, 0x0⟩,
   ⟨0x4050, 1, 6, 1, .u64, 8, .ro, false, false, false, 0, 0, 18446744073709551615, 0x0⟩,
   ⟨0x4050, 1, 7, 1, .u64, 8, .ro, false, false, false, 0, 0, 18446744073709551615, 0x0⟩,
   ⟨0x4050, 1, 8, 1, .u64, 8, .ro, false, false, false, 0, 0, 18446744073709551615, 0x0⟩,
   ⟨0x4050, 1, 9, 1, .u64, 8, .ro, false, false, false, 0, 0, 18446744073709551615, 0x0⟩,
   ⟨0x4050, 1, 10, 1, .u64, 8, .ro, false, false, false, 0, 0, 18446744073709551615, 0x0⟩,
   ⟨0x4050, 1, 11, 1, .u64, 8, .ro, false, false, false, 0, 0, 18446744073709551615, 0x0⟩]

/-- Objects of chapter 10 (R379), part 1. -/
def objRowsServing1 : List ObjRow :=
  [
⟨0x6030, 1, 1, 1, .u32, 4, .wo, false, false, false, 0, 0, 4294967295, 0x3e⟩,
   ⟨0x6030, 1, 2, 1, .u64, 8, .ro, false, false, false, 0, 0, 18446744073709551615, 0x0⟩,
   ⟨0x6000, 1, 1, 1, .u64, 8, .rw, false, false, true, 67108864, 0, 281474976710655, 0x6⟩,
   ⟨0x6000, 1, 2, 1, .u32, 4, .rw, false, false, true, 1048576, 4096, 1048576, 0x6⟩,
   ⟨0x6000, 1, 3, 1, .u32, 4, .ro, false, false, false, 0, 0, 4294967295, 0x0⟩,
   ⟨0x6000, 1, 4, 1, .u64, 8, .rw, false, false, true, 201326592, 0, 18446744073709551615, 0x6⟩,
   ⟨0x6001, 1, 1, 1, .u8, 1, .wo, false, false, false, 0, 0, 3, 0x3e⟩,
   ⟨0x6001, 1, 2, 1, .u64, 8, .rw, false, false, false, 0, 0, 18446744073709551615, 0x3e⟩,
   ⟨0x6001, 1, 3, 1, .u64, 8, .ro, false, false, false, 0, 0, 18446744073709551615, 0x0⟩,
   ⟨0x6001, 1, 4, 1, .u16, 2, .rw, false, false, false, 65535, 0, 65535, 0x3e⟩,
   ⟨0x6010, 1, 1, 1, .u16, 2, .rw, false, false, false, 0, 0, 4095, 0x3e⟩,
   ⟨0x6010, 1, 2, 1, .u16, 2, .rw, false, false, false, 1, 0, 65535, 0x3e⟩,
   ⟨0x6010, 1, 3, 1, .u64, 8, .ro, false, false, false, 0, 0, 18446744073709551615, 0x0⟩,
   ⟨0x6010, 1, 4, 1, .u32, 4, .ro, false, false, false, 0, 0, 4294967295, 0x0⟩,
   ⟨0x6010, 1, 5, 1, .u32, 4, .ro, false, false, false, 0, 0, 4294967295, 0x0⟩,
   ⟨0x6011, 1, 1, 1, .u16, 2, .rw, false, false, true, 256, 1, 1024, 0xe⟩,
   ⟨0x6011, 1, 2, 1, .u16, 2, .rw, false, false, true, 64, 1, 256, 0xe⟩,
   ⟨0x6011, 1, 3, 1, .i32, 4, .rw, false, false, true, 64, -2147483648, 2147483647, 0xe⟩,
   ⟨0x6011, 1, 4, 1, .u16, 2, .rw, false, false, true, 4096, 256, 16384, 0xe⟩,
   ⟨0x6020, 64, 1, 1, .u64, 8, .rw, false, false, false, 0, 0, 281474976710655, 0x3e⟩,
   ⟨0x6020, 64, 2, 1, .u8, 1, .rw, false, false, false, 6, 6, 16, 0x3e⟩,
   ⟨0x6020, 64, 3, 1, .u64, 8, .wo, false, false, false, 0, 0, 18446744073709551615, 0x3e⟩,
   ⟨0x6020, 64, 4, 1, .u16, 2, .ro, false, false, false, 0, 0, 65535, 0x0⟩,
   ⟨0x6020, 64, 5, 1, .u8, 1, .wo, false, false, false, 0, 1, 1, 0x3e⟩,
   ⟨0x6020, 64, 6, 1, .u32, 4, .ro, false, false, false, 0, 0, 4294967295, 0x0⟩,
   ⟨0x6020, 64, 7, 1, .u64, 8, .rw, false, false, false, 0, 0, 18446744073709551615, 0x3e⟩,
   ⟨0x6020, 64, 8, 1, .u8, 1, .rw, false, false, false, 6, 6, 20, 0x3e⟩,
   ⟨0x6020, 64, 9, 1, .u16, 2, .rw, false, false, false, 65535, 0, 65535, 0x3e⟩,
   ⟨0x6020, 64, 10, 1, .u32, 4, .ro, false, false, false, 0, 0, 4294967295, 0x0⟩,
   ⟨0x6020, 64, 11, 1, .u32, 4, .rw, false, false, false, 0, 0, 4294967295, 0x3e⟩]

/-- Objects of chapter 10 (R379), part 2. -/
def objRowsServing2 : List ObjRow :=
  [
⟨0x6020, 64, 12, 1, .u8, 1, .rw, false, false, false, 0, 0, 1, 0x3e⟩,
   ⟨0x6060, 1, 1, 1, .u64, 8, .rw, false, false, false, 0, 0, 281474976710655, 0x6⟩,
   ⟨0x6070, 1, 1, 1, .u64, 8, .ro, false, false, false, 0, 0, 18446744073709551615, 0x0⟩,
   ⟨0x6070, 1, 2, 1, .u64, 8, .ro, false, false, false, 0, 0, 18446744073709551615, 0x0⟩,
   ⟨0x6070, 1, 3, 1, .u64, 8, .ro, false, false, false, 0, 0, 18446744073709551615, 0x0⟩,
   ⟨0x6070, 1, 4, 1, .u64, 8, .ro, false, false, false, 0, 0, 18446744073709551615, 0x0⟩,
   ⟨0x6070, 1, 5, 1, .u64, 8, .ro, false, false, false, 0, 0, 18446744073709551615, 0x0⟩,
   ⟨0x6070, 1, 6, 1, .u64, 8, .ro, false, false, false, 0, 0, 18446744073709551615, 0x0⟩,
   ⟨0x6070, 1, 7, 1, .u64, 8, .ro, false, false, false, 0, 0, 18446744073709551615, 0x0⟩,
   ⟨0x6070, 1, 8, 1, .u64, 8, .ro, false, false, false, 0, 0, 18446744073709551615, 0x0⟩,
   ⟨0x6070, 1, 9, 1, .u64, 8, .ro, false, false, false, 0, 0, 18446744073709551615, 0x0⟩,
   ⟨0x6070, 1, 10, 1, .u64, 8, .ro, false, false, false, 0, 0, 18446744073709551615, 0x0⟩,
   ⟨0x6070, 1, 11, 1, .u64, 8, .ro, false, false, false, 0, 0, 18446744073709551615, 0x0⟩,
   ⟨0x6070, 1, 12, 1, .u64, 8, .ro, false, false, false, 0, 0, 18446744073709551615, 0x0⟩,
   ⟨0x6070, 1, 13, 1, .u64, 8, .ro, false, false, false, 0, 0, 18446744073709551615, 0x0⟩]

/-- Objects of chapter 10 (R379). -/
def objRowsServing : List ObjRow := objRowsServing1 ++ objRowsServing2

/-- Objects of chapter 11 (R404). -/
def objRowsRouting : List ObjRow :=
  [
⟨0x3025, 1, 1, 64, .u64, 8, .rw, false, false, false, 0, 0, 18446744073709551615, 0x3e⟩,
   ⟨0x3026, 1, 1, 1, .u8, 1, .rw, false, false, false, 0, 0, 7, 0xc⟩,
   ⟨0x3026, 1, 2, 1, .u32, 4, .rw, false, false, false, 0, 0, 4294967295, 0xc⟩,
   ⟨0x3026, 1, 3, 1, .u64, 8, .wo, false, false, false, 0, 0, 18446744073709551615, 0x3e⟩,
   ⟨0x3026, 1, 4, 8, .u64, 8, .ro, false, false, false, 0, 0, 18446744073709551615, 0x0⟩,
   ⟨0x3027, 1, 1, 1, .u8, 1, .ro, false, false, false, 0, 0, 255, 0x0⟩,
   ⟨0x3027, 1, 2, 1, .u32, 4, .ro, false, false, false, 0, 0, 4294967295, 0x0⟩,
   ⟨0x3028, 1, 1, 64, .u64, 8, .ro, false, false, false, 0, 0, 18446744073709551615, 0x0⟩,
   ⟨0x3070, 1, 1, 1, .u64, 8, .ro, false, false, false, 0, 0, 18446744073709551615, 0x0⟩,
   ⟨0x3070, 1, 2, 1, .u64, 8, .ro, false, false, false, 0, 0, 18446744073709551615, 0x0⟩,
   ⟨0x3070, 1, 3, 1, .u64, 8, .ro, false, false, false, 0, 0, 18446744073709551615, 0x0⟩,
   ⟨0x3070, 1, 4, 1, .u64, 8, .ro, false, false, false, 0, 0, 18446744073709551615, 0x0⟩,
   ⟨0x3070, 1, 5, 1, .u64, 8, .ro, false, false, false, 0, 0, 18446744073709551615, 0x0⟩,
   ⟨0x3070, 1, 6, 1, .u64, 8, .ro, false, false, false, 0, 0, 18446744073709551615, 0x0⟩,
   ⟨0x3070, 1, 7, 1, .u64, 8, .ro, false, false, false, 0, 0, 18446744073709551615, 0x0⟩,
   ⟨0x3070, 1, 8, 1, .u64, 8, .ro, false, false, false, 0, 0, 18446744073709551615, 0x0⟩]

/-- Objects of chapter 12 (R430), part 1. -/
def objRowsResidency1 : List ObjRow :=
  [
⟨0xa000, 8, 1, 1, .u8, 1, .ro, false, false, true, 0, 0, 255, 0x0⟩,
   ⟨0xa000, 8, 2, 1, .u16, 2, .ro, false, false, true, 0, 0, 65535, 0x0⟩,
   ⟨0xa000, 8, 3, 9, .u32, 4, .rw, false, false, true, 0, 0, 4294967295, 0x6⟩,
   ⟨0xa000, 8, 12, 1, .u32, 4, .rw, false, false, true, 0, 0, 4294967295, 0x6⟩,
   ⟨0xa000, 8, 13, 1, .u64, 8, .rw, false, false, true, 0, 0, 281474976710655, 0x3e⟩,
   ⟨0xa000, 8, 14, 1, .u64, 8, .rw, false, false, true, 0, 0, 18446744073709551615, 0x3e⟩,
   ⟨0xa000, 8, 15, 1, .u32, 4, .rw, false, false, true, 0, 0, 4294967295, 0x3e⟩,
   ⟨0xa000, 8, 16, 1, .u32, 4, .ro, false, false, false, 0, 0, 4294967295, 0x0⟩,
   ⟨0xa000, 8, 17, 16, .u16, 2, .rw, false, false, true, 0, 0, 65535, 0x6⟩,
   ⟨0xa000, 8, 33, 16, .u16, 2, .ro, false, false, true, 65535, 0, 65535, 0x0⟩,
   ⟨0xa000, 8, 49, 1, .u64, 8, .ro, false, false, false, 0, 0, 18446744073709551615, 0x0⟩,
   ⟨0xa000, 8, 50, 1, .u64, 8, .ro, false, false, false, 0, 0, 18446744073709551615, 0x0⟩,
   ⟨0xa000, 8, 51, 1, .u64, 8, .ro, false, false, false, 0, 0, 18446744073709551615, 0x0⟩,
   ⟨0xa000, 8, 52, 1, .u64, 8, .rw, false, false, false, 0, 0, 18446744073709551615, 0xc⟩,
   ⟨0xa000, 8, 53, 1, .u64, 8, .ro, false, false, false, 0, 0, 18446744073709551615, 0x0⟩,
   ⟨0xa008, 1, 1, 1, .u8, 1, .rw, false, false, false, 0, 0, 7, 0x6⟩,
   ⟨0xa008, 1, 2, 1, .u16, 2, .rw, false, false, false, 19, 1, 304, 0x6⟩,
   ⟨0xa008, 1, 3, 1, .u8, 1, .wo, false, false, false, 0, 1, 4, 0x6⟩,
   ⟨0xa010, 1, 0, 1, .u8, 1, .rw, false, false, true, 0, 0, 1, 0x6⟩,
   ⟨0xa011, 1, 1, 1, .u8, 1, .rw, false, false, true, 1, 0, 2, 0x6⟩,
   ⟨0xa020, 1, 1, 1, .u64, 8, .rw, false, false, false, 0, 0, 281474976710655, 0xc⟩,
   ⟨0xa020, 1, 2, 1, .u8, 1, .rw, false, false, false, 0, 0, 31, 0xc⟩,
   ⟨0xa020, 1, 3, 1, .u8, 1, .rw, false, false, false, 0, 0, 7, 0xc⟩,
   ⟨0xa020, 1, 4, 1, .u8, 1, .wo, false, false, false, 0, 1, 6, 0x3e⟩,
   ⟨0xa020, 1, 5, 1, .u8, 1, .ro, false, false, false, 0, 0, 255, 0x0⟩,
   ⟨0xa020, 1, 6, 1, .u8, 1, .ro, false, false, false, 0, 0, 255, 0x0⟩,
   ⟨0xa020, 1, 7, 1, .u32, 4, .ro, false, false, false, 0, 0, 4294967295, 0x0⟩,
   ⟨0xa020, 1, 8, 1, .u16, 2, .rw, false, false, false, 0, 0, 511, 0xc⟩,
   ⟨0xa030, 32, 1, 1, .u8, 1, .ro, false, false, false, 0, 0, 255, 0x0⟩,
   ⟨0xa030, 32, 2, 1, .u8, 1, .ro, false, false, false, 0, 0, 255, 0x0⟩]

/-- Objects of chapter 12 (R430), part 2. -/
def objRowsResidency2 : List ObjRow :=
  [
⟨0xa030, 32, 3, 1, .u64, 8, .ro, false, false, false, 0, 0, 18446744073709551615, 0x0⟩,
   ⟨0xa030, 32, 4, 1, .u8, 1, .ro, false, false, false, 0, 0, 255, 0x0⟩,
   ⟨0xa030, 32, 5, 1, .u32, 4, .ro, false, false, false, 0, 0, 4294967295, 0x0⟩,
   ⟨0xa030, 32, 6, 1, .u32, 4, .ro, false, false, false, 0, 0, 4294967295, 0x0⟩,
   ⟨0xa030, 32, 7, 1, .u64, 8, .ro, false, false, false, 0, 0, 18446744073709551615, 0x0⟩,
   ⟨0xa030, 32, 8, 1, .u64, 8, .ro, false, false, false, 0, 0, 18446744073709551615, 0x0⟩,
   ⟨0xa060, 1, 1, 1, .u16, 2, .rw, false, false, false, 0, 0, 4095, 0x3e⟩,
   ⟨0xa060, 1, 2, 1, .u64, 8, .ro, false, false, false, 0, 0, 18446744073709551615, 0x0⟩]

/-- Objects of chapter 12 (R430). -/
def objRowsResidency : List ObjRow := objRowsResidency1 ++ objRowsResidency2

/-- Objects of chapter 13 (R456). -/
def objRowsCores : List ObjRow :=
  [
⟨0x1020, 1, 1, 1, .u64, 8, .rw, false, false, false, 0, 0, 281474976710655, 0xc⟩,
   ⟨0x1020, 1, 2, 1, .u32, 4, .rw, false, false, false, 0, 0, 4294967295, 0xc⟩,
   ⟨0x1020, 1, 3, 1, .u8, 1, .wo, false, false, false, 0, 1, 1, 0xc⟩,
   ⟨0x1020, 1, 4, 1, .u8, 1, .ro, false, false, false, 0, 0, 255, 0x0⟩,
   ⟨0x1020, 1, 5, 1, .u8, 1, .ro, false, false, false, 0, 0, 255, 0x0⟩,
   ⟨0x1020, 1, 6, 1, .u32, 4, .ro, false, false, false, 0, 0, 4294967295, 0x0⟩,
   ⟨0x1020, 1, 7, 1, .u16, 2, .ro, false, false, false, 0, 0, 65535, 0x0⟩,
   ⟨0x1020, 1, 8, 1, .u16, 2, .ro, false, false, false, 0, 0, 65535, 0x0⟩,
   ⟨0x1040, 1, 1, 1, .u64, 8, .rw, false, false, false, 0, 0, 18446744073709551615, 0x6⟩,
   ⟨0x1040, 1, 2, 1, .u64, 8, .ro, false, false, false, 0, 0, 18446744073709551615, 0x0⟩,
   ⟨0x2180, 1, 1, 1, .u16, 2, .rw, true, false, false, 120, 95, 120, 0x7e⟩,
   ⟨0x2180, 1, 2, 1, .u16, 2, .rw, true, false, false, 100, 50, 100, 0x7e⟩,
   ⟨0x2180, 1, 3, 1, .u16, 2, .rw, true, false, false, 200, 1, 200, 0x7e⟩,
   ⟨0x2180, 1, 4, 1, .u16, 2, .rw, true, false, false, 1800, 1000, 1800, 0x7e⟩]

/-- Objects of chapter 14 (R488), part 1. -/
def objRowsRelum1 : List ObjRow :=
  [
⟨0x1000, 1, 1, 1, .str, 16, .ro, false, true, false, 0, 0, 0, 0x0⟩,
   ⟨0x1000, 1, 2, 1, .str, 16, .ro, false, true, false, 0, 0, 0, 0x0⟩,
   ⟨0x1000, 1, 3, 1, .u8, 1, .ro, false, true, false, 0, 0, 255, 0x0⟩,
   ⟨0x1000, 1, 4, 1, .u16, 2, .ro, false, true, false, 1, 0, 65535, 0x0⟩,
   ⟨0x1001, 1, 0, 1, .u64, 8, .ro, false, true, false, 0, 0, 18446744073709551615, 0x0⟩,
   ⟨0x1030, 1, 1, 1, .u8, 1, .wo, false, true, false, 0, 1, 3, 0x3f⟩,
   ⟨0x1030, 1, 2, 1, .u16, 2, .ro, false, true, false, 0, 0, 65535, 0x0⟩,
   ⟨0x1030, 1, 3, 1, .u16, 2, .rw, false, true, false, 0, 0, 65535, 0x3⟩,
   ⟨0x1030, 1, 4, 1, .dom, 64, .rw, false, true, false, 0, 0, 0, 0x3⟩,
   ⟨0x1030, 1, 5, 1, .u32, 4, .ro, false, true, false, 0, 0, 4294967295, 0x0⟩,
   ⟨0x1030, 1, 6, 1, .u8, 1, .ro, false, true, false, 1, 0, 255, 0x0⟩,
   ⟨0x1050, 1, 1, 1, .u8, 1, .ro, false, true, false, 0, 0, 255, 0x0⟩,
   ⟨0x1050, 1, 2, 1, .u8, 1, .ro, false, true, false, 0, 0, 255, 0x0⟩,
   ⟨0x1050, 1, 3, 1, .u8, 1, .rw, true, true, true, 1, 0, 1, 0x3f⟩,
   ⟨0x1050, 1, 4, 1, .u16, 2, .rw, false, false, true, 0, 0, 2047, 0x3e⟩,
   ⟨0x1051, 1, 1, 4, .u64, 8, .ro, false, true, false, 0, 0, 18446744073709551615, 0x0⟩,
   ⟨0x1051, 1, 5, 1, .u64, 8, .ro, false, true, false, 0, 0, 18446744073709551615, 0x0⟩,
   ⟨0x1051, 1, 6, 1, .u64, 8, .ro, false, true, false, 0, 0, 18446744073709551615, 0x0⟩,
   ⟨0x1051, 1, 7, 1, .u64, 8, .ro, false, true, false, 0, 0, 18446744073709551615, 0x0⟩,
   ⟨0x1051, 1, 8, 1, .u64, 8, .ro, false, true, false, 0, 0, 18446744073709551615, 0x0⟩,
   ⟨0x1051, 1, 9, 1, .u64, 8, .ro, false, true, false, 0, 0, 18446744073709551615, 0x0⟩,
   ⟨0x1060, 1, 1, 16, .u64, 8, .ro, false, true, false, 0, 0, 18446744073709551615, 0x0⟩,
   ⟨0x1060, 1, 17, 1, .u32, 4, .rw, false, true, true, 1000, 10, 60000, 0x3f⟩,
   ⟨0x1070, 1, 1, 1, .u16, 2, .rw, false, true, true, 65535, 0, 65535, 0x3f⟩,
   ⟨0x1070, 1, 2, 1, .u16, 2, .rw, false, false, true, 65535, 0, 65535, 0x3f⟩,
   ⟨0x1070, 1, 3, 1, .u16, 2, .rw, false, false, true, 0, 0, 65535, 0x3f⟩,
   ⟨0x1070, 1, 4, 1, .u16, 2, .rw, false, true, true, 100, 0, 65535, 0x3f⟩,
   ⟨0x1070, 1, 5, 1, .u8, 1, .rw, false, false, true, 0, 0, 7, 0x3f⟩,
   ⟨0x2000, 1, 0, 1, .u8, 1, .ro, false, true, false, 1, 0, 255, 0x0⟩,
   ⟨0x2001, 1, 0, 1, .u8, 1, .wo, false, true, false, 0, 1, 7, 0x7f⟩]

/-- Objects of chapter 14 (R488), part 2. -/
def objRowsRelum2 : List ObjRow :=
  [
⟨0x2002, 1, 1, 1, .u8, 1, .ro, false, true, false, 0, 0, 255, 0x0⟩,
   ⟨0x2002, 1, 2, 1, .u8, 1, .ro, false, false, false, 0, 0, 255, 0x0⟩,
   ⟨0x2002, 1, 3, 1, .u8, 1, .ro, false, false, false, 0, 0, 255, 0x0⟩,
   ⟨0x2002, 1, 4, 1, .u8, 1, .ro, false, true, false, 0, 0, 255, 0x0⟩,
   ⟨0x2002, 1, 5, 1, .u16, 2, .ro, false, true, false, 0, 0, 65535, 0x0⟩,
   ⟨0x2002, 1, 6, 1, .u64, 8, .ro, false, false, false, 0, 0, 18446744073709551615, 0x0⟩]

/-- Objects of chapter 14 (R488). -/
def objRowsRelum : List ObjRow := objRowsRelum1 ++ objRowsRelum2

/-- Objects of chapter 15 (R516), part 1. -/
def objRowsSecurity1 : List ObjRow :=
  [
⟨0x1022, 1, 1, 1, .u8, 1, .ro, false, true, false, 0, 0, 255, 0x0⟩,
   ⟨0x1022, 1, 2, 1, .u32, 4, .ro, false, true, false, 0, 0, 4294967295, 0x0⟩,
   ⟨0x1022, 1, 3, 1, .u8, 1, .ro, false, true, false, 255, 0, 255, 0x0⟩,
   ⟨0x1022, 1, 4, 1, .u8, 1, .ro, false, true, false, 0, 0, 255, 0x0⟩,
   ⟨0x7010, 1, 1, 1, .u16, 2, .rw, true, false, false, 0, 0, 511, 0xe⟩,
   ⟨0x7010, 1, 2, 1, .u64, 8, .rw, true, false, false, 0, 0, 281474976710655, 0xe⟩,
   ⟨0x7010, 1, 3, 1, .u64, 8, .rw, true, false, false, 0, 0, 281474976710655, 0xe⟩,
   ⟨0x7010, 1, 4, 1, .u8, 1, .rw, true, false, false, 0, 0, 7, 0xe⟩,
   ⟨0x7020, 1, 1, 1, .u8, 1, .ro, true, false, false, 0, 0, 255, 0x0⟩,
   ⟨0x7020, 1, 2, 1, .u16, 2, .ro, true, false, false, 0, 0, 65535, 0x0⟩,
   ⟨0x7020, 1, 3, 1, .u8, 1, .ro, true, false, false, 0, 0, 255, 0x0⟩,
   ⟨0x7020, 1, 4, 1, .u8, 1, .ro, true, false, false, 0, 0, 255, 0x0⟩,
   ⟨0x7030, 1, 1, 1, .u16, 2, .wo, true, false, false, 0, 0, 64, 0x6⟩,
   ⟨0x7030, 1, 2, 1, .u8, 1, .wo, true, false, false, 0, 0, 3, 0x6⟩,
   ⟨0x7040, 1, 1, 1, .u8, 1, .rw, true, false, false, 1, 1, 31, 0x7e⟩,
   ⟨0x7040, 1, 2, 1, .u8, 1, .wo, true, false, false, 0, 1, 3, 0xe⟩,
   ⟨0x7040, 1, 3, 1, .dom, 64, .wo, true, false, false, 0, 0, 0, 0x7e⟩,
   ⟨0x7040, 1, 4, 1, .u8, 1, .rw, true, false, false, 255, 0, 255, 0x7e⟩,
   ⟨0x7040, 1, 5, 1, .dom, 48, .wo, true, false, false, 0, 0, 0, 0x7e⟩,
   ⟨0x7040, 1, 6, 1, .dom, 64, .wo, true, false, false, 0, 0, 0, 0x7e⟩,
   ⟨0x7040, 1, 7, 1, .u32, 4, .ro, true, false, false, 1, 0, 4294967295, 0x0⟩,
   ⟨0x7050, 1, 1, 8, .dom, 48, .rw, true, false, false, 0, 0, 0, 0x7e⟩,
   ⟨0x7100, 1, 0, 1, .u8, 1, .rw, true, false, false, 0, 0, 4, 0x7e⟩,
   ⟨0x7110, 1, 1, 1, .u8, 1, .rw, true, false, true, 31, 0, 31, 0x6⟩,
   ⟨0x7110, 1, 2, 1, .u16, 2, .rw, true, false, true, 64, 1, 65535, 0x6⟩,
   ⟨0x7110, 1, 3, 1, .u16, 2, .rw, true, false, true, 1000, 10, 60000, 0x6⟩,
   ⟨0x7110, 1, 4, 1, .u8, 1, .rw, true, false, true, 1, 0, 1, 0x6⟩,
   ⟨0x7110, 1, 5, 1, .u16, 2, .ro, true, false, false, 0, 0, 65535, 0x0⟩,
   ⟨0x7110, 1, 6, 1, .u64, 8, .ro, true, false, false, 0, 0, 18446744073709551615, 0x0⟩,
   ⟨0x7120, 1, 1, 16, .dom, 32, .ro, true, true, false, 0, 0, 0, 0x0⟩]

/-- Objects of chapter 15 (R516), part 2. -/
def objRowsSecurity2 : List ObjRow :=
  [
⟨0x7120, 1, 17, 1, .u8, 1, .ro, true, true, false, 0, 0, 255, 0x0⟩]

/-- Objects of chapter 15 (R516). -/
def objRowsSecurity : List ObjRow := objRowsSecurity1 ++ objRowsSecurity2

/-- Objects of chapter 16 (R539). -/
def objRowsEvents : List ObjRow :=
  [
⟨0x8000, 1, 1, 1, .u64, 8, .rw, false, false, false, 0, 0, 281474976710655, 0x6⟩,
   ⟨0x8000, 1, 2, 1, .u8, 1, .rw, false, false, false, 10, 8, 20, 0x6⟩,
   ⟨0x8000, 1, 3, 1, .u32, 4, .ro, false, false, false, 0, 0, 4294967295, 0x0⟩,
   ⟨0x8000, 1, 4, 1, .u32, 4, .rw, false, false, false, 0, 0, 4294967295, 0x3e⟩,
   ⟨0x8000, 1, 5, 1, .u8, 1, .rw, false, false, false, 0, 0, 1, 0x3e⟩,
   ⟨0x8001, 1, 1, 1, .u64, 8, .ro, false, false, false, 0, 0, 18446744073709551615, 0x0⟩,
   ⟨0x8001, 1, 2, 1, .u64, 8, .ro, false, false, false, 0, 0, 18446744073709551615, 0x0⟩,
   ⟨0x8001, 1, 3, 1, .u16, 2, .ro, false, false, false, 0, 0, 65535, 0x0⟩,
   ⟨0x8010, 1, 1, 15, .u16, 2, .rw, false, false, true, 65535, 0, 65535, 0x3e⟩,
   ⟨0x8011, 1, 1, 1, .u16, 2, .rw, false, false, true, 10, 0, 10000, 0x3e⟩,
   ⟨0x8012, 1, 1, 1, .u16, 2, .rw, false, false, true, 0, 0, 65535, 0x3e⟩,
   ⟨0x8012, 1, 2, 1, .u8, 1, .rw, false, false, true, 0, 0, 31, 0x3e⟩,
   ⟨0x8020, 1, 1, 1, .u32, 4, .rw, false, false, true, 500000, 16, 4294967295, 0x3e⟩,
   ⟨0x8021, 1, 1, 1, .u8, 1, .ro, false, false, false, 0, 0, 255, 0x0⟩,
   ⟨0x8021, 1, 2, 1, .u64, 8, .ro, false, false, false, 0, 0, 18446744073709551615, 0x0⟩,
   ⟨0x8021, 1, 3, 1, .u64, 8, .ro, false, false, false, 0, 0, 18446744073709551615, 0x0⟩,
   ⟨0x8021, 1, 4, 1, .u64, 8, .ro, false, false, false, 0, 0, 18446744073709551615, 0x0⟩,
   ⟨0x8021, 1, 5, 1, .u64, 8, .ro, false, false, false, 0, 0, 18446744073709551615, 0x0⟩]

/-- Objects of chapter 17 (R573), part 1. -/
def objRowsPower1 : List ObjRow :=
  [
⟨0x2030, 1, 1, 16, .dom, 16, .ro, false, true, false, 0, 0, 0, 0x0⟩,
   ⟨0x2030, 1, 17, 1, .u8, 1, .ro, false, true, false, 0, 0, 255, 0x0⟩,
   ⟨0x2100, 1, 1, 1, .u16, 2, .rw, false, false, true, 20, 1, 200, 0x3e⟩,
   ⟨0x2100, 1, 2, 1, .u16, 2, .rw, false, false, true, 20, 1, 200, 0x3e⟩,
   ⟨0x2100, 1, 3, 1, .u16, 2, .rw, false, false, true, 400, 0, 1800, 0x3e⟩,
   ⟨0x2100, 1, 4, 1, .u8, 1, .rw, false, false, true, 1, 0, 1, 0x3e⟩,
   ⟨0x2101, 1, 1, 1, .u16, 2, .ro, false, false, false, 0, 0, 65535, 0x0⟩,
   ⟨0x2101, 1, 2, 1, .u8, 1, .ro, false, false, false, 0, 0, 255, 0x0⟩,
   ⟨0x2101, 1, 3, 1, .u32, 4, .ro, false, false, false, 0, 0, 4294967295, 0x0⟩,
   ⟨0x2101, 1, 4, 1, .u16, 2, .ro, false, false, false, 0, 0, 65535, 0x0⟩,
   ⟨0x2101, 1, 5, 1, .u16, 2, .ro, false, false, false, 0, 0, 65535, 0x0⟩,
   ⟨0x2101, 1, 6, 1, .u16, 2, .ro, false, false, false, 0, 0, 65535, 0x0⟩,
   ⟨0x2101, 1, 7, 1, .u8, 1, .ro, false, false, false, 0, 0, 255, 0x0⟩,
   ⟨0x2110, 1, 1, 1, .u8, 1, .rw, false, false, false, 0, 0, 1, 0x4⟩,
   ⟨0x2120, 1, 1, 64, .u16, 2, .ro, false, false, false, 0, 0, 65535, 0x0⟩,
   ⟨0x2130, 1, 1, 4, .u16, 2, .ro, false, false, false, 750, 0, 65535, 0x0⟩,
   ⟨0x2130, 1, 5, 4, .u16, 2, .ro, false, false, false, 0, 0, 65535, 0x0⟩,
   ⟨0x2130, 1, 9, 1, .u16, 2, .ro, false, true, false, 0, 0, 65535, 0x0⟩,
   ⟨0x2150, 1, 1, 1, .i16, 2, .ro, false, false, false, 0, -32768, 32767, 0x0⟩,
   ⟨0x2150, 1, 2, 1, .u8, 1, .ro, false, false, false, 0, 0, 255, 0x0⟩,
   ⟨0x2150, 1, 3, 1, .u8, 1, .ro, false, false, false, 105, 0, 255, 0x0⟩,
   ⟨0x2151, 1, 1, 68, .i16, 2, .ro, false, false, false, 0, -32768, 32767, 0x0⟩,
   ⟨0x2160, 1, 1, 1, .u64, 8, .ro, false, false, false, 0, 0, 18446744073709551615, 0x0⟩,
   ⟨0x2160, 1, 2, 1, .u64, 8, .ro, false, false, false, 0, 0, 18446744073709551615, 0x0⟩,
   ⟨0x2160, 1, 3, 1, .u64, 8, .ro, false, false, false, 0, 0, 18446744073709551615, 0x0⟩,
   ⟨0x2160, 1, 4, 1, .u64, 8, .ro, false, false, false, 0, 0, 18446744073709551615, 0x0⟩,
   ⟨0x2160, 1, 5, 1, .u64, 8, .ro, false, false, false, 0, 0, 18446744073709551615, 0x0⟩,
   ⟨0x2200, 1, 1, 1, .u8, 1, .rw, false, false, false, 4, 0, 4, 0x3e⟩,
   ⟨0x2200, 1, 2, 1, .u64, 8, .wo, false, false, false, 0, 0, 18446744073709551615, 0xc⟩,
   ⟨0x2200, 1, 3, 1, .u8, 1, .rw, false, false, true, 4, 0, 4, 0xe⟩]

/-- Objects of chapter 17 (R573), part 2. -/
def objRowsPower2 : List ObjRow :=
  [
⟨0x2200, 1, 4, 1, .u8, 1, .ro, false, false, false, 4, 0, 255, 0x0⟩]

/-- Objects of chapter 17 (R573). -/
def objRowsPower : List ObjRow := objRowsPower1 ++ objRowsPower2

/-- Objects of chapter 18 (R592). -/
def objRowsStartup : List ObjRow :=
  [
⟨0x1011, 1, 1, 1, .u8, 1, .ro, false, true, false, 0, 0, 255, 0x0⟩,
   ⟨0x1011, 1, 2, 1, .u32, 4, .ro, false, true, false, 0, 0, 4294967295, 0x0⟩,
   ⟨0x1022, 1, 5, 1, .u8, 1, .ro, false, true, false, 255, 0, 255, 0x0⟩,
   ⟨0x2003, 1, 1, 1, .u8, 1, .rw, false, true, true, 3, 1, 3, 0x3f⟩,
   ⟨0x2003, 1, 2, 1, .u8, 1, .wo, true, false, false, 0, 1, 1, 0x3e⟩,
   ⟨0x2003, 1, 3, 1, .u8, 1, .ro, false, true, false, 1, 0, 255, 0x0⟩,
   ⟨0x2003, 1, 4, 1, .u32, 4, .ro, false, true, false, 0, 0, 4294967295, 0x0⟩,
   ⟨0x2003, 1, 5, 1, .u8, 1, .wo, true, false, false, 0, 1, 1, 0x1⟩,
   ⟨0x2004, 1, 1, 1, .u8, 1, .ro, false, true, false, 0, 0, 255, 0x0⟩,
   ⟨0x2004, 1, 2, 1, .u8, 1, .ro, false, false, false, 0, 0, 255, 0x0⟩,
   ⟨0x2004, 1, 3, 1, .u16, 2, .ro, false, false, false, 65535, 0, 65535, 0x0⟩,
   ⟨0x2004, 1, 4, 1, .u32, 4, .ro, false, true, false, 0, 0, 4294967295, 0x0⟩,
   ⟨0x2004, 1, 5, 1, .u16, 2, .ro, false, false, false, 0, 0, 65535, 0x0⟩]

/-- The whole dictionary (R487). -/
def objRows : List ObjRow :=
  objRowsPackage ++ objRowsArithmetic ++ objRowsEngines ++ objRowsLast ++ objRowsLace ++ objRowsMemory ++ objRowsCompression ++ objRowsLinks ++ objRowsFabric ++ objRowsServing ++ objRowsRouting ++ objRowsResidency ++ objRowsCores ++ objRowsRelum ++ objRowsSecurity ++ objRowsEvents ++ objRowsPower ++ objRowsStartup

/-- Key of an object in the tables of State: index × 256 + subindex. -/
def okey (i s : Nat) : Nat := i * 256 + s

/-- True where a row lists the entry. -/
def ObjRow.covers (r : ObjRow) (i s : Nat) : Bool :=
  r.idx ≤ i && i < r.idx + r.idxN && r.sub ≤ s && s < r.sub + r.subN

def findRow (i s : Nat) : Option ObjRow := objRows.find? (fun r => r.covers i s)

/-- The highest subindex listed for an index, `none` where no row lists the index (R463). -/
def topSub (i : Nat) : Option Nat :=
  objRows.foldl (fun a r => if r.idx ≤ i && i < r.idx + r.idxN then some (max (a.getD 0) (r.sub + r.subN - 1)) else a) none

/-- The Default of an entry (R483). The binding tables 0x3050 to 0x305f default to index − 1 (R157, R160). -/
def rowDefault (r : ObjRow) (i s : Nat) : Nat :=
  if 0x3050 ≤ i && i ≤ 0x305f then s - 1 else r.dflt

def defaultOf (i s : Nat) : Nat :=
  match findRow i s with
  | some r => rowDefault r i s
  | none => 0

end Sys2Proof.Machine
end

