-- ==== Sys2Proof/Machine/Arith.lean ====
section
/-! DEFINITION. The arithmetic of chapter 2 and of the VECT functions (03 R104, R105): binary32 values with one exact
rounding, S8 scales, block formats, requantisation, P16, rotation and its sign generator. Binary32 values are their 32
bits as a number. -/
namespace Sys2Proof.Machine

/-- RNE of an exact quotient to the nearest integer, ties to even. -/
def rneDiv (n d : Nat) : Nat :=
  let q := n / d
  let r := n % d
  if 2 * r > d then q + 1 else if 2 * r == d && q % 2 == 1 then q + 1 else q

/-- A positive rational n ÷ d rounded once to binary32 with RNE, subnormals kept, overflow to +infinity. -/
def rndPos (n d : Nat) : Nat :=
  if n = 0 then 0 else
  let e : Int := Int.ofNat n.log2 - Int.ofNat d.log2
  let ge : Bool := match e with
    | .ofNat k => decide (n ≥ d * 2 ^ k)
    | .negSucc k => decide (n * 2 ^ (k + 1) ≥ d)
  let fl : Int := if ge then e else e - 1
  let ulp : Int := max fl (-126) - 23
  let sig := match ulp with
    | .ofNat k => rneDiv n (d * 2 ^ k)
    | .negSucc k => rneDiv (n * 2 ^ (k + 1)) d
  let bits := if sig < 2 ^ 23 && ulp == -149 then sig else (ulp + 150).toNat * 2 ^ 23 + sig - 2 ^ 23
  if bits ≥ 0x7f800000 then 0x7f800000 else bits

def f32Sign (w : Nat) : Bool := fbit w 31
def f32Exp (w : Nat) : Nat := field w 23 8
def f32Man (w : Nat) : Nat := field w 0 23
def f32Nan (w : Nat) : Bool := f32Exp w == 255 && f32Man w != 0
def f32Inf (w : Nat) : Bool := f32Exp w == 255 && f32Man w == 0
def f32Fin (w : Nat) : Bool := f32Exp w != 255
def f32Neg (w : Nat) : Nat := w ^^^ 0x80000000
/-- The quiet NaN of R104. -/
def qNan : Nat := 0x7fc00000

/-- A finite binary32 value as an integer multiple of 2^−149. -/
def f32Int (w : Nat) : Int :=
  let m : Nat := if f32Exp w = 0 then f32Man w else (2 ^ 23 + f32Man w) * 2 ^ (f32Exp w - 1)
  if f32Sign w then - Int.ofNat m else Int.ofNat m

/-- An exact integer multiple of 2^−k rounded once to binary32; zero is +0.0. -/
def rndInt (z : Int) (k : Nat) : Nat :=
  if z < 0 then 0x80000000 + rndPos z.natAbs (2 ^ k) else rndPos z.natAbs (2 ^ k)

/-- Binary32 addition with one rounding; the NaN of R104 for invalid sums. A zero sum is −0.0 only for −0.0 + −0.0. -/
def f32Add (a b : Nat) : Nat :=
  if f32Nan a || f32Nan b then qNan
  else if f32Inf a then (if f32Inf b && f32Sign a != f32Sign b then qNan else a)
  else if f32Inf b then b
  else if a = 0x80000000 && b = 0x80000000 then 0x80000000
  else rndInt (f32Int a + f32Int b) 149

def f32Sub (a b : Nat) : Nat := if f32Nan b then qNan else f32Add a (f32Neg b)

def f32Mul (a b : Nat) : Nat :=
  let sg := if f32Sign a != f32Sign b then 0x80000000 else 0
  if f32Nan a || f32Nan b then qNan
  else if f32Inf a || f32Inf b then
    (if (f32Fin a && f32Int a == 0) || (f32Fin b && f32Int b == 0) then qNan else sg + 0x7f800000)
  else sg + rndPos ((f32Int a).natAbs * (f32Int b).natAbs) (2 ^ 298)

/-- Order of two binary32 values that are not NaN, −0.0 below +0.0 (R104, MAX and MIN). -/
def f32Le (a b : Nat) : Bool :=
  if f32Sign a then (if f32Sign b then decide (b ≤ a) else true)
  else (if f32Sign b then false else decide (a ≤ b))

def f32Max (a b : Nat) : Nat := if f32Nan a || f32Nan b then qNan else if f32Le a b then b else a
def f32Min (a b : Nat) : Nat := if f32Nan a || f32Nan b then qNan else if f32Le a b then a else b

/-- 1 ÷ x (R104). -/
def f32Recip (a : Nat) : Nat :=
  let sg := if f32Sign a then 0x80000000 else 0
  if f32Nan a then qNan
  else if f32Inf a then sg
  else if f32Int a = 0 then sg + 0x7f800000
  else sg + rndPos (2 ^ 149) (f32Int a).natAbs

/-- Integer square root, one result bit per step from bit `n − 1` down. -/
def isqrt (v : Nat) : Nat → Nat → Nat
  | 0, acc => acc
  | n + 1, acc => isqrt v n (if (acc + 2 ^ n) * (acc + 2 ^ n) ≤ v then acc + 2 ^ n else acc)

/-- 1 ÷ √x (R104). The root is taken with 300 fraction bits; a root that is not exact is placed strictly between its
neighbours, so the one rounding to binary32 is that of the exact value. -/
def f32Rsqrt (a : Nat) : Nat :=
  if f32Nan a then qNan
  else if f32Sign a then qNan
  else if f32Inf a then 0
  else if f32Int a = 0 then 0x7f800000
  else
    let m := (f32Int a).natAbs
    let v := 2 ^ (149 + 600) / m
    let r := isqrt v 400 0
    if r * r * m = 2 ^ (149 + 600) then rndPos r (2 ^ 300) else rndPos (2 * r + 1) (2 ^ 301)

/-- Fraction bits of the exponential series. -/
def expBits : Nat := 400

/-- Sum of `n` terms of the exponential series in fixed point, from term `t` of index `i`. -/
def expSeries (y : Nat) : Nat → Nat → Nat → Nat → Nat
  | 0, _, _, acc => acc
  | n + 1, i, t, acc =>
    let t' := t * y / ((i + 1) * 2 ^ expBits)
    expSeries y n (i + 1) t' (acc + t')

def sqRep : Nat → Nat → Nat
  | 0, e => e
  | n + 1, e => sqRep n (e * e / 2 ^ expBits)

/-- e^z × 2^400 for z = `m` × 2^−149 with 0 ≤ z ≤ 105, to a relative error below 2^−340. -/
def expFix (m : Nat) : Nat :=
  let y := m * 2 ^ (expBits - 149 - 10)
  sqRep 10 (expSeries y 90 0 (2 ^ expBits) (2 ^ expBits))

/-- e^z as a fraction for a finite x. -/
def expFrac (a : Nat) : Nat × Nat :=
  let m := (f32Int a).natAbs
  if f32Sign a then (2 ^ expBits, expFix m) else (expFix m, 2 ^ expBits)

def absAbove (a bound : Nat) : Bool := decide ((f32Int a).natAbs > bound * 2 ^ 149)

/-- e^x (R104). -/
def f32ExpF (a : Nat) : Nat :=
  if f32Nan a then qNan
  else if f32Inf a then (if f32Sign a then 0 else a)
  else if absAbove a 105 then (if f32Sign a then 0 else 0x7f800000)
  else let (n, d) := expFrac a; rndPos n d

/-- x ÷ (1 + e^−x) (R104); −infinity divides infinities and gives the NaN of an invalid operation. -/
def f32Silu (a : Nat) : Nat :=
  if f32Nan a then qNan
  else if f32Inf a then (if f32Sign a then qNan else a)
  else if f32Int a = 0 then a
  else if absAbove a 400 then (if f32Sign a then 0x80000000 else a)
  else
    let m := (f32Int a).natAbs
    let z := expFix (min m (105 * 2 ^ 149))
    let z := if m > 105 * 2 ^ 149 then z * expFix (min (m - 105 * 2 ^ 149) (105 * 2 ^ 149)) / 2 ^ expBits else z
    if f32Sign a then 0x80000000 + rndPos (m * 2 ^ expBits) ((2 ^ expBits + z) * 2 ^ 149)
    else rndPos (m * z) ((2 ^ expBits + z) * 2 ^ 149)

/-- tanh x (R104). -/
def f32Tanh (a : Nat) : Nat :=
  let sg := if f32Sign a then 0x80000000 else 0
  if f32Nan a then qNan
  else if f32Inf a then sg + 0x3f800000
  else if f32Int a = 0 then a
  else if absAbove a 40 then sg + 0x3f800000
  else
    let z := expFix (2 * (f32Int a).natAbs)
    sg + rndPos (z - 2 ^ expBits) (z + 2 ^ expBits)

/-- Pairwise sums of one tree level. -/
def treeLevel : List Nat → List Nat
  | a :: b :: r => f32Add a b :: treeLevel r
  | l => l

/-- The four-level tree over 16 lanes (02 R55, 03 R105). -/
def tree16 (l : List Nat) : Nat := (treeLevel (treeLevel (treeLevel (treeLevel l)))).headD 0

/-- One value added into lane `i` of 16. -/
def laneAdd (l : List Nat) (i x : Nat) : List Nat := l.modify i (fun y => f32Add y x)

def lanes0 : List Nat := List.replicate 16 0

/-- ROWSUM of one row (03 R105). -/
def rowSum (xs : List Nat) : Nat :=
  tree16 ((xs.zipIdx).foldl (fun l p => laneAdd l (p.2 % 16) p.1) lanes0)

/-- A value that passes unchanged, but for a NaN (R104). -/
def f32Copy (x : Nat) : Nat := if f32Nan x then qNan else x

/-- ROWMAX of one row (03 R104). -/
def rowMax (xs : List Nat) : Nat :=
  match xs with
  | [] => 0
  | x :: r => r.foldl f32Max (f32Copy x)

/-! ## Element formats (02 R36–R48) -/

/-- m and k of an S8 code (R43): its value is m × 2^k. -/
def s8m (c : Nat) : Nat := if c / 8 = 0 then c % 8 else 8 + c % 8
def s8k (c : Nat) : Int := if c / 8 = 0 then -17 else Int.ofNat (c / 8) - 18
/-- An S8 value in units of 2^−17. -/
def s8u (c : Nat) : Nat := if c / 8 = 0 then c % 8 else (8 + c % 8) * 2 ^ (c / 8 - 1)

/-- The five weights of a T1.6 byte (R39); an invalid byte gives five zeros (R40). -/
def t16Dec (v : Nat) : List Int :=
  if v ≥ 0xf3 then [0, 0, 0, 0, 0] else
    [v % 3, v / 3 % 3, v / 9 % 3, v / 27 % 3, v / 81 % 3].map (fun t => Int.ofNat t - 1)

def w2Int (c : Nat) : Int := 2 * Int.ofNat c - 3

/-- The 32 integers of a W2 block from its 8 bytes, a W4 block from 16 bytes, a byte block from 32 bytes (R41). -/
def w2Block (b : List Byte) : List Int :=
  b.flatMap (fun x => [w2Int (field x.toNat 0 2), w2Int (field x.toNat 2 2), w2Int (field x.toNat 4 2), w2Int (field x.toNat 6 2)])
def w4Block (b : List Byte) : List Int :=
  b.flatMap (fun x => [signed 4 (field x.toNat 0 4), signed 4 (field x.toNat 4 4)])
def i8Block (b : List Byte) : List Int := b.map (fun x => signed 8 x.toNat)

def pairs16 : List Byte → List Nat
  | lo :: hi :: r => (lo.toNat + 256 * hi.toNat) :: pairs16 r
  | _ => []

/-- High and low planes of an A16 block from its 64 bytes (R48). -/
def a16Hi (b : List Byte) : List Int := (pairs16 b).map (fun q => signed 8 (q / 256))
def a16Lo (b : List Byte) : List Int := (pairs16 b).map (fun q => Int.ofNat (q % 256))

/-- The exact block sum (R45). -/
def blockSum (w a : List Int) : Int := (List.zipWith (· * ·) w a).foldl (· + ·) 0

/-- RNE(lane + P) with P = S × m_W × m_A × 2^(k_W + k_A − h + 8p) (R53, R55). P is a multiple of 2^−35. -/
def promote (lane : Nat) (sum : Int) (cw ca h p : Nat) : Nat :=
  let z := sum * Int.ofNat (s8u cw * s8u ca * 2 ^ (1 - h) * 2 ^ (8 * p))
  rndInt (f32Int lane + z * 2 ^ (149 - 35)) 149

/-! ## Requantisation (R57–R60) -/

/-- The report of one requantised block (R60). -/
structure BlockRep where
  codes : List Int
  scale : Nat
  clips : Nat
  overflow : Bool
  nonfin : Nat
  deriving DecidableEq, Repr

/-- RNE(x ÷ s) with sign, for a finite x and an S8 scale in units of 2^−17. -/
def quantDiv (x su : Nat) : Int :=
  let q := rneDiv ((f32Int x).natAbs * 2 ^ 17) (su * 2 ^ 149)
  if f32Sign x then - Int.ofNat q else Int.ofNat q

/-- The smallest code from 0x01 to 0xfe with s × top × 32 ≥ amax × (32 − clip), if any. -/
def scaleFor (amax clip top : Nat) : Option Nat :=
  ((List.range 254).map (· + 1)).find? (fun c => s8u c * top * 32 * 2 ^ 132 ≥ amax * (32 - clip))

/-- Requantisation of one block of binary32 values with largest code `top` (127 for A8, 32,767 for A16 and P16). -/
def requantBlock (top clip : Nat) (xs : List Nat) : BlockRep :=
  let nonfin := (xs.filter (fun x => !f32Fin x)).length
  let amax := xs.foldl (fun m x => if f32Fin x then max m (f32Int x).natAbs else m) 0
  let (scale, ovf) := if amax = 0 then (0, false) else
    match scaleFor amax clip top with
    | some c => (c, false)
    | none => (0xfe, true)
  let one (x : Nat) : Int × Nat :=
    if !f32Fin x then (if f32Nan x then 0 else if f32Sign x then - Int.ofNat top else Int.ofNat top, 1)
    else if scale = 0 then (0, 0)
    else
      let v := quantDiv x (s8u scale)
      if v > Int.ofNat top then (Int.ofNat top, 1) else if v < - Int.ofNat top then (- Int.ofNat top, 1) else (v, 0)
  let r := xs.map one
  ⟨r.map (·.1), scale, r.foldl (fun n p => n + p.2) 0, ovf, nonfin⟩

def requantA8 (clip : Nat) (xs : List Nat) : BlockRep := requantBlock 127 clip xs
/-- R59: A16 and P16 follow R57 with 32,767 and α = 1. -/
def requantA16 (xs : List Nat) : BlockRep := requantBlock 32767 0 xs

/-- The binary32 value of a P16 mantissa with its scale (R66); code 0xff gives +0.0 (R613). -/
def p16Val (man : Int) (scale : Nat) : Nat :=
  if scale = 0xff then 0 else rndInt (man * Int.ofNat (s8u scale)) 17

/-- The binary32 value of an A8 code with its scale. -/
def a8Val (code : Int) (scale : Nat) : Nat := p16Val code scale

/-! ## Rotation (R61, R62) -/

/-- One stage of the rotation: pairs at distance `d` become sum and difference. A NaN has the bits that R104 gives a NaN of VECT, which
R61 does not say (DESIGN CHOICE, log entry 102). -/
def hadStage (d : Nat) (xs : List Nat) : List Nat :=
  let arr := xs.toArray
  (List.range xs.length).map (fun i =>
    if (i / d) % 2 = 0 then f32Add (arr.getD i 0) (arr.getD (i + d) 0) else f32Sub (arr.getD (i - d) 0) (arr.getD i 0))

def hadStages : Nat → Nat → List Nat → List Nat
  | 0, _, xs => xs
  | n + 1, d, xs => hadStages n (2 * d) (hadStage d xs)

/-- x × 2^−h rounded once. -/
def scaleDown (h x : Nat) : Nat := f32Mul x ((127 - h) * 2 ^ 23)

/-- R61 on one segment: signs, 2h stages, the factor 2^−h. `signs` holds true for −1. -/
def rotateSeg (h : Nat) (signs : List Bool) (xs : List Nat) : List Nat :=
  let ys := List.zipWith (fun x s => if s then f32Neg x else x) xs signs
  (hadStages (2 * h) 1 ys).map (scaleDown h)

/-- Ten rounds of Philox4x32 (R62). -/
def philoxRounds : Nat → Nat × Nat × Nat × Nat → Nat × Nat → Nat × Nat × Nat × Nat
  | 0, c, _ => c
  | n + 1, (c0, c1, c2, c3), (k0, k1) =>
    let p0 := 0xd2511f53 * c0
    let p1 := 0xcd9e8d57 * c2
    philoxRounds n ((p1 >>> 32) ^^^ c1 ^^^ k0, p1 % 2 ^ 32, (p0 >>> 32) ^^^ c3 ^^^ k1, p0 % 2 ^ 32)
      ((k0 + 0x9e3779b9) % 2 ^ 32, (k1 + 0xbb67ae85) % 2 ^ 32)

def philox (ctr : Nat × Nat × Nat × Nat) (k0 k1 : Nat) : Nat × Nat × Nat × Nat := philoxRounds 10 ctr (k0, k1)

/-- Sign index i of a rotation site (R62): true for −1. -/
def signBit (seed i : Nat) : Bool :=
  let (w0, w1, w2, w3) := philox (i / 128, 0, 0, 0) (seed % 2 ^ 32) (seed / 2 ^ 32)
  fbit ([w0, w1, w2, w3].getD (i % 128 / 32) 0) (i % 32)

def signVector (seed n : Nat) : List Bool := (List.range n).map (signBit seed)

/-- A sign vector bit-packed in n ÷ 8 bytes (R62). -/
def packSigns (seed n : Nat) : List Byte :=
  (List.range (n / 8)).map (fun i => BitVec.ofNat 8
    ((List.range 8).foldl (fun v b => v + (if signBit seed (8 * i + b) then 2 ^ b else 0)) 0))

/-- The signs of a packed vector. -/
def unpackSigns (l : List Byte) : List Bool := l.flatMap (fun b => (List.range 8).map (fbit b.toNat))

end Sys2Proof.Machine
end

