-- ==== Sys2Proof/Machine/State.lean ====
section
/-! DEFINITION. The state of one FN-IK4-384-A package: everything the spec gives it, as plain data, and its value right
after power-on reset. A `SMap` lists only entries that differ from the default its accessor names. -/
namespace Sys2Proof.Machine

/-! ## Events (chapter 16) -/

/-- An event record of 16 R524. -/
structure EvRec where
  code : Nat
  flags : Nat
  suppressed : Nat
  seq : Nat
  tick : Nat
  phase : Nat
  node : Nat
  payload : List Byte
  deriving DecidableEq, Repr

/-- The event machinery of 16 R526–R530 and the notifications of 14 R478. `supp` counts withheld occurrences by code,
`lastAt` holds 1 + the time of the last record by code (0 none), `msixAt` the same by vector. -/
structure Events where
  hold : List EvRec
  seq : Nat
  supp : SMap Nat
  lastAt : SMap Nat
  lossCount : Nat
  lossMask : Nat
  msixAt : SMap Nat
  msixHeld : List Nat
  meip : SMap Bool
  ibiEnabled : Bool
  ibiCode : Nat
  ibiCount : Nat
  ibiRequested : Bool
  ibiAt : Nat
  notifyCount : Nat
  deriving DecidableEq, Repr

/-! ## Relum (chapter 14) -/

/-- One of the 16 lock entries of 14 R479. -/
structure LockEntry where
  first : Nat
  last : Nat
  origin : Nat
  key : Nat
  expiry : Nat
  deriving DecidableEq, Repr

/-- A mailbox: keys 0 to 7 are local (14 R470), 8 is the host mailbox (14 R469). `waiting` holds the time at which a
remote request left and its sequence of request bytes, for the timeout of R470. -/
structure Mailbox where
  req : List Byte
  rsp : List Byte
  busy : Bool
  done : Bool
  overrun : Bool
  timeout : Bool
  owner : Option Hart
  sentAt : Option Nat
  deriving DecidableEq, Repr

def Mailbox.init : Mailbox := ⟨[], [], false, false, false, false, none, none⟩

/-- The last response kept for an origin, with the request that produced it (14 R465). -/
structure Kept where
  origin : Nat
  request : List Byte
  response : List Byte
  deriving DecidableEq, Repr

/-- The Relum object engine and its carriers. -/
structure Relum where
  locks : SMap LockEntry
  kept : List Kept
  boxes : SMap Mailbox
  i3cRsp : Option (List Byte)
  mwl : Nat
  mrl : Nat
  pstage : List Host.Cell
  deriving DecidableEq, Repr

/-! ## Device state, reset and bring-up (chapters 14 and 18) -/

/-- Device states of 14 R472. -/
inductive DevState where | keeper | standby | ready | running | draining | halted | alarm
  deriving DecidableEq, Repr

/-- The power sequences of 17 R567 and R568, at one of their steps; R567 step 5 counts as three. -/
inductive PowerSeq where
  | idle
  | up (step : Nat)
  | down (step : Nat)
  deriving DecidableEq, Repr

/-- Progress of secure boot (15 R500): none under way, waiting for the host's image (18 R578), secure firmware runs. -/
inductive BootPhase where
  | none
  | waitHost
  | firmware
  deriving DecidableEq, Repr

/-- Device state and its changes. `resetN` is true while RESET_N is asserted, `resetWait` while the keeper waits for its release
(18 R581), `perstN` once PERST_N is deasserted. `enable` and `powerGood` hold bit r for rail r of 17 R571. `seq` is the power
sequence that runs, `stepAt` the time its step began. `bootB` is the failure code of copy A where copy B booted, `resetEvent` the
cause of the last package reset and the state before it until event 0x2203, `nextReady` that auto-start writes READY in STANDBY
(R584). `dramTrained` says that training results are kept, `dramDone` that step 2 of R587 ended, `tablesVoid` that the next entry
into READY clears the object table, image entries and pool. `defects` are the physical clusters that fail the self-test of R587
with 1 + the failing pattern, by C-die × 20 + cluster: an input of the starting state. -/
structure Device where
  mode : DevState
  target : Option DevState
  armed : Bool
  prev : Option DevState
  aonUp : Bool
  aonAt : Nat
  straps : Straps
  lands : Straps
  strapsDue : Bool
  autoDone : Bool
  nextReady : Bool
  resetN : Bool
  resetWait : Bool
  perstN : Bool
  pcieUp : Bool
  linkAt : Nat
  seq : PowerSeq
  stepAt : Nat
  enable : Nat
  powerGood : Nat
  boot : BootPhase
  bootImage : List Byte
  bootB : Option Nat
  fwReady : Bool
  resetEvent : Option (Nat × Nat)
  dramTrained : Bool
  dramDone : Bool
  selfRefresh : Bool
  tablesVoid : Bool
  stagingHeld : Bool
  haltCause : Nat
  defects : SMap Nat
  deriving DecidableEq, Repr

/-! ## Security (chapter 15) -/

/-- A region of 15 R492. -/
structure Region where
  base : Nat
  limit : Nat
  attr : Nat
  deriving DecidableEq, Repr

def Region.init : Region := ⟨0, 0, 0⟩

/-- The security block. `slots` holds the 64 bytes of each loaded key slot (R501), `condUntil` the time until which the
condition of source 1 to 4 holds, `level` the highest level whose actions were carried out since entry into ALARM (R512). -/
structure Security where
  regions : SMap Region
  fuses : Fuses
  shadow : Fuses
  slots : SMap (List Byte)
  keyVal : Option (List Byte)
  salt : Option (List Byte)
  info : List Byte
  signers : SMap (List Byte)
  bootKey : Nat
  programming : Option (Nat × Nat)
  violations : Nat
  windowAt : Nat
  condUntil : SMap Nat
  level : Nat
  alarmsSince : Nat
  log : List (List Byte)
  hotClear : Bool
  dramKeyLost : Bool
  deriving DecidableEq, Repr

/-! ## Power and clocks (chapter 17) -/

/-- A change of operating point in progress (17 R546): its target, whether it raises, the groups whose set point is confirmed (bit
g), and whether the clock has switched. -/
structure FreqChange where
  point : Nat
  up : Bool
  voltsDone : Nat
  switched : Bool
  deriving DecidableEq, Repr

/-- Estimator, governor, sensors, trips and the power log. Powers are in mW. `units` counts the activity units since the
last estimate, `ballastNj` ballast energy in nJ not yet in object 0x2160.01, `offset` the offset term of R554, `restAt` and `busyAt`
the times of the last rest and of the last activity, `recent` the powers of the last 100 µs (newest first), `overLim` the
consecutive readings above the current limit, `hotSince` 1 + the time since which P_est lies above the limit without ballast, `railLost` a main rail lost since power-up (R569). -/
structure Power where
  opp : Nat
  change : Option FreqChange
  units : Nat
  ballastNj : Nat
  offset : Int
  pest : Nat
  stage : Nat
  restAt : Nat
  busyAt : Nat
  floor : Nat
  ballast : Nat
  power : Nat
  recent : List Nat
  preRamp : Bool
  overLim : Vec4
  hotSince : Nat
  thermtrip : Bool
  railLost : Bool
  log : List (List Byte)
  deriving DecidableEq, Repr

/-! ## Lace (chapter 5) -/

/-- Lace states of object 0x3012.01. -/
inductive LaceMode where | off | electing | acquiring | locked | holdover
  deriving DecidableEq, Repr

/-- A stretch vote (T, q, c) of 05 R178. -/
structure Vote where
  tick : Nat
  quanta : Nat
  cast : Nat
  deriving DecidableEq, Repr

/-- A flooded symbol that waits for its tick, or that was seen (05 R174, R184); `rcv` is the tick in which a waiting one was received. -/
structure Timed where
  type : Nat
  origin : Nat
  seq : Nat
  tick : Nat
  arg : Nat
  rcv : Nat
  deriving DecidableEq, Repr

/-- An arrival of a ROOT symbol: port, rank (priority, node), path latency to the root over that port, hops. -/
structure RootArr where
  port : Nat
  prio : Nat
  node : Nat
  lat : Nat
  hops : Nat
  deriving DecidableEq, Repr

/-- Lace (05 R162–R203). `ended` lists the ended ticks with their stretches, `cyc0` the lace cycle number of phase 0 of
the tick (08 R273), `faults` the ticks known as faulted, true where this package raised the fault, `masks` the received slot-mask updates,
`lastSyncAt` and `rootSyncAt` the engine cycle of the last SYNC from the parent and from the root, `aligned` whether the counter was set
by one, `goodSyncs` the consecutive SYNC intervals with a small phase error, `reelect` whether an election runs after the loss of the root. -/
structure Lace where
  mode : LaceMode
  tick : Nat
  phase : Nat
  best : Option (Nat × Nat)
  second : Option (Nat × Nat)
  betterAt : Nat
  arrivals : List RootArr
  root : Nat
  standby : Nat
  parent : Nat
  alt : Nat
  depth : Nat
  pathLat : Nat
  phaseErr : Int
  trim : Int
  goodSyncs : Nat
  lastSyncAt : Nat
  rootSyncAt : Nat
  syncSentAt : Nat
  tickLen : Nat
  q : Nat
  x : Nat
  v : Nat
  votes : List Vote
  forwarded : List Vote
  cast : Nat
  seen : List Timed
  nextSeq : SMap Nat
  timed : List Timed
  masks : List Timed
  ended : List (Nat × Nat)
  cyc0 : Nat
  faults : SMap Bool
  stopFrom : Option Nat
  faultTick : Option Nat
  fenced : Bool
  aligned : Bool
  reelect : Bool
  deriving DecidableEq, Repr

/-! ## Lasts, partitions and clusters (chapters 3 and 4) -/

/-- The node image of a loaded last (04 R118–R144), its entries kept as little-endian numbers. `ops` holds for each used
cluster its segment table and, for each core, its op words; `awl` the descriptors in the secBodys order; `reduce` the heads and
contributor words; `groupTab` the group bytes of each used cluster; `busy` the busy engine-cycles of each period tick (12 R428). -/
structure Image where
  lastId : Nat
  baseId : Nat
  partition : Nat
  oppoint : Nat
  tickLen : Nat
  period : Nat
  classO : Nat
  faultNode : Nat
  faultPorts : List Nat
  lnode : Nat
  stage : Nat
  clusterMap : List Nat
  portClass : List Nat
  ops : SMap (List Nat × List (List Nat))
  awl : List Nat
  xfer : List Nat
  arrive : List Nat
  lacePts : List Nat
  wake : List Nat
  windows : List Nat
  records : List Nat
  rotate : List Nat
  reduce : List (Nat × List Nat)
  groups : Nat
  slotsPer : Nat
  stages : List (List Byte)
  groupTab : SMap (List Nat)
  expert : List Nat
  objects : List Nat
  length : Nat
  maxUnits : Nat
  busy : List Nat
  deriving DecidableEq, Repr

/-- A last slot (04 R151): its image while loaded, the tiles it takes in each last store, the R limits in force when it
was loaded (04 R147), each listed object that was PINNED then, with its HOME_DIE (06 R227, R238), and the bit-packed sign vectors of its rotation
sites, keyed by RSITE (02 R62). -/
structure SlotSt where
  image : Option Image
  lastId : Nat
  loading : Bool
  rLimits : List Nat
  pinned : List (Nat × Nat)
  signs : SMap (List Byte)
  deriving DecidableEq, Repr

def SlotSt.init : SlotSt := ⟨none, 0, false, [], [], []⟩

/-- A load in progress (04 R151): slot, container address and the step that runs. -/
structure Loading where
  slot : Nat
  addr : Nat
  step : Nat
  deriving DecidableEq, Repr

/-- A partition at run time: active slot, T0, running its segments, faulted tick (16 R534). -/
structure PartRt where
  active : Option Nat
  t0 : Nat
  runs : Bool
  faultTick : Option Nat
  deriving DecidableEq, Repr

def PartRt.init : PartRt := ⟨none, 0, false, none⟩

/-- A hold of a cluster (04 R129): the core and bit it waits on first and the engine cycle it began in. -/
structure Hold where
  core : Nat
  bit : Nat
  since : Nat
  deriving DecidableEq, Repr

/-- A flag of a resole row (02 R69, R72): tick and cycle of its requantisation, source cluster, core and row, level, the
record it belongs to, its appliance slot where its row has one. -/
structure Flag where
  tick : Nat
  cycle : Nat
  lcl : Nat
  core : Nat
  row : Nat
  level : Nat
  record : Nat
  slot : Option Nat
  deriving DecidableEq, Repr

/-- The resole unit of a cluster (02 R72–R74): flags on the way, flags held in order, the open window (its index, remaining
budget, closing cluster time), the recomputation that runs with its end, and the flags left undone. -/
structure Resole where
  transit : List Flag
  flags : List Flag
  window : Option (Nat × Nat × Nat)
  work : Option (Flag × Nat × Nat)
  undone : List Flag
  deriving DecidableEq, Repr

def Resole.init : Resole := ⟨[], [], none, none, []⟩

/-- A logical cluster at run time. `passed` names the tick and schedule cycle whose waiters were all found set (R129);
`mask` is the slot mask (R141); `maskTick` the tick of its last MASK point plus 1; `maskAt` 1 + the engine cycle in which the mask last
changed and `maskOld` the mask before that cycle (03 R98); `waking` says that the wake-up of a sleeping
cluster runs, `lateAt` holds 1 + the engine cycle since which it should be awake, 0 none (17 R553); `epoch` numbers its
scratchpad contents (undefined after each change of it). -/
structure Cluster where
  sb : SMap Nat
  lag : Nat
  hold : Option Hold
  reported : Bool
  passed : Option (Nat × Nat)
  abandoned : Bool
  asleep : Bool
  waking : Bool
  lateAt : Nat
  mask : Nat
  maskTick : Nat
  maskAt : Nat
  maskOld : Nat
  rotBusy : Nat
  heldTot : Nat
  epoch : Nat
  resole : Resole
  deriving DecidableEq, Repr

def Cluster.init : Cluster :=
  ⟨[], 0, none, false, none, false, false, false, 0, 0, 0, 0, 0, 0, 0, 0, Resole.init⟩

/-! ## Cores (chapters 2 and 3) -/

/-- One requantised row of an operation (02 R60, R69): row, clipped elements, elements, a block that overflowed or held a
non-finite element, completion cycle counted from issue (03 R112), and the row's binary32 values. -/
structure RowRep where
  row : Nat
  clips : Nat
  elems : Nat
  severe : Bool
  doneAt : Nat
  values : List Nat
  deriving DecidableEq, Repr

/-- What an operation reports when it completes: the counts of R50, R40, R54, R56, R60 and its requantised rows. -/
structure OpResult where
  invScale : Nat
  mismatch : Nat
  badT16 : Nat
  badT16Addr : Nat
  badInit : Nat
  clipped : Nat
  nonfin : Nat
  rows : List RowRep
  deriving DecidableEq, Repr

/-- An operation in flight (03 R89, R110): stream position, op word, latched descriptors and row bits, the slots of its
rows' group, its tick and schedule cycle, the cluster time of its issue and that at which its last results become readable, the
weight units read so far from a ring (03 R92; of a completed consumer all of its units), the cluster time through which its
results are written (03 R97, R112), and the events of 02 R76 that it has raised. -/
structure InFlight where
  ix : Nat
  w : Word128
  descs : SMap Nat
  rows : Nat
  group : Nat
  tick : Nat
  cyc : Nat
  issued : Nat
  due : Nat
  units : List (List Byte)
  written : Nat
  told : List Nat
  deriving DecidableEq, Repr

/-- A core: its written operand descriptors (03 R88, R614), the cluster times until which the array and the vector path
are busy (R106), its operations in flight, the issues of resole consumers that recomputation uses (04 R147), the stream
position after the last op word of this tick, the positions whose op word failed its CHK in this tick (R109), whether event
0x3202 was raised in this tick (R117), and the addresses of recomputed rows that were not requantised since (02 R71). -/
structure CoreSt where
  descs : SMap Nat
  arrayBusy : Nat
  vecBusy : Nat
  flight : List InFlight
  latched : SMap InFlight
  pos : Nat
  bad : List Nat
  reported : Bool
  resoled : List Nat
  deriving DecidableEq, Repr

def CoreSt.init : CoreSt := ⟨[], 0, 0, [], [], 0, [], false, []⟩

/-! ## Memory (chapter 6) -/

/-- An entry of the object table (06 R220). -/
structure ObjEnt where
  id : Nat
  base : Nat
  length : Nat
  cls : Nat
  homeDie : Nat
  flags : Nat
  partition : Nat
  region : Nat
  state : Nat
  dramHome : Nat
  lastUse : Nat
  deriving DecidableEq, Repr

/-- A tile entry (06 R221). -/
structure Tile where
  copy : Bool
  dirty : Bool
  busy : Bool
  use : Nat
  die : Nat
  tile : Nat
  deriving DecidableEq, Repr

def Tile.init : Tile := ⟨false, false, false, 0, 0, 0⟩

/-- A migration of one tile (06 R231): object-space tile number, destination (none for a demotion), aborts so far, and
whether a class change asked for it. -/
structure Migration where
  tile : Nat
  dest : Option (Nat × Nat)
  aborts : Nat
  forClass : Bool
  deriving DecidableEq, Repr

/-- The object command that runs (06 R223): ring, bytes already moved, fabric lines not yet answered, STATUS of a failed
line (0 none). Its entry stands at the ring's head. -/
structure ObjCmd where
  ring : Nat
  pos : Nat
  lines : Nat
  fail : Nat
  deriving DecidableEq, Repr

/-- An awl descriptor in flight (06 R237–R243): index (0xffff unscheduled), 384-bit descriptor, engine cycle in which its bit
is set, poison, bytes it writes to scratchpad (window addresses) and to the memory side (R205 addresses), lace tick. -/
structure AwlFlight where
  ix : Nat
  desc : Nat
  due : Nat
  poison : Bool
  spWrites : List Host.Cell
  memWrites : List Host.Cell
  tick : Nat
  owner : Nat
  deriving DecidableEq, Repr

/-- A descriptor whose START has passed while its channel, or every stream, is occupied (06 R237): index, descriptor, channel S or D, first
latency and rate of its row (R238), and the bytes that it writes to scratchpad where its work is done already (a route step, 11 R382). -/
structure AwlLate where
  ix : Nat
  desc : Nat
  chanS : Bool
  lat : Nat
  rate : Nat
  cells : Option (List Host.Cell)
  deriving DecidableEq, Repr

/-- A reduction in progress (04 R135): its entry, next contributor, the binary32 row so far, the cluster time in which its
DONE_BIT is set. -/
structure Reduction where
  ix : Nat
  next : Nat
  row : List Nat
  doneAt : Nat
  deriving DecidableEq, Repr

/-- The awl of a cluster: cycles until which channel S and the streams of channel D are occupied, descriptors in flight,
reductions, the unscheduled queue (descriptor and submitting agent) (06 R233, R242), and the descriptors that start late, oldest first
(06 R237). -/
structure Awl where
  sBusy : Nat
  dBusy : List Nat
  flight : List AwlFlight
  reds : List Reduction
  queue : List (Nat × Nat)
  late : List AwlLate
  deriving DecidableEq, Repr

def Awl.init : Awl := ⟨0, [0, 0, 0, 0], [], [], [], []⟩

/-- Object space, the hot set and the command rings. `objs` is keyed by object-table slot, `tiles` by object-space address
÷ 16,384. `sweep` and `scrubAt` are the sweep and scrub pointers of each C-die; `upsets` the storage faults present:
granule address ÷ 32 of scratchpad window or stacked SRAM, or DRAM granule address ÷ 32, with its number of flipped bits.
`spadErrs` lists the physical cluster and time of recent uncorrectable scratchpad errors (01 R21). -/
structure MemSt where
  objs : SMap ObjEnt
  tiles : SMap Tile
  migs : List Migration
  cmd : Option ObjCmd
  nsTail : Nat
  sTail : Nat
  sweep : SMap Nat
  scrubAt : SMap Nat
  scrubTime : Nat
  upsets : SMap Nat
  spadErrs : List (Nat × Nat)
  deriving DecidableEq, Repr

/-! ## Compression (chapter 7) -/

/-- The mode-4 table in force (07 R257–R261): validity, map of codes, order, and the build in progress. -/
structure Codec where
  state : Nat
  smap : List Nat
  k : Nat
  building : Option (List Nat)
  deriving DecidableEq, Repr

/-! ## Kopitre links and storage ports (chapter 8) -/

/-- Port states of object 0x5100 + p, subindex 0x01. -/
inductive PortState where | down | training | up | lost | ethernet | disabled
  deriving DecidableEq, Repr

/-- A flit: KIND (1 to 5), LAST, its 128 body bytes, and the transfer it belongs to for a schedule flit (0 none). -/
structure Flit where
  kind : Nat
  last : Bool
  frac : Nat
  body : List Byte
  deriving DecidableEq, Repr

/-- A sequenced flit in the replay buffer (08 R280, R281) with the NAKs it has met. -/
structure Kept5 where
  seq : Nat
  flit : Flit
  naks : Nat
  deriving DecidableEq, Repr

/-- A transfer in the receive buffer (08 R274): its head, data received so far with the lace cycle in which each flit came, whether the
last flit came and when, the flits that have reached scratchpad, and whether its port was lost before its last flit (08 R288). -/
structure RxTransfer where
  head : Nat
  data : List Byte
  complete : Bool
  lastAt : Nat
  lcl : Nat
  discard : Bool
  came : List Nat
  landed : Nat
  lost : Bool
  deriving DecidableEq, Repr

/-- A transfer that the port sends (04 R133): entry index, start and end of its link slots (engine cycles), its data flits
still to queue. -/
structure TxTransfer where
  ix : Nat
  slotAt : Nat
  endAt : Nat
  data : List Flit
  deriving DecidableEq, Repr

/-- A lace flit in the pad of its port (08 R276): the engine cycle of its release, what its SYNC measures at that release in 1/8 cycle, its
symbols. -/
structure LacePad where
  due : Nat
  adj : Int
  words : List Word128
  deriving DecidableEq, Repr

/-- A port. Latencies are in 1/8 cycle at 1.0 GHz. `blocks` lists the last 64 received blocks, newest first (true good);
`badWin` the bad blocks and `winLen` the blocks of the running 2^20 window; `sched`, `mgmt`, `fab`, `lace`, `ctrl` are the
transmit queues of each kind; `recent` the kinds of the last 8 blocks sent; `turn` the fabric flits left in the turn of
R278; `busyUntil` the cycle in which the last transfer has left; `late` the transfers (entry index and entry) that start once the port is
free (04 R133); `pad` the lace flits held up to their release (R276); `downUntil` the time until which a lost port sends DOWN (R288);
`nakAt` 1 + the cycle in which a flit of a replay was found bad (R281), 0 none; `lastAck` 2^16 + the last sequence number an ACK covered;
`txScr` the 31 bits of the transmit scrambler (R268); `identIn`, `probeOut` and `rtts` what training has met: the peer's IDENT, a PROBE
under way, the round trips in 1/8 cycle, newest first (R283, R284); `req`, `constO`, `asymAt`, `badLimit` and `eth` (MAC, IPv4, IPv6 high
and low, PFC priority) the settings that the last training took (R301). -/
structure PortSt where
  state : PortState
  cls : Nat
  const : Nat
  fwd : Nat
  rtt : Nat
  margin : Int
  peerPhys : Nat
  peerLog : Nat
  peerPort : Nat
  peerTag : Nat
  cause : Nat
  trainStep : Nat
  failAt : Nat
  lock : Bool
  blocks : List Bool
  badWin : Nat
  winLen : Nat
  txSeq : Nat
  replay : List Kept5
  replayQ : List Kept5
  ackAt : Nat
  lastAck : Nat
  rxSeq : Nat
  discarding : Bool
  sinceAck : Nat
  ackSentAt : Nat
  lace : List Word128
  ctrl : List Word128
  sched : List Flit
  mgmt : List Flit
  fab : List Flit
  recent : List Nat
  turn : Nat
  fabCredit : Nat
  mgmtCredit : Nat
  fabRx : Nat
  mgmtRx : Nat
  busyUntil : Nat
  tx : List TxTransfer
  late : List (Nat × Nat)
  rx : List RxTransfer
  pad : List LacePad
  downUntil : Nat
  nakAt : Nat
  txScr : Nat
  identIn : Bool
  probeOut : Bool
  rtts : List Nat
  req : Nat
  constO : Nat
  asymAt : Int
  badLimit : Nat
  eth : List Nat
  asleep : Bool
  lateAt : Nat
  probeAt : Nat
  lateTick : Nat
  dropTick : Nat
  pfcUntil : Nat
  deriving DecidableEq, Repr

def PortSt.init : PortSt :=
  { state := .down, cls := 0, const := 0, fwd := 0, rtt := 0, margin := 0, peerPhys := 0xffff, peerLog := 0xffff,
    peerPort := 0xff, peerTag := 0, cause := 0, trainStep := 0, failAt := 0, lock := false, blocks := [], badWin := 0,
    winLen := 0, txSeq := 0, replay := [], replayQ := [], ackAt := 0, lastAck := 0, rxSeq := 0, discarding := false, sinceAck := 0,
    ackSentAt := 0, lace := [], ctrl := [], sched := [], mgmt := [], fab := [], recent := [], turn := 0,
    fabCredit := 512, mgmtCredit := 64, fabRx := 0, mgmtRx := 0, busyUntil := 0, tx := [], late := [], rx := [], pad := [],
    downUntil := 0, nakAt := 0, txScr := 0, identIn := false, probeOut := false, rtts := [], req := 0, constO := 0,
    asymAt := 0, badLimit := 64, eth := [], asleep := false,
    lateAt := 0, probeAt := 0, lateTick := 0, dropTick := 0, pfcUntil := 0 }

/-- A pull descriptor being served (08 R296–R298): the descriptor, bytes requested, bytes written, the fabric WRITEs not answered yet, and
its completion STATUS once it has ended (0 before). -/
structure Pull where
  desc : Nat
  asked : Nat
  written : Nat
  out : Nat
  status : Nat
  deriving DecidableEq, Repr

/-- A READ request outstanding: first PSN, packets, remote offset, bytes, bytes received, time sent. -/
structure RdReq where
  psn : Nat
  packets : Nat
  offset : Nat
  bytes : Nat
  got : Nat
  sentAt : Nat
  deriving DecidableEq, Repr

/-- A queue pair (08 R294, R295): state 0 reset, 1 ready, 2 error; its context while ready; held descriptors; requests
outstanding; next PSN to send and next PSN expected; retries used without progress; time of its last CNP. -/
structure QueuePair where
  state : Nat
  ctx : Nat
  pulls : List Pull
  reqs : List RdReq
  sendPsn : Nat
  recvPsn : Nat
  tries : Nat
  cnpAt : Nat
  deriving DecidableEq, Repr

def QueuePair.init : QueuePair := ⟨0, 0, [], [], 0, 0, 0, 0⟩

/-- The requester: queue pairs, the pull ring's tail, finished completions that wait for room (08 R300), and frames, each with its port, that
a PFC pause holds (R292). -/
structure Rdma where
  qps : SMap QueuePair
  tail : Nat
  held : List (List Byte)
  waiting : List (Nat × List Byte)
  deriving DecidableEq, Repr

/-! ## Fabric (chapter 9) -/

/-- What a fabric response is for: a control-core thread's register (08 R326, 13 R437), one of a core's posted WRITEs, the
serving engine's mirror write (10 R336), a forwarded pull write of a queue pair (08 R298), a word of an object command
(06 R225), a count add (11 R400), or nothing any more (13 R446). Of a load `off` is the fabric address. -/
inductive Sink where
  | reg (h : Hart) (rd bytes off : Nat) (sgn : Bool)
  | posted (h : Hart)
  | mirror
  | pull (qp bytes : Nat)
  | objCmd (dst : Nat)
  | host
  | discard
  deriving DecidableEq, Repr

/-- A fabric tag in use (09 R323): its request packet, what it is for, and when it was sent. -/
structure FabReq where
  pkt : List Byte
  sink : Sink
  sentAt : Nat
  deriving DecidableEq, Repr

/-- A combining group of a router (09 R318–R320): the output port that it waits on, the packet that travels for it, and its
members with their own packets, in order. -/
structure Group where
  port : Nat
  lead : List Byte
  members : List (List Byte)
  deriving DecidableEq, Repr

/-- A request on its way to an ordering point of this package (09 R316): its packet, the engine cycle and the input of the router in which it
came, and the link port that it came by. -/
structure InReq where
  pkt : List Byte
  cyc : Nat
  input : Nat
  port : Option Nat
  deriving DecidableEq, Repr

/-- The fabric: tags in use with their 2-bit generations, packets on their way inside the package (requests toward an
ordering point, responses toward a requester), requests that wait for a tag, requests held for a change of route,
route table and logical map, route writes not yet in effect, combining groups, rises of
each incarnation since VDD_AON rose by agent × 8 + thread, rises of all of them, index of the draws they start from. -/
structure Fabric where
  reqs : SMap FabReq
  gens : SMap Nat
  inside : List InReq
  answers : List (List Byte)
  stalled : List (Sink × List Byte)
  stallAt : Nat
  routes : SMap Nat
  pendRoutes : SMap Nat
  heldReqs : List (List Byte)
  lmap : SMap Nat
  groups : List Group
  inc : SMap Nat
  incAll : Nat
  incBase : Nat
  deriving DecidableEq, Repr

/-! ## Serving engine (chapter 10) -/

/-- An eyelet (10 R339), field by field. -/
structure Eyelet where
  handle : Nat
  seed : Nat
  promptAddr : Nat
  paramAddr : Nat
  grammarAddr : Nat
  promptLen : Nat
  pos : Nat
  tokenIndex : Nat
  maxTokens : Nat
  stopToken : Nat
  temp : Nat
  topP : Nat
  topK : Nat
  tenant : Nat
  prio : Nat
  state : Nat
  flags : Nat
  queue : Nat
  slot : Nat
  partition : Nat
  endStatus : Nat
  gstate : Nat
  ft : Nat
  bt : Nat
  commitTick : Nat
  lastSample : Nat
  commitSeq : Nat
  admitTick : Nat
  deriving DecidableEq, Repr

/-- The free eyelet (STATE 0, every byte 0). -/
def Eyelet.init : Eyelet :=
  ⟨0, 0, 0, 0, 0, 0, 0, 0, 0, 0, 0, 0, 0, 0, 0, 0, 0, 0, 0, 0, 0, 0, 0, 0, 0, 0, 0, 0⟩

/-- A step of the history of a slot (16 R535): sample tick, TOKEN_INDEX, GSTATE and token after it. -/
structure Hist where
  tick : Nat
  index : Nat
  gstate : Nat
  token : Nat
  deriving DecidableEq, Repr

/-- An appliance slot of the serving engine: the eyelet that holds it, SAMPLE points seen since the feed that awaits
sampling, the last sampled token, whether it was already fed, whether the sampler works on it, whether the awaited token will be
discarded (R377), 1 + the tick of a rewind that no REPLAY point followed yet (0 none), its history newest first, whether its request
ended for ADMIT points, 1 + the tick of the pass that cancelled it (0 none), and the priority that its charge counts (R360). -/
structure ServSlot where
  eyelet : Option Nat
  awaits : Option Nat
  lastTok : Nat
  fed : Bool
  busy : Bool
  discard : Bool
  replay : Nat
  hist : List Hist
  ended : Bool
  cancelAt : Nat
  prio : Nat
  deriving DecidableEq, Repr

def ServSlot.init : ServSlot := ⟨none, none, 0, true, false, false, 0, [], false, 0, 0⟩

/-- What a point sees of a slot (10 R352): eyelet, may be fed, ended, paused, its mask's effect tick. -/
structure SlotView where
  eyelet : Nat
  ended : Bool
  paused : Bool
  admitTick : Nat
  deriving DecidableEq, Repr

/-- A tenant (10 R357) with its engine-cycle count (12 R429). -/
structure Tenant where
  share : Nat
  vt : Nat
  engine : Nat
  deriving DecidableEq, Repr

def Tenant.init : Tenant := ⟨1, 0, 0⟩

/-- A submission queue with its completion ring's tail (10 R341–R350); `marks` are the commit indices at which flushes found words
committed and not consumed, oldest first, each with the epoch of the words below it (R346). -/
structure SubQ where
  commit : Nat
  consumed : Nat
  epoch : Nat
  tail : Nat
  marks : List (Nat × Nat)
  deriving DecidableEq, Repr

def SubQ.init : SubQ := ⟨0, 0, 0, 0, []⟩

/-- A slot as the standby manager received it (10 R336): eyelet, last sampled token, history newest first. -/
structure MSlot where
  eyelet : Nat
  lastTok : Nat
  hist : List Hist
  deriving DecidableEq, Repr

/-- A result of the sampler that no pass has applied yet (10 R351 step 1): slot, eyelet, token (none at a dead end), its token index,
sample tick, end status (0 goes on), tick of completion. -/
structure SampleRes where
  slot : Nat
  eyelet : Nat
  token : Option Nat
  index : Nat
  tick : Nat
  status : Nat
  doneTick : Nat
  deriving DecidableEq, Repr

/-- A SAMPLE point that the sampler serves or will serve (10 R367): partition, slot group, sample tick, cycle of completion,
the slots still to do. -/
structure SampleJob where
  partition : Nat
  group : Nat
  tick : Nat
  endAt : Nat
  slots : List Nat
  deriving DecidableEq, Repr

/-- The serving engine. `slots`, `view` and `viewOld` are keyed by partition × 65,536 + appliance slot; `view` is the slot state
left by the latest pass, `viewOld` that of the pass before; `passTick` is 1 + the tick of the latest pass. `held` are completions
that wait with their queue, `deads` the deadlines that are pending (due tick, eyelet, token index), `cancels` the eyelets named by
object 0x6030.01 since the last pass, `samplerBusy` the cycle until which the sampler is busy, `points` the lace points taken in
this tick. `mirror` lists the passes whose mirror writes are not complete, each with its writes, and `fence` says that the first of
them waits for its tick's write only; `mirrorTick` is the last tick whose mirror is complete; `mslots` is the slot state that this
package received as the standby, `passSlots` and `passTens` the slots and tenants as the latest pass left them. -/
structure Serving where
  eyelets : SMap Eyelet
  slots : SMap ServSlot
  view : SMap SlotView
  viewOld : SMap SlotView
  passTick : Nat
  tenants : SMap Tenant
  queues : SMap SubQ
  held : List (Nat × List Byte)
  deads : List (Nat × Nat × Nat)
  cancels : List Nat
  jobs : List SampleJob
  samplerBusy : Nat
  results : List SampleRes
  points : List (Nat × Nat)
  nextQueue : Nat
  commitSeq : Nat
  takeover : Option Nat
  mirrorTick : Nat
  mirror : List (Nat × List (Nat × List Byte))
  fence : Bool
  mslots : SMap MSlot
  passSlots : SMap ServSlot
  passTens : SMap Tenant
  deriving DecidableEq, Repr

/-! ## Routing (chapter 11) -/

/-- An armed revision of a partition (11 R395): GEN, effect tick, LAST_ID in force when it was armed. -/
structure Revision where
  gen : Nat
  tick : Nat
  lastId : Nat
  deriving DecidableEq, Repr

/-- Route plans: active bank by slot, armed revisions by partition, counts not yet added to their region (11 R400): address,
amount, tick of the step. -/
structure Routing where
  banks : SMap Nat
  revs : SMap Revision
  adds : List (Nat × Nat × Nat)
  deriving DecidableEq, Repr

/-! ## Images and partitions (chapter 12) -/

/-- A shard that this package owns (12 R407). -/
structure Shard where
  ix : Nat
  storeOff : Nat
  len : Nat
  obj : Nat
  off : Nat
  base : Nat
  digest : List Byte
  verified : Bool
  deriving DecidableEq, Repr

/-- An image entry (12 R412): objects with their manifest class and home die, shards owned, manifest digest and address. -/
structure ImgEnt where
  state : Nat
  residency : Nat
  imageId : Nat
  partition : Nat
  keyId : Nat
  digest : List Byte
  addr : Nat
  shards : List Shard
  objs : List (Nat × Nat × Nat)
  useTick : Nat
  deriving DecidableEq, Repr

def ImgEnt.init : ImgEnt := ⟨0, 0, 0, 0, 0, [], 0, [], [], 0⟩

/-- An image command that runs: entry, command, reason (0 success), detail, state that its end gives the entry. -/
structure ImgCmd where
  entry : Nat
  cmd : Nat
  reason : Nat
  detail : Nat
  final : Nat
  deriving DecidableEq, Repr

/-! ## Control cores (chapter 13) -/

/-- What a thread waits for (13 R435). -/
inductive Wait where | none | response | fence | awlQueue (desc : Nat) | tags | writes | wfi
  deriving DecidableEq, Repr

/-- A hardware thread: general registers, pc, parked or started, world, U mode instead of M mode, wait, FN_FCMP, FN_FSTAT, FN_TVEC,
its machine timer, the reservation of LR (the 8-byte word), and the last exception with its RISC-V cause and value. -/
structure HartSt where
  regs : SMap Nat
  pc : Nat
  live : Bool
  secure : Bool
  user : Bool
  wait : Wait
  fcmp : Nat
  fstat : Nat
  sticky : Bool
  tvec : Nat
  mtimecmp : Nat
  mtip : Bool
  resv : Option Nat
  trap : Option (Nat × Nat)
  deriving DecidableEq, Repr

/-- A control core: RUN (13 R448), cached lines by fabric address of the line (R441), unscheduled completions and poisoned
ones of FN_AWLDONE, machine external interrupt pending. -/
structure CtlCore where
  run : Bool
  cache : SMap (List Byte)
  done : Nat
  poisoned : Nat
  meip : Bool
  deriving DecidableEq, Repr

def CtlCore.init : CtlCore := ⟨false, [], 0, 0, false⟩

/-! ## What leaves the package -/

/-- A unit that the package puts out: a line block's payload on a Kopitre port, an Ethernet frame on a storage port, a
Relum response on a path, an abort or success of an object access, a PCIe posted write, an MSI-X message, I3C bytes, an I3C
NACK, an in-band interrupt, a level on a pin, an AVSBus set point, the data of an access that the model's sender made itself. -/
inductive OutMsg where
  | block (port : Nat) (control : Bool) (payload : List Byte) (lanes : List (List Nat))
  | frame (port : Nat) (data : List Byte)
  | response (path : Path) (data : List Byte)
  | status (code : Nat)
  | hostWrite (addr : Nat) (data : List Byte)
  | msix (vector : Nat)
  | i3c (data : List Byte)
  | i3cNack
  | ibi (data : List Byte)
  | pin (name : String) (level : Bool)
  | setPoint (group mv : Nat)
  | data (l : List Byte)
  deriving DecidableEq, Repr

/-! ## The state -/

/-- P16 blocks without a value that were converted in the present tick (02 R613, R76) on one path: for one reduction entry, one route step
(its index) or one SAMPLE point (its tick); logical cluster, slot group and partition of event 0x9006, and their number. -/
structure P16Bad where
  path : Nat
  entry : Nat
  lcl : Nat
  group : Nat
  part : Nat
  blocks : Nat
  deriving DecidableEq, Repr

/-- The package. `spadLog` is the model's own record of scratchpad writes beside operations in flight, newest first: the cluster time of
the write, its address and the byte before it. `p16Bad` waits for event 0x9006, `weltFlits` lists the welt flits that failed once (01
R26), `tickWrites` the places and lengths in memory that the last's work wrote in the present tick (05 R198).
`pending` is the queue of commands, first in first out. `now` counts units of 1/252 ns since power-on,
`cyc` engine cycles, `obj` holds the numeric object values that are no view of another field (key `okey`), `persist` the keeper's retention store (14 R484), `free` the model's own counter of free values. -/
structure State where
  pending : List Instr
  free : Nat
  now : Nat
  cyc : Nat
  out : List OutMsg
  mem : List Host.Cell
  spad : List Host.Cell
  spadLog : List (Nat × Nat × Byte)
  tickWrites : List (Nat × Nat)
  p16Bad : List P16Bad
  obj : SMap Nat
  persist : SMap Nat
  persistLost : Bool
  dev : Device
  events : Events
  recovery : SMap Nat
  relum : Relum
  sec : Security
  power : Power
  lace : Lace
  slots : SMap SlotSt
  loading : Option Loading
  parts : SMap PartRt
  clusters : SMap Cluster
  cores : SMap CoreSt
  welts : SMap Nat
  weltFlits : List (Nat × Nat)
  memSt : MemSt
  awls : SMap Awl
  codec : Codec
  ports : SMap PortSt
  rdma : Rdma
  fab : Fabric
  serving : Serving
  routing : Routing
  images : SMap ImgEnt
  imgCmd : Option ImgCmd
  imgCheck : Option (Nat × Nat)
  harts : SMap HartSt
  ctl : SMap CtlCore
  deriving DecidableEq, Repr

/-- Why a command stops the machine. No meaning of this model ends in one: every stop the spec describes is an outcome
that the package goes on from. -/
inductive Fault where
  /-- Raised by no meaning; safe. -/
  | none
  deriving DecidableEq, Repr

/-- Why a command has no meaning. -/
inductive Refusal where
  /-- An arm of `exec` without a meaning yet; safe. -/
  | notModelled (mnemonic : String)
  deriving DecidableEq, Repr

/-! ## Reset -/

/-- Fuses of a part on which nothing is programmed but DEBUG_LOCK, with FUSE_CRC right for them and every cluster healthy
(DESIGN CHOICE, log entry 10): a power-on with the fuses of a real part is the command POWER_ON_RESET. -/
def Fuses.blank : Fuses :=
  ⟨List.replicate 48 0, List.replicate 4 (List.replicate 48 0), 0, 0, 0, 1, 0x4bb7df13, 0, 0, List.replicate 16 0xfffff,
    [0, 0, 0, 0]⟩

/-- Cluster health at reset is the mask in fuses (18 R580): objects 0x2010.01 to .10, keyed index × 256 + subindex. -/
def healthObjs (f : Fuses) : SMap Nat :=
  ((List.range 16).map (fun d => (0x201001 + d, f.health.getD d 0))).filter (fun e => e.2 != 0)

def Straps.zero : Straps := ⟨0, 0, 0, 0⟩

def Device.init : Device :=
  { mode := .keeper, target := none, armed := false, prev := none, aonUp := true, aonAt := 0, straps := Straps.zero,
    lands := Straps.zero, strapsDue := true, autoDone := false, nextReady := false, resetN := false, resetWait := false,
    perstN := false, pcieUp := false, linkAt := 0, seq := .idle, stepAt := 0, enable := 0, powerGood := 2 ^ 10,
    boot := .none, bootImage := [], bootB := none, fwReady := false, resetEvent := none, dramTrained := false,
    dramDone := false, selfRefresh := false, tablesVoid := false, stagingHeld := false, haltCause := 0, defects := [] }

def Events.init : Events :=
  { hold := [], seq := 0, supp := [], lastAt := [], lossCount := 0, lossMask := 0, msixAt := [], msixHeld := [],
    meip := [], ibiEnabled := false, ibiCode := 0, ibiCount := 0, ibiRequested := false, ibiAt := 0, notifyCount := 0 }

def Relum.init : Relum := ⟨[], [], [], none, 80, 80, []⟩

def Security.init (f : Fuses) : Security :=
  { regions := [], fuses := f, shadow := f, slots := [], keyVal := none, salt := none, info := [], signers := [],
    bootKey := 0, programming := none, violations := 0, windowAt := 0, condUntil := [], level := 0, alarmsSince := 0,
    log := [], hotClear := false, dramKeyLost := false }

def Power.init : Power :=
  { opp := 4, change := none, units := 0, ballastNj := 0, offset := 0, pest := 0, stage := 0,
    restAt := 0, busyAt := 0, floor := 0, ballast := 0, power := 0, recent := [], preRamp := false,
    overLim := ⟨0, 0, 0, 0⟩, hotSince := 0, thermtrip := false, railLost := false, log := [] }

def Lace.init : Lace :=
  { mode := .off, tick := 0, phase := 0, best := none, second := none, betterAt := 0, arrivals := [], root := 0xffff,
    standby := 0xffff, parent := 0xff, alt := 0xff, depth := 0, pathLat := 0, phaseErr := 0, trim := 0, goodSyncs := 0,
    lastSyncAt := 0, rootSyncAt := 0, syncSentAt := 0, tickLen := 0, q := 0, x := 0, v := 0, votes := [],
    forwarded := [], cast := 0, seen := [], nextSeq := [], timed := [], masks := [], ended := [], cyc0 := 0,
    faults := [], stopFrom := none,
    faultTick := none, fenced := false, aligned := false, reelect := false }

def MemSt.init : MemSt := ⟨[], [], [], none, 0, 0, [], [], 0, [], []⟩

def Fabric.init : Fabric := ⟨[], [], [], [], [], 0, [], [], [], [], [], [], 0, 0⟩

def Serving.init : Serving :=
  { eyelets := [], slots := [], view := [], viewOld := [], passTick := 0, tenants := [], queues := [], held := [],
    deads := [], cancels := [], jobs := [], samplerBusy := 0, results := [], points := [], nextQueue := 0, commitSeq := 0,
    takeover := none, mirrorTick := 0, mirror := [], fence := false, mslots := [], passSlots := [], passTens := [] }

/-- A thread that is parked, non-secure, with its registers and vendor registers at 0 (13 R442, R443). The reset value of
mtimecmp is a DESIGN CHOICE (log entry 12). -/
def HartSt.init : HartSt := ⟨[], 0, false, false, false, .none, 0, 0, false, 0, 2 ^ 64 - 1, false, none, none⟩

/-- The package right after VDD_AON power-good (18 R584): KEEPER, every object at its default, no memory listed. Thread 0 of
supervisor core 0 is the one secure thread (13 R443); mhartid 2560 = 8 × 320. -/
def State.reset : State :=
  { pending := [], free := 0, now := 0, cyc := 0, out := [], mem := [], spad := [], spadLog := [], tickWrites := [], p16Bad := [], obj := healthObjs Fuses.blank, persist := [],
    persistLost := true, dev := Device.init, events := Events.init, recovery := [], relum := Relum.init,
    sec := Security.init Fuses.blank, power := Power.init, lace := Lace.init, slots := [], loading := none, parts := [],
    clusters := [], cores := [], welts := [], weltFlits := [], memSt := MemSt.init, awls := [], codec := ⟨0, [], 0, none⟩,
    ports := [], rdma := ⟨[], 0, [], []⟩, fab := Fabric.init, serving := Serving.init, routing := ⟨[], [], []⟩,
    images := [], imgCmd := none, imgCheck := none, harts := [(2560, { HartSt.init with secure := true })], ctl := [] }

end Sys2Proof.Machine
end

