-- ==== Sys2Proof/Machine/Operands.lean ====
section
/-! DEFINITION. Op words, operand descriptors and operand layouts (03 R86–R101), occupancies and latencies (R110, R112), and
the results of the tile operations (02 R35, 03 R93–R105) as functions of the scratchpad bytes they read. -/
namespace Sys2Proof.Machine

/-- One bit step of CRC-8, polynomial 0x07, most significant bit first (03 R87). -/
def crc8Bits : Nat → Nat → Nat
  | 0, c => c
  | n + 1, c => crc8Bits n (if c ≥ 128 then ((2 * c) ^^^ 0x07) % 256 else 2 * c)

/-- CRC-8 of 03 R87 over bytes in ascending address. -/
def crc8 (l : List Byte) : Nat := l.foldl (fun c b => crc8Bits 8 (c ^^^ b.toNat)) 0

/-- CHK of a 16-byte structure is right (R87, 05 R172). -/
def chkOk (w : Word128) : Bool := crc8 (leBytes 15 w.toNat) == field w.toNat 120 8

def wOpc (w : Word128) : Nat := field w.toNat 0 4
def wIssue (w : Word128) : Nat := field w.toNat 4 16
def wWaitEn (w : Word128) : Bool := fbit w.toNat 20
def wWaitBit (w : Word128) : Nat := field w.toNat 21 8

/-! ## Descriptors (R88, R90) -/

/-- A descriptor is kept as bits 119:33 of the SETDESC that wrote it. -/
def descOf (w : Word128) : Nat := w.toNat / 2 ^ 33 % 2 ^ 87
def dBase (d : Nat) : Nat := field d 0 16
def dSbase (d : Nat) : Nat := field d 16 16
def dStride (d : Nat) : Nat := field d 32 12
def dSstride (d : Nat) : Nat := field d 44 12
def dFmt (d : Nat) : Nat := field d 56 3
def dSlotEn (d : Nat) : Bool := fbit d 59
def dSlotBase (d : Nat) : Nat := field d 60 12
/-- RING and RING_BIT of a weight descriptor. -/
def dRing (d : Nat) : Nat := dStride d
def dRingBit (d : Nat) : Nat := dSstride d % 256

/-- A scratchpad byte address (R83), 16 bits. -/
def spAddr (a : Nat) : Nat := a % 65536

/-- `n` bytes from a scratchpad address. -/
def rdBytes (rd : Nat → Byte) (a n : Nat) : List Byte := (List.range n).map (fun i => rd (spAddr (a + i)))

def rdF32 (rd : Nat → Byte) (a : Nat) : Nat := leNat (rdBytes rd a 4)

/-- Address of element (m, n) of an F32 operand (R90). -/
def f32Addr (d m n : Nat) : Nat := dBase d + 32 * m * dStride d + 4 * n

/-- Codes of an activation block: one plane for A8, high and low planes for A16, with the weight of each plane (R48, R90). -/
def actPlanes (rd : Nat → Byte) (d m kb : Nat) : List (List Int × Nat) :=
  if dFmt d = 1 then
    let b := rdBytes rd (dBase d + 32 * (m * dStride d + 2 * kb)) 64
    [(a16Hi b, 1), (a16Lo b, 0)]
  else [(i8Block (rdBytes rd (dBase d + 32 * (m * dStride d + kb)) 32), 0)]

def actScale (rd : Nat → Byte) (d m kb : Nat) : Nat := (rd (spAddr (dSbase d + m * dSstride d + kb))).toNat

/-! ## Weight units (R91) -/

/-- Columns per engine: 2 for W2 and T1.6, 1 for W4 and W8. -/
def colsPer (fmt : Nat) : Nat := if fmt = 3 || fmt = 4 then 2 else 1
def unitCode (fmt : Nat) : Nat := if fmt = 4 then 1024 else if fmt = 6 then 512 else 256
def unitScale (fmt : Nat) : Nat := if fmt = 4 then 160 else if fmt = 3 then 32 else 16
def unitIx (fmt kbs s kb : Nat) : Nat := if fmt = 4 then s * (kbs / 5) + kb / 5 else s * kbs + kb

/-- Bytes of unit `u` of a weight operand in scratchpad, codes then scales (R91). -/
def readUnit (rd : Nat → Byte) (d u : Nat) : List Byte :=
  let v := if dRing d = 0 then u else u % dRing d
  rdBytes rd (dBase d + v * unitCode (dFmt d)) (unitCode (dFmt d)) ++
    rdBytes rd (dSbase d + v * unitScale (dFmt d)) (unitScale (dFmt d))

/-- The integers of block kb of the column at place `cu` of a unit. -/
def unitBlock (fmt : Nat) (u : List Byte) (cu kb : Nat) : List Int :=
  if fmt = 3 then w2Block (sub u (8 * cu) 8)
  else if fmt = 4 then
    ((((List.range 4).flatMap (fun q => sub u (256 * q + 8 * cu) 8)).flatMap (fun b => t16Dec b.toNat)).drop (32 * (kb % 5))).take 32
  else if fmt = 6 then i8Block (sub u (16 * cu) 16 ++ sub u (256 + 16 * cu) 16)
  else w4Block (sub u (16 * cu) 16)

def unitScaleCode (fmt : Nat) (u : List Byte) (cu kb : Nat) : Nat :=
  (u.getD (unitCode fmt + (if fmt = 4 then 32 * (kb % 5) + cu else cu)) 0).toNat

/-! ## MATMUL and PACKMM -/

/-- One problem of a multiplication: descriptors, N, and its place on the array (problem index and columns per set). -/
structure Problem where
  ix : Nat
  da : Nat
  dO : Nat
  db : Nat
  n : Nat
  width : Nat
  deriving DecidableEq, Repr

/-- The shape of MATMUL (R93) or PACKMM (R99). -/
structure Mm where
  packed : Bool
  dw : Nat
  m : Nat
  kb : Nat
  run : Nat
  init : Nat
  clip : Nat
  siteEn : Bool
  site : Nat
  probs : List Problem
  deriving DecidableEq, Repr

/-- The descriptors a multiplication names: activation, weight, output and, where INIT is not 0, initial value. -/
def mmUses (w : Word128) : List Nat :=
  let v := w.toNat
  if wOpc w = 2 then
    [field v 29 4, field v 33 4, field v 37 4] ++ (if field v 74 2 = 0 then [] else [field v 41 4])
  else
    let np := field v 29 2 + 1
    let r := List.range np
    r.map (field v 31 4 + ·) ++ [field v 35 4] ++ r.map (field v 39 4 + ·) ++
      (if field v 90 2 = 0 then [] else r.map (field v 43 4 + ·))

def mmOf (w : Word128) (descs : SMap Nat) : Mm :=
  let v := w.toNat
  let d (i : Nat) : Nat := (mfind descs i).getD 0
  if wOpc w = 2 then
    let dw := d (field v 33 4)
    ⟨false, dw, field v 45 7 + 1, field v 62 9 + 1, 2 ^ field v 71 3, field v 74 2, field v 76 4, fbit v 80, field v 81 8,
      [⟨0, d (field v 29 4), d (field v 37 4), d (field v 41 4), field v 52 10 + 1, 16 * colsPer (dFmt dw)⟩]⟩
  else
    let dw := d (field v 35 4)
    ⟨true, dw, field v 47 3 + 1, field v 50 9 + 1, 2 ^ field v 87 3, field v 90 2, field v 92 4, fbit v 96, field v 97 8,
      (List.range (field v 29 2 + 1)).map (fun p =>
        ⟨p, d (field v 31 4 + p), d (field v 39 4 + p), d (field v 43 4 + p), field v (59 + 7 * p) 7 + 1,
          4 * colsPer (dFmt dw)⟩)⟩

/-- Column sets of a problem, and of the whole operation (R95, R100). -/
def Problem.sets (p : Problem) : Nat := ceilDiv p.n p.width
def Mm.sets (a : Mm) : Nat := a.probs.foldl (fun s p => max s p.sets) 0
def Mm.fh (a : Mm) : Nat := if dFmt a.dw = 6 then 2 else 1
def Mm.fp (a : Mm) : Nat := match a.probs with | p :: _ => if dFmt p.da = 1 then 2 else 1 | [] => 1
/-- FMT of the outputs: 2 binary32, 0 A8, 1 A16. -/
def Mm.outFmt (a : Mm) : Nat := match a.probs with | p :: _ => dFmt p.dO | [] => 2
def Mm.standard (a : Mm) : Bool := !a.packed && decide (a.m ≥ 9)
def Mm.steps (a : Mm) : Nat := a.sets * a.kb * a.fh * a.fp
def Mm.occ (a : Mm) : Nat := a.m * a.steps

/-- Latency of a multiplication (R110). -/
def Mm.lat (a : Mm) : Nat :=
  if a.outFmt = 2 then a.occ + 16
  else if a.packed then a.occ + 21 + a.m * (a.probs.filter (fun p => p.sets = a.sets)).length
  else if a.standard then a.occ + 22 else a.occ + 21 + a.m

/-- Column set and place in a unit of column n of a problem (R91, R100). -/
def Problem.place (p : Problem) (packed : Bool) (n : Nat) : Nat × Nat :=
  (n / p.width, if packed then p.ix * p.width + n % p.width else n % p.width)

/-- Weight units of one column set, and of the operation, in order of first use. -/
def Mm.perSet (a : Mm) : Nat := if dFmt a.dw = 4 then a.kb / 5 else a.kb
def Mm.unitCount (a : Mm) : Nat := a.sets * a.perSet

/-- Array cycle, counted from issue, of a step (R95). -/
def Mm.cycle (a : Mm) (m s kb h p : Nat) : Nat :=
  if a.standard then (((m * a.sets + s) * a.kb + kb) * a.fh + h) * a.fp + p
  else (((s * a.kb + kb) * a.fh + h) * a.m + m) * a.fp + p

/-- Last array cycle of the elements of row `m` in column set `s`. -/
def Mm.lastCycle (a : Mm) (m s : Nat) : Nat := a.cycle m s (a.kb - 1) (a.fh - 1) (a.fp - 1)

/-- Array cycle in which the granule `g` of activation scales is first used: by any row of any problem (R96, log entry 11). -/
def Mm.scaleCycle (a : Mm) (g : Nat) : Nat :=
  (a.probs.flatMap (fun p => (List.range a.m).filterMap (fun i =>
    let row := dSbase p.da + i * dSstride p.da
    let k := 32 * g - row
    if row / 32 ≤ g && k < a.kb && (row + k) / 32 = g then some (a.cycle i 0 k 0 0) else none))).foldl min (a.cycle (a.m - 1) 0 (a.kb - 1) 0 0)

/-- Array cycle, counted from issue, of the first read from unit u (R95): its first step, row 0. -/
def Mm.unitCycle (a : Mm) (u : Nat) : Nat :=
  let step := (if dFmt a.dw = 4 then 5 * u else u) * a.fh * a.fp
  if a.standard then step else step * a.m

/-- Accumulator state of one output element: its lanes, and runs with an invalid scale or mismatched scales. -/
structure ElemAcc where
  lanes : List Nat
  inv : Nat
  mis : Nat
  deriving DecidableEq, Repr

/-- One narrow run: its blocks are (weight block, weight scale, activation planes, activation scale) (R49–R55). -/
def addRun (i : Nat) (h : Nat) (acc : ElemAcc) (blocks : List (List Int × Nat × List (List Int × Nat) × Nat)) : ElemAcc :=
  match blocks with
  | [] => acc
  | (_, cw, planes, ca) :: _ =>
    let mis := blocks.any (fun b => b.2.1 != cw || b.2.2.2 != ca)
    let inv := cw == 0xff || ca == 0xff
    let zero := inv || cw == 0 || ca == 0
    let sums := (List.range planes.length).map (fun q =>
      (blocks.foldl (fun t b => t + blockSum b.1 ((b.2.2.1.getD q ([], 0)).1)) (0 : Int), (planes.getD q ([], 0)).2))
    let lane := sums.foldl (fun x sp => promote x (if zero then 0 else sp.1) (if zero then 0 else cw) (if zero then 0 else ca) h sp.2)
      (acc.lanes.getD (i % 16) 0)
    ⟨acc.lanes.set (i % 16) lane, acc.inv + (if inv then 1 else 0), acc.mis + (if mis then 1 else 0)⟩

/-- A list cut into pieces of `k`. -/
def chunks {α : Type} (k : Nat) (l : List α) : List (List α) :=
  (List.range (ceilDiv l.length k)).map (fun i => (l.drop (i * k)).take k)

/-- The initial value of an element and 1 where it is not finite (R56). A bias counts once for each active element that uses it, which R56
leaves open (DESIGN CHOICE, log entry 103). -/
def initVal (rd : Nat → Byte) (a : Mm) (p : Problem) (m n : Nat) : Nat × Nat :=
  if a.init = 0 then (0, 0) else
    let x := rdF32 rd (f32Addr p.db (if a.init = 1 then 0 else m) n)
    if f32Fin x then (x, 0) else (0, 1)

/-- Output element n of a row whose activation blocks are `act` and `sc` and whose column set has the weight units `units`, as R53 to R59
define it, with its counts. -/
def mmElemOf (act : Nat → List (List Int × Nat)) (sc : Nat → Nat) (init : Nat × Nat) (units : List (List Byte)) (a : Mm)
    (p : Problem) (n : Nat) : Nat × ElemAcc × Nat :=
  let fmt := dFmt a.dw
  let cu := (p.place a.packed n).2
  let block (kb : Nat) : List Int × Nat × List (List Int × Nat) × Nat :=
    let u := units.getD (unitIx fmt a.kb 0 kb) []
    (unitBlock fmt u cu kb, unitScaleCode fmt u cu kb, act kb, sc kb)
  let runs := chunks a.run ((List.range a.kb).map block)
  let acc := (runs.zipIdx).foldl (fun acc r => addRun r.2 (if fmt = 3 then 1 else 0) acc r.1) ⟨lanes0, 0, 0⟩
  (f32Add init.1 (tree16 acc.lanes), acc, init.2)

/-- Scratchpad as an operation's reads meet it: the byte at an address in a cycle counted from issue. -/
abbrev RdAt := Nat → Nat → Byte

/-- Weight unit `u` without a ring: each line in the step that reads it, a scale granule in the first step that uses it (R91, R95, R96).
In the standard arrangement a row reads its lines anew; both planes of an A16 row take the line as the first of them reads it. -/
def unitAt (rd : RdAt) (a : Mm) (m u : Nat) : List Byte :=
  let f := dFmt a.dw
  let s := u / max 1 a.perSet
  let k := u % max 1 a.perSet
  let row := if a.standard then m else 0
  let step := fun (j : Nat) => if f = 4 then a.cycle row s (5 * k + j) 0 0 else a.cycle row s k (if f = 6 then j else 0) 0
  let first := fun (j : Nat) =>
    if f = 4 then a.cycle 0 s (5 * k + j / 32) 0 0
    else
      let v := if f = 3 then u else u - u % 2
      a.cycle 0 (v / max 1 a.perSet) (v % max 1 a.perSet) 0 0
  (List.range (unitCode f / 256)).flatMap (fun j => rdBytes (rd (step j)) (dBase a.dw + u * unitCode f + 256 * j) 256) ++
    (List.range (unitScale f)).map (fun j => rd (first j) (spAddr (dSbase a.dw + u * unitScale f + j)))

/-- Weight units of column set `s` for row `m`: those read so far from a ring, else as scratchpad holds them. -/
def Mm.setUnits (a : Mm) (rd : RdAt) (ring : List (List Byte)) (m s : Nat) : List (List Byte) :=
  if dRing a.dw = 0 then (List.range a.perSet).map (fun j => unitAt rd a m (s * a.perSet + j))
  else (ring.drop (s * a.perSet)).take a.perSet

/-- Output elements `lo` to `hi − 1` of row m of a problem, each operand as read in its own cycle (R96). -/
def mmElems (rd : RdAt) (ring : List (List Byte)) (a : Mm) (p : Problem) (m lo hi : Nat) : List (Nat × ElemAcc × Nat) :=
  (List.range p.sets).flatMap (fun s =>
    if hi ≤ s * p.width || (s + 1) * p.width ≤ lo then []
    else
      let us := a.setUnits rd ring m s
      let act := fun kb => actPlanes (rd (a.cycle m s kb 0 0)) p.da m kb
      let sc := fun kb => actScale (rd (a.scaleCycle ((dSbase p.da + m * dSstride p.da + kb) / 32))) p.da m kb
      (((List.range p.width).map (s * p.width + ·)).filter (fun n => lo ≤ n && n < min hi p.n)).map
        (fun n => mmElemOf act sc (initVal (rd (a.cycle m s 0 0 0)) a p m n) us a p n))

/-- Bytes of quantised blocks of an output row from block `b0` on: codes and scales at their places (R90). -/
def quantWrites (d m : Nat) (a16 : Bool) (b0 : Nat) (reps : List BlockRep) : List Host.Cell :=
  (reps.zipIdx b0).flatMap (fun (r, b) =>
    let codes := (r.codes.zipIdx).flatMap (fun (c, e) =>
      if a16 then
        let v := unsigned 16 c
        let o := dBase d + 32 * m * dStride d + 2 * (32 * b + e)
        [(spAddr o, BitVec.ofNat 8 v), (spAddr (o + 1), BitVec.ofNat 8 (v / 256))]
      else [(spAddr (dBase d + 32 * m * dStride d + 32 * b + e), BitVec.ofNat 8 (unsigned 8 c))])
    codes ++ [(spAddr (dSbase d + m * dSstride d + b), BitVec.ofNat 8 r.scale)])

/-- Bytes of binary32 elements of an output row from element `n0` on. -/
def f32Writes (d m n0 : Nat) (xs : List Nat) : List Host.Cell :=
  (xs.zipIdx n0).flatMap (fun (x, n) =>
    ((leBytes 4 x).zipIdx).map (fun (b, i) => (spAddr (f32Addr d m n + i), b)))

def requantRow (a16 : Bool) (clip : Nat) (xs : List Nat) : List BlockRep :=
  (chunks 32 xs).map (fun b => if a16 then requantA16 b else requantA8 clip b)

def rowRepOf (row doneAt : Nat) (xs : List Nat) (reps : List BlockRep) : RowRep :=
  ⟨row, reps.foldl (fun c r => c + r.clips) 0, xs.length, reps.any (fun r => r.overflow || r.nonfin != 0), doneAt, xs⟩

def OpResult.empty : OpResult := ⟨0, 0, 0, 0, 0, 0, 0, []⟩

def OpResult.join (a b : OpResult) : OpResult :=
  ⟨a.invScale + b.invScale, a.mismatch + b.mismatch, a.badT16 + b.badT16,
    if a.badT16 = 0 then b.badT16Addr else a.badT16Addr, a.badInit + b.badInit, a.clipped + b.clipped,
    a.nonfin + b.nonfin, a.rows ++ b.rows⟩

/-- Cycle, counted from issue, in which block `b` of row m of a problem enters the requantiser (R112). -/
def Mm.enters (a : Mm) (p : Problem) (m b : Nat) : Nat :=
  let s := min (p.sets - 1) ((32 * b + 31) / p.width)
  if a.standard then a.lastCycle m s + 17
  else
    let per := max 1 (p.width / 32)
    let ahead := (a.probs.filter (fun q => q.ix < p.ix && s < q.sets && (q.sets - 1 == s || (s + 1) * q.width % 32 == 0))).length
    (s + 1) * a.kb * a.fh * a.fp * a.m - 1 + 17 + (ahead * a.m + m) * per + b % per

/-- Cycle in which the last block of row m of a problem leaves the requantiser (R112). -/
def Mm.rowDone (a : Mm) (p : Problem) (m : Nat) : Nat := a.enters p m (p.n / 32 - 1) + 5

/-! ### When results are readable (R97, R110, R112) -/

/-- A part of an operation's output that is written at one time: problem, row, columns `lo` to `hi − 1`, and the cycle, counted from
issue, from which on it is readable. -/
structure Piece where
  prob : Nat
  row : Nat
  lo : Nat
  hi : Nat
  at' : Nat
  deriving DecidableEq, Repr

/-- Parts of a multiplication's output: a column set of a row of binary32 elements 17 cycles after its last array cycle, a quantised
block the cycle after it leaves the requantiser. -/
def Mm.pieces (a : Mm) : List Piece :=
  a.probs.flatMap (fun p => (List.range a.m).flatMap (fun m =>
    if dFmt p.dO = 2 then
      (List.range p.sets).map (fun s => ⟨p.ix, m, s * p.width, min p.n ((s + 1) * p.width), a.lastCycle m s + 17⟩)
    else (List.range (p.n / 32)).map (fun b => ⟨p.ix, m, 32 * b, 32 * b + 32, a.enters p m b + 6⟩)))

/-- The bytes of a part of a multiplication's output. -/
def mmPiece (rd : RdAt) (ring : List (List Byte)) (a : Mm) (x : Piece) : List Host.Cell :=
  match a.probs.find? (fun p => p.ix == x.prob) with
  | none => []
  | some p =>
    let xs := (mmElems rd ring a p x.row x.lo x.hi).map (·.1)
    if dFmt p.dO = 2 then f32Writes p.dO x.row x.lo xs
    else
      let a16 := dFmt p.dO = 1
      quantWrites p.dO x.row a16 (x.lo / 32) (requantRow a16 a.clip xs)

/-- The reports of one row of a multiplication (R97). Row `ix × M + m` numbers the rows of all problems. -/
def mmRow (rd : RdAt) (ring : List (List Byte)) (a : Mm) (p : Problem) (m : Nat) : OpResult :=
  let es := mmElems rd ring a p m 0 p.n
  let xs := es.map (·.1)
  let inv := es.foldl (fun t e => t + e.2.1.inv) 0
  let mis := es.foldl (fun t e => t + e.2.1.mis) 0
  let bad := es.foldl (fun t e => t + e.2.2) 0
  if dFmt p.dO = 2 then ⟨inv, mis, 0, 0, bad, 0, 0, []⟩
  else
    let reps := requantRow (dFmt p.dO = 1) a.clip xs
    ⟨inv, mis, 0, 0, bad, reps.foldl (fun c r => c + r.clips) 0,
      reps.foldl (fun c r => c + r.nonfin) 0, [rowRepOf (p.ix * a.m + m) (a.rowDone p m) xs reps]⟩

/-- Invalid T1.6 bytes of the columns that the operation computes, each once, with the scratchpad address of the first (R40). -/
def mmBadT16 (units : List (List Byte)) (a : Mm) : Nat × Nat :=
  if dFmt a.dw != 4 then (0, 0) else
    let cols (s : Nat) : List Nat :=
      a.probs.flatMap (fun p => ((List.range p.width).filter (fun c => s * p.width + c < p.n)).map
        (fun c => if a.packed then p.ix * p.width + c else c))
    let bad := ((units.zipIdx).flatMap (fun (u, i) =>
      let cs := cols (i / (a.kb / 5))
      ((u.take 1024).zipIdx).filterMap (fun (b, o) =>
        if b.toNat ≥ 0xf3 && cs.contains (o % 256 / 8) then some (i, o) else none)))
    (bad.length, match bad with
      | [] => 0
      | (i, o) :: _ => spAddr (dBase a.dw + (if dRing a.dw = 0 then i else i % dRing a.dw) * 1024 + o))

/-- The reports of a multiplication whose rows with a set bit in `rows` are active (R98). -/
def mmResult (rd : RdAt) (ring : List (List Byte)) (a : Mm) (rows : Nat) : OpResult :=
  let parts := a.probs.flatMap (fun p =>
    ((List.range a.m).filter (fun m => fbit rows (p.ix * a.m + m))).map (mmRow rd ring a p))
  let r := parts.foldl OpResult.join OpResult.empty
  let (n, ad) := mmBadT16 ((List.range a.sets).flatMap (a.setUnits rd ring 0)) a
  { r with badT16 := n, badT16Addr := ad }

/-! ## REQUANT, ROTATE and VECT (R101–R105) -/

/-- Rows, columns, source, destination of REQUANT, ROTATE and VECT; `dy` is the second operand of VECT. -/
structure RowOp where
  m : Nat
  n : Nat
  dx : Nat
  dy : Nat
  dz : Nat
  deriving DecidableEq, Repr

def vectFn (w : Word128) : Nat := field w.toNat 41 4
def rotSize (w : Word128) : Nat := field w.toNat 44 3
/-- n = 4^(SIZE + 3) and h = SIZE + 3 (R61, R101). -/
def rotN (w : Word128) : Nat := 4 ^ (rotSize w + 3)
def rotH (w : Word128) : Nat := rotSize w + 3

def rowOpOf (w : Word128) (descs : SMap Nat) : RowOp :=
  let v := w.toNat
  let d (i : Nat) : Nat := (mfind descs i).getD 0
  if wOpc w = 4 then ⟨field v 37 7 + 1, field v 44 12 + 1, d (field v 29 4), 0, d (field v 33 4)⟩
  else if wOpc w = 5 then ⟨field v 37 7 + 1, rotN w * (field v 47 8 + 1), d (field v 29 4), 0, d (field v 33 4)⟩
  else ⟨field v 47 7 + 1, field v 54 12 + 1, d (field v 29 4), d (field v 33 4), d (field v 37 4)⟩

def vectBinary (fn : Nat) : Bool := fn < 5
def vectSlow (fn : Nat) : Bool := 5 ≤ fn && fn ≤ 9

/-- The descriptors an op word uses (R614). -/
def opUses (w : Word128) : List Nat :=
  let v := w.toNat
  match wOpc w with
  | 2 => mmUses w
  | 3 => mmUses w
  | 4 => [field v 29 4, field v 33 4]
  | 5 => [field v 29 4, field v 33 4]
  | 6 => [field v 29 4] ++ (if vectBinary (vectFn w) then [field v 33 4] else []) ++ [field v 37 4]
  | _ => []

/-- Elements of REQUANT, VECT and ROTATE read in one cycle (R104, R110, R112): REQUANT and the fast functions 32, the slow ones 16;
ROTATE takes its rows when it issues (log entry 30). -/
def perCycle (w : Word128) : Nat := if wOpc w = 6 && vectSlow (vectFn w) then 16 else 32

/-- The cycle, counted from issue, in which element (m, n) of X and of Y is read. -/
def rowCycle (w : Word128) (a : RowOp) (m n : Nat) : Nat :=
  if wOpc w = 5 then 0 else m * ceilDiv a.n (perCycle w) + n / perCycle w

/-- Elements `lo` to `hi − 1` of row m of X. -/
def rdRow (rd : RdAt) (w : Word128) (a : RowOp) (m lo hi : Nat) : List Nat :=
  ((List.range (hi - lo)).map (lo + ·)).map (fun n => rdF32 (rd (rowCycle w a m n)) (f32Addr a.dx m n))

/-- Element (m, n) of the second operand under BMODE (R103). -/
def vectY (rd : Nat → Byte) (w : Word128) (a : RowOp) (m n : Nat) : Nat :=
  match field w.toNat 45 2 with
  | 0 => rdF32 rd (f32Addr a.dy m n)
  | 1 => rdF32 rd (f32Addr a.dy 0 n)
  | _ => rdF32 rd (f32Addr a.dy 0 0)

/-- The VECT function of a row (R104). -/
def vectRow (fn : Nat) (xs ys : List Nat) : List Nat :=
  match fn with
  | 0 => List.zipWith f32Add xs ys
  | 1 => List.zipWith f32Sub xs ys
  | 2 => List.zipWith f32Mul xs ys
  | 3 => List.zipWith f32Max xs ys
  | 4 => List.zipWith f32Min xs ys
  | 5 => xs.map f32ExpF
  | 6 => xs.map f32Recip
  | 7 => xs.map f32Rsqrt
  | 8 => xs.map f32Silu
  | 9 => xs.map f32Tanh
  | 10 => [rowSum xs]
  | 11 => [rowMax xs]
  | _ => xs.map f32Copy

/-- A VECT function that reduces a row to one element. -/
def vectReduces (w : Word128) : Bool := wOpc w == 6 && (vectFn w == 10 || vectFn w == 11)

/-- Parts of the output of REQUANT, ROTATE and VECT: a block the cycle after it leaves the requantiser, the elements of one cycle of
VECT 9 cycles after their read, a reduced row by its function's latency, a rotation when its latency has passed (R110, R112). -/
def rowPieces (w : Word128) (a : RowOp) : List Piece :=
  let k := perCycle w
  let per := ceilDiv a.n k
  let lat := if wOpc w = 4 then 7 else if vectFn w = 10 then 15 else 9
  (List.range a.m).flatMap (fun m =>
    if wOpc w = 5 then [⟨0, m, 0, a.n, a.m * (field w.toNat 47 8 + 1) * max 1 (rotN w / 256) * (2 * rotH w) + 48⟩]
    else if vectReduces w then [⟨0, m, 0, a.n, (m + 1) * per - 1 + lat⟩]
    else (List.range per).map (fun j => ⟨0, m, k * j, min a.n (k * j + k), m * per + j + lat⟩))

/-- The bytes of a part of such an output; `signs` is the sign vector of a rotation. -/
def rowPiece (rd : RdAt) (w : Word128) (signs : List Bool) (a : RowOp) (x : Piece) : List Host.Cell :=
  let xs := rdRow rd w a x.row x.lo x.hi
  match wOpc w with
  | 4 =>
    let a16 := dFmt a.dz = 1
    quantWrites a.dz x.row a16 (x.lo / 32) (requantRow a16 (field w.toNat 56 4) xs)
  | 5 => f32Writes a.dz x.row 0 ((chunks (rotN w) xs).flatMap (rotateSeg (rotH w) signs))
  | _ =>
    let ys := ((List.range (x.hi - x.lo)).map (x.lo + ·)).map (fun n => vectY (rd (rowCycle w a x.row n)) w a x.row n)
    f32Writes a.dz x.row x.lo (vectRow (vectFn w) xs ys)

/-- The reports of one row of REQUANT; the others make none. -/
def rowReport (rd : RdAt) (w : Word128) (a : RowOp) (m : Nat) : OpResult :=
  if wOpc w = 4 then
    let xs := rdRow rd w a m 0 a.n
    let reps := requantRow (dFmt a.dz = 1) (field w.toNat 56 4) xs
    ⟨0, 0, 0, 0, 0, reps.foldl (fun c r => c + r.clips) 0,
      reps.foldl (fun c r => c + r.nonfin) 0, [rowRepOf m ((m + 1) * (a.n / 32) - 1 + 6) xs reps]⟩
  else OpResult.empty

def rowOpResult (rd : RdAt) (w : Word128) (a : RowOp) (rows : Nat) : OpResult :=
  (((List.range a.m).filter (fbit rows)).map (rowReport rd w a)).foldl OpResult.join OpResult.empty

/-! ## Bytes that an op word reads -/

/-- Scratchpad ranges of the weight unit `u` (R91). -/
def unitReads (d u : Nat) : List (Nat × Nat) :=
  let v := if dRing d = 0 then u else u % dRing d
  [(dBase d + v * unitCode (dFmt d), unitCode (dFmt d)), (dSbase d + v * unitScale (dFmt d), unitScale (dFmt d))]

/-- Scratchpad ranges (address, bytes) that an op word reads for its active rows, ring weights aside. -/
def opReads (w : Word128) (descs : SMap Nat) (rows : Nat) : List (Nat × Nat) :=
  if wOpc w = 2 || wOpc w = 3 then
    let a := mmOf w descs
    (if dRing a.dw = 0 then (List.range a.unitCount).flatMap (unitReads a.dw) else []) ++
      a.probs.flatMap (fun p => ((List.range a.m).filter (fun m => fbit rows (p.ix * a.m + m))).flatMap (fun m =>
        let blk := if dFmt p.da = 1 then 64 else 32
        [(dBase p.da + 32 * m * dStride p.da, blk * a.kb), (dSbase p.da + m * dSstride p.da, a.kb)] ++
          (if a.init = 0 then [] else [(f32Addr p.db (if a.init = 1 then 0 else m) 0, 4 * p.n)])))
  else
    let a := rowOpOf w descs
    ((List.range a.m).filter (fbit rows)).flatMap (fun m =>
      (f32Addr a.dx m 0, 4 * a.n) ::
        (if wOpc w = 6 && vectBinary (vectFn w) then
          match field w.toNat 45 2 with
          | 0 => [(f32Addr a.dy m 0, 4 * a.n)]
          | 1 => [(f32Addr a.dy 0 0, 4 * a.n)]
          | _ => [(f32Addr a.dy 0 0, 4)]
        else []))

/-! ## Occupancy and latency of any op word (R110) -/

/-- Occupancy O. -/
def opOcc (w : Word128) (descs : SMap Nat) : Nat :=
  let a := rowOpOf w descs
  match wOpc w with
  | 2 => (mmOf w descs).occ
  | 3 => (mmOf w descs).occ
  | 4 => a.m * a.n / 32
  | 5 => a.m * (field w.toNat 47 8 + 1) * max 1 (rotN w / 256) * (2 * rotH w)
  | 6 => if vectSlow (vectFn w) then a.m * ceilDiv a.n 16 else a.m * ceilDiv a.n 32
  | _ => 1

/-- Latency L. -/
def opLat (w : Word128) (descs : SMap Nat) : Nat :=
  match wOpc w with
  | 2 => (mmOf w descs).lat
  | 3 => (mmOf w descs).lat
  | 4 => opOcc w descs + 6
  | 5 => opOcc w descs + 48
  | 6 => opOcc w descs + (if vectFn w = 10 then 14 else 8)
  | _ => 1

/-- Activity units of an op word (R113): 12 per array cycle at W4 and W8, 16 at W2 and T1.6. -/
def opUnits (w : Word128) (descs : SMap Nat) : Nat :=
  if wOpc w = 2 || wOpc w = 3 then
    let a := mmOf w descs
    a.occ * (if colsPer (dFmt a.dw) = 2 then 16 else 12)
  else 0

/-- Rows of an op word with the SLOT fields they take (R93, R99, R101, R103): row number, slot index if SLOT_EN. -/
def opSlots (w : Word128) (descs : SMap Nat) : List (Nat × Option Nat) :=
  let rowsOf (d m0 m : Nat) : List (Nat × Option Nat) :=
    (List.range m).map (fun i => (m0 + i, if dSlotEn d then some (dSlotBase d + i) else none))
  match wOpc w with
  | 2 => let a := mmOf w descs; a.probs.flatMap (fun p => rowsOf p.da (p.ix * a.m) a.m)
  | 3 => let a := mmOf w descs; a.probs.flatMap (fun p => rowsOf p.da (p.ix * a.m) a.m)
  | 4 => let a := rowOpOf w descs; rowsOf a.dx 0 a.m
  | 5 => let a := rowOpOf w descs; rowsOf a.dx 0 a.m
  | 6 => let a := rowOpOf w descs; rowsOf a.dx 0 a.m
  | _ => []

/-- The site of an op word, where SITE_EN is 1 (R93, R99, R101). -/
def opSite (w : Word128) : Option Nat :=
  let v := w.toNat
  match wOpc w with
  | 2 => if fbit v 80 then some (field v 81 8) else none
  | 3 => if fbit v 96 then some (field v 97 8) else none
  | 4 => if fbit v 60 then some (field v 61 8) else none
  | _ => none

end Sys2Proof.Machine
end

