-- ==== Sys2Proof/Machine/Ops.lean ====
section
/-! DEFINITION. Named operations over the state: objects, counters, raw memory and scratchpad, units of the package by
number, time, lace symbols and management flits on their way out. -/
namespace Sys2Proof.Machine

abbrev Out := Host.Outcome State Fault Refusal

/-- Bytes of a number as a field of an event payload (16 R525). -/
abbrev f8 (v : Nat) : List Byte := leBytes 1 v
abbrev f16 (v : Nat) : List Byte := leBytes 2 v
abbrev f32 (v : Nat) : List Byte := leBytes 4 v
abbrev f64 (v : Nat) : List Byte := leBytes 8 v

/-! ## Objects -/

/-- The stored value of object `i.sub` (14 R483: its Default where nothing was written). -/
def getO (s : State) (i sub : Nat) : Nat := mget (defaultOf i sub) s.obj (okey i sub)

def setO (s : State) (i sub v : Nat) : State := { s with obj := mset (defaultOf i sub) s.obj (okey i sub) v }

/-- A counter that saturates at 2^64 − 1 (R244 and the other object tables). -/
def count (s : State) (i sub n : Nat) : State := setO s i sub (min (getO s i sub + n) (2 ^ 64 - 1))

/-- Something leaves the package. -/
def emit (s : State) (m : OutMsg) : State := { s with out := s.out ++ [m] }

/-- A fresh index for a free value. -/
def fresh (s : State) : Nat × State := (s.free, { s with free := s.free + 1 })

/-! ## Sparse byte ranges -/

/-- `n` entries from key `a`, `d` where none is listed. -/
def mrun {α : Type} (d : α) : Nat → SMap α → Nat → List α
  | 0, _, _ => []
  | n + 1, [], a => d :: mrun d n [] (a + 1)
  | n + 1, (k, v) :: r, a => if k = a then v :: mrun d n r (a + 1) else d :: mrun d n ((k, v) :: r) (a + 1)

def mrange {α : Type} (d : α) (m : SMap α) (a n : Nat) : List α := mrun d n (m.dropWhile (fun e => e.1 < a)) a

def mputs {α : Type} [DecidableEq α] (d : α) : SMap α → Nat → List α → SMap α
  | m, _, [] => m
  | m, a, v :: r => mputs d (mset d m a v) (a + 1) r

/-- The bytes of DRAM, stacked SRAM and local RAM by package physical address (06 R205); an address that nothing has written
reads 0x00 (DESIGN CHOICE, log entry 19). -/
def memGet (s : State) (a n : Nat) : List Byte := mrange 0 s.mem a n
def memPut (s : State) (a : Nat) (l : List Byte) : State := { s with mem := mputs 0 s.mem a l }
/-- The canonical form of memory: addresses strictly rising, no entry equal to what an unlisted address reads as. -/
def Memory.wf (m : List Host.Cell) : Bool := mapWf 0 m
def memNat (s : State) (a n : Nat) : Nat := leNat (memGet s a n)

/-! ## Units of the package by number -/

def getPort (s : State) (p : Nat) : PortSt := mget PortSt.init s.ports p
def setPort (s : State) (p : Nat) (x : PortSt) : State := { s with ports := mset PortSt.init s.ports p x }
def modPort (s : State) (p : Nat) (f : PortSt → PortSt) : State := setPort s p (f (getPort s p))
def getCl (s : State) (l : Nat) : Cluster := mget Cluster.init s.clusters l
def setCl (s : State) (l : Nat) (x : Cluster) : State := { s with clusters := mset Cluster.init s.clusters l x }
def modCl (s : State) (l : Nat) (f : Cluster → Cluster) : State := setCl s l (f (getCl s l))
def getCore (s : State) (l c : Nat) : CoreSt := mget CoreSt.init s.cores (l * 64 + c)
def setCore (s : State) (l c : Nat) (x : CoreSt) : State :=
  { s with cores := mset CoreSt.init s.cores (l * 64 + c) x }
def getAwl (s : State) (l : Nat) : Awl := mget Awl.init s.awls l
def setAwl (s : State) (l : Nat) (x : Awl) : State := { s with awls := mset Awl.init s.awls l x }
def getSlot (s : State) (n : Nat) : SlotSt := mget SlotSt.init s.slots n
def setSlot (s : State) (n : Nat) (x : SlotSt) : State := { s with slots := mset SlotSt.init s.slots n x }
def getPart (s : State) (p : Nat) : PartRt := mget PartRt.init s.parts p
def setPart (s : State) (p : Nat) (x : PartRt) : State := { s with parts := mset PartRt.init s.parts p x }
/-- Key of a thread: its mhartid 8 × agent + thread (13 R433). -/
def hartKey (h : Hart) : Nat := 8 * h.core + h.thread
def getHart (s : State) (h : Hart) : HartSt := mget HartSt.init s.harts (hartKey h)
def setHart (s : State) (h : Hart) (x : HartSt) : State :=
  { s with harts := mset HartSt.init s.harts (hartKey h) x }
def getCtl (s : State) (c : Nat) : CtlCore := mget CtlCore.init s.ctl c
def setCtl (s : State) (c : Nat) (x : CtlCore) : State := { s with ctl := mset CtlCore.init s.ctl c x }

/-- The image of a partition's active last. -/
def activeImage (s : State) (p : Nat) : Option Image := (getPart s p).active.bind (fun n => (getSlot s n).image)

/-! ## Scratchpad -/

/-- Address of byte `a` of core `c` of logical cluster `l` in the scratchpad window (06 R205). -/
def spadAddr (l c a : Nat) : Nat := 0x00c000000000 + l * 0x400000 + c * 0x10000 + a % 65536

/-- A scratchpad byte as the core sees it; undefined until written in the cluster's present contents (04 R149). -/
def spadByte (s : State) (l c a : Nat) : Byte :=
  match mfind s.spad (spadAddr l c a) with
  | some b => b
  | none => Config.undefByte (getCl s l).epoch (spadAddr l c a)

def spadGet (s : State) (l c a n : Nat) : List Byte := (List.range n).map (fun i => spadByte s l c (a + i))

def spadBind : SMap Byte → List Host.Cell → SMap Byte
  | m, [] => m
  | m, (a, b) :: r => spadBind (mbind m a b) r

/-- Cluster time: engine cycles that the cluster did not spend in holds; latencies run in it (04 R129). -/
def clTime (s : State) (l : Nat) : Nat := s.cyc - (getCl s l).heldTot

/-- Logical cluster and core of a scratchpad window address. -/
def spadLcl (a : Nat) : Nat := (a - 0x00c000000000) / 0x400000
def spadCore (a : Nat) : Nat := (a - 0x00c000000000) / 0x10000 % 64

/-- The entry of `spadLog` for a write, where its core has an operation in flight that may read the byte as it was. -/
def spadOld (s : State) (a : Nat) : Option (Nat × Nat × Byte) :=
  if (getCore s (spadLcl a) (spadCore a)).flight = [] then none
  else some (clTime s (spadLcl a), a, spadByte s (spadLcl a) (spadCore a) (a % 0x10000))

/-- A scratchpad byte as an operation of the core saw it in cluster time `t`: the one before the first later write. -/
def spadAt (s : State) (l c t a : Nat) : Byte :=
  match (s.spadLog.filter (fun e => e.2.1 == spadAddr l c a && t < e.1)).getLast? with
  | some e => e.2.2
  | none => spadByte s l c a

/-- Bytes written by scratchpad window address; their granules are stored anew. -/
def spadPutCells (s : State) (cells : List Host.Cell) : State :=
  { s with
    spad := spadBind s.spad cells
    spadLog := (cells.filterMap (fun e => spadOld s e.1)).reverse ++ s.spadLog
    memSt := { s.memSt with upsets := s.memSt.upsets.filter (fun e => !cells.any (fun c => c.1 / 32 == e.1)) } }

def cellsAt (l c a : Nat) (bs : List Byte) : List Host.Cell :=
  (List.range bs.length).zip bs |>.map (fun e => (spadAddr l c (a + e.1), e.2))

def spadPut (s : State) (l c a : Nat) (bs : List Byte) : State := spadPutCells s (cellsAt l c a bs)

/-- The contents of a cluster's scratchpad become undefined (04 R149, R198). -/
def spadForget (s : State) (l : Nat) : State :=
  let cl := getCl s l
  setCl { s with spad := s.spad.filter (fun e => e.1 < spadAddr l 0 0 || spadAddr (l + 1) 0 0 ≤ e.1) } l
    { cl with epoch := cl.epoch + 1 }

/-- The contents of every scratchpad become undefined. -/
def spadForgetAll (s : State) : State :=
  ((s.clusters.map (·.1) ++ s.spad.map (fun e => spadLcl e.1)).eraseDups).foldl spadForget s

/-- The last's work wrote memory in the present tick. -/
def noteWrite (s : State) (a n : Nat) : State := { s with tickWrites := s.tickWrites ++ [(a, n)] }

/-- What the last's work wrote to memory in the present tick is undefined (05 R198). -/
def loseTick (s : State) : State :=
  s.tickWrites.foldl (fun s e =>
    let (n, s) := fresh s
    memPut s e.1 ((List.range e.2).map (Config.freeByte n))) { s with tickWrites := [] }

/-! ## Identity and time -/

/-- Physical and logical node (01 R28, R31). -/
def pnode (s : State) : Nat := getO s 0x1010 1
def lnode (s : State) : Nat := getO s 0x1010 2
/-- Bits of object 0x1010.04: 0 active manager, 1 standby manager, 2 reader. -/
def isManager (s : State) : Bool := fbit (getO s 0x1010 4) 0
def setRole (s : State) (b : Nat) (v : Bool) : State :=
  let r := getO s 0x1010 4
  setO s 0x1010 4 (r - (if fbit r b then 2 ^ b else 0) + (if v then 2 ^ b else 0))

/-- Units of 1/252 ns in a microsecond, a millisecond and a keeper period of 40 ns. -/
def usec : Nat := 252000
def msec : Nat := 252000000
def keeperPeriod : Nat := 10080
/-- Keeper periods since VDD_AON rose. -/
def ktime (s : State) : Nat := (s.now - s.dev.aonAt) / keeperPeriod
/-- Units in one engine cycle at the operating point in force: 0.6 + 0.1 p GHz (17 R543). -/
def cycleLen (s : State) : Nat := 2520 / (6 + s.power.opp)

/-- True in every state that a package has while lace is running (05 R175, R176). -/
def laceRuns (s : State) : Bool := s.lace.mode == .locked || s.lace.mode == .holdover

def devCode : DevState → Nat
  | .keeper => 1 | .standby => 2 | .ready => 3 | .running => 4 | .draining => 5 | .halted => 6 | .alarm => 7

def inRun (s : State) : Bool := s.dev.mode == .running || s.dev.mode == .draining

/-- The lead of a timed symbol: H of 05 R167, object 0x3010.04. -/
def horizon (s : State) : Nat :=
  1 + ceilDiv (s.lace.v + s.lace.q * s.lace.x) (max 1 s.lace.tickLen)

/-- The lace cycle number (08 R273): engine cycles from phase 0 of tick 0, modulo 2^32. -/
def laceCycle (s : State) : Nat :=
  (s.lace.cyc0 + s.lace.phase) % 2 ^ 32

/-! ## Lace symbols and management flits on their way out -/

/-- A lace symbol with its CHK (05 R172). -/
def mkSym (ty seq origin tick phase arg : Nat) : Word128 :=
  let b := ty + seq % 256 * 2 ^ 8 + origin % 2048 * 2 ^ 16 + tick % 2 ^ 32 * 2 ^ 32 + phase % 2 ^ 16 * 2 ^ 64 +
    arg % 2 ^ 40 * 2 ^ 80
  BitVec.ofNat 128 (b + crc8 (leBytes 15 b) * 2 ^ 120)

def portUp (s : State) (p : Nat) : Bool := (getPort s p).state == .up

def allPorts : List Nat := List.range 64
def upPorts (s : State) : List Nat := allPorts.filter (portUp s)

def sendLace (s : State) (p : Nat) (w : Word128) : State :=
  if portUp s p then modPort s p (fun x => { x with lace := x.lace ++ [w] }) else s

/-- A flooded symbol goes out on every trained lace port but one (05 R174). -/
def flood (s : State) (w : Word128) (except : Option Nat) : State :=
  (upPorts s).foldl (fun s p => if except = some p then s else sendLace s p w) s

/-- This package originates a flooded symbol: the next SEQ of its type, out on every trained lace port (05 R172, R174). -/
def originate (s : State) (ty tick phase arg : Nat) : State :=
  let n := mget 0 s.lace.nextSeq ty
  let t : Timed := ⟨ty, pnode s, n % 256, tick % 2 ^ 32, arg, 0⟩
  let s := { s with lace := { s.lace with nextSeq := mset 0 s.lace.nextSeq ty (n + 1), seen := s.lace.seen ++ [t] } }
  flood s (mkSym ty n (pnode s) tick phase arg) none

/-- A route entry (09 R308, R332): the primary port while it is up, else the alternate one while it is up. -/
def routePort (s : State) (node : Nat) : Option Nat :=
  let e := mget 0 s.fab.routes node
  if !fbit e 15 then none
  else if portUp s (field e 0 6) then some (field e 0 6)
  else if fbit e 14 && portUp s (field e 8 6) then some (field e 8 6)
  else none

def sendMgmt (s : State) (p : Nat) (body : List Byte) : State :=
  modPort s p (fun x => { x with mgmt := x.mgmt ++ [⟨5, true, 0, padTo 128 body⟩] })

/-- A management flit (14 R471) from this package, dropped where it cannot be routed. -/
def mgmtOut (s : State) (dst mbox flags : Nat) (frame : List Byte) : State :=
  match routePort s dst with
  | none => s
  | some p => sendMgmt s p (f16 dst ++ f16 (pnode s) ++ [0] ++ f8 mbox ++ f8 flags ++ List.replicate 9 0 ++ frame)

end Sys2Proof.Machine
end

