-- ==== Sys2Proof/Machine/Flags.lean ====
section
/-! DEFINITION. Event records and their delivery (16 R523–R530, 14 R478): every flag of a record, SEQ, suppression, the hold,
the queue in DRAM, losses, MSI-X, the supervisor interrupt, the I3C IBI and the in-band NOTIFY. -/
namespace Sys2Proof.Machine

/-- A record's 64 bytes (R524). -/
def EvRec.bytes (r : EvRec) : List Byte :=
  f16 r.code ++ f8 r.flags ++ f8 r.suppressed ++ f32 r.seq ++ f64 r.tick ++ f16 r.phase ++ f16 (r.node % 2048) ++
    padTo 44 r.payload

def evClass (code : Nat) : Nat := code / 4096

def queueOn (s : State) : Bool := getO s 0x8000 5 == 1
/-- Records in the queue: tail − head, both modulo 2^32 (R526). -/
def queueFill (s : State) : Nat := sub32 (getO s 0x8000 3) (getO s 0x8000 4)
def queueRoom (s : State) : Bool := queueFill s < 2 ^ getO s 0x8000 2

/-- The supervisor thread of object 0x8012.02. -/
def meipHart (s : State) : Nat := 8 * (320 + field (getO s 0x8012 2) 0 3) + field (getO s 0x8012 2) 3 2

/-- The IBI of R478 for an event of class `c`: the first one since the last IBI was served names the code; a request waits
for the spacing of object 0x1070.04. -/
def ibiFor (s : State) (code : Nat) : State :=
  if s.events.ibiEnabled && fbit (getO s 0x1070 1) (evClass code) then
    if s.events.ibiCount = 0 then
      { s with events := { s.events with ibiCode := code, ibiCount := 1, ibiRequested := decide (s.events.ibiAt ≤ s.now) } }
    else { s with events := { s.events with ibiCount := min 255 (s.events.ibiCount + 1) } }
  else s

/-- The vector of a class, at most once per interval (R529). -/
def msixFor (s : State) (v : Nat) : State :=
  if v = 0xffff then s
  else
    let last := mget 0 s.events.msixAt v
    if last = 0 || last - 1 + getO s 0x8011 1 * usec ≤ s.now then
      emit { s with events := { s.events with msixAt := mset 0 s.events.msixAt v (s.now + 1) } } (.msix v)
    else if s.events.msixHeld.contains v then s
    else { s with events := { s.events with msixHeld := s.events.msixHeld ++ [v] } }

/-- The NOTIFY frame of R478. -/
def notifyFrame (code cnt windex : Nat) : List Byte :=
  let b := [0x90, 0, 0, 0, 0, 0, 8, 0, 0, 0, 0, 0] ++ f16 code ++ f16 cnt ++ f32 windex
  b ++ f32 (crc32 b)

def notifyFor (s : State) (code : Nat) : State :=
  if getO s 0x1070 2 != 0xffff && fbit (getO s 0x1070 3) (evClass code) then
    let s' := mgmtOut s (getO s 0x1070 2) 0 4 (notifyFrame code (s.events.notifyCount + 1) (getO s 0x8000 3))
    { s' with events := { s'.events with notifyCount := 0 } }
  else s

/-- Delivery after a record stands in the queue (R529, R530, R478). -/
def deliverEv (s : State) (code : Nat) : State :=
  let s := msixFor s (if evClass code = 0 then 0xffff else getO s 0x8010 (evClass code))
  let s := if fbit (getO s 0x8012 1) (evClass code) then
      { s with events := { s.events with meip := mset false s.events.meip (meipHart s) true } } else s
  notifyFor (ibiFor s code) code

/-- A record goes into DRAM at the tail, PHASE by trip (R526). -/
def queuePut (s : State) (r : EvRec) : State :=
  let t := getO s 0x8000 3
  let n := 2 ^ getO s 0x8000 2
  let r := { r with flags := r.flags + (1 - t / n % 2) }
  let s := memPut s (getO s 0x8000 1 + 64 * (t % n)) r.bytes
  deliverEv (count (setO s 0x8000 3 ((t + 1) % 2 ^ 32)) 0x8001 1 1) r.code

/-- Flags other than PHASE, TICK and PHASE of a record raised now (R524). -/
def mkRec (s : State) (code flags supp : Nat) (pl : List Byte) : EvRec :=
  if laceRuns s then ⟨code, flags, supp, s.events.seq, s.lace.tick, s.lace.phase, pnode s, pl⟩
  else ⟨code, flags + 4, supp, s.events.seq, ktime s, 0, pnode s, pl⟩

def bumpSeq (s : State) : State := { s with events := { s.events with seq := (s.events.seq + 1) % 2 ^ 32 } }

/-- A record that finds no room (R527): no SEQ, counted, its class in the loss mask. -/
def loseEv (s : State) (code : Nat) : State :=
  let s := count s 0x8001 2 1
  let m := s.events.lossMask
  let m := if fbit m (evClass code) then m else m + 2 ^ evClass code
  { s with events := { s.events with lossCount := s.events.lossCount + 1, lossMask := m } }

/-- Event 0x8001 once the queue has room again (R527). -/
def reportLoss (s : State) : State :=
  if s.events.lossCount = 0 || !queueOn s || !queueRoom s then s
  else
    let r := mkRec s 0x8001 8 0 (f32 s.events.lossCount ++ f16 s.events.lossMask)
    queuePut (bumpSeq { s with events := { s.events with lossCount := 0, lossMask := 0 } }) r

/-- An event is raised: `supp` earlier occurrences were withheld. In KEEPER, and while the event queue lies in erased DRAM, nothing is
recorded (R528, 15 R511). -/
def raiseP (s : State) (code : Nat) (pl : List Byte) (poison : Bool) : State :=
  if s.dev.mode = .keeper || s.sec.dramKeyLost then s
  else
    let supp := min 255 (mget 0 s.events.supp code)
    let s := { s with events := { s.events with supp := mset 0 s.events.supp code 0 } }
    let fl := if poison then 2 else 0
    if queueOn s then
      let s := reportLoss s
      if queueRoom s then let r := mkRec s code fl supp pl; queuePut (bumpSeq s) r else loseEv s code
    else if s.events.hold.length < 256 then
      let r := mkRec s code fl supp pl
      bumpSeq { s with events := { s.events with hold := s.events.hold ++ [r] } }
    else loseEv s code

def raise (s : State) (code : Nat) (pl : List Byte) : State := raiseP s code pl false

/-- An occurrence that a limit withholds counts in SUPPRESSED of the next record of its code (R525). -/
def suppress (s : State) (code : Nat) : State :=
  { s with events := { s.events with supp := mset 0 s.events.supp code (mget 0 s.events.supp code + 1) } }

/-- Occurrences of a code since its last record, this one included ("count in the interval"). -/
def inInterval (s : State) (code : Nat) : Nat := mget 0 s.events.supp code + 1

/-- An event raised at most once per `gap` for each instance `key` of it (R525). -/
def raiseGap (gap : Nat) (s : State) (code key : Nat) (pl : List Byte) : State :=
  let last := mget 0 s.events.lastAt (code * 2 ^ 24 + key)
  if last != 0 && s.now < last - 1 + gap then suppress s code
  else raise { s with events := { s.events with lastAt := mset 0 s.events.lastAt (code * 2 ^ 24 + key) (s.now + 1) } } code pl

/-- An event raised at most once per ms. -/
def raiseMs (s : State) (code key : Nat) (pl : List Byte) : State := raiseGap msec s code key pl

/-- An event raised at most once per second. -/
def raiseSec (s : State) (code : Nat) (pl : List Byte) : State := raiseGap (1000 * msec) s code 0 pl

/-- P16 blocks without a value were converted (02 R613): counted at once; event 0x9006 waits for the end of the tick, whose number of such
blocks it carries (R76). -/
def badP16 (s : State) (path entry lcl group part n : Nat) : State :=
  if n = 0 then s
  else
    let s := count s 0x9030 0x0c n
    let same := fun (e : P16Bad) => e.path == path && e.entry == entry && e.lcl == lcl && e.group == group && e.part == part
    { s with p16Bad := if s.p16Bad.any same then s.p16Bad.map (fun e => if same e then { e with blocks := e.blocks + n } else e)
                       else s.p16Bad ++ [⟨path, entry, lcl, group, part, n⟩] }

/-- The events 0x9006 of the tick: one for each reduction entry, SAMPLE point or route step that met such blocks (02 R76). -/
def tellP16 (s : State) : State :=
  s.p16Bad.foldl (fun s e => raise s 0x9006 (f8 e.path ++ f16 e.lcl ++ f8 e.group ++ f8 e.part ++ f32 e.blocks)) { s with p16Bad := [] }

/-- Enabling the queue writes the held records first, then the loss record (R528). -/
def flushHold (s : State) : State :=
  let held := s.events.hold
  let s := { s with events := { s.events with hold := [] } }
  reportLoss (held.foldl (fun s r => if queueRoom s then queuePut s r else loseEv s r.code) s)

end Sys2Proof.Machine
end

