-- ==== Sys2Proof/Machine/Volt.lean ====
section
/-! DEFINITION. VDD_CORE set points and the change of operating point in progress (17 R543, R546–R548). -/
namespace Sys2Proof.Machine

/-- Highest VDD_CORE set point of an operating point in mV (R543). -/
def voltsOf (opp : Nat) : Nat := [620, 670, 730, 790, 850].getD opp 850

/-- Set point of a group: the table's value less the fused trim, never below 600 mV (R543). -/
def setPointOf (s : State) (opp g : Nat) : Nat := max 600 (voltsOf opp - s.sec.shadow.trims.getD g 0)

/-- The set point of every group is written on its AVSBus. -/
def writeVolts (s : State) (opp : Nat) : State :=
  (List.range 4).foldl (fun s g => emit (setO s 0x2130 (g + 1) (setPointOf s opp g)) (.setPoint g (setPointOf s opp g))) s

/-- Results are undefined: the clock runs at a raised point whose voltage is not confirmed (R547), or a main rail was lost (R569). -/
def voltLate (s : State) : Bool :=
  match s.power.change with
  | some c => (c.switched && c.up && c.voltsDone != 15) || s.power.railLost
  | none => s.power.railLost

/-- A change that has not switched is dropped at a halt: the set point of the point in force is written (R548). -/
def dropChange (s : State) : State :=
  match s.power.change with
  | some c => if c.switched then s else writeVolts { s with power := { s.power with change := none } } s.power.opp
  | none => s

/-- A change begins at the receipt of FREQ (R546 step 1). -/
def beginChange (s : State) (b : Nat) : State :=
  let up := decide (s.power.opp < b)
  let s := { s with power := { s.power with change := some ⟨b, up, 0, false⟩ } }
  if up then writeVolts s b else s

end Sys2Proof.Machine
end

