-- ==== Sys2Proof/Machine/Halt.lean ====
section
/-! DEFINITION. Changes of the device state (14 R474, R477), the halt (05 R197–R199), the security alarm and the count of
world violations (15 R506–R512). -/
namespace Sys2Proof.Machine

/-- Object 0x2000 changes (14 R477): cause 1 a state command, 2 a halt with its code, 3 an alarm. -/
def setMode (s : State) (m : DevState) (cause halt : Nat) : State :=
  if s.dev.mode = m then s
  else
    let old := s.dev.mode
    let s := { s with dev := { s.dev with mode := m, prev := some old } }
    let s := setO s 0x2002 6 (if laceRuns s then s.lace.tick else 0)
    raise s 0x2001 (f8 (devCode old) ++ f8 (devCode m) ++ f8 cause ++ f16 halt)

/-- A port with nothing of the schedule channel in it (05 R198). -/
def PortSt.silent (p : PortSt) : PortSt := { p with sched := [], tx := [], late := [], rx := [] }

/-- The schedule stops (05 R198): no cluster issues, every scheduled descriptor, transfer and reduction ends, the schedule
channel is silent, scratchpad and what the halted tick wrote to memory are undefined. Unscheduled descriptors run on. -/
def stopSchedule (s : State) : State :=
  let s := loseTick (spadForgetAll s)
  { s with
    cores := []
    clusters := s.clusters.map (fun e => (e.1, { Cluster.init with epoch := e.2.epoch }))
    awls := s.awls.map (fun e => (e.1, { Awl.init with
      queue := e.2.queue
      flight := e.2.flight.filter (fun f => f.ix == 0xffff) }))
    ports := s.ports.map (fun e => (e.1, e.2.silent))
    parts := s.parts.map (fun e => (e.1, { e.2 with runs := false })) }

/-- The schedule stops, timed symbols, armed rewinds and a change of operating point that has not switched are discarded (05 R198,
R199, 16 R536, 17 R548, R572). -/
def stopAll (s : State) : State :=
  let s := stopSchedule s
  dropChange { s with
    lace := { s.lace with timed := [], masks := [], stopFrom := none, faultTick := none }
    parts := s.parts.map (fun e => (e.1, { e.2 with faultTick := none }))
    power := { s.power with preRamp := false }
    dev := { s.dev with armed := false } }

/-- What a halt does here (05 R198, 17 R560): after a trip the floor falls at once; READY, RUNNING and DRAINING become HALTED, event
0x3109; `ev` raises an event whose code lies between the two (16 R526). -/
def haltWith (ev : State → State) (s : State) (origin cause tick phase : Nat) : State :=
  let s := stopAll s
  let s := if cause = 2 || cause = 3 then { s with power := { s.power with floor := 0, ballast := 0 } } else s
  let s := if s.dev.mode = .ready || s.dev.mode = .running || s.dev.mode = .draining then
      setMode { s with dev := { s.dev with haltCause := cause } } .halted 2 cause
    else s
  raise (ev (count s 0x3060 6 1)) 0x3109 (f16 origin ++ f16 cause ++ f64 tick ++ f16 phase)

def haltLocal (s : State) (origin cause tick phase : Nat) : State := haltWith id s origin cause tick phase

/-- HALT from this package (05 R197); `ev` raises the event of a trip. -/
def tripHalt (ev : State → State) (s : State) (cause : Nat) : State :=
  if s.dev.mode = .keeper then s
  else haltWith ev (originate s 0x20 s.lace.tick s.lace.phase cause) (pnode s) cause s.lace.tick s.lace.phase

def originateHalt (s : State) (cause : Nat) : State := tripHalt id s cause

/-! ## The alarm -/

/-- One alarm log record (15 R515). -/
def alarmRec (s : State) (source level state detail : Nat) : List Byte :=
  f64 (ktime s) ++ f64 (if laceRuns s then s.lace.tick else 0) ++ f8 source ++ f8 level ++ f8 state ++ [0] ++
    f32 detail ++ List.replicate 8 0

def logAlarm (s : State) (source level detail : Nat) : State :=
  let r := alarmRec s source level (devCode s.dev.mode) detail
  let s := { s with sec := { s.sec with log := (r :: s.sec.log).take 16, alarmsSince := s.sec.alarmsSince + 1 } }
  setO (setO (setO s 0x1022 2 (min (getO s 0x1022 2 + 1) (2 ^ 32 - 1))) 0x1022 3 source) 0x1022 4 level

/-- Bytes of a range read as unwritten afterwards. -/
def memClear (s : State) (a n : Nat) : State :=
  { s with mem := s.mem.filter (fun e => e.1 < a || a + n ≤ e.1) }

/-- Package physical address of tile `t` of the stacked SRAM of C-die `d` (06 R205, R208). -/
def sramTile (d t : Nat) : Nat := 0x008000000000 + d * 0x20000000 + t * 16384

/-- Object-space tiles that hold a copy of an object of an image entry: the IMG bits of 15 R508. -/
def imgTiles (s : State) : List (Nat × Tile) :=
  let ids := s.images.flatMap (fun e => e.2.objs.map (fun o => o.1))
  let objs := s.memSt.objs.filter (fun e => e.2.state != 0 && ids.contains e.2.id)
  s.memSt.tiles.filter (fun t => t.2.copy &&
    objs.any (fun o => o.2.base / 16384 ≤ t.1 && t.1 < (o.2.base + o.2.length) / 16384))

/-- The stop of work in progress at an alarm (15 R512, 14 R475). -/
def stopWork (s : State) : State :=
  { setO s 0x2004 1 0 with
    dev := { s.dev with target := none, nextReady := false }
    loading := none
    slots := s.slots.map (fun e => (e.1, if e.2.loading then SlotSt.init else e.2))
    memSt := { s.memSt with cmd := none }
    imgCmd := none
    images := s.images.map (fun e => (e.1, if e.2.state = 2 then { e.2 with state := 4 } else e.2))
    rdma := { s.rdma with qps := s.rdma.qps.map (fun e => (e.1, { e.2 with pulls := [], reqs := [] })) }
    imgCheck := none }

/-- The action that level `l` adds (15 R508). -/
def alarmAction (s : State) : Nat → State
  | 1 =>
    let s := stopAll (stopWork s)
    { s with sec := { s.sec with
      slots := s.sec.slots.filter (fun e => e.1 == 0)
      keyVal := none
      salt := none
      info := [] } }
  | 2 =>
    let s := (imgTiles s).foldl (fun s t => memClear s (sramTile t.2.die t.2.tile) 16384) s
    { s with sec := { s.sec with hotClear := true } }
  | 3 =>
    let s := memClear s 0 0x006000000000
    { s with sec := { s.sec with slots := [], dramKeyLost := true, hotClear := false } }
  | 4 => originate s 0x20 s.lace.tick s.lace.phase 4
  | _ => s

/-- The actions of level `lev` that were not carried out since entry into ALARM (15 R508, R512). -/
def alarmActions (s : State) (lev : Nat) : State :=
  if lev ≤ s.sec.level then s
  else
    let todo := (List.range 5).filter (fun l => s.sec.level < l && l ≤ lev)
    let s := todo.foldl alarmAction s
    { s with sec := { s.sec with level := lev } }

/-- A security alarm of an enabled source (15 R506, R508). -/
def alarm (s : State) (source detail : Nat) : State :=
  if s.dev.mode = .keeper then logAlarm s source 0 detail
  else
    let lev := getO s 0x7100 0
    let before := s.dev.mode
    let s := if before = .alarm then s else { s with sec := { s.sec with level := 0, alarmsSince := 0 } }
    let s := logAlarm s source lev detail
    let s := alarmActions s lev
    let s := if 1 ≤ lev then setMode { s with dev := { s.dev with haltCause := 4 } } .alarm 3 0 else s
    let s := if lev = 4 && before != .alarm then
        raise (count s 0x3060 6 1) 0x3109 (f16 (pnode s) ++ f16 4 ++ f64 s.lace.tick ++ f16 s.lace.phase) else s
    if 3 ≤ lev then ibiFor s 0x7001
    else raise s 0x7001 (f8 source ++ f8 lev ++ f8 (devCode before) ++ f32 detail)

/-- An alarm source whose bit of object 0x7110.01 is set raises the alarm (15 R506). -/
def alarmIf (s : State) (source detail : Nat) : State :=
  if fbit (getO s 0x7110 1) source then alarm s source detail else s

/-- A refused access counts as one world violation (15 R495, R507). -/
def violation (s : State) : State :=
  let s := count s 0x7110 6 1
  let n := min 65535 (s.sec.violations + 1)
  if s.dev.mode != .keeper && fbit (getO s 0x7110 1) 0 && getO s 0x7110 2 ≤ n then
    alarm { s with sec := { s.sec with violations := 0 } } 0 n
  else { s with sec := { s.sec with violations := n } }

end Sys2Proof.Machine
end

