-- ==== Sys2Proof/Machine/Memory.lean ====
section
/-! DEFINITION. The address map, the world and region checks, refusals, protection of stored data, object space and the hot
set (06 R204–R232, 15 R490–R496). -/
namespace Sys2Proof.Machine

/-! ## Regions and worlds -/

def regionSecure (s : State) (k : Nat) : Bool := fbit (mget Region.init s.sec.regions k).attr 0

/-- The region of a package physical address: the lowest-numbered enabled range that contains it, else region 0 (15 R493). -/
def regionAt (s : State) (a : Nat) : Nat :=
  match s.sec.regions.find? (fun e => e.1 != 0 && fbit e.2.attr 1 && e.2.base ≤ a && a < e.2.limit) with
  | some e => e.1
  | none => 0

/-- Who makes an access: requester kind and identity of event 0x4005 (06 R245), descriptor index and PTICK, world, C-die. -/
structure Who where
  kind : Nat
  req : Nat
  desc : Nat
  ptick : Nat
  secure : Bool
  die : Nat
  deriving DecidableEq, Repr

/-- The ranges of 06 R205. -/
inductive Rng where
  | dram
  | sram (die off : Nat)
  | spad (lcl core off : Nat)
  | ram (core off : Nat)
  | mmio (off : Nat)
  | objSpace
  | unmapped
  deriving DecidableEq, Repr

/-- The block of an MMIO offset: local RAM of 13 R447, or another block. -/
def mmioRng (o : Nat) : Rng :=
  if 0x01000000 ≤ o && o < 0x01000000 + 0x40000 * 8 then .ram (320 + (o - 0x01000000) / 0x40000) ((o - 0x01000000) % 0x40000)
  else if 0x02000000 ≤ o && o < 0x02000000 + 0x10000 * 320 then .ram ((o - 0x02000000) / 0x10000) ((o - 0x02000000) % 0x10000)
  else if o < 0x20000 || (0x03800000 ≤ o && o < 0x03800000 + 16 * 320) || (0x04000000 ≤ o && o < 0x04001000) ||
    (0x05000000 ≤ o && o < 0x05000400) || (0x80000000 ≤ o && o < 0x100000000) then .mmio o
  else .unmapped

def classify (a : Nat) : Rng :=
  if a < 0x006000000000 then .dram
  else if a < 0x008000000000 then .unmapped
  else if a < 0x008000000000 + 16 * 0x20000000 then
    if (a - 0x008000000000) % 0x20000000 < 0x1c000000 then
      .sram ((a - 0x008000000000) / 0x20000000) ((a - 0x008000000000) % 0x20000000)
    else .unmapped
  else if a < 0x00c000000000 then .unmapped
  else if a < 0x00c000000000 + 304 * 0x400000 then
    .spad ((a - 0x00c000000000) / 0x400000) ((a - 0x00c000000000) / 0x10000 % 64) (a % 0x10000)
  else if a < 0x00f000000000 then .unmapped
  else if a < 0x00f100000000 then mmioRng (a - 0x00f000000000)
  else if 0x100000000000 ≤ a && a < 0x200000000000 then .objSpace
  else .unmapped

/-- Address of a local RAM byte in the MMIO map (13 R447). -/
def ramAddr (core off : Nat) : Nat :=
  0x00f000000000 + (if core < 320 then 0x02000000 + 0x10000 * core else 0x01000000 + 0x40000 * (core - 320)) + off

/-- Physical cluster of a logical cluster, 0xff where it is bound to none (04 R157). -/
def physOf (s : State) (l : Nat) : Nat := getO s (0x3050 + l / 19) (l % 19 + 1)

/-- A logical cluster runs a segment of an active last in the current tick (06 R207). -/
def clusterRuns (s : State) (l : Nat) : Bool :=
  s.parts.any (fun e => e.2.runs && (match activeImage s e.1 with
    | some im => im.clusterMap.contains l
    | none => false))

/-! ## Object table and tiles -/

/-- The live object that holds an object-space address, with its table slot. -/
def objAt (s : State) (a : Nat) : Option (Nat × ObjEnt) :=
  s.memSt.objs.find? (fun e => e.2.state != 0 && e.2.base ≤ a && a < e.2.base + e.2.length)

def objById (s : State) (id : Nat) : Option (Nat × ObjEnt) :=
  s.memSt.objs.find? (fun e => e.2.state != 0 && e.2.id == id)

def ObjEnt.secure (o : ObjEnt) : Bool := fbit o.flags 0
def ObjEnt.writable (o : ObjEnt) : Bool := fbit o.flags 1
def ObjEnt.comp (o : ObjEnt) : Bool := fbit o.flags 2
/-- TILE_ARRAY (06 R218). -/
def ObjEnt.tileArray (o : ObjEnt) : Nat := o.dramHome + o.length

/-- The 64 bytes of an object table entry (06 R220). -/
def ObjEnt.bytes (o : ObjEnt) : List Byte :=
  f64 o.id ++ f64 o.base ++ f64 o.length ++ f8 o.cls ++ f8 o.homeDie ++ f8 o.flags ++ f8 o.partition ++ f16 o.region ++
    f8 o.state ++ [0] ++ f64 o.dramHome ++ f64 o.tileArray ++ f64 o.lastUse ++ List.replicate 8 0

/-- The 8 bytes of a tile entry (06 R221). -/
def Tile.bytes (t : Tile) : List Byte :=
  f64 ((if t.copy then 1 else 0) + (if t.dirty then 2 else 0) + (if t.busy then 4 else 0) + t.use * 8 + t.die * 128 +
    t.tile * 2048)

/-- The package writes DRAM for itself; erased DRAM takes nothing (15 R511). -/
def pkgPut (s : State) (a : Nat) (l : List Byte) : State :=
  if s.sec.dramKeyLost && a < 0x006000000000 then s else memPut s a l

/-- An object table entry changes, in the state and in the table in DRAM. -/
def putObj (s : State) (k : Nat) (o : ObjEnt) : State :=
  pkgPut { s with memSt := { s.memSt with objs := if o.state = 0 then mdrop s.memSt.objs k else mbind s.memSt.objs k o } }
    (getO s 0x4011 1 + 64 * k) (if o.state = 0 then List.replicate 64 0 else o.bytes)

def getTile (s : State) (t : Nat) : Tile := mget Tile.init s.memSt.tiles t

/-- A tile entry changes, in the state and in its array in DRAM. -/
def putTile (s : State) (o : ObjEnt) (t : Nat) (x : Tile) : State :=
  pkgPut { s with memSt := { s.memSt with tiles := mset Tile.init s.memSt.tiles t x } }
    (o.tileArray + 8 * (t - o.base / 16384)) x.bytes

/-- Where an object-space byte lies at present (06 R219). -/
def physAddr (s : State) (o : ObjEnt) (a : Nat) : Nat :=
  let t := getTile s (a / 16384)
  if t.copy then sramTile t.die t.tile + a % 16384 else o.dramHome + (a - o.base)

/-! ### The hot-set pool -/

/-- First tile and size of each direct region placed on a die (12 R420, R423). -/
def directRegions (s : State) (d : Nat) : List (Nat × Nat) :=
  (List.range 8).filterMap (fun p =>
    let f := getO s (0xa000 + p) (0x21 + d)
    if f = 0xffff || getO s (0xa000 + p) 1 != 1 then none else some (f, getO s (0xa000 + p) (0x11 + d)))

/-- Tiles of the boot staging area (18 R585) while it is held. -/
def staged (s : State) (d t : Nat) : Bool := s.dev.stagingHeld && d == 15 && 24576 ≤ t

/-- Tile `t` of die `d` belongs to the hot-set pool (06 R209). -/
def inPool (s : State) (d t : Nat) : Bool :=
  getO s 0x4002 (d + 1) ≤ t && t < 28672 && !staged s d t &&
    (directRegions s d).all (fun r => t < r.1 || r.1 + r.2 ≤ t)

/-- Pool tiles of a die that hold a copy or that a migration is bound for. -/
def takenTiles (s : State) (d : Nat) : List Nat :=
  (s.memSt.tiles.filterMap (fun e => if e.2.copy && e.2.die == d then some e.2.tile else none)) ++
    (s.memSt.migs.filterMap (fun m => match m.dest with
      | some (d', t) => if d' = d then some t else none
      | none => none))

def poolSize (s : State) (d : Nat) : Nat :=
  28672 - getO s 0x4002 (d + 1) - (directRegions s d).foldl (fun a r => a + r.2) 0 -
    (if s.dev.stagingHeld && d == 15 then 4096 else 0)

/-- Free hot-set pool tiles of a die (object 0x4030). -/
def freeTiles (s : State) (d : Nat) : Nat := poolSize s d - (takenTiles s d).length

/-- The lowest free pool tile (DESIGN CHOICE, log entry 24: the spec names no order). -/
def pickTile (s : State) (d : Nat) : Option Nat :=
  let taken := takenTiles s d
  (List.range 28672).find? (fun t => inPool s d t && !taken.contains t)

def pinnedTiles (s : State) (d : Nat) : Nat :=
  (s.memSt.tiles.filter (fun e => e.2.copy && e.2.die == d &&
    (match objAt s (e.1 * 16384) with | some (_, o) => o.cls == 0 | none => false))).length

/-- Pool tiles that hold copies of a partition's objects (12 R424), promotions under way included. -/
def partTiles (s : State) (p : Nat) : Nat :=
  (s.memSt.tiles.filter (fun e => e.2.copy &&
    (match objAt s (e.1 * 16384) with | some (_, o) => o.partition == p | none => false))).length +
  (s.memSt.migs.filter (fun m => m.dest.isSome && !(getTile s m.tile).copy &&
    (match objAt s (m.tile * 16384) with | some (_, o) => o.partition == p | none => false))).length

/-- A migration of a tile starts: BUSY (06 R231 step 1). -/
def startMig (s : State) (o : ObjEnt) (m : Migration) : State :=
  let s := putTile s o m.tile { getTile s m.tile with busy := true }
  { s with memSt := { s.memSt with migs := s.memSt.migs ++ [m] } }

/-- HOT copies of a die's pool in ascending tile number from the sweep pointer, once round (06 R229); those of an object that changes
class stay (R230). -/
def sweepOrder (s : State) (d : Nat) : List (Nat × Tile) :=
  let hot := s.memSt.tiles.filter (fun e => e.2.copy && e.2.die == d && !e.2.busy &&
    (match objAt s (e.1 * 16384) with | some (_, o) => o.cls == 1 && o.state == 1 | none => false))
  let p := mget 0 s.memSt.sweep d
  let key := fun (e : Nat × Tile) => (e.2.tile + 28672 - p) % 28672
  sortBy (fun a b => key a ≤ key b) hot

/-- Free tiles of a die once the demotions under way end. -/
def freeSoon (s : State) (d : Nat) : Nat :=
  freeTiles s d + (s.memSt.migs.filter (fun m => m.dest.isNone && (getTile s m.tile).die == d)).length

def sweepStep (d high : Nat) (s : State) (e : Nat × Tile) : State :=
  if high ≤ freeSoon s d then s
  else
    let s := { s with memSt := { s.memSt with sweep := mset 0 s.memSt.sweep d ((e.2.tile + 1) % 28672) } }
    match objAt s (e.1 * 16384) with
    | none => s
    | some (_, o) =>
      if e.2.use = 0 then startMig s o ⟨e.1, none, 0, false⟩
      else putTile s o e.1 { e.2 with use := e.2.use / 2 }

/-- Full sweeps of a die until its free tiles reach the high watermark or no HOT copy is left; one that frees nothing is reported, and
has halved the use counts, so that five of them demote every copy (06 R229). -/
def sweepRounds (d : Nat) : Nat → State → State
  | 0, s => s
  | n + 1, s =>
    let order := sweepOrder s d
    if getO s 0x4003 3 ≤ freeSoon s d then s
    else
      let t := order.foldl (sweepStep d (getO s 0x4003 3)) s
      if t.memSt.migs.length = s.memSt.migs.length then
        let t := raise t 0x4007 (f8 d ++ f16 (freeTiles t d) ++ f16 (pinnedTiles t d))
        if order = [] then t else sweepRounds d n t
      else if sweepOrder t d = [] then t else sweepRounds d n t

/-- The demotion sweep of a die below its low watermark (06 R229). -/
def sweepDie (s : State) (d : Nat) : State := if getO s 0x4003 2 ≤ freeSoon s d then s else sweepRounds d 6 s

/-- Every die's free tiles are held against the watermarks. -/
def sweepAll (s : State) : State := (List.range 16).foldl sweepDie s

/-- The die that a promotion goes to (06 R228). -/
def promoteDie (s : State) (die : Nat) : Option Nat :=
  let low := getO s 0x4003 2
  if die < 16 && low < freeTiles s die then some die
  else
    let best := (List.range 16).foldl (fun b d => if freeTiles s b < freeTiles s d then d else b) 0
    if low < freeTiles s best then some best else none

/-- A read of a HOT tile without a copy raises USE, and promotes at the threshold (06 R228, 12 R424). -/
def touchRead (s : State) (die : Nat) (o : ObjEnt) (t : Nat) : State :=
  let x := getTile s t
  if o.cls != 1 || x.copy then s
  else
    let x := { x with use := min 15 (x.use + 1) }
    let s := putTile s o t x
    if getO s 0x4003 1 ≤ x.use && !x.busy && getO s 0x4003 4 == 1 && o.state == 1 &&
        partTiles s o.partition < getO s (0xa000 + o.partition) 0x0f then
      match promoteDie s die with
      | none => s
      | some d =>
        match pickTile s d with
        | none => s
        | some n => sweepDie (startMig s o ⟨t, some (d, n), 0, false⟩) d
    else s

/-! ## Protection -/

/-- Event and count of an uncorrectable error at an address (06 R217); the fourth scratchpad error of a physical cluster
within 1,000 ms marks it unhealthy (01 R21). -/
def markUnhealthy (s : State) (die pc cause : Nat) : State :=
  let h := getO s 0x2010 (die + 1)
  if !fbit h pc then s
  else raise (setO s 0x2010 (die + 1) (h - 2 ^ pc)) 0x2204 (f8 die ++ f8 pc ++ f8 cause)

/-- Channel and channel offset of a DRAM address (06 R211). -/
def dramDecode (a : Nat) : Nat × Nat :=
  let x := if 0x003000000000 ≤ a then 1 else 0
  let a1 := a - x * 0x003000000000
  let g := a1 / 256
  (48 * x + g % 48, g / 48 * 256 + a1 % 256)

/-- The descriptor index under which a read of the awl is made: 0x1ffff for an unscheduled descriptor, whose events carry 0xffff and its
poison (R217), which a read of anyone else, 0xffff too, does not have. -/
def awlEcc (ix : Nat) : Nat := if ix = 0xffff then 0x1ffff else ix

def Who.eccDesc (w : Who) : Nat := if w.kind = 2 then awlEcc w.desc else w.desc

def uncorrectable (s : State) (desc a : Nat) : State :=
  let s := count s 0x4020 0x0a 1
  match classify a with
  | .spad l c o =>
    let s := raiseP s 0x4001 (f16 l ++ f8 c ++ f16 o ++ f16 desc) (desc != 0xffff)
    let pc := l / 19 * 20 + physOf s l
    let errs := s.memSt.spadErrs.filter (fun e => s.now < e.2 + 1000 * msec) ++ [(pc, s.now)]
    let s := { s with memSt := { s.memSt with spadErrs := errs } }
    if 4 ≤ (errs.filter (fun e => e.1 == pc)).length then markUnhealthy s (l / 19) (physOf s l) 2 else s
  | .sram d o => raiseP s 0x4002 (f8 d ++ f16 (o / 16384) ++ f16 (o % 16384 / 32) ++ f16 desc) (desc != 0xffff)
  | _ => raiseP s 0x4003 (f8 (dramDecode a).1 ++ f32 (dramDecode a).2 ++ f16 desc) (desc != 0xffff)

/-- One stored granule that a read meets with flipped bits (06 R214, R216, R217): a single-bit error is corrected and
counted, in stacked SRAM and DRAM it is gone afterwards; more bits are an uncorrectable error, in DRAM after a re-read that counts. -/
def eccStep (desc : Nat) (r : State × Bool) (e : Nat × Nat) : State × Bool :=
  let fix := { r.1 with memSt := { r.1.memSt with upsets := mset 0 r.1.memSt.upsets e.1 0 } }
  match classify (e.1 * 32) with
  | .spad _ _ _ => if 2 ≤ e.2 then (uncorrectable r.1 desc (e.1 * 32), true) else (count r.1 0x4020 7 1, r.2)
  | .sram _ _ => if 2 ≤ e.2 then (uncorrectable r.1 desc (e.1 * 32), true) else (count fix 0x4020 8 1, r.2)
  | _ => if 2 ≤ e.2 then (uncorrectable (count r.1 0x4020 9 1) desc (e.1 * 32), true) else (count fix 0x4020 9 1, r.2)

/-- A range of `n` bytes at `a` touches the granule at 32 × `k`: 256 bytes in DRAM, 32 elsewhere (06 R211, R214). -/
def touchesGranule (a n k : Nat) : Bool :=
  let g := match classify (k * 32) with | .dram => 256 | _ => 32
  a / g ≤ k * 32 / g && k * 32 / g * g < a + n

/-- A read of `n` bytes meets the granules with errors; true where one is uncorrectable. -/
def ecc (s : State) (desc a n : Nat) : State × Bool :=
  (s.memSt.upsets.filter (fun e => touchesGranule a n e.1)).foldl (eccStep desc) (s, false)

/-- A write stores its granules anew. -/
def eccClear (s : State) (a n : Nat) : State :=
  { s with memSt := { s.memSt with upsets := s.memSt.upsets.filter (fun e => !touchesGranule a n e.1) } }

/-! ## Accesses -/

/-- Why an access of `n` bytes at `a` (within one 16 KiB tile) is refused: 1 unmapped, 2 world or region, 3 not writable, 4
running scratchpad (06 R206, R207, R222, 15 R493, R494); none where it is admitted. -/
def refusal (s : State) (w : Who) (a : Nat) (wr : Bool) : Option Nat :=
  match classify a with
  | .unmapped => some 1
  | .mmio _ => some 1
  | .ram core _ => if core = 320 && !w.secure then some 2 else none
  | .objSpace =>
    match objAt s a with
    | none => some 1
    | some (_, o) =>
      if !w.secure && (regionSecure s o.region || o.secure) then some 2
      else if wr && !o.writable then some 3
      else none
  | .spad l _ _ =>
    if !w.secure && regionSecure s (regionAt s a) then some 2
    else if physOf s l = 0xff then some 1
    else if clusterRuns s l then some 4
    else none
  | _ => if !w.secure && regionSecure s (regionAt s a) then some 2 else none

/-- A refused access: event 0x4005, the counter, and a world violation where a world or region check refused it (15 R495). -/
def refuse (s : State) (w : Who) (a reason : Nat) : State :=
  let s := count s 0x4020 0x0b 1
  let s := raiseP s 0x4005 (f8 w.kind ++ f32 w.req ++ f64 a ++ f8 reason ++ f16 w.desc ++ f16 w.ptick)
    (w.kind == 2)
  if reason = 2 then violation s else s

/-- The pieces of a range that lie within one 16 KiB tile each. -/
def piecesF : Nat → Nat → Nat → List (Nat × Nat)
  | 0, _, _ => []
  | f + 1, a, n =>
    if n = 0 then [] else
      let k := min n (16384 - a % 16384)
      (a, k) :: piecesF f (a + k) (n - k)

def pieces (a n : Nat) : List (Nat × Nat) := piecesF (n / 16384 + 2) a n

/-- The first refusal in a range. -/
def refusalRange (s : State) (w : Who) (a n : Nat) (wr : Bool) : Option (Nat × Nat) :=
  (pieces a n).findSome? (fun p => (refusal s w p.1 wr).map (fun r => (p.1, r)))

/-- Base and size of the slot-to-eyelet map of object 0x6030.02 (10 R379; log entry 48). -/
def slotMapBase : Nat := 0x30000000
def slotMapSize : Nat := 4 * 65536

/-- The eyelet that holds an appliance slot, 0xffff_ffff where none does. -/
def slotMapWord (s : State) (a : Nat) : Nat :=
  match s.serving.slots.find? (fun e => e.1 % 65536 == a && e.2.eyelet.isSome) with
  | some e => e.2.eyelet.getD 0xffffffff
  | none => 0xffffffff

/-- DRAM bytes, with the slot-to-eyelet map as the serving engine keeps it. -/
def dramGet (s : State) (a n : Nat) : List Byte :=
  let l := memGet s a n
  if a + n ≤ slotMapBase || slotMapBase + slotMapSize ≤ a then l
  else l.zipIdx.map (fun e =>
    let o := a + e.2 - slotMapBase
    if slotMapBase ≤ a + e.2 && o < slotMapSize then BitVec.ofNat 8 (slotMapWord s (o / 4) / 256 ^ (o % 4)) else e.1)

/-- Bytes at one place without a check: DRAM, stacked SRAM, scratchpad window, local RAM. After the loss of a main rail the contents of DRAM
are undefined up to the next power-up (06 R204, 17 R569). -/
def physGet (s : State) (a n : Nat) : List Byte :=
  match classify a with
  | .spad l c o => (List.range n).map (fun i => spadByte s l c (o + i))
  | .dram =>
    if s.sec.dramKeyLost then List.replicate n 0
    else if s.power.railLost then (List.range n).map (fun i => Config.freeByte s.free (a + i)) else dramGet s a n
  | _ => memGet s a n

/-- A store into local RAM ends the reservations of LR on the words that it touches (13 R438; log entry 90). -/
def breakResv (s : State) (a n : Nat) : State :=
  { s with harts := s.harts.map (fun e => (e.1, { e.2 with resv := e.2.resv.filter (fun r => r + 8 ≤ a || a + n ≤ r) })) }

/-- A byte of the object table or of a tile array, which the package alone writes (06 R220, R221). -/
def tableByte (s : State) (a : Nat) : Bool :=
  let t := getO s 0x4011 1
  (t ≤ a && a < t + 64 * getO s 0x4011 2) ||
    s.memSt.objs.any (fun e => e.2.tileArray ≤ a && a < e.2.tileArray + 8 * (e.2.length / 16384))

/-- A store to DRAM; bytes of the object table and of tile arrays keep their values. -/
def dramPut (s : State) (a : Nat) (l : List Byte) : State :=
  let cells := l.zipIdx.filter (fun e => !tableByte s (a + e.2))
  if cells.length = l.length then memPut s a l else cells.foldl (fun s e => memPut s (a + e.2) [e.1]) s

def physPut (s : State) (a : Nat) (l : List Byte) : State :=
  let s := eccClear s a l.length
  match classify a with
  | .spad q c o => spadPut s q c o l
  | .dram => if s.sec.dramKeyLost then count s 0x4020 0x0b 1 else dramPut s a l
  | .ram _ _ => memPut (breakResv s a l.length) a l
  | _ => memPut s a l

/-- A peek at package memory without side effect, for structures the package reads for itself. -/
def peek (s : State) (a n : Nat) : List Byte :=
  (pieces a n).flatMap (fun p => match classify p.1 with
    | .objSpace => match objAt s p.1 with
      | some (_, o) => physGet s (physAddr s o p.1) p.2
      | none => List.replicate p.2 0
    | .unmapped => List.replicate p.2 0
    | _ => physGet s p.1 p.2)

/-! ## The command rings and the class change that runs (06 R223, R230) -/

def tilesOf (o : ObjEnt) : List Nat := (List.range (o.length / 16384)).map (· + o.base / 16384)

/-- Migrations of an object end without effect. -/
def cancelMigs (s : State) (o : ObjEnt) : State :=
  let ts := tilesOf o
  let mine := s.memSt.migs.filter (fun m => ts.contains m.tile)
  let s := { s with memSt := { s.memSt with migs := s.memSt.migs.filter (fun m => !ts.contains m.tile) } }
  mine.foldl (fun s m => putTile s o m.tile { getTile s m.tile with busy := false }) s

def ringObj (ring : Bool) : Nat := if ring then 0x4012 else 0x4010
def ringHead (s : State) (ring : Bool) : Nat := getO s (ringObj ring) 4
def ringTail (s : State) (ring : Bool) : Nat := if ring then s.memSt.sTail else s.memSt.nsTail
def ringSlot (s : State) (ring : Bool) : Nat :=
  getO s (ringObj ring) 1 + 64 * (ringHead s ring % 2 ^ getO s (ringObj ring) 2)

/-- The entry at the head. -/
def headEntry (s : State) (ring : Bool) : List Byte := peek s (ringSlot s ring) 64

/-- A command completes: STATUS, head, counters, event 0x4006 (06 R223). -/
def finishCmd (s : State) (ring : Bool) (status : Nat) : State :=
  let e := headEntry s ring
  let s := pkgPut s (ringSlot s ring + 1) (f8 status)
  let s := setO s (ringObj ring) 4 ((ringHead s ring + 1) % 2 ^ 32)
  let s := { s with memSt := { s.memSt with cmd := none } }
  let s := count s 0x4020 (if status = 1 then 5 else 6) 1
  if fbit (fieldB e 2 1) 0 then
    raise s 0x4006 (f8 (if ring then 1 else 0) ++ sub e 4 4 ++ f8 (fieldB e 0 1) ++ f8 status ++ sub e 8 8)
  else s

/-- Class and die that the running object command gives its object. -/
def cmdClass (s : State) (c : ObjCmd) : Nat × Nat :=
  let e := headEntry s (c.ring == 1)
  let a := if fieldB e 0 1 = 1 then fieldB e 32 8 else fieldB e 16 8
  (field a 0 8, field a 8 8)

/-- The end of a class change for an object command: the class, or 0x89 where a tile was aborted three times. -/
def endClass (s : State) (k : Nat) (o : ObjEnt) (failed : Bool) : State :=
  match s.memSt.cmd with
  | none => s
  | some c =>
    let ring := c.ring == 1
    let a := cmdClass s c
    if failed then finishCmd (putObj (cancelMigs s o) k { o with state := 1 }) ring 0x89
    else
      let s := finishCmd (putObj s k { o with cls := a.1, homeDie := a.2, state := 1 }) ring 1
      if a.1 = 0 then sweepDie s a.2 else s

/-- A migration of a class change runs on an object. -/
def classMigs (s : State) (o : ObjEnt) : Bool := s.memSt.migs.any (fun m => m.forClass && (tilesOf o).contains m.tile)

/-- A class change whose last migration is gone is complete (06 R230). -/
def settleClass (s : State) : State :=
  match s.memSt.objs.find? (fun e => e.2.state == 2 && !classMigs s e.2) with
  | some (k, o) => endClass s k o false
  | none => s

/-- A write to a tile under migration aborts it; a class change copies the tile again, and fails at its third abort (06 R231). -/
def abortMig (s : State) (k : Nat) (o : ObjEnt) (t : Nat) : State :=
  match s.memSt.migs.find? (fun m => m.tile == t) with
  | none => s
  | some m =>
    let s := count s 0x4020 4 1
    let rest := s.memSt.migs.filter (fun m => m.tile != t)
    if m.forClass && m.aborts < 2 then
      { s with memSt := { s.memSt with migs := rest ++ [{ m with aborts := m.aborts + 1 }] } }
    else
      let s := putTile { s with memSt := { s.memSt with migs := rest } } o t { getTile s t with busy := false }
      if m.forClass then endClass s k o true
      else if m.dest.isNone then sweepDie s (getTile s t).die else s

/-- LAST_USE of an object (06 R220). -/
def touchObj (s : State) (k : Nat) (o : ObjEnt) : State :=
  if o.lastUse = s.lace.tick then s else putObj s k { o with lastUse := s.lace.tick }

/-- An admitted read of one piece: bytes, and whether an uncorrectable error was met. -/
def pieceGet (s : State) (w : Who) (a n : Nat) : State × List Byte × Bool :=
  match classify a with
  | .objSpace =>
    match objAt s a with
    | none => (s, List.replicate n 0, false)
    | some (k, o) =>
      let p := physAddr s o a
      let (s, bad) := ecc s w.eccDesc p n
      let l := physGet s p n
      (touchRead (touchObj s k o) w.die o (a / 16384), l, bad)
  | _ => let (s, bad) := ecc s w.eccDesc a n; (s, physGet s a n, bad)

/-- A store to its place; one of a scheduled descriptor to DRAM or stacked SRAM is a result of its tick. -/
def placePut (s : State) (w : Who) (a : Nat) (l : List Byte) : State :=
  let s := physPut s a l
  if w.kind = 2 && w.desc != 0xffff then
    match classify a with
    | .dram => noteWrite s a l.length
    | .sram _ _ => noteWrite s a l.length
    | _ => s
  else s

/-- An admitted write of one piece. A copy becomes DIRTY; a migration of the tile is aborted. -/
def piecePut (s : State) (w : Who) (a : Nat) (l : List Byte) : State :=
  match classify a with
  | .objSpace =>
    match objAt s a with
    | none => s
    | some (k, o) =>
      let s := placePut s w (physAddr s o a) l
      let t := a / 16384
      let s := if (getTile s t).copy && !(getTile s t).dirty then putTile s o t { getTile s t with dirty := true } else s
      touchObj (abortMig s k o t) k o
  | _ => placePut s w a l

def getPieces (w : Who) : List (Nat × Nat) → State → State × List Byte × Bool
  | [], s => (s, [], false)
  | (a, n) :: r, s =>
    let (s, l, b) := pieceGet s w a n
    let (s, l', b') := getPieces w r s
    (s, l ++ l', b || b')

def putPieces (w : Who) : List (Nat × Nat) → List Byte → State → State
  | [], _, s => s
  | (a, n) :: r, l, s => putPieces w r (l.drop n) (piecePut s w a (l.take n))

/-- A read without checks of its own (the internal movers of 15 R491, or after a check). -/
def getAt (s : State) (w : Who) (a n : Nat) : State × List Byte × Bool := getPieces w (pieces a n) s
def putAt (s : State) (w : Who) (a : Nat) (l : List Byte) : State := putPieces w (pieces a l.length) l s

/-- A checked read: zeros where it is refused (06 R206). The last component is the refusal's reason. -/
def readAt (s : State) (w : Who) (a n : Nat) : State × List Byte × Bool × Option Nat :=
  match refusalRange s w a n false with
  | some (x, r) => (refuse s w x r, List.replicate n 0, false, some r)
  | none => let (s, l, b) := getAt s w a n; (s, l, b, none)

/-- A checked write: dropped where it is refused. -/
def writeAt (s : State) (w : Who) (a : Nat) (l : List Byte) : State × Option Nat :=
  match refusalRange s w a l.length true with
  | some (x, r) => (refuse s w x r, some r)
  | none => (putAt s w a l, none)

/-- The package's own movers and readers. -/
def Who.pkg : Who := ⟨7, 0, 0xffff, 0xffff, true, 0⟩
/-- The serving engine (kind 6), non-secure. -/
def Who.serving : Who := ⟨6, 0, 0xffff, 0xffff, false, 0⟩

end Sys2Proof.Machine
end

