-- ==== Sys2Proof/Machine/FabCore.lean ====
section
/-! DEFINITION. The fabric's packets, routing, combining and tags (09 R304–R325). -/
namespace Sys2Proof.Machine

/-! ## Packets (09 R313) -/

abbrev Pkt := List Byte

def pOp (p : Pkt) : Nat := fieldB p 0 1
def pFlags (p : Pkt) : Nat := fieldB p 1 1
def pSize8 (p : Pkt) : Bool := fbit (pFlags p) 0
def pSecure (p : Pkt) : Bool := fbit (pFlags p) 1
def pLogical (p : Pkt) : Bool := fbit (pFlags p) 2
def pSrc (p : Pkt) : Nat := fieldB p 2 2 % 2048
def pDst (p : Pkt) : Nat := fieldB p 4 2 % 2048
def pTag (p : Pkt) : Nat := fieldB p 6 2 % 16384
def pGen (p : Pkt) : Nat := fieldB p 6 2 / 16384
def pOff (p : Pkt) : Nat := fieldB p 8 6
def pInc (p : Pkt) : Nat := fieldB p 14 2
def pReq (p : Pkt) : Nat := fieldB p 16 3
def pHops (p : Pkt) : Nat := fieldB p 19 1
def pLease (p : Pkt) : Nat := fieldB p 20 4
def pMask (p : Pkt) : Nat := fieldB p 24 8
def pData (p : Pkt) (n : Nat) : List Byte := sub p 32 n
def pA (p : Pkt) : Nat := fieldB p 32 (if pSize8 p then 8 else 4)
def pC (p : Pkt) : Nat := fieldB p 40 (if pSize8 p then 8 else 4)
def isResp (p : Pkt) : Bool := 0x80 ≤ pOp p

/-- One field of a packet replaced. -/
def pSet (p : Pkt) (o : Nat) (l : List Byte) : Pkt := p.take o ++ l ++ p.drop (o + l.length)

/-- A packet's 128 bytes. -/
def mkPkt (op flags src dst tag off inc req lease mask : Nat) (data : List Byte) : Pkt :=
  padTo 128 (f8 op ++ f8 flags ++ f16 src ++ f16 dst ++ f16 tag ++ leBytes 6 off ++ f16 inc ++ leBytes 3 req ++ [0] ++
    f32 lease ++ f64 mask ++ data)

/-- A response: the request's header with a response OP, a STATUS and no hops, and data (R313, R314). -/
def mkResp (p : Pkt) (op status : Nat) (data : List Byte) : Pkt :=
  padTo 128 (f8 op ++ f8 status ++ sub p 2 17 ++ [0] ++ sub p 20 12 ++ data)

/-- The response of a request that gets no data: 0x80 for a READ, 0x81 for a WRITE, 0x82 for the others. -/
def respOp (op : Nat) : Nat := if op = 1 then 0x80 else if op = 2 then 0x81 else 0x82
def failResp (p : Pkt) (status : Nat) : Pkt := mkResp p (respOp (pOp p)) status []

/-- REQ_ID of an agent and thread of this package. -/
def reqId (s : State) (agent thread : Nat) : Nat := pnode s + agent * 2048 + thread * 2 ^ 20

/-- The incarnation in force of an agent and thread (R328): the value drawn after VDD_AON was lost, plus its rises. -/
def incarnation (s : State) (agent thread : Nat) : Nat :=
  let k := agent * 8 + thread
  (Config.random (s.fab.incBase + k) + s.fab.incAll + mget 0 s.fab.inc k) % 65536

def bumpInc (s : State) (agent thread : Nat) : State :=
  let k := agent * 8 + thread
  { s with fab := { s.fab with inc := mset 0 s.fab.inc k (mget 0 s.fab.inc k + 1) } }

/-! ## Combining (R318–R320) -/

/-- The rows of R312 that combine: READ outside MMIO, and the seven mergeable atomics. -/
def combinable (s : State) (p : Pkt) : Bool :=
  let en := getO s 0x4040 6
  (pOp p == 1 && fbit en 0 && !(0x00f000000000 ≤ pOff p && pOff p < 0x00f100000000)) ||
    (0x10 ≤ pOp p && pOp p ≤ 0x16 && fbit en 1)

def sameLine (p q : Pkt) : Bool := pDst p == pDst q && pOff p / 64 == pOff q / 64

def identical (p q : Pkt) : Bool :=
  pOp p == pOp q && pDst p == pDst q && pSecure p == pSecure q &&
    (if pOp p = 1 then pOff p / 64 == pOff q / 64 else pOff p == pOff q && pSize8 p == pSize8 q)

/-- The result of an atomic on its operand (R312). -/
def atomic (op w x a : Nat) : Nat :=
  match op with
  | 0x10 => (x + a) % 2 ^ w
  | 0x11 => x ||| a
  | 0x12 => x &&& a
  | 0x13 => if signed w a < signed w x then a else x
  | 0x14 => if signed w x < signed w a then a else x
  | 0x15 => min x a
  | 0x16 => max x a
  | 0x17 => a
  | _ => x

/-- The operand of two merged requests, the first one's before the second's (R319). -/
def mergeOp (op w a b : Nat) : Nat := atomic op w a b

def pWidth (p : Pkt) : Nat := if pSize8 p then 64 else 32

/-- A request merged into a waiting lead packet. -/
def mergePkt (lead p : Pkt) : Pkt :=
  if pOp p = 1 then lead
  else pSet lead 32 (leBytes (pWidth p / 8) (mergeOp (pOp p) (pWidth p) (pA lead) (pA p)))

def flitOf (p : Pkt) : Flit := ⟨4, true, 0, p⟩

/-- Router of a port: 0 west, 1 east (01 R23). -/
def dieOfPort (p : Nat) : Nat := p / 32

def sameTag (p q : Pkt) : Bool := pSrc p == pSrc q && fieldB p 6 2 == fieldB q 6 2

/-- A fabric packet joins the output queue of a port, merged into the last waiting request of its line where that is
identical, its group has fewer than 16 members, and the router has a free group (R318). -/
def enqueueFab (s : State) (p : Nat) (k : Pkt) : State :=
  let x := getPort s p
  let plain := setPort s p { x with fab := x.fab ++ [flitOf k] }
  if isResp k || !combinable s k then plain
  else
    match x.fab.reverse.find? (fun f => !isResp f.body && sameLine f.body k) with
    | none => plain
    | some f =>
      if !identical f.body k then plain
      else
        let g := s.fab.groups.find? (fun g => g.port == p && sameTag g.lead f.body)
        let n := match g with | some g => g.members.length | none => 1
        let full := g.isNone && 256 ≤ (s.fab.groups.filter (fun g => dieOfPort g.port == dieOfPort p)).length
        if 16 ≤ n || full then plain
        else
          let lead := mergePkt f.body k
          let q := x.fab.map (fun e => if e = f then flitOf lead else e)
          let s := count (setPort s p { x with fab := q }) 0x4050 (if pOp k = 1 then 2 else 3) 1
          let rest := s.fab.groups.filter (fun g => !(g.port == p && sameTag g.lead f.body))
          let members := match g with | some g => g.members ++ [k] | none => [f.body, k]
          { s with fab := { s.fab with groups := rest ++ [⟨p, lead, members⟩] } }

/-- The responses of a group's members from the response of its lead (R320). -/
def fanOut (g : Group) (r : Pkt) : List Pkt :=
  let w := pWidth g.lead
  let x0 := fieldB r 32 (w / 8)
  let step := fun (a : Nat × List Pkt) (m : Pkt) =>
    if pOp m = 1 then (a.1, a.2 ++ [mkResp m 0x80 (pFlags r) (pData r 64)])
    else (atomic (pOp m) w a.1 (pA m),
      a.2 ++ [mkResp m 0x82 (pFlags r) (if pFlags r = 0 then leBytes (w / 8) a.1 else [])])
  (g.members.foldl step (x0, [])).2

/-! ## Routing (R308–R310) -/

def unreachable (s : State) (node cause : Nat) : State :=
  raiseMs (count s 0x4050 9 1) 0x4012 node (f16 node ++ f8 cause)

/-- A response travels toward its requester; it is dropped where it cannot leave (R308). -/
def sendResp (s : State) (r : Pkt) : State :=
  if pSrc r = pnode s then { s with fab := { s.fab with answers := s.fab.answers ++ [r] } }
  else match routePort s (pSrc r) with
    | some p => enqueueFab s p r
    | none => s

/-- Cause of an unreachable node: 1 no valid entry, 2 no up port (R333). -/
def routeCause (s : State) (node : Nat) : Nat := if fbit (mget 0 s.fab.routes node) 15 then 2 else 1

/-- A welt port that holds 1 has failed (16 R532): port `2 d + side` of C-die d, 32 and 33 the cross welt. -/
def weltFailed (s : State) (k : Nat) : Bool := mget 0 s.welts k == 1

/-- X-die of an agent that is on one (01 R23): supervisor cores 4 to 7 and the RoCEv2 requester are on the east, the others on the west. -/
def agentSide (agent : Nat) : Nat := if (324 ≤ agent && agent < 328) || agent = 330 then 1 else 0

/-- The cross welt between the X-dies: traffic meets both of its ports, since the spec does not say which one it takes (DESIGN CHOICE, log
entry 83). -/
def crossWelt (a b : Nat) : List Nat := if a = b then [] else [32, 33]

/-- Welt ports between an agent of this package and X-die `x` (01 R27): a cluster's control core reaches it over its own welt. -/
def agentWelts (agent x : Nat) : List Nat :=
  if agent < 320 then [2 * (agent / 20) + x] else crossWelt (agentSide agent) x

/-! ## Ordering points (R315, R316) -/

/-- Where a request enters: from a C-die's welt, or at an X-die's router. -/
inductive FabEntry where
  | die (d : Nat)
  | side (x : Nat)
  deriving DecidableEq, Repr

/-- Where a request for this package enters: by its link port, or at its agent. -/
def entersAt (port : Option Nat) (p : Pkt) : FabEntry :=
  match port with
  | some q => .side (q / 32)
  | none => if field (pReq p) 11 9 < 320 then .die (field (pReq p) 11 9 / 20) else .side (agentSide (field (pReq p) 11 9))

/-- X-die and welt ports toward C-die `d`: another C-die's traffic takes the west X-die where its own number is even, else the east; an X-die
uses its own welt (01 R27). -/
def towardDie (e : FabEntry) (d : Nat) : Nat × List Nat :=
  match e with
  | .die c => if c = d then (0, []) else (c % 2, [2 * c + c % 2, 2 * d + c % 2])
  | .side x => (x, [2 * d + x])

/-- Welt ports toward X-die `x`. -/
def towardSide (e : FabEntry) (x : Nat) : List Nat :=
  match e with
  | .die c => [2 * c + x]
  | .side y => crossWelt y x

/-- X-die of a target's ordering point and the welt ports on the way to it and behind it (R315, 01 R27). -/
def targetPath (s : State) (e : FabEntry) (a : Nat) : Nat × List Nat :=
  match classify a with
  | .dram => let x := if 0x003000000000 ≤ a then 1 else 0; (x, towardSide e x)
  | .sram d _ => (0, towardSide e 0 ++ [2 * d])
  | .spad l _ _ => towardDie e (l / 19)
  | .ram c _ => if c < 320 then towardDie e (c / 20) else ((c - 320) / 4, towardSide e ((c - 320) / 4))
  | .objSpace =>
    (match objAt s a with
    | none => (0, towardSide e 0)
    | some (_, o) =>
      let x := if 0x003000000000 ≤ o.dramHome + (a - o.base) then 1 else 0
      let t := getTile s (a / 16384)
      (x, towardSide e x ++ (if t.copy then [2 * t.die + x] else [])))
  | _ => (0, towardSide e 0)

/-- Input of the router that owns the ordering point (R316). -/
def inputOf (s : State) (port : Option Nat) (p : Pkt) : Nat :=
  let e := entersAt port p
  let x := (targetPath s e (pOff p)).1
  match e with
  | .die d => 64 + d
  | .side y =>
    if y != x then 80
    else match port with
      | some q => q
      | none =>
        let a := field (pReq p) 11 9
        if a < 328 then 83 else if a = 328 then 82 else if a = 329 then 81 else if a = 330 then 84 else 85

/-- Requests inside the package stand in order of arrival, those of one cycle by ascending input (R316). -/
def insertReq (r : InReq) : List InReq → List InReq
  | [] => [r]
  | e :: l => if r.cyc < e.cyc || (r.cyc == e.cyc && r.input < e.input) then r :: e :: l else e :: insertReq r l

/-- A request for this package joins those on their way to its ordering points. -/
def queueReq (s : State) (port : Option Nat) (p : Pkt) : State :=
  { s with fab := { s.fab with inside := insertReq ⟨p, s.cyc, inputOf s port p, port⟩ s.fab.inside } }

/-- A request of this package leaves toward its target: inside the package, held for a route change, out of a port, or
answered as unreachable by the router (R308, R310). -/
def sendReq (s : State) (p : Pkt) : State :=
  if pDst p = pnode s then queueReq s none p
  else if (mfind s.fab.pendRoutes (pDst p)).isSome then
    { s with fab := { s.fab with heldReqs := s.fab.heldReqs ++ [p] } }
  else match routePort s (pDst p) with
    | some q =>
      if (agentWelts (field (pReq p) 11 9) (q / 32)).any (weltFailed s) then sendResp (count s 0x4050 9 1) (failResp p 2)
      else enqueueFab s q p
    | none => sendResp (unreachable s (pDst p) (routeCause s (pDst p))) (failResp p 2)

/-! ## Tags (R323–R325) -/

def tagsInUse (s : State) : Nat := s.fab.reqs.length

/-- A free tag exists for the requester: others than supervisor cores stop at the reserve (R325). -/
def tagFree (s : State) (agent : Nat) : Bool :=
  let free := 16384 - tagsInUse s
  if 320 ≤ agent && agent < 328 then 0 < free else getO s 0x4040 2 < free

/-- The lowest tag not in use (DESIGN CHOICE, log entry 25). -/
def pickTagF : Nat → SMap FabReq → Nat → Nat
  | 0, _, i => i
  | _ + 1, [], i => i
  | n + 1, (k, _) :: r, i => if k = i then pickTagF n r (i + 1) else i

def pickTag (s : State) : Nat := pickTagF 16384 s.fab.reqs 0

/-- The generation of a tag's next use: it rises by 1 at each reuse (R323); 0 marks a tag never used, n + 1 generation n. -/
def nextGen (s : State) (t : Nat) : Nat := (mget 0 s.fab.gens t) % 4

/-- A packet takes a tag and leaves. -/
def launch (s : State) (sink : Sink) (p : Pkt) : State :=
  let t := pickTag s
  let g := nextGen s t
  let p := pSet p 6 (f16 (t + g * 16384))
  let fab := { s.fab with
    gens := mset 0 s.fab.gens t (g + 1)
    reqs := mbind s.fab.reqs t ⟨p, sink, s.now⟩ }
  sendReq (count { s with fab := fab } 0x4050 1 1) p

def agentOf (p : Pkt) : Nat := field (pReq p) 11 9

/-- Where a fabric address leads (R304–R306): a node, or a status that completes the request at once. -/
inductive Route where
  | node (n : Nat) (logical : Bool)
  | done (status : Nat)
  deriving DecidableEq, Repr

def faNode (a : Nat) : Nat := field a 48 11
def faSpace (a : Nat) : Nat := field a 60 2
def faWorld (a : Nat) : Bool := fbit a 62

def fabRoute (s : State) (secure : Bool) (a : Nat) : Route :=
  if faWorld a && !secure then .done 1
  else if faSpace a = 0 then
    let n := mget 0xffff s.fab.lmap (faNode a)
    if n = 0xffff then .done 2 else .node (n % 2048) true
  else if faSpace a = 1 then .node (faNode a) false
  else if faSpace a = 2 then .node (pnode s) false
  else .done 7

/-- The packet of a request toward node `n`. -/
def reqPkt (s : State) (a op size8 agent thread lease mask : Nat) (data : List Byte) (n : Nat) (logical : Bool) : Pkt :=
  let fl := size8 + (if faWorld a then 2 else 0) + (if logical then 4 else 0)
  mkPkt op fl (pnode s) n 0 (a % 2 ^ 48) (incarnation s agent thread) (reqId s agent thread) lease mask data

/-- A request that completes at once (R305, R306): a world violation counts here (15 R495). -/
def issueDone (s : State) (st : Nat) : State :=
  if st = 1 then violation s else if st = 2 then count s 0x4050 9 1 else s

/-- An earlier access of the thread waits for its tag. -/
def threadStalled (s : State) (agent thread : Nat) : Bool :=
  s.fab.stalled.any (fun e => agentOf e.2 == agent && field (pReq e.2) 20 3 == thread)

def stall (s : State) (sink : Sink) (p : Pkt) : State :=
  { s with fab := { s.fab with stalled := s.fab.stalled ++ [(sink, p)] } }

/-- Requesters that stall for want of a tag (R325): a WRITE at the bound of 16 waits for another reason. -/
def tagWaiters (s : State) : Nat :=
  (((s.fab.stalled.filter (fun e => !tagFree s (agentOf e.2))).map (fun e => pReq e.2)).eraseDups).length

/-- A packet leaves with a tag, or waits for one (R325). -/
def sendOrStall (s : State) (sink : Sink) (p : Pkt) : State :=
  if tagFree s (agentOf p) && !threadStalled s (agentOf p) (field (pReq p) 20 3) then launch s sink p
  else
    let n := tagWaiters s
    let s := stall s sink p
    if tagWaiters s = n then s
    else raiseMs (count s 0x4050 4 1) 0x4013 0 (f16 (tagsInUse s) ++ f16 (getO s 0x4040 2) ++ f16 (tagWaiters s))

/-- A requester issues a fabric request. `none`: it left or waits for a tag. `some st`: it completes at once with that
status (R305, R306). -/
def issue (s : State) (secure : Bool) (a op size8 agent thread lease mask : Nat) (data : List Byte) (sink : Sink) :
    State × Option Nat :=
  match fabRoute s secure a with
  | .done st => (issueDone s st, some st)
  | .node n logical => (sendOrStall s sink (reqPkt s a op size8 agent thread lease mask data n logical), none)

/-- A thread whose stalled access leaves waits for its response, or goes on after a WRITE (R326). -/
def unstall (s : State) (sink : Sink) : State :=
  match sink with
  | .reg h _ _ _ _ => setHart s h { getHart s h with wait := .response }
  | .posted h => match (getHart s h).wait with
    | .tags | .writes => setHart s h { getHart s h with wait := .none }
    | _ => s
  | _ => s

/-- A WRITE of a control core. -/
def postedBy (c : Nat) (x : Sink) : Bool :=
  match x with
  | .posted h => h.core == c
  | _ => false

/-- A core holds fewer than 16 WRITEs without an ACK (R326). -/
def writeRoom (s : State) (c : Nat) : Bool := (s.fab.reqs.filter (fun e => postedBy c e.2.sink)).length < 16

/-- A stalled request may leave: a tag is free for it, and a WRITE of a control core has room. -/
def mayLeave (s : State) (e : Sink × Pkt) : Bool :=
  tagFree s (agentOf e.2) && (match e.1 with | .posted h => writeRoom s h.core | _ => true)

/-- Stalled requests leave while tags are free, oldest first (R325). -/
def resume (s : State) : State :=
  match s.fab.stalled.find? (mayLeave s) with
  | none => s
  | some e =>
    unstall (launch { s with fab := { s.fab with stalled := s.fab.stalled.erase e } } e.1 e.2) e.1

/-- A tag is free again. -/
def freeTag (s : State) (t : Nat) : State := resume { s with fab := { s.fab with reqs := mdrop s.fab.reqs t } }

/-- A credit of a received fabric or management flit goes back (08 R277, R279). -/
def giveCredit (s : State) (p ch : Nat) : State :=
  modPort s p (fun x => { x with ctrl := x.ctrl ++ [BitVec.ofNat 128 (3 + ch * 256 + 2 ^ 16)] })

end Sys2Proof.Machine
end

