-- ==== Sys2Proof/Machine/ObjCmds.lean ====
section
/-! DEFINITION. Object space: the command rings, the object commands, class changes and migrations, the access of a tile
controller, scrubbing and the size of a last store (06 R208–R232). -/
namespace Sys2Proof.Machine

/-- An object write's outcome: an abort code of 14 R482, or the state after it. -/
abbrev WRes := Except Nat State

/-! ## Moving tiles -/

/-- The listed cells of a range copied to another place, the rest of it unlisted. -/
def memCopy (s : State) (src dst n : Nat) : State :=
  let cells := s.mem.filter (fun e => src ≤ e.1 && e.1 < src + n)
  let s := memClear s dst n
  { s with mem := cells.foldl (fun m e => mset 0 m (dst + (e.1 - src)) e.2) s.mem }

/-- The copy of a tile goes, written back where it is DIRTY (06 R229); a class change that promotes the tile goes on (R230). -/
def dropCopy (s : State) (o : ObjEnt) (t : Nat) : State :=
  let x := getTile s t
  if !x.copy then s
  else
    let home := o.dramHome + (t * 16384 - o.base)
    let s := if x.dirty then
        let s := (ecc s 0xffff (sramTile x.die x.tile) 16384).1
        count (eccClear (memCopy s (sramTile x.die x.tile) home 16384) home 16384) 0x4020 3 1
      else s
    let s := { s with memSt := { s.memSt with migs := s.memSt.migs.filter (fun m => m.tile != t || (m.forClass && m.dest.isSome)) } }
    count (putTile s o t { x with copy := false, dirty := false, busy := s.memSt.migs.any (fun m => m.tile == t), die := 0, tile := 0 }) 0x4020 2 1

/-- A tile's contents copied to a pool tile, its entry changed in one step (06 R231 step 4). -/
def placeCopy (s : State) (o : ObjEnt) (t d n : Nat) : State :=
  let x := getTile s t
  let (s, _) := ecc s 0xffff (physAddr s o (t * 16384)) 16384
  let s := eccClear (memCopy s (physAddr s o (t * 16384)) (sramTile d n) 16384) (sramTile d n) 16384
  let s := if x.copy then s else count s 0x4020 1 1
  putTile s o t { x with copy := true, dirty := x.copy && x.dirty, busy := false, die := d, tile := n }

/-- Free pool tiles of a die in ascending order, `n` of them. -/
def pickTiles (s : State) (d n : Nat) : List Nat :=
  let taken := takenTiles s d
  ((List.range 28672).filter (fun t => inPool s d t && !taken.contains t)).take n

/-! ## Listings (06 R227, 12 R414) -/

def entryId (e : Nat) : Nat := field e 0 64
def entryTier (e : Nat) : Nat := field e 64 8
def entryAccess (e : Nat) : Nat := field e 72 8

/-- Entries of OBJECTS sections of loaded lasts that list an object. -/
def listings (s : State) (id : Nat) : List Nat :=
  s.slots.flatMap (fun e => match e.2.image with
    | some im => im.objects.filter (fun x => entryId x == id)
    | none => [])

/-- An object of an image entry in state 1 to 4. -/
def imageHolds (s : State) (id : Nat) : Bool :=
  s.images.any (fun e => 1 ≤ e.2.state && e.2.state ≤ 4 && e.2.objs.any (fun o => o.1 == id))

/-- A change to class `cls` on `die` would break a listing (06 R227). -/
def breaksListing (s : State) (id cls die : Nat) : Bool :=
  (cls != 0 && (listings s id).any (fun e => entryTier e == 1)) ||
    s.slots.any (fun e => e.2.image.isSome && e.2.pinned.any (fun p => p.1 == id && (cls != 0 || p.2 != die)))

/-! ## Changes of class (06 R230) -/

/-- HOT copies that the package may demote on a die. -/
def hotOn (s : State) (d : Nat) : List (Nat × Tile) := sweepOrder s d

/-- Tiles that a change to PINNED on `die` must move. -/
def toPin (s : State) (o : ObjEnt) (die : Nat) : List Nat :=
  (tilesOf o).filter (fun t => let x := getTile s t; !(x.copy && x.die == die))

/-- A change to PINNED fits the pool of its die, counting HOT copies it may demote, and the partition's share (06 R230). -/
def pinFits (s : State) (o : ObjEnt) (die : Nat) : Bool :=
  let need := (toPin s o die).length
  let fresh := ((tilesOf o).filter (fun t => !(getTile s t).copy)).length
  need ≤ freeTiles s die + ((hotOn s die).filter (fun e => !(tilesOf o).contains e.1)).length &&
    partTiles s o.partition + fresh ≤ getO s (0xa000 + o.partition) 0x0f

/-- HOT copies of a die demoted until `need` tiles are free. -/
def makeRoom (s : State) (o : ObjEnt) (die need : Nat) : State :=
  (hotOn s die).foldl (fun s e =>
    if need ≤ freeTiles s die || (tilesOf o).contains e.1 then s
    else match objAt s (e.1 * 16384) with
      | some (_, p) => dropCopy s p e.1
      | none => s) s

/-- The migrations of a class change start, and the entry's STATE is 2 while any runs. -/
def startClass (s : State) (k : Nat) (o : ObjEnt) (cls die : Nat) : State :=
  let s := cancelMigs s o
  let s := if cls = 0 then
      let s := makeRoom s o die (toPin s o die).length
      let ts := toPin s o die
      (ts.zip (pickTiles s die ts.length)).foldl (fun s e => startMig s o ⟨e.1, some (die, e.2), 0, true⟩) s
    else if cls = 2 then
      ((tilesOf o).filter (fun t => (getTile s t).copy)).foldl (fun s t => startMig s o ⟨t, none, 0, true⟩) s
    else s
  putObj s k { o with state := 2 }

/-- The whole change at once: what the commands of an image entry do (12 R417). -/
def changeNow (s : State) (k : Nat) (o : ObjEnt) (cls die : Nat) : State :=
  let s := cancelMigs s o
  let s := if cls = 0 then
      let s := makeRoom s o die (toPin s o die).length
      let ts := toPin s o die
      (ts.zip (pickTiles s die ts.length)).foldl (fun s e => placeCopy s o e.1 die e.2) s
    else if cls = 2 then (tilesOf o).foldl (fun s t => dropCopy s o t) s
    else s
  let s := putObj s k { o with cls := cls, homeDie := die, state := 1 }
  if cls = 0 then sweepDie s die else s

/-- An object's copies and DRAM home are freed, nothing written back (06 R225). -/
def destroyObj (s : State) (k : Nat) (o : ObjEnt) : State :=
  let ts := tilesOf o
  let s := { s with memSt := { s.memSt with
    migs := s.memSt.migs.filter (fun m => !ts.contains m.tile)
    tiles := s.memSt.tiles.filter (fun e => !ts.contains e.1) } }
  let s := pkgPut s o.tileArray (List.replicate (8 * ts.length) 0)
  putObj s k { o with state := 0 }

/-! ## Creation (06 R218) -/

/-- Size of the block of a DRAM home and its tile entries. -/
def blockSize (len : Nat) : Nat := ceilDiv (len + 8 * (len / 16384)) 16384 * 16384

/-- The lowest address for a block in the pool and the partition's DRAM range. -/
def findRoom (s : State) (p size : Nat) : Option Nat :=
  let lo := max (getO s 0x4001 1) (getO s (0xa000 + p) 0x0d)
  let hi := min (getO s 0x4001 1 + getO s 0x4001 2) (getO s (0xa000 + p) 0x0d + getO s (0xa000 + p) 0x0e)
  let blocks := s.memSt.objs.map (fun e => (e.2.dramHome, e.2.dramHome + blockSize e.2.length))
  let cands := (lo :: blocks.map (·.2)).filter (fun c => lo ≤ c && c + size ≤ hi &&
    blocks.all (fun b => c + size ≤ b.1 || b.2 ≤ c))
  cands.foldl (fun a c => some (match a with | some x => min x c | none => c)) none

def liveObjs (s : State) : Nat := s.memSt.objs.length

/-- The lowest free table slot. -/
def freeSlotF : Nat → SMap ObjEnt → Nat → Nat
  | 0, _, i => i
  | _ + 1, [], i => i
  | n + 1, (k, _) :: r, i => if k = i then freeSlotF n r (i + 1) else i

def freeSlotIx (s : State) : Nat := freeSlotF 131073 s.memSt.objs 0

/-- What makes CREATE fail, in the order of 06 R226. -/
def createStatus (s : State) (id base len cls die flags part region : Nat) (secRing : Bool) (badArgs : Bool) : Nat :=
  if id = 0 then 0x80
  else if badArgs || 2 < cls || 15 < die || 7 < flags || 7 < part || 511 < region || base % 16384 != 0 ||
    len % 16384 != 0 || len = 0 || 2 ^ 40 < len then 0x86
  else if !secRing && (fbit flags 0 || (match objById s id with | some (_, o) => o.secure || regionSecure s o.region | none => false)) then
    0x85
  else if (objById s id).isSome || base < 0x100000000000 || 0x200000000000 < base + len ||
    s.memSt.objs.any (fun e => base < e.2.base + e.2.length && e.2.base < base + len) then 0x81
  else if getO s 0x4011 2 ≤ liveObjs s then 0x87
  else if (findRoom s part (blockSize len)).isNone then 0x82
  else if cls = 0 && !pinFits s ⟨id, base, len, 2, die, flags, part, region, 1, 0, 0⟩ die then 0x83
  else 1

/-- A new object of class COLD with zero contents, in the lowest free table entry; its slot and entry. -/
def createObj (s : State) (id base len die flags part region : Nat) : State × Nat × ObjEnt :=
  let home := (findRoom s part (blockSize len)).getD 0
  let k := freeSlotIx s
  let o : ObjEnt := ⟨id, base, len, 2, die, flags, part, region, 1, home, s.lace.tick⟩
  (putObj (memClear s home (blockSize len)) k o, k, o)

/-! ## The rings (06 R223) -/

/-- The device states in which object commands run. -/
def cmdsRun (s : State) : Bool := inRun s || s.dev.mode == .ready || s.dev.mode == .halted

/-- A doorbell write (06 R223, R244). -/
def wDoorbell (s : State) (ring : Bool) (v : Nat) : WRes :=
  if 2 ^ getO s (ringObj ring) 2 < sub32 v (ringHead s ring) then .error 0x0302
  else .ok { s with memSt := if ring then { s.memSt with sTail := v } else { s.memSt with nsTail := v } }

/-- The head entry of a ring may execute now: work stands on the ring and no command runs. -/
def headReady (s : State) (ring : Bool) : Bool :=
  cmdsRun s && s.memSt.cmd.isNone && ringHead s ring != ringTail s ring

/-- Reserved fields of an entry that are not 0 (06 R224). -/
def entryBad (e : List Byte) : Bool :=
  1 < fieldB e 2 1 || fieldB e 3 1 != 0 || fieldB e 48 16 != 0 || fieldB e 1 1 != 0

/-- A head entry with a reserved OP completes with 0x86 whichever command row executes it. -/
def badOp (e : List Byte) : Bool := fieldB e 0 1 = 0 || 5 < fieldB e 0 1

def badOpStatus (e : List Byte) : Nat := if fieldB e 8 8 = 0 then 0x80 else 0x86

/-- What makes a command that names an object fail before its own checks: 0x80, 0x86 with `bad`, 0x85. -/
def namedStatus (s : State) (ring : Bool) (e : List Byte) (bad : ObjEnt → Bool) : Option Nat :=
  match objById s (fieldB e 8 8) with
  | none => some 0x80
  | some (_, o) =>
    if fieldB e 8 8 = 0 then some 0x80
    else if entryBad e || bad o then some 0x86
    else if !ring && (o.secure || regionSecure s o.region) then some 0x85
    else none

/-- CREATE (R218, R225): a PINNED class is reached as by SETCLASS. -/
def doCreate (s : State) (ring : Bool) : State :=
  let e := headEntry s ring
  let a2 := fieldB e 32 8
  let id := fieldB e 8 8
  let cls := field a2 0 8
  let die := field a2 8 8
  let st := createStatus s id (fieldB e 16 8) (fieldB e 24 8) cls die (field a2 16 8) (field a2 24 8) (field a2 32 9) ring
    (entryBad e || field a2 41 23 != 0)
  if st != 1 then finishCmd s ring st
  else
    let (s, k, o) := createObj s id (fieldB e 16 8) (fieldB e 24 8) die (field a2 16 8) (field a2 24 8) (field a2 32 9)
    if cls = 0 then
      { startClass s k o 0 die with memSt := { (startClass s k o 0 die).memSt with
        cmd := some ⟨if ring then 1 else 0, 0, 0, 0⟩ } }
    else finishCmd (putObj s k { o with cls := cls }) ring 1

/-- The command row executes the head entry where its OP is the row's, or reserved. -/
def runHead (s : State) (ring : Bool) (op : Nat) (f : State → State) : Out :=
  if !headReady s ring then .next s
  else
    let e := headEntry s ring
    if badOp e then .next (finishCmd s ring (badOpStatus e))
    else if fieldB e 0 1 = op then .next (f s)
    else .next s

/-- CREATE. -/
def execObjCreate (ring : Bool) (s : State) : Out := runHead s ring 1 (fun s => doCreate s ring)

def doSetclass (s : State) (ring : Bool) : State :=
  let e := headEntry s ring
  let a := fieldB e 16 8
  let cls := field a 0 8
  let die := field a 8 8
  match namedStatus s ring e (fun _ => 2 < cls || 15 < die || a / 65536 != 0) with
  | some st => finishCmd s ring st
  | none =>
    match objById s (fieldB e 8 8) with
    | none => s
    | some (k, o) =>
      if breaksListing s o.id cls die || imageHolds s o.id then finishCmd s ring 0x84
      else if cls = 0 && !pinFits s o die then finishCmd s ring 0x83
      else if cls = 1 then finishCmd (putObj (cancelMigs s o) k { o with cls := 1, homeDie := die }) ring 1
      else
        let s := startClass s k o cls die
        let c : ObjCmd := ⟨if ring then 1 else 0, 0, 0, 0⟩
        if s.memSt.migs.any (fun m => m.forClass && (tilesOf o).contains m.tile) then
          { s with memSt := { s.memSt with cmd := some c } }
        else finishCmd (putObj s k { o with cls := cls, homeDie := die, state := 1 }) ring 1

/-- SETCLASS (R230). -/
def execObjSetclass (ring : Bool) (s : State) : Out := runHead s ring 2 (fun s => doSetclass s ring)

def doDestroy (s : State) (ring : Bool) : State :=
  let e := headEntry s ring
  match namedStatus s ring e (fun _ => false) with
  | some st => finishCmd s ring st
  | none =>
    match objById s (fieldB e 8 8) with
    | none => s
    | some (k, o) =>
      if (listings s o.id) != [] || imageHolds s o.id then finishCmd s ring 0x84
      else finishCmd (destroyObj s k o) ring 1

/-- DESTROY. -/
def execObjDestroy (ring : Bool) (s : State) : Out := runHead s ring 5 (fun s => doDestroy s ring)

/-! ### The object table's place -/

/-- A write of object 0x4011.01 or .02 (06 R220, R244): the table stands at its new place with the entries of the live objects. -/
def wTablePlace (s : State) (sub v : Nat) : State :=
  let s := setO s 0x4011 sub v
  if liveObjs s = 0 then s
  else s.memSt.objs.foldl (fun s e => putObj s e.1 e.2) (memClear s (getO s 0x4011 1) (64 * getO s 0x4011 2))

/-! ### READ and WRITE -/

/-- Who the object command engine is on a ring (15 R490). -/
def cmdWho (ring : Bool) : Who := ⟨4, if ring then 1 else 0, 0xffff, 0xffff, ring, 0⟩

/-- An address is a fabric address where any bit above 47 is set (DEDUCED, log entry 26). -/
def isFabAddr (a : Nat) : Bool := a / 2 ^ 48 != 0

/-- STATUS of a memory operand refused for a reason: world or region 0x85, else 0x8a (06 R226). -/
def operandStatus (reason : Nat) : Nat := if reason = 2 then 0x85 else 0x8a

/-- 256-byte units moved in ascending order until one is refused; object offset `off`, memory side `m` (06 R226). -/
def moveUnits (w : Who) (o : ObjEnt) (out : Bool) : Nat → Nat → Nat → State → State × Nat
  | 0, _, _, s => (s, 1)
  | n + 1, off, m, s =>
    if out then
      match refusalRange s w m 256 true with
      | some (x, r) => (refuse s w x r, operandStatus r)
      | none =>
        let (s, l, _) := getAt s w (o.base + off) 256
        moveUnits w o out n (off + 256) (m + 256) (putAt s w m l)
    else
      match refusalRange s w m 256 false with
      | some (x, r) => (refuse s w x r, operandStatus r)
      | none =>
        let (s, l, _) := getAt s w m 256
        moveUnits w o out n (off + 256) (m + 256) (putAt s w (o.base + off) l)

/-- STATUS of a fabric line's response (06 R226): a refusal counts as 0x85, every other failure as 0x8a. -/
def lineStatus (st : Nat) : Nat := if st = 0 then 0 else if st = 1 then 0x85 else 0x8a

/-- The four line requests of one 256-byte unit of a READ or WRITE with a fabric operand. -/
def issueUnit (o : ObjEnt) (w : Who) (out : Bool) (off m : Nat) : Nat → State → State
  | 0, s => s
  | n + 1, s =>
    let s := issueUnit o w out off m n s
    let a := m + 64 * n
    let (s, r) := if out then
        let (s, l, _) := getAt s w (o.base + off + 64 * n) 64
        issue s w.secure a 2 0 331 0 0 (2 ^ 64 - 1) l (.objCmd 0)
      else issue s w.secure a 1 0 331 0 0 0 [] (.objCmd (o.base + off + 64 * n))
    match s.memSt.cmd with
    | none => s
    | some c =>
      let c := match r with
        | none => { c with lines := c.lines + 1 }
        | some st => { c with fail := if c.fail = 0 then lineStatus st else c.fail }
      { s with memSt := { s.memSt with cmd := some c } }

/-- A READ or WRITE with a fabric operand goes on once its lines are answered: the next unit, or the end. -/
def stepCopy (s : State) (ring : Bool) (out : Bool) : State :=
  match s.memSt.cmd with
  | none => s
  | some c =>
    let e := headEntry s ring
    if c.lines != 0 then s
    else if c.fail != 0 then finishCmd s ring c.fail
    else if fieldB e 24 8 ≤ c.pos then finishCmd s ring 1
    else
      match objById s (fieldB e 8 8) with
      | none => finishCmd s ring 0x80
      | some (_, o) =>
        let off := fieldB e 16 8 + c.pos
        let s := { s with memSt := { s.memSt with cmd := some { c with pos := c.pos + 256 } } }
        issueUnit o (cmdWho ring) out off (fieldB e 32 8 + c.pos) 4 s

def copyBad (e : List Byte) (o : ObjEnt) : Bool :=
  let off := fieldB e 16 8
  let len := fieldB e 24 8
  let m := fieldB e 32 8
  off % 256 != 0 || len % 256 != 0 || len = 0 || o.length < off + len ||
    (isFabAddr m && (faSpace m == 3 || fbit m 59 || fbit m 63))

def doCopy (s : State) (ring out : Bool) : State :=
  let e := headEntry s ring
  let m := fieldB e 32 8
  match namedStatus s ring e (copyBad e) with
  | some st => finishCmd s ring st
  | none =>
    match objById s (fieldB e 8 8) with
    | none => s
    | some (_, o) =>
      if isFabAddr m && faWorld m && !ring then finishCmd s ring 0x85
      else if !out && imageHolds s o.id then finishCmd s ring 0x84
      else if !out && !o.writable then finishCmd s ring 0x88
      else if isFabAddr m then
        stepCopy { s with memSt := { s.memSt with cmd := some ⟨if ring then 1 else 0, 0, 0, 0⟩ } } ring out
      else
        let (s, st) := moveUnits (cmdWho ring) o out (fieldB e 24 8 / 256) (fieldB e 16 8) m s
        finishCmd s ring st

/-- READ or WRITE: the head entry, or the one that runs on the ring. -/
def runCopy (s : State) (ring : Bool) (op : Nat) (out : Bool) : Out :=
  match s.memSt.cmd with
  | some c =>
    if cmdsRun s && c.ring = (if ring then 1 else 0) && fieldB (headEntry s ring) 0 1 = op then .next (stepCopy s ring out)
    else .next s
  | none => runHead s ring op (fun s => doCopy s ring out)

/-- Object command READ. -/
def execObjRead (ring : Bool) (s : State) : Out := runCopy s ring 3 true
/-- Object command WRITE. -/
def execObjWrite (ring : Bool) (s : State) : Out := runCopy s ring 4 false

/-- A fabric line of the running command is answered (06 R226). -/
def objCmdLine (s : State) (dst status : Nat) (line : List Byte) : State :=
  match s.memSt.cmd with
  | none => s
  | some c =>
    let c := { c with lines := c.lines - 1, fail := if c.fail = 0 then lineStatus status else c.fail }
    let s := { s with memSt := { s.memSt with cmd := some c } }
    if status = 0 && dst != 0 then putAt s (cmdWho (c.ring == 1)) dst line else s

/-! ## Migrations (06 R231) -/

/-- MIGRATION_COMPLETE: a tile copy completes without a write (R231 step 4). -/
def execMigrationComplete (tile : Nat) (s : State) : Out :=
  match s.memSt.migs.find? (fun m => m.tile == tile), objAt s (tile * 16384) with
  | some m, some (_, o) =>
    if s.dev.mode = .keeper || s.dev.mode = .alarm then .next s
    else
      let s := { s with memSt := { s.memSt with migs := s.memSt.migs.filter (fun m => m.tile != tile) } }
      let s := match m.dest with
        | some (d, n) => placeCopy s o tile d n
        | none => dropCopy s o tile
      .next (if m.forClass then settleClass s else s)
  | _, _ => .next s

/-! ## Tile controller, scrubbing, last stores -/

/-- Requester kind of an agent (06 R245, 09 R313). -/
def kindOf (agent : Nat) : Nat :=
  if agent < 328 then 1 else if agent = 328 then 6 else if agent = 329 then 3 else if agent = 330 then 5
  else if agent = 331 then 4 else 7

def tileWho (t : TileReq) : Who :=
  let k := kindOf (field t.req 11 9)
  ⟨k, if k = 1 then t.req else if k = 4 && t.secure then 1 else 0, 0xffff, 0xffff, t.secure, t.die⟩

/-- An object-space access at its tile controller (R222). -/
def execTileAccess (t : TileReq) (s : State) : Out :=
  match classify t.addr with
  | .objSpace =>
    match t.data with
    | some l => .next (writeAt s (tileWho t) t.addr l).1
    | none => let r := readAt s (tileWho t) t.addr t.len; .next (emit r.1 (.data r.2.1))
  | _ => .next s

/-- The next stacked SRAM tile of a die is scrubbed (R215); a new interval starts with tile 0 of every die. -/
def execScrub (die : Fin 16) (s : State) : Out :=
  if s.dev.mode = .keeper then .next s
  else
    let s := if s.memSt.scrubTime + getO s 0x4003 5 * msec ≤ s.now then
        { s with memSt := { s.memSt with scrubAt := [], scrubTime := s.now } } else s
    let t := mget 0 s.memSt.scrubAt die
    if 28672 ≤ t then .next s
    else
      let s := { s with memSt := { s.memSt with scrubAt := mset 0 s.memSt.scrubAt die (t + 1) } }
      .next (ecc s 0xffff (sramTile die t) 16384).1

def slotsLoaded (s : State) : Bool := s.slots.any (fun e => e.2.image.isSome || e.2.loading)

/-- A tile of a die that the last store gains. -/
def gained (s : State) (die v t : Nat) : Bool := decide (getO s 0x4002 (die + 1) ≤ t) && decide (t < v)

/-- A migration toward a tile that the last store gains. -/
def towardGained (s : State) (die v : Nat) (m : Migration) : Bool :=
  match m.dest with | some (d, t) => d == die && gained s die v t | none => false

/-- Tiles with a copy where the last store grows. -/
def gainedCopies (s : State) (die v : Nat) : SMap Tile :=
  s.memSt.tiles.filter (fun e => e.2.copy && e.2.die == die && gained s die v e.2.tile)

/-- A copy that stays where it is: one of a PINNED object, or one that a change to PINNED has made on its die (06 R209, R230). -/
def pinnedCopy (s : State) (t d : Nat) : Bool :=
  match objAt s (t * 16384), s.memSt.cmd with
  | some (_, o), some c => o.cls == 0 || (o.state == 2 && cmdClass s c == (0, d))
  | some (_, o), none => o.cls == 0
  | none, _ => false

/-- Something that a larger last store may not take: a direct region, a PINNED copy, the destination of a class change, the boot
staging area (06 R210). -/
def storeBarred (s : State) (die v : Nat) : Bool :=
  (directRegions s die).any (fun r => r.1 < v) ||
    (gainedCopies s die v).any (fun e => pinnedCopy s e.1 die) ||
    s.memSt.migs.any (fun m => m.forClass && towardGained s die v m) || (s.dev.stagingHeld && die = 15 && 24576 < v)

/-- HOT copies leave tiles of a die that are taken from its pool, and migrations toward such tiles end; a class change that a demotion
completes is complete (06 R209, R230, 12 R423). -/
def clearTiles (s : State) (copies : SMap Tile) (hit : Migration → Bool) : State :=
  let gone := s.memSt.migs.filter hit
  let s := copies.foldl (fun s e => match objAt s (e.1 * 16384) with
    | some (_, o) => dropCopy s o e.1
    | none => s) s
  let s := { s with memSt := { s.memSt with migs := s.memSt.migs.filter (fun m => !hit m) } }
  settleClass (gone.foldl (fun s m => match objAt s (m.tile * 16384) with
    | some (_, o) => putTile s o m.tile { getTile s m.tile with busy := false }
    | none => s) s)

/-- HOT copies leave the tiles that the last store gains, and migrations toward them end (R209). -/
def freeGained (s : State) (die v : Nat) : State := clearTiles s (gainedCopies s die v) (towardGained s die v)

/-- A write of object 0x4002.(die + 1) (R209). -/
def wLastStore (s : State) (die v : Nat) : WRes :=
  if slotsLoaded s then .error 0x0401
  else if storeBarred s die v then .error 0x0302
  else .ok (sweepDie (setO (freeGained s die v) 0x4002 (die + 1) v) die)

end Sys2Proof.Machine
end

