-- ==== Sys2Proof/Machine/Codec.lean ====
section
/-! DEFINITION. Lossless compression of A8 groups and the built table (07 R246–R262). A group is 264 bytes: eight scales, then
256 codes (02 R65). -/
namespace Sys2Proof.Machine

/-! ## The bit stream (R249) -/

def bitLen : Nat → Nat → Nat
  | 0, _ => 0
  | f + 1, n => if n = 0 then 0 else 1 + bitLen f (n / 2)

/-- The `b` low bits of a number, the most significant first. -/
def bitsOf : Nat → Nat → List Bool
  | 0, _ => []
  | b + 1, v => fbit v b :: bitsOf b v

/-- The exp-Golomb code of order k. -/
def eg (n k : Nat) : List Bool :=
  let v := n + 2 ^ k
  let b := bitLen 32 v
  List.replicate (b - k - 1) false ++ bitsOf b v

/-- z of a code byte. -/
def zOf (b : Byte) : Nat := let v := b.toNat; if v < 128 then 2 * v else 2 * (256 - v) - 1

/-- The code byte of z. -/
def codeOf (z : Nat) : Byte := if z % 2 = 0 then BitVec.ofNat 8 (z / 2) else BitVec.ofNat 8 (256 - (z + 1) / 2)

/-- The token bits of codes; `run` zeros stand before the list. -/
def encodeRun (k : Nat) (smap : Nat → Nat) : Nat → List Byte → List Bool
  | run, [] => if run = 0 then [] else eg 0 k ++ eg (run - 1) 0
  | run, b :: r =>
    if b = 0 then encodeRun k smap (run + 1) r
    else (if run = 0 then [] else eg 0 k ++ eg (run - 1) 0) ++ eg (smap (zOf b)) k ++ encodeRun k smap 0 r

def encodeBits (k : Nat) (smap : Nat → Nat) (codes : List Byte) : List Bool := encodeRun k smap 0 codes

def byteOf (l : List Bool) : Byte := BitVec.ofNat 8 ((l.take 8 ++ List.replicate (8 - l.length) false).foldl (fun a b => 2 * a + b.toNat) 0)

/-- Bits packed from bit 7 down, in `n` bytes. -/
def packBits : Nat → List Bool → List Byte
  | 0, _ => []
  | n + 1, l => byteOf l :: packBits n (l.drop 8)

/-! ## Frames (R247, R248, R250) -/

/-- The table in force as the codec uses it: none, or its map and order. -/
abbrev Table := Option (List Nat × Nat)

def mapOf (m : List Nat) (z : Nat) : Nat := m.getD z 0

/-- The candidates of R250 step 1: mode and bits. -/
def candidates (mode4 : Table) (codes : List Byte) : List (Nat × List Bool) :=
  let fixed := [0, 1, 2, 3].map (fun k => (k, encodeBits k id codes))
  match mode4 with
  | some (m, k) => fixed ++ [(4, encodeBits k (mapOf m) codes)]
  | none => fixed

def fewest (l : List (Nat × List Bool)) : Nat × List Bool :=
  l.foldl (fun a c => if c.2.length < a.2.length then c else a) (l.headD (0, []))

/-- The codes and the scales of an A8 group (02 R65). -/
def codesOf (g : List Byte) : List Byte := sub g 0 256
def scalesOf (g : List Byte) : List Byte := sub g 256 8

/-- An encoded frame of a group: scales, header, payload. -/
def codedFrame (g : List Byte) (mode len8 : Nat) (payload : List Byte) : List Byte :=
  sub (scalesOf g) 0 7 ++ [0xff, BitVec.ofNat 8 (mode + 8 * len8)] ++ sub (scalesOf g) 7 1 ++ payload

def rawFrame (g : List Byte) : List Byte := scalesOf g ++ codesOf g
def mode5Frame (g : List Byte) : List Byte := codedFrame g 5 28 (sub (codesOf g) 0 224)

/-- The frame of a group and how it was written: 0 to 4 the mode, 5 mode 5, 6 raw (R250). `on` is the path's enable. -/
def encodeGroup (on : Bool) (mode4 : Table) (g : List Byte) : List Byte × Nat :=
  let best := fewest (candidates mode4 (codesOf g))
  if on && best.2.length ≤ 1984 then
    let len8 := ceilDiv best.2.length 64
    (codedFrame g best.1 len8 (packBits (8 * len8) best.2), best.1)
  else if (scalesOf g).getD 7 0 != 0xff then (rawFrame g, 6)
  else (mode5Frame g, 5)

/-- Length of the frame that starts a byte list (R247). -/
def frameLen (f : List Byte) : Nat := if f.getD 7 0 = 0xff then 10 + 8 * ((f.getD 8 0).toNat / 8) else 264

/-! ## Decoding (R252, R253) -/

def readBits : Nat → Nat → List Bool → Option (Nat × List Bool)
  | 0, a, l => some (a, l)
  | _ + 1, _, [] => none
  | n + 1, a, b :: r => readBits n (2 * a + b.toNat) r

def leadZeros : Nat → List Bool → Option (Nat × List Bool)
  | n, false :: r => leadZeros (n + 1) r
  | n, true :: r => some (n, true :: r)
  | _, [] => none

/-- One exp-Golomb code of order k read. -/
def readEg (k : Nat) (l : List Bool) : Option (Nat × List Bool) :=
  match leadZeros 0 l with
  | none => none
  | some (z, r) => (readBits (z + k + 1) 0 r).bind (fun x => some (x.1 - 2 ^ k, x.2))

/-- Tokens until `left` codes are produced; none for a decode error. -/
def readTokens (k : Nat) (inv : Nat → Nat) : Nat → Nat → List Bool → Option (List Byte)
  | _, 0, _ => some []
  | 0, _ + 1, _ => none
  | f + 1, left + 1, l =>
    match readEg k l with
    | none => none
    | some (0, r) =>
      match readEg 0 r with
      | none => none
      | some (n, r) =>
        if left < n then none
        else (readTokens k inv f (left - n) r).map (fun t => List.replicate (n + 1) 0 ++ t)
    | some (sym, r) => if 255 < sym then none else (readTokens k inv f left r).map (fun t => codeOf (inv sym) :: t)

/-- The symbol map's inverse. -/
def invMap (m : List Nat) (sym : Nat) : Nat := m.findIdx (fun x => x == sym)

def bitsOfBytes (l : List Byte) : List Bool := l.flatMap (fun b => bitsOf 8 b.toNat)

/-- The group of a frame, or none for a decode error (R253). -/
def decodeFrame (t : Table) (f : List Byte) : Option (List Byte) :=
  if f.getD 7 0 != 0xff then (if f.length < 264 then none else some (sub f 8 256 ++ sub f 0 8))
  else
    let mode := (f.getD 8 0).toNat % 8
    let len8 := (f.getD 8 0).toNat / 8
    let scales := sub f 0 7 ++ sub f 9 1
    let bits := bitsOfBytes (sub f 10 (8 * len8))
    let codes :=
      if mode < 4 then readTokens mode id 257 256 bits
      else if mode = 4 then t.bind (fun t => readTokens t.2 (invMap t.1) 257 256 bits)
      else if mode = 5 && len8 = 28 && 234 ≤ f.length then some (padTo 256 (sub f 10 224))
      else none
    codes.map (fun c => c ++ padTo 8 scales)

/-- The delivered group of a failed frame. -/
def zeroGroup : List Byte := List.replicate 264 0

/-! ## The built table (R257) -/

def bumpAt : Nat → List Nat → List Nat
  | _, [] => []
  | 0, x :: r => min (x + 1) (2 ^ 32 - 1) :: r
  | n + 1, x :: r => x :: bumpAt n r

/-- Counts of z over the sample's codes. -/
def zCounts (sample : List Byte) : List Nat :=
  sample.foldl (fun c b => if b = 0 then c else bumpAt (zOf b) c) (List.replicate 256 0)

/-- smap and k of a sample's codes; none where no code is non-zero. -/
def buildTable (sample : List Byte) : Option (List Nat × Nat) :=
  let c := zCounts sample
  let cnt := fun z => c.getD z 0
  if c.all (· == 0) then none
  else
    let order := sortBy (fun a b => cnt b < cnt a || (cnt a == cnt b && a ≤ b)) ((List.range 256).drop 1)
    let smap := (List.range 256).map (fun z => if z = 0 then 0 else order.findIdx (· == z) + 1)
    let cost := fun k => (((List.range 256).drop 1).map (fun z => cnt z * (eg (smap.getD z 0) k).length)).sum
    some (smap, ([1, 2, 3].foldl (fun b k => if cost k < cost b then k else b) 0))

/-- The table's tag (R257). -/
def tableTag (m : List Nat) (k : Nat) : Nat := crc32 (m.map (BitVec.ofNat 8) ++ [BitVec.ofNat 8 k]) % 65536

/-- Codes of the whole A8 groups of a byte string (R258). -/
def groupCodesF : Nat → List Byte → List Byte
  | 0, _ => []
  | n + 1, l => codesOf l ++ groupCodesF n (l.drop 264)

def groupCodes (l : List Byte) : List Byte := groupCodesF (l.length / 264) l

/-! ## The table in the state -/

/-- The table in force (objects 0x9061.03, .04). -/
def tableOf (s : State) : Table := if s.codec.state = 2 then some (s.codec.smap, s.codec.k) else none

/-- The table that the encoder may choose mode 4 from; a port also needs an equal peer tag (R260). -/
def encTable (s : State) (port : Option Nat) : Table :=
  if getO s 0x9060 2 != 1 then none
  else match port with
    | none => tableOf s
    | some p => if (getPort s p).peerTag = 2 ^ 16 + getO s 0x9061 4 then tableOf s else none

/-- Counters of encoded groups (R261). -/
def countEnc (s : State) (how len line : Nat) : State :=
  let s := if how ≤ 4 then count s 0x9063 1 1 else if how = 6 then count s 0x9063 3 1 else count s 0x9063 4 1
  let s := if how = 4 then count s 0x9063 2 1 else s
  count s 0x9063 line (264 - len)

/-- Groups coded one after the other; the frames, and whether any was written in mode 5 (R250). -/
def encodeGroups (port : Option Nat) (line bit : Nat) : Nat → List Byte → State → State × List (List Byte) × Bool
  | 0, _, s => (s, [], false)
  | n + 1, l, s =>
    let (f, how) := encodeGroup (fbit (getO s 0x9060 1) bit) (encTable s port) (padTo 264 (l.take 264))
    let s := countEnc s how f.length line
    let (s, fs, b) := encodeGroups port line bit n (l.drop 264) s
    (s, f :: fs, b || how == 5)

/-- One frame decoded for its user: a failure is counted and gives the zero group (R253). -/
def decodeOne (s : State) (f : List Byte) : State × List Byte × Bool :=
  match decodeFrame (tableOf s) f with
  | some g => (s, g, false)
  | none => (count s 0x9063 5 1, zeroGroup, true)

/-- Frames sent back to back decoded to `n` groups (R254); the MODE of the first failed one. -/
def decodeStream : Nat → List Byte → State → State × List Byte × Option Nat
  | 0, _, s => (s, [], none)
  | n + 1, l, s =>
    let (s, g, bad) := decodeOne s l
    let (s, gs, m) := decodeStream n (l.drop (frameLen l)) s
    (s, g ++ gs, if bad then some ((l.getD 8 0).toNat % 8) else m)

/-! ## Table commands (R258, R259, R261) -/

def compLive (s : State) : Bool := s.memSt.objs.any (fun e => e.2.state != 0 && e.2.comp)

/-- The firmware sample: section 0x04 of the running image (R258, 13 R450). -/
def fwSection (img : List Byte) (ty : Nat) : Option (Nat × Nat) :=
  let n := fieldB img 14 1
  ((List.range n).find? (fun i => fieldB img (128 + 16 * i) 1 == ty)).map
    (fun i => (fieldB img (128 + 16 * i + 4) 4, fieldB img (128 + 16 * i + 8) 4))

/-- Package physical address of the boot staging area (18 R585). -/
def stagingBase : Nat := sramTile 15 24576

/-- The sample's bytes, read from the boot staging area while it is held (18 R585). -/
def fwSample (s : State) : Option (List Byte) :=
  (fwSection s.dev.bootImage 4).map (fun e =>
    if s.dev.stagingHeld then memGet s (stagingBase + e.1) e.2 else sub s.dev.bootImage e.1 e.2)

/-- The staging copy's words as the table gives them (object 0x9062). -/
def stagingMap (s : State) : List Nat :=
  (List.range 256).map (fun i => field (getO s 0x9062 (i / 4 + 1)) (i % 4 * 8) 8)

def setStaging (s : State) (m : List Nat) (k : Nat) : State :=
  let word := fun j => (m.getD (4 * j) 0) + (m.getD (4 * j + 1) 0) * 2 ^ 8 + (m.getD (4 * j + 2) 0) * 2 ^ 16 +
    (m.getD (4 * j + 3) 0) * 2 ^ 24
  setO ((List.range 64).foldl (fun s j => setO s 0x9062 (j + 1) (word j)) s) 0x9061 5 k

/-- A build is accepted: its result is fixed by its sample, and stands until TABLE_BUILD_COMPLETE. `building` holds the
source, the failure code, k and the map. -/
def startBuild (s : State) (source fail : Nat) (sample : List Byte) : State :=
  let r := if fail = 0 then buildTable (groupCodes sample) else none
  let f := if fail = 0 && r.isNone then 4 else fail
  let (m, k) := r.getD ([], 0)
  { s with codec := { s.codec with state := 1, building := some (source :: f :: k :: m) } }

/-- The sample object of command 1: failure code, bytes. -/
def sampleObj (s : State) : Nat × List Byte :=
  match objById s (getO s 0x9061 2) with
  | none => (1, [])
  | some (_, o) => if o.comp || 2 ^ 28 < o.length then (2, []) else (0, peek s o.base o.length)

/-- Table command c of object 0x9061.01 (R259): states are checked by the object table. -/
def wTable (s : State) (c : Nat) : WRes :=
  if compLive s then .error 0x0401
  else if s.codec.state = 1 then .error 0x0601
  else match c with
    | 1 => let r := sampleObj s; .ok (startBuild s 1 r.1 r.2)
    | 2 => match fwSample s with
      | some l => .ok (startBuild s 2 0 l)
      | none => .ok (startBuild s 2 3 [])
    | 3 => .ok { s with codec := { s.codec with state := 0 } }
    | 4 =>
      let m := stagingMap s
      let k := getO s 0x9061 5
      if m.getD 0 0 = 0 && k ≤ 3 && ((List.range 256).drop 1).all (fun x => (m.drop 1).contains x) then
        .ok (setO { s with codec := { s.codec with state := 2, smap := m, k := k } } 0x9061 4 (tableTag m k))
      else .error 0x0302
    | _ => .error 0x0302

/-- A table build ends (R258): the table in force and the staging copy, or an invalid table; event 0x9013. -/
def finishBuild (s : State) : State :=
  match s.codec.building with
  | some (src :: fail :: k :: m) =>
    let s := setO { s with codec := { s.codec with building := none } } 0x9061 6 fail
    if fail = 0 then
      let tag := tableTag m k
      let s := setStaging { s with codec := { s.codec with state := 2, smap := m, k := k } } m k
      raise (count (setO s 0x9061 4 tag) 0x9063 8 1) 0x9013 (f8 2 ++ f16 tag ++ f8 k ++ f8 src ++ f8 0)
    else
      let s := { s with codec := { s.codec with state := 3 } }
      raise s 0x9013 (f8 3 ++ f16 (getO s 0x9061 4) ++ f8 0 ++ f8 src ++ f8 fail)
  | _ => s

end Sys2Proof.Machine
end

