-- ==== Sys2Proof/Machine/Sched.lean ====
section
/-! DEFINITION. What the schedule's parts share: partitions and their period ticks, scoreboard bits and their arrival (04 R124,
R126, R127), recovery timers (16 R533). -/
namespace Sys2Proof.Machine

/-- Partition that runs a last using a logical cluster, with its image. -/
def partOf (s : State) (l : Nat) : Option (Nat × Image) :=
  s.parts.findSome? (fun e => if e.2.runs then
    (activeImage s e.1).bind (fun im => if im.clusterMap.contains l then some (e.1, im) else none) else none)

/-- The period tick of a partition (R124). -/
def periodTick (s : State) (p : Nat) (im : Image) : Nat := (s.lace.tick - (getPart s p).t0) % max 1 im.period

def ptickOf (s : State) (l : Nat) : Nat :=
  match partOf s l with
  | some (p, im) => periodTick s p im
  | none => 0

/-- A scoreboard bit of a core. -/
def sbGet (s : State) (l c b : Nat) : Bool := fbit (mget 0 (getCl s l).sb c) b

def sbSet (s : State) (l c b : Nat) (v : Bool) : State :=
  let cl := getCl s l
  let w := mget 0 cl.sb c
  let w := w - (if fbit w b then 2 ^ b else 0) + (if v then 2 ^ b else 0)
  setCl s l { cl with sb := mset 0 cl.sb c w }

/-- A producer arrives at its bit (R126); a bit already set stays set, is counted and raises event 0x3004 (R127). -/
def arrive (s : State) (l c b : Nat) : State :=
  if sbGet s l c b then raise (count s 0x3040 3 1) 0x3004 (f16 l ++ f8 c ++ f8 b ++ f16 (ptickOf s l))
  else sbSet s l c b true

/-! ## Recovery timers (16 R533): 0 to 7 partitions, 8 to 71 ports, 72 to 105 welt ports, 106 a fenced package -/

/-- A timer starts, holding 1 + the lace tick; one that runs goes on. -/
def startTimer (s : State) (k : Nat) : State :=
  if mget 0 s.recovery k = 0 then { s with recovery := mset 0 s.recovery k (s.lace.tick + 1) } else s

/-! ## Welt ports (01 R24–R27, 16 R532): port `2 d + side` of C-die d, 32 and 33 the cross welt. A port that holds 1 has failed, another
value is 2 + the flit that failed last. -/

/-- Side of the welt path of data that goes from C-die `d` to `q` or back: the even source takes the west X-die (R27). -/
def crossSide (out : Bool) (d q : Nat) : Nat := (if out then d else q) % 2

/-- Welt ports between C-die `d` and a place of package memory (R27). -/
def weltPath (d : Nat) (out : Bool) (a : Nat) : List Nat :=
  match classify a with
  | .dram => [2 * d + (if 0x003000000000 ≤ a then 1 else 0)]
  | .sram q _ => if q = d then [] else let x := crossSide out d q; [2 * d + x, 2 * q + x]
  | _ => []

/-- The image of any active last, running or not. -/
def activeImages (s : State) : List Image := s.parts.filterMap (fun e => activeImage s e.1)

end Sys2Proof.Machine
end

