-- ==== Sys2Proof/Machine/Links.lean ====
section
/-! DEFINITION. Kopitre ports: line blocks, acknowledgement and replay, training, probes, loss, the receive buffer of the
schedule channel (08 R263–R290). -/
namespace Sys2Proof.Machine

/-! ## The line code (R267, R268) -/

/-- Product in GF(2^8) modulo x^8 + x^4 + x^3 + x^2 + 1. -/
def gfMulF : Nat → Nat → Nat → Nat → Nat
  | 0, _, _, acc => acc
  | n + 1, a, b, acc =>
    gfMulF n (if 128 ≤ a then ((2 * a) ^^^ 0x1d) % 256 else 2 * a) (b / 2) (if b % 2 = 1 then acc ^^^ a else acc)

def gfMul (a b : Nat) : Nat := gfMulF 8 a b 0

def gfPow (a : Nat) : Nat → Nat
  | 0 => 1
  | n + 1 => gfMul a (gfPow a n)

/-- The sum of a block's bytes and its value at α, byte 0 the coefficient of the highest power. -/
def synd (l : List Byte) : Nat × Nat :=
  l.foldl (fun (s : Nat × Nat) b => (s.1 ^^^ b.toNat, gfMul s.2 2 ^^^ b.toNat)) (0, 0)

/-- The two parity bytes of 134 bytes. -/
def rsParity (l : List Byte) : List Byte :=
  let (a, b) := synd (l ++ [0, 0])
  let p1 := gfMul (a ^^^ b) (gfPow 3 254)
  [BitVec.ofNat 8 p1, BitVec.ofNat 8 (a ^^^ p1)]

/-- The decoder of RS(136,134): the block and whether a byte was corrected; an uncorrectable block stays as it is. -/
def rsDecode (l : List Byte) : List Byte × Bool :=
  let (s0, s1) := synd l
  if s0 = 0 then (l, false)
  else match (List.range 136).find? (fun i => gfMul s0 (gfPow 2 i) == s1) with
    | some i => (l.set (135 - i) ((l.getD (135 - i) 0) ^^^ BitVec.ofNat 8 s0), true)
    | none => (l, false)

def lineWord (kind : Nat) (last replay : Bool) (frac : Nat) : Nat :=
  kind + (if last then 8 else 0) + (if replay then 16 else 0) + frac * 32

/-- A line block of 136 bytes. -/
def mkBlock (f : Flit) (replay : Bool) : List Byte :=
  let b := padTo 128 f.body ++ f16 (lineWord f.kind f.last replay f.frac)
  let b := b ++ f32 (crc32 b)
  b ++ rsParity b

/-- The scrambler x^31 + x^28 + 1 over `n` bits: its next 31 bits and the bits it gave, the first one highest. -/
def scrBits : Nat → Nat → Nat → Nat × Nat
  | 0, s, acc => (s, acc)
  | n + 1, s, acc =>
    let b := (s / 2 ^ 30 + s / 2 ^ 27) % 2
    scrBits n (2 * s % 2 ^ 31 + b) (2 * acc + b)

/-- Bytes XORed with the scrambler, most significant bit first, and the scrambler after them (R268). -/
def scramble : Nat → List Byte → List Byte × Nat
  | s, [] => ([], s)
  | s, b :: l =>
    let (s, k) := scrBits 8 s 0
    let (r, s) := scramble s l
    ((b ^^^ BitVec.ofNat 8 k) :: r, s)

/-- The PAM4 level of a bit pair by the Gray code: 00, 01, 11, 10 to levels 0 to 3. -/
def pam4 (n : Nat) : Nat :=
  match n with
  | 0 => 0 | 1 => 1 | 3 => 2 | _ => 3

/-- The levels of the four lanes: byte i on lane i mod 4, most significant bit first. -/
def lanesOf (l : List Byte) : List (List Nat) :=
  (List.range 4).map (fun j => (l.zipIdx.filter (fun e => e.2 % 4 == j)).flatMap (fun e =>
    [6, 4, 2, 0].map (fun k => pam4 (e.1.toNat / 2 ^ k % 4))))

/-- A block leaves a port: scrambled and laid on its lanes. -/
def sendLine (s : State) (p : Nat) (x : PortSt) (f : Flit) (replay : Bool) : State :=
  let b := mkBlock f replay
  let (c, k) := scramble x.txScr b
  emit (setPort s p { x with txScr := k, recent := (f.kind :: x.recent).take 7 }) (.block p (f.kind == 6) b (lanesOf c))

/-! ## Control words (R279) -/

def ctlAck (seq : Nat) : Word128 := BitVec.ofNat 128 (1 + seq % 65536 * 2 ^ 16)
def ctlNak (seq : Nat) : Word128 := BitVec.ofNat 128 (2 + seq % 65536 * 2 ^ 16)
/-- PROBE and PROBE_REPLY take their times when they leave; the reply holds its arrival in place of the turnaround. -/
def ctlProbe : Word128 := BitVec.ofNat 128 4
def ctlReply (dep frac arrival : Nat) : Word128 :=
  BitVec.ofNat 128 (5 + dep % 2 ^ 32 * 2 ^ 32 + frac % 256 * 2 ^ 64 + arrival % 2 ^ 24 * 2 ^ 72)
def ctlDown (cause : Nat) : Word128 := BitVec.ofNat 128 (7 + cause * 256)

/-- IDENT of this package on a port (R290). -/
def ctlIdent (s : State) (p : Nat) : Word128 :=
  BitVec.ofNat 128 (6 + pnode s * 2 ^ 16 + lnode s % 65536 * 2 ^ 32 + p * 2 ^ 48 + getO s 0x9061 4 * 2 ^ 64 +
    (if s.codec.state = 2 then 2 ^ 80 else 0))

def sendCtl (s : State) (p : Nat) (w : Word128) : State := modPort s p (fun x => { x with ctrl := x.ctrl ++ [w] })

/-! ## Loss of a port (R287, R288, 09 R330) -/

def portObj (p : Nat) : Nat := 0x5100 + p

/-- What each fabric flit of a lost port's replay buffer stands for: every member of a group, or the packet itself. -/
def membersOf (s : State) (p : Nat) (k : Pkt) : List Pkt :=
  match s.fab.groups.find? (fun g => g.port == p && sameTag g.lead k) with
  | some g => g.members
  | none => [k]

def reroute (s : State) (k : Pkt) : State :=
  if isResp k then sendResp s k
  else match routePort s (pDst k) with
    | some q => enqueueFab s q k
    | none => sendResp (unreachable s (pDst k) (routeCause s (pDst k))) (failResp k 2)

/-- A management flit by the route of its DST_NODE; one that cannot be routed is discarded (14 R471). -/
def rerouteMgmt (s : State) (b : List Byte) : State :=
  match routePort s (fieldB b 0 2 % 2048) with
  | some q => sendMgmt s q b
  | none => s

/-- Requests and responses taken back when a port goes (09 R330), unsent flits sent by another way (09 R331). A group whose lead was
acknowledged still waits for its response (09 R320). -/
def takeBack (s : State) (p : Nat) (x : PortSt) (event : Bool) : State :=
  let inBuf := x.replay.filter (fun k => k.flit.kind == 4)
  let reqs := (inBuf.filter (fun k => !isResp k.flit.body)).flatMap (fun k => membersOf s p k.flit.body)
  let resps := (inBuf.filter (fun k => isResp k.flit.body)).length
  let queued := x.fab.flatMap (fun f => if isResp f.body then [f.body] else membersOf s p f.body)
  let mine := inBuf.map (·.flit.body) ++ x.fab.map (·.body)
  let s := { s with fab := { s.fab with groups := s.fab.groups.filter (fun g => g.port != p || !mine.any (sameTag g.lead)) } }
  let s := reqs.foldl (fun s k => sendResp (count s 0x4050 8 1) (failResp k 3)) s
  let s := queued.foldl reroute s
  let s := ((x.replay.filter (fun k => k.flit.kind == 5)).map (·.flit.body) ++ x.mgmt.map (·.body)).foldl rerouteMgmt s
  if event then raise s 0x4010 (f8 p ++ f16 reqs.length ++ f16 resps) else s

/-! ### Release of a transfer's flits (R274) -/

def hLcl (h : Nat) : Nat := field h 0 16
def hCore (h : Nat) : Nat := field h 16 8
def hBit (h : Nat) : Nat := field h 24 8
def hAddr (h : Nat) : Nat := field h 32 16
def hLen (h : Nat) : Nat := if field h 48 16 = 0 then 65536 else field h 48 16
def hFlags (h : Nat) : Nat := field h 64 8
def hStamp (h : Nat) : Nat := field h 96 32

/-- Lace cycle `a` is later than `b`, modulo 2^32. -/
def cycAfter (a b : Nat) : Bool := 0 < sub32 a b && sub32 a b < 2 ^ 31

/-- Cycles from lace cycle `w` to `c`, 0 where `c` is not later. -/
def cycSince (w c : Nat) : Nat := if cycAfter c w then sub32 c w else 0

/-- Lace cycle by which a transfer's last flit must have come: STAMP + C (R274). -/
def releaseAt (s : State) (p h : Nat) : Nat := (hStamp h + (getPort s p).const) % 2 ^ 32

/-- Cycles of the window that ends at STAMP + C. -/
def windowLen (h : Nat) : Nat := 32 * ceilDiv (ceilDiv (hLen h) 128) 12

/-- Cycles of the window that have passed. -/
def windowCyc (s : State) (p h : Nat) : Nat := cycSince (sub32 (releaseAt s p h) (windowLen h)) (laceCycle s)

/-- For each flit that has come, the cycle of the window in which it is released: in order, 12 flits in 32 cycles, none before it
has come (log entry 109). -/
def releases (w : Nat) : Nat → Nat → List Nat → List Nat
  | _, _, [] => []
  | prev, k, c :: l =>
    let o := max prev (max (32 * (k + 1) / 12) (cycSince w c))
    o :: releases w o (k + 1) l

/-- Flits of a transfer released at least `d` cycles ago. -/
def flitsOut (s : State) (p : Nat) (r : RxTransfer) (d : Nat) : Nat :=
  let w := sub32 (releaseAt s p r.head) (windowLen r.head)
  ((releases w 0 0 r.came).filter (fun o => o + d ≤ windowCyc s p r.head)).length

def rxComp (r : RxTransfer) : Bool := fbit (hFlags r.head) 0

/-- Of a lost port's transfer, what had been released stays to be written (R288). -/
def cutRx (s : State) (p : Nat) (r : RxTransfer) : Option RxTransfer :=
  if r.complete then some r
  else
    let n := flitsOut s p r 0
    if r.discard || rxComp r || n ≤ r.landed then none
    else some { r with data := r.data.take (128 * n), came := r.came.take n, complete := true, lost := true }

/-- A port declares itself lost: DOWN for 1 µs, event 0x5003, the counters, its recovery timer (R287, R288). -/
def losePort (s : State) (p cause : Nat) : State :=
  let x := getPort s p
  if x.state != .up then s
  else
    let y := { x with state := .lost, cause := cause, lace := [], ctrl := [], sched := [], mgmt := [], fab := [],
                      replay := [], replayQ := [], tx := [], rx := x.rx.filterMap (cutRx s p), pad := []
                      downUntil := s.now + usec }
    let s := sendLine s p y ⟨6, false, 0, leBytes 16 (ctlDown cause).toNat⟩ false
    let s := raise (count s (portObj p) 0x15 1) 0x5003 (f8 p ++ f8 cause ++ f32 x.lastAck)
    startTimer (takeBack s p x true) (8 + p)

/-! ## Receiving (R269, R280, R281) -/

def badIn (l : List Bool) (n : Nat) : Nat := ((l.take n).filter (fun b => !b)).length

/-- The receiver's count of blocks: lock gained after 64 good ones, lost with 16 bad ones of 64 (R269), and the window of
2^20 blocks (R287 cause 5). In training, blocks stand for step 2 and the lock for step 3 (R283). -/
def trackBlock (s : State) (p : Nat) (good fixed : Bool) : State :=
  let x := getPort s p
  let bl := (good :: x.blocks).take 64
  let lock := if x.lock then badIn bl 64 < 16 else bl.length == 64 && badIn bl 64 == 0
  let len := if 2 ^ 20 ≤ x.winLen then 1 else x.winLen + 1
  let bad := (if 2 ^ 20 ≤ x.winLen then 0 else x.badWin) + (if good then 0 else 1)
  let step := if x.state != .training then x.trainStep else if lock then max 3 x.trainStep else 2
  let s := setPort s p { x with blocks := bl, lock := lock, winLen := len, badWin := bad, trainStep := step }
  let s := if fixed && good then count s (portObj p) 0x10 1 else s
  let s := if good then s else count s (portObj p) 0x11 1
  if x.state != .up then s
  else if x.lock && !lock then losePort s p 1
  else if x.badLimit < bad then losePort s p 5
  else s

/-- What a received block gives to the layers above: its kind, LAST, REPLAY, FRAC and body, or nothing. -/
structure RxUnit where
  kind : Nat
  last : Bool
  replay : Bool
  frac : Nat
  body : List Byte
  deriving DecidableEq, Repr

/-- After a NAK every flit is discarded up to one of the replay that the NAK asked for: one with REPLAY, and where the bad flit was
itself sent again, one that comes a round trip after the NAK (R281, R282; log entry 110). -/
def stillDiscards (s : State) (x : PortSt) (replay : Bool) : Bool :=
  x.discarding && !(replay && (x.nakAt = 0 || x.nakAt - 1 + ceilDiv x.rtt 8 ≤ s.cyc))

/-- A line block is received, its bytes unscrambled (R268, R280, R281). In training no flit has a sequence number (R280). -/
def rxBlock (s : State) (p : Nat) (bytes : List Byte) : State × Option RxUnit :=
  let st := (getPort s p).state
  if st = .down || st = .disabled || st = .ethernet || st = .lost then (s, none)
  else
    let (b, fixed) := rsDecode (padTo 136 bytes)
    let good := fieldB b 130 4 = crc32 (b.take 130)
    let s := trackBlock s p good fixed
    let x := getPort s p
    let w := fieldB b 128 2
    let kind := w % 8
    let sequenced := 1 ≤ kind && kind ≤ 5
    let u : RxUnit := ⟨kind, fbit w 3, fbit w 4, field w 5 3, b.take 128⟩
    if x.state = .training then (s, if good && x.lock && !sequenced then some u else none)
    else if x.state != .up then (s, none)
    else if !good then
      if sequenced && !stillDiscards s x (fbit w 4) then
        (setPort s p { x with discarding := true, nakAt := if fbit w 4 then s.cyc + 1 else 0, ctrl := x.ctrl ++ [ctlNak x.rxSeq] }, none)
      else (s, none)
    else if stillDiscards s x (fbit w 4 && sequenced) then (s, none)
    else if !sequenced then (s, some u)
    else
      let n := x.sinceAck + 1
      let y := { x with rxSeq := (x.rxSeq + 1) % 65536, discarding := false, nakAt := 0, sinceAck := if 64 ≤ n then 0 else n }
      let y := if 64 ≤ n then { y with ctrl := y.ctrl ++ [ctlAck x.rxSeq], ackSentAt := s.cyc } else y
      (setPort s p y, some u)

/-! ## Control words received -/

/-- Sequence number `a` is at or before `b`, modulo 2^16. -/
def seqLe (a b : Nat) : Bool := (b + 65536 - a) % 65536 < 32768

def ackPort (s : State) (p seq : Nat) : State :=
  let x := getPort s p
  if x.state != .up then s
  else setPort s p { x with replay := x.replay.filter (fun k => !seqLe k.seq seq),
                            replayQ := x.replayQ.filter (fun k => !seqLe k.seq seq),
                            ackAt := s.cyc, lastAck := 65536 + seq }

/-- ACK frees the flits it covers (R280). -/
def execAckWord (port : Port) (word : Word128) (s : State) : Out := .next (ackPort s port (field word.toNat 16 16))

def nakPort (s : State) (p seq : Nat) : State :=
  let x := getPort s p
  if x.state != .up then s
  else
    let s := count s (portObj p) 0x12 1
    match x.replay.find? (fun k => k.seq == seq) with
    | none => s
    | some k =>
      if 3 ≤ k.naks then losePort s p 2
      else
        let rep := x.replay.map (fun e => if e.seq = seq then { e with naks := e.naks + 1 } else e)
        modPort s p (fun x => { x with replay := rep, replayQ := rep.filter (fun e => seqLe seq e.seq) })

/-- NAK makes the sender replay from the named flit; a fourth one loses the port (R281, R287). -/
def execNakWord (port : Port) (word : Word128) (s : State) : Out := .next (nakPort s port (field word.toNat 16 16))

def creditPort (s : State) (p ch n : Nat) : State :=
  let x := getPort s p
  if x.state != .up then s
  else if ch = 4 then setPort s p { x with fabCredit := min 512 (x.fabCredit + n) }
  else if ch = 5 then setPort s p { x with mgmtCredit := min 64 (x.mgmtCredit + n) }
  else s

/-- CREDIT returns credit of a channel (R277). -/
def execCreditWord (port : Port) (word : Word128) (s : State) : Out :=
  .next (creditPort s port (field word.toNat 8 8) (field word.toNat 16 16))

/-- The receive time of a unit in 1/8 cycle. -/
def stamp8 (s : State) (eighth : Nat) : Nat := 8 * s.cyc + eighth

def probePort (s : State) (p : Nat) (w : Word128) (eighth : Nat) : State :=
  let x := getPort s p
  if x.state = .up || x.state = .training then
    sendCtl s p (ctlReply (field w.toNat 32 32) (field w.toNat 64 8) (stamp8 s eighth))
  else s

/-- PROBE is echoed with its turnaround (R284). -/
def execProbeWord (port : Port) (word : Word128) (eighth : Nat) (s : State) : Out :=
  .next (probePort s port word eighth)

/-- One-way latencies of a round trip in 1/8 cycle: half of it with the asymmetry, rounded up (R284). -/
def halfUp (z : Int) : Nat := ((z + 1) / 2).toNat

/-- Margin in cycles: class constant − 16 − forward latency, the latency rounded up (R286). -/
def marginOf (c fwd : Nat) : Int := (c : Int) - 16 - (ceilDiv fwd 8 : Nat)

/-- The measured latency of an up port takes a new round trip (R286). -/
def measure (s : State) (p rtt : Nat) : State :=
  let x := getPort s p
  let fwd := halfUp (rtt + x.asymAt)
  let m := marginOf x.const fwd
  let s := setPort s p { x with fwd := fwd, rtt := rtt, margin := m }
  let s := if m < 8 && 8 ≤ x.margin then raise s 0x5005 (f8 p ++ f16 (unsigned 16 m) ++ f32 fwd) else s
  if 8 * x.const < fwd + 16 then losePort s p 6 else s

/-- The return time less the departure and the turnaround, in 1/8 cycle (R284). -/
def roundTrip (s : State) (w : Word128) (eighth : Nat) : Nat :=
  (stamp8 s eighth + 2 ^ 35 - (8 * field w.toNat 32 32 + field w.toNat 64 8) - field w.toNat 72 24 + 2 ^ 35) % 2 ^ 35

/-- A port in training keeps up to 1,024 round trips; an up port takes each one (R284, R286). -/
def probeReplyPort (s : State) (p : Nat) (w : Word128) (eighth : Nat) : State :=
  let x := getPort s p
  if x.state = .training then
    if x.probeOut && x.rtts.length < 1024 then
      let l := roundTrip s w eighth :: x.rtts
      setPort s p { x with probeOut := false, rtts := l, trainStep := if l.length = 1024 then 5 else x.trainStep }
    else s
  else if x.state = .up then measure s p (roundTrip s w eighth)
  else s

/-- PROBE_REPLY gives a round trip (R284, R286). -/
def execProbeReplyWord (port : Port) (word : Word128) (eighth : Nat) (s : State) : Out :=
  .next (probeReplyPort s port word eighth)

def identPort (s : State) (p : Nat) (w : Word128) : State :=
  let x := getPort s p
  if x.state != .up then s
  else
    let tag := if fbit w.toNat 80 then 65536 + field w.toNat 64 16 else 0
    setPort s p { x with peerPhys := field w.toNat 16 16, peerLog := field w.toNat 32 16,
                         peerPort := field w.toNat 48 8, peerTag := tag }

/-- IDENT records the peer's identity and compression tag (R290). -/
def execIdentWord (port : Port) (word : Word128) (s : State) : Out := .next (identPort s port word)

/-- DOWN from the peer (R287 cause 7). -/
def execDownWord (port : Port) (word : Word128) (s : State) : Out :=
  .next (if field word.toNat 0 8 = 7 then losePort s port 7 else s)

/-! ## The receive buffer of the schedule channel (R272–R275) -/

/-- Event 0x5006, at most once per port per tick (R302). -/
def discardEv (s : State) (p h reason : Nat) : State :=
  let x := getPort s p
  if x.dropTick = s.lace.tick + 1 then suppress s 0x5006
  else raise (setPort s p { x with dropTick := s.lace.tick + 1 }) 0x5006
    (f8 p ++ f16 (hLcl h) ++ f8 (hCore h) ++ f16 (hAddr h) ++ f8 reason)

/-- A transfer's head flit: the checks of R275 against the bindings and active lasts of this cycle. -/
def schedHead (s : State) (p : Nat) (body : List Byte) : State :=
  if (getPort s p).state != .up then s
  else
    let h := leNat (body.take 32)
    let reason := if !(clusterRuns s (hLcl h) && physOf s (hLcl h) != 0xff) then 1
      else if 0x10000 < hAddr h + hLen h then 2 else 0
    let s := modPort s p (fun x => { x with rx := x.rx ++ [⟨h, [], false, 0, hLcl h, reason != 0, [], 0, false⟩] })
    if reason = 0 then s else discardEv s p h reason

/-- SCHEDULE_HEAD. -/
def execScheduleHead (port : Port) (flit : List Byte) (s : State) : Out := .next (schedHead s port flit)

def lateEv (s : State) (p h : Nat) (now : Nat) : State :=
  let x := getPort s p
  let s := count s (portObj p) 0x14 1
  if x.lateTick = s.lace.tick + 1 then suppress s 0x5004
  else raise (setPort s p { getPort s p with lateTick := s.lace.tick + 1 }) 0x5004
    (f8 p ++ f16 (hLcl h) ++ f8 (hCore h) ++ f8 (hBit h) ++ f32 (hStamp h) ++
      f32 (sub32 now (releaseAt s p h)))

def addData (body : List Byte) (last : Bool) (now : Nat) : List RxTransfer → List RxTransfer
  | [] => []
  | r :: l =>
    if r.complete then r :: addData body last now l
    else { r with data := r.data ++ body, came := r.came ++ [now], complete := last, lastAt := if last then now else r.lastAt } :: l

/-- A schedule data flit (R274): into the transfer under way; without one it is discarded (R275). -/
def schedData (s : State) (p : Nat) (body : List Byte) (last : Bool) : State :=
  let x := getPort s p
  if x.state != .up then s
  else match x.rx.find? (fun r => !r.complete) with
    | none => discardEv s p 0 3
    | some r =>
      let now := laceCycle s
      let s := setPort s p { x with rx := addData body last now x.rx }
      if last && !r.discard && cycAfter now (releaseAt s p r.head) then lateEv s p r.head now else s

/-- SCHEDULE_DATA. -/
def execScheduleData (port : Port) (flit : List Byte) (last : Bool) (s : State) : Out :=
  .next (schedData s port flit last)

/-- A compressed transfer writes its decoded groups (R254) when its last flit has been released (log entry 109). -/
def putGroups (s : State) (p : Nat) (r : RxTransfer) : State :=
  let (s, l, m) := decodeStream (hLen r.head / 264) r.data s
  let s := match m with
    | some mode => raise s 0x9011 (f8 1 ++ f16 p ++ f32 0xffff ++ f8 mode)
    | none => s
  spadPut s (hLcl r.head) (hCore r.head) (hAddr r.head) l

/-- Flits released 40 cycles ago reach scratchpad (R274). -/
def landRx (p : Nat) (s : State) (r : RxTransfer) : State × RxTransfer :=
  let n := flitsOut s p r 40
  if r.discard || rxComp r || n ≤ r.landed then (s, r)
  else
    let d := (((r.data.take (hLen r.head)).take (128 * n)).drop (128 * r.landed))
    (spadPut s (hLcl r.head) (hCore r.head) (hAddr r.head + 128 * r.landed) d, { r with landed := n })

/-- The flits of every transfer of a port that reach scratchpad by the present cycle. What a lost port left is done with its last one. -/
def landPort (s : State) (p : Nat) : State :=
  let (s, l) := (getPort s p).rx.foldl (fun (a : State × List RxTransfer) r =>
    let (s, r) := landRx p a.1 r
    (s, if r.lost && r.came.length ≤ r.landed then a.2 else a.2 ++ [r])) (s, [])
  modPort s p (fun x => { x with rx := l })

def landAll (s : State) : State := s.ports.foldl (fun s e => if e.2.rx = [] then s else landPort s e.1) s

/-- A transfer is due: 40 cycles after the later of STAMP + C and its last flit (R274). -/
def rxDue (s : State) (p : Nat) (r : RxTransfer) : Bool :=
  let rel := releaseAt s p r.head
  let at' := (if cycAfter r.lastAt rel then r.lastAt else rel) + 40
  !cycAfter (at' % 2 ^ 32) (laceCycle s)

/-- A port has released its oldest transfer and the destination bit is set (R274); nothing while it is not due. -/
def releaseTransfer (s : State) (p : Nat) : State :=
  let s := landPort s p
  match (getPort s p).rx with
  | r :: rest =>
    if r.complete && !r.lost && rxDue s p r then
      let s := modPort s p (fun x => { x with rx := rest })
      if r.discard then s
      else arrive (if rxComp r then putGroups s p r else s) (hLcl r.head) (hCore r.head) (hBit r.head)
    else s
  | [] => s

/-- TRANSFER_RELEASE. -/
def execTransferRelease (port : Port) (s : State) : Out := .next (releaseTransfer s port)

/-! ## Periodic duties of a port -/

/-- An ACK at least every 64 sequenced flits or 256 cycles (R280). -/
def execAckInterval (port : Port) (s : State) : Out :=
  let x := getPort s port
  if x.state = .up && 0 < x.sinceAck && x.ackSentAt + 256 ≤ s.cyc then
    .next (setPort s port { x with sinceAck := 0, ackSentAt := s.cyc,
                                   ctrl := x.ctrl ++ [ctlAck ((x.rxSeq + 65535) % 65536)] })
  else .next s

/-- No ACK for 4 round trips while sequenced flits wait (R287 cause 3). -/
def execAckTimeout (port : Port) (s : State) : Out :=
  let x := getPort s port
  if x.state = .up && x.replay != [] && x.ackAt + 4 * ceilDiv x.rtt 8 ≤ s.cyc then .next (losePort s port 3)
  else .next s

/-- Every 100 µs an up port sends a PROBE (R286). -/
def execProbeInterval (port : Port) (s : State) : Out :=
  let x := getPort s port
  if x.state = .up && x.probeAt + 100 * usec ≤ s.now then
    .next (sendCtl (setPort s port { x with probeAt := s.now }) port ctlProbe)
  else .next s

/-! ## Training (R283–R285) -/

/-- The main rails are up and DRAM and link training may run: READY and later, or the change from STANDBY to READY. -/
def trainOk (s : State) : Bool :=
  cmdsRun s || s.dev.mode == .alarm || (s.dev.mode == .standby && s.dev.target == some .ready)

/-- The storage mode asked for, and the role in force (R291). -/
def ethernetAsked (s : State) : Bool := getO s 0x5080 1 == 1
def ethernetPort (s : State) (p : Nat) : Bool := 60 ≤ p && fbit (getO s 0x1010 4) 2

/-- A port as its training begins: nothing of the last one but its cause, and the settings that take effect now (R301). -/
def atTraining (s : State) (p : Nat) : PortSt :=
  { PortSt.init with
    cause := (getPort s p).cause
    req := getO s (0x5000 + p) 2
    constO := getO s 0x5040 1
    asymAt := signed 16 (getO s (0x5000 + p) 7)
    badLimit := getO s (0x5000 + p) 8
    eth := if 60 ≤ p then [getO s 0x5081 (p - 59), getO s 0x5082 (p - 59), getO s 0x5083 (2 * (p - 60) + 1),
      getO s 0x5083 (2 * (p - 60) + 2), getO s 0x5084 1] else [] }

/-- Ports 60 to 63 change between Kopitre and Ethernet together, when one of them trains under the mode asked for (R291, 01 R30):
what waits on the others is taken back. -/
def switchPorts (s : State) : State :=
  if ethernetAsked s = fbit (getO s 0x1010 4) 2 then s
  else
    let s := setRole s 2 (ethernetAsked s)
    [60, 61, 62, 63].foldl (fun s q =>
      let x := getPort s q
      let y := if ethernetAsked s && getO s (0x5000 + q) 1 = 1 then { atTraining s q with state := .ethernet }
        else { PortSt.init with cause := x.cause }
      takeBack (setPort s q y) q x false) s

/-- Training begins: at step 1, or as an Ethernet port. The scrambler's bits at this point are a free value other than 0. -/
def beginTraining (s : State) (p : Nat) : State :=
  let s := if 60 ≤ p then switchPorts s else s
  if ethernetPort s p then setPort s p { atTraining s p with state := .ethernet }
  else
    let (n, s) := fresh s
    setPort s p { atTraining s p with state := .training, trainStep := 1, txScr := 1 + Config.freeValue n % (2 ^ 31 - 1) }

/-- A port that may train does so where it is enabled, else it is disabled (R301). -/
def tryTraining (s : State) (p : Nat) : State :=
  if getO s (0x5000 + p) 1 = 1 then beginTraining s p
  else setPort s p { PortSt.init with state := .disabled, cause := (getPort s p).cause }

/-- An enabled port in state down starts training (R283). -/
def execPortTrainingStart (port : Port) (s : State) : Out :=
  let x := getPort s port
  if trainOk s && ((x.state = .down && x.failAt = 0) || x.state = .disabled) then .next (tryTraining s port)
  else .next s

/-- 100 ms after a failure the port trains again (R283). -/
def execTrainingRetry (port : Port) (s : State) : Out :=
  let x := getPort s port
  if trainOk s && x.state = .down && x.failAt != 0 && x.failAt - 1 + 100 * msec ≤ s.now then .next (tryTraining s port)
  else .next s

def classConst (x : PortSt) : Nat → Nat
  | 1 => 192
  | 2 => 448
  | _ => x.constO

/-- The least class that holds for the larger one-way latency, among those that the request admits (R285). -/
def fixClass (x : PortSt) (fwd rev : Nat) : Option Nat :=
  [1, 2, 3].find? (fun k => (x.req == 0 || x.req == k) && max fwd rev + 128 ≤ 8 * classConst x k)

/-- A training step fails: state down, event 0x5002, a retry after 100 ms (R283). -/
def trainFails (s : State) (p step cause : Nat) : State :=
  raise (setPort s p { PortSt.init with state := .down, cause := cause, failAt := s.now + 1 }) 0x5002
    (f8 p ++ f8 step ++ f8 cause)

/-- The median of 1,024 round trips: the mean of the middle two, rounded up to an eighth (R284; log entry 111). -/
def median (l : List Nat) : Nat :=
  let l := sortBy (fun a b => a ≤ b) l
  (l.getD 511 0 + l.getD 512 0 + 1) / 2

/-- The round trip of a training: that of its PROBEs where 1,024 of them came back on the line, else the one reported. -/
def rttOf (x : PortSt) (rtt : Nat) : Nat := if x.rtts.length = 1024 then median x.rtts else rtt

/-- The peer of a training: that of its IDENT, else the one reported. -/
def identOf (x : PortSt) (r : Nat × Nat × Nat) : Nat × Nat × Nat := if x.identIn then (x.peerPhys, x.peerLog, x.peerPort) else r

/-- An IDENT word comes in a training flit: the peer is recorded, or step 3 fails (R283, R579). -/
def trainIdent (s : State) (p : Nat) (body : List Byte) : State :=
  let x := getPort s p
  let w := fieldB body 0 16
  if x.state != .training then s
  else if field w 0 8 != 6 || field w 16 16 = pnode s then trainFails s p 3 5
  else setPort s p { x with identIn := true, trainStep := max 4 x.trainStep, peerPhys := field w 16 16, peerLog := field w 32 16,
                            peerPort := field w 48 8 }

/-- The outcome of a training (R283 steps 3 to 6). -/
def trained (s : State) (p : Nat) (res : TrainIn) : State :=
  match res with
  | .fails step cause => trainFails s p step cause
  | .measured rtt node logical pp kopitre agrees =>
    let t := getPort s p
    let (node, logical, pp) := identOf t (node, logical, pp)
    let rtt := rttOf t rtt
    if !kopitre || node = pnode s then trainFails s p 3 5
    else if 1600 * 8 < rtt then trainFails s p 4 6
    else
      let fwd := halfUp (rtt + t.asymAt)
      let rev := halfUp (rtt - t.asymAt)
      match fixClass t fwd rev with
      | none => trainFails s p 5 7
      | some k =>
        if !agrees then trainFails s p 5 8
        else
          let c := classConst t k
          let x : PortSt := { PortSt.init with
            cause := t.cause, txScr := t.txScr, req := t.req, constO := t.constO, asymAt := t.asymAt, badLimit := t.badLimit,
            state := .up, cls := k, const := c, fwd := fwd, rtt := rtt, margin := marginOf c fwd, peerPhys := node,
            peerLog := logical, peerPort := pp, lock := true, probeAt := s.now, ackAt := s.cyc, ackSentAt := s.cyc }
          raise (setPort s p x) 0x5001 (f8 p ++ f8 k ++ f16 c ++ f32 fwd ++ f16 node ++ f16 logical ++ f8 pp)

/-- PORT_TRAINING_COMPLETE for a port in training. -/
def trainPort (s : State) (p : Nat) (res : TrainIn) : State :=
  if (getPort s p).state = .training then trained s p res else s

/-- An active last declares a port used in PORT_CLASS (04 R122). -/
def portDeclared (s : State) (p : Nat) : Bool := (activeImages s).any (fun im => im.portClass.getD p 0 != 0)

/-- The port command of R289: 1 retrain, 2 take down. -/
def wPortCmd (s : State) (p v : Nat) : WRes :=
  if inRun s && portDeclared s p then .error 0x0401
  else if v != 1 && v != 2 then .error 0x0302
  else
    let x := getPort s p
    let s := takeBack (setPort s p { PortSt.init with state := .down, cause := x.cause }) p x false
    if v = 1 && trainOk s then .ok (tryTraining s p) else .ok s

/-- Every port down (14 R474, change to STANDBY or KEEPER); the cause of its last loss stays (R301). -/
def portsDown (s : State) : State :=
  let t := s.ports.foldl (fun s e => setPort s e.1 { PortSt.init with cause := e.2.cause }) s
  { t with fab := { t.fab with groups := [] } }

/-! ## Sending (R278) -/

/-- Order in which symbols that wait on one port leave (05 R174). -/
def symRank (ty : Nat) : Nat :=
  match ty with
  | 0x20 => 0 | 0x11 => 1 | 0x10 => 2 | 0x01 => 3 | 0x02 => 4 | 0x04 => 5 | 0x22 => 6 | 0x21 => 7 | 0x23 => 8 | 0x24 => 9
  | 0x30 => 10 | _ => 11

def symType (w : Word128) : Nat := field w.toNat 0 8

/-- SYNC as it leaves: the tick and phase of this cycle (R276, 05 R173). -/
def stampSync (s : State) (w : Word128) : Word128 :=
  if symType w = 1 then
    mkSym 1 (field w.toNat 8 8) (field w.toNat 16 11) s.lace.tick s.lace.phase (field w.toNat 80 40)
  else w

/-- Up to 8 symbols for one lace flit, at most one SYNC, and the rest. -/
def pickSyms : Nat → Bool → List Word128 → List Word128 × List Word128
  | 0, _, l => ([], l)
  | _ + 1, _, [] => ([], [])
  | n + 1, syn, w :: r =>
    if symType w = 1 && syn then let (a, b) := pickSyms n syn r; (a, w :: b)
    else let (a, b) := pickSyms n (syn || symType w == 1) r; (w :: a, b)

def wordBytes (l : List Word128) : List Byte := l.flatMap (fun w => leBytes 16 w.toNat)

/-- Eighths of a cycle by which a flit's departure lies past the whole cycle: the line's blocks are no whole number of cycles, and
the value is free (log entry 112). -/
def leaveFrac (n : Nat) : Nat := (Config.freeByte n 0).toNat % 8

/-- Times written into probe words as they leave, `frac` eighths past this cycle (R284). -/
def stampCtl (s : State) (frac : Nat) (w : Word128) : Word128 :=
  match field w.toNat 0 8 with
  | 4 => BitVec.ofNat 128 (4 + s.cyc % 2 ^ 32 * 2 ^ 32 + frac * 2 ^ 64)
  | 5 => ctlReply (field w.toNat 32 32) (field w.toNat 64 8) ((8 * s.cyc + frac + 2 ^ 24 - field w.toNat 72 24) % 2 ^ 24)
  | _ => w

/-- The first fabric flit that credit admits: 128 of the receiver's 512 buffers are for responses (09 R311). -/
def pickFab (x : PortSt) : Option Flit :=
  if x.fabCredit = 0 then none
  else if 128 < x.fabCredit then x.fab.head?
  else x.fab.find? (fun f => isResp f.body)

/-- A sequenced flit leaves with the next sequence number and stays in the replay buffer; a full buffer loses the port, the flit
still waiting on it (R287 cause 4, 09 R331). -/
def sendSeq (s : State) (p : Nat) (x : PortSt) (f : Flit) : State :=
  if 800 ≤ x.replay.length then losePort s p 4
  else
    let y := { x with txSeq := (x.txSeq + 1) % 65536, replay := x.replay ++ [⟨x.txSeq, f, 0⟩],
                      ackAt := if x.replay = [] then s.cyc else x.ackAt }
    sendLine s p y f false

/-- The lace flit of a block boundary: its departure's fraction stands in FRAC (R270, R276). -/
def sendLaceFlit (s : State) (p : Nat) (x : PortSt) : State :=
  let l := sortBy (fun a b => symRank (symType a) ≤ symRank (symType b)) x.lace
  let (now, rest) := pickSyms 8 false l
  let (n, s) := fresh s
  sendSeq s p { x with lace := rest } ⟨3, false, leaveFrac n, padTo 128 (wordBytes (now.map (stampSync s)))⟩

/-- The control flit of a block boundary. -/
def sendCtlFlit (s : State) (p : Nat) (x : PortSt) : State :=
  let (n, s) := fresh s
  sendLine s p { x with ctrl := x.ctrl.drop 8 }
    ⟨6, false, 0, padTo 128 (wordBytes ((x.ctrl.take 8).map (stampCtl s (leaveFrac n))))⟩ false

/-- A block boundary in training: IDENT in training flits from step 3 on, replies to PROBEs, and one PROBE after another in step 4. -/
def trainBoundary (s : State) (p : Nat) (x : PortSt) : State :=
  if x.trainStep < 3 then s
  else if x.ctrl != [] then sendCtlFlit s p x
  else if x.trainStep = 4 && !x.probeOut && x.recent.contains 7 then sendCtlFlit s p { x with probeOut := true, ctrl := [ctlProbe] }
  else sendLine s p x ⟨7, false, 0, padTo 128 (wordBytes [ctlIdent s p])⟩ false

/-- Data flits of transfers whose first link slot has begun wait to leave (04 R133, R272). -/
def PortSt.slotsBegun (x : PortSt) (cyc : Nat) : PortSt :=
  { x with
    sched := x.sched ++ (x.tx.filter (fun t => t.slotAt ≤ cyc)).flatMap (·.data)
    tx := x.tx.map (fun t => if t.slotAt ≤ cyc then { t with data := [] } else t) }

/-- The first kind with a flit waiting is sent at a block boundary (R278); a lost port sends DOWN for 1 µs (R288). -/
def blockBoundary (s : State) (p : Nat) : State :=
  let x := (getPort s p).slotsBegun s.cyc
  if x.state = .training then trainBoundary s p x
  else if x.state = .lost && s.now < x.downUntil then sendLine s p x ⟨6, false, 0, leBytes 16 (ctlDown x.cause).toNat⟩ false
  else if x.state != .up then s
  else match x.replayQ with
    | k :: r => sendLine (count s (portObj p) 0x13 1) p { x with replayQ := r } k.flit true
    | [] =>
      let sched := !x.asleep && x.sched != []
      let laceOk := x.lace != [] && !(sched && x.recent.contains 3)
      let ctrlOk := x.ctrl != [] && !(sched && x.recent.contains 6)
      if laceOk then sendLaceFlit s p x
      else if ctrlOk then sendCtlFlit s p x
      else match sched, x.sched with
        | true, f :: r => sendSeq s p { x with sched := r } f
        | _, _ =>
          let mg := if x.mgmtCredit = 0 then none else x.mgmt.head?
          match mg, pickFab x with
          | some m, none => sendSeq s p { x with mgmt := x.mgmt.drop 1, mgmtCredit := x.mgmtCredit - 1, turn := 8 } m
          | none, some f =>
            sendSeq s p { x with fab := x.fab.erase f, fabCredit := x.fabCredit - 1, turn := x.turn - 1 } f
          | some m, some f =>
            if x.turn = 0 then
              sendSeq s p { x with mgmt := x.mgmt.drop 1, mgmtCredit := x.mgmtCredit - 1, turn := 8 } m
            else sendSeq s p { x with fab := x.fab.erase f, fabCredit := x.fabCredit - 1, turn := x.turn - 1 } f
          | none, none => sendLine s p x ⟨0, false, 0, []⟩ false

/-- BLOCK_BOUNDARY. -/
def execBlockBoundary (port : Port) (s : State) : Out := .next (blockBoundary s port)

end Sys2Proof.Machine
end

