-- ==== Sys2Proof/Machine/Schedule.lean ====
section
/-! DEFINITION. A cluster's way through its schedule: the entries of a node image (04 R125–R147, 06 R234), schedule cycles,
waiters, holds and stretch votes (04 R129–R131, 05 R178). -/
namespace Sys2Proof.Machine

/-! ## Entries of a node image -/

/-- A transfer entry (04 R132). -/
def xPtick (e : Nat) : Nat := field e 0 16
def xSend (e : Nat) : Nat := field e 16 16
def xLen (e : Nat) : Nat := if field e 32 16 = 0 then 65536 else field e 32 16
def xPort (e : Nat) : Nat := field e 48 8
def xComp (e : Nat) : Bool := fbit e 56
def xWaitEn (e : Nat) : Bool := fbit e 57
def xLcl (e : Nat) : Nat := field e 64 16
def xCore (e : Nat) : Nat := field e 80 8
def xWaitBit (e : Nat) : Nat := field e 88 8
def xAddr (e : Nat) : Nat := field e 96 16

/-- An awl descriptor (06 R234). -/
def aPtick (e : Nat) : Nat := field e 0 16
def aStart (e : Nat) : Nat := field e 16 16
def aLcl (e : Nat) : Nat := field e 32 16
def aCore (e : Nat) : Nat := field e 48 8
def aNcore (e : Nat) : Nat := field e 56 6
def aSp (e : Nat) : Nat := field e 64 16
def aSps (e : Nat) : Nat := field e 80 16
def aStride (e : Nat) : Nat := field e 96 16
def aSstride (e : Nat) : Nat := field e 112 16
def aBit (e : Nat) : Nat := field e 128 8
def aWaitBit (e : Nat) : Nat := field e 136 8
def aWaitEn (e : Nat) : Bool := fbit e 144
def aDir (e : Nat) : Bool := fbit e 145
def aComp (e : Nat) : Bool := fbit e 146
def aNobit (e : Nat) : Bool := fbit e 147
def aSpace (e : Nat) : Nat := field e 152 8
def aMem (e : Nat) : Nat := field e 160 48
def aMstride (e : Nat) : Nat := field e 224 32
def aRows (e : Nat) : Nat := field e 256 16
def aRowLen (e : Nat) : Nat := field e 272 16
def aXform (e : Nat) : Nat := field e 288 8
def aFmt (e : Nat) : Nat := field e 296 8
def aKb (e : Nat) : Nat := field e 304 16

/-- A reduction's head (04 R135). -/
def rPtick (h : Nat) : Nat := field h 0 16
def rStart (h : Nat) : Nat := field h 16 16
def rLcl (h : Nat) : Nat := field h 32 16
def rCore (h : Nat) : Nat := field h 48 8
def rNc (h : Nat) : Nat := field h 56 8
def rDst (h : Nat) : Nat := field h 64 16
def rElem (h : Nat) : Nat := field h 80 16
def rDone (h : Nat) : Nat := field h 96 8

/-- Period tick and schedule cycle of a cycle counted from cycle 0 of a period tick (04 R133, R135). -/
def schedAt (im : Image) (ptick c : Nat) : Nat × Nat :=
  ((ptick + c / max 1 im.tickLen) % max 1 im.period, c % max 1 im.tickLen)

/-- Period tick and schedule cycle in which contributor `i` of a reduction is added. -/
def redAt (im : Image) (h i : Nat) : Nat × Nat := schedAt im (rPtick h) (rStart h + i * (rElem h / 32))

/-- A resole window (04 R144). -/
def winLcl (e : Nat) : Nat := field e 0 16
def winPtick (e : Nat) : Nat := field e 16 16
def winStart (e : Nat) : Nat := field e 32 16
def winLen (e : Nat) : Nat := field e 48 16
def winMask (e : Nat) : Nat := field e 64 64

/-- A resole record (04 R144). -/
def recLcl (e : Nat) : Nat := field e 0 16
def recSite (e : Nat) : Nat := field e 16 8
def recWide (e : Nat) : Bool := fbit e 24
def recClip (e : Nat) : Nat := field e 32 16
def recSevere (e : Nat) : Nat := field e 48 16
def recCost (e level : Nat) : Nat := if level = 2 then field e 80 16 else field e 64 16
def recWin (e : Nat) : Nat := field e 96 16
def recCore (e : Nat) : Nat := field e 112 8
def recOp (e : Nat) : Nat := field e 128 32
def recStride (e : Nat) : Nat := field e 160 16
def recBase (e : Nat) : Nat := field e 176 32
def recWideRef (e : Nat) : Nat := field e 208 16

/-! ## Op streams (04 R125) -/

def coreWords (im : Image) (l c : Nat) : List Nat := ((mget ([], []) im.ops l).2).getD c []

/-- First stream position of a core's segment, and the one after its last. -/
def segBounds (im : Image) (l c pt : Nat) : Nat × Nat :=
  let t := (mget ([], []) im.ops l).1
  (t.getD (c * (im.period + 1) + pt) 0, t.getD (c * (im.period + 1) + pt + 1) 0)

/-- The op words of a segment with their stream positions. -/
def segment (im : Image) (l c pt : Nat) : List (Nat × Word128) :=
  let (a, b) := segBounds im l c pt
  ((((coreWords im l c).drop a).take (b - a)).zipIdx).map (fun e => (a + e.2, BitVec.ofNat 128 e.1))

/-- Slot group that a cluster serves in a period tick; 0xff none (04 R140). -/
def groupOf (im : Image) (l pt : Nat) : Nat := (mget [] im.groupTab l).getD pt 0xff

/-! ## Time in a cluster -/

/-- The schedule cycle of a cluster: the phase less its lag (04 R130). -/
def schedCyc (s : State) (l : Nat) : Nat := s.lace.phase - (getCl s l).lag

/-- A faulted partition runs no segment from tick T + H (05 R183). -/
def stoppedPart (s : State) (p : Nat) : Bool :=
  (getPart s p).faultTick.isSome && (match s.lace.stopFrom with | some f => decide (f ≤ s.lace.tick) | none => false)

/-- A cluster carries out its schedule: bound, awake or late to wake, not abandoned, in a partition that runs. -/
def clusterGoes (s : State) (l : Nat) : Bool :=
  let c := getCl s l
  inRun s && laceRuns s && (!c.asleep || c.lateAt != 0) && physOf s l != 0xff && !c.abandoned && !s.lace.fenced &&
    (match partOf s l with | some (p, _) => !stoppedPart s p | none => false)

/-! ## Ring operations (03 R92) -/

def isMm (w : Word128) : Bool := wOpc w == 2 || wOpc w == 3

/-- Weight descriptor of a multiplication. -/
def mmDw (w : Word128) (descs : SMap Nat) : Nat := (mfind descs (if wOpc w = 2 then field w.toNat 33 4 else field w.toNat 35 4)).getD 0

/-- A multiplication whose weights lie in a ring. -/
def onRing (w : Word128) (descs : SMap Nat) : Bool := isMm w && dRing (mmDw w descs) != 0

/-- The bit checked before the first read from unit `u`, where u opens a quarter. -/
def ringBit (dw u : Nat) : Option Nat :=
  let q := dRing dw / 4
  if q = 0 then none
  else if u % q = 0 then some (dRingBit dw + u / q % 4) else none

/-- Every operand of an operation in flight was read, or can be from scratchpad. -/
def unitsRead (f : InFlight) : Bool := !onRing f.w f.descs || decide ((mmOf f.w f.descs).unitCount ≤ f.units.length)

/-- The next ring unit of an operation in flight is first read in cluster time `t` or before. -/
def unitDue (f : InFlight) (t : Nat) : Bool :=
  let a := mmOf f.w f.descs
  onRing f.w f.descs && f.units.length < a.unitCount && f.issued + a.unitCycle f.units.length ≤ t

/-! ## Waiters of a schedule cycle (04 R126, R129) -/

/-- Bits that the op word of this cycle waits on: its WAIT bit and the first quarter of its ring. -/
def opBits (co : CoreSt) (w : Word128) : List Nat :=
  let used := (opUses w).all (fun d => (mfind co.descs d).isSome)
  (if wWaitEn w then [wWaitBit w] else []) ++
    (if onRing w co.descs && used then (ringBit (mmDw w co.descs) 0).toList else [])

def coreWaiters (s : State) (im : Image) (l pt c core : Nat) : List (Nat × Nat) :=
  let co := getCore s l core
  let ops := (segment im l core pt).filter (fun e => wIssue e.2 == c && co.pos ≤ e.1 && !co.bad.contains e.1)
  let bits := ops.flatMap (fun e => opBits co e.2)
  let rings := co.flight.flatMap (fun f =>
    if f.units != [] && unitDue f (clTime s l) then (ringBit (mmDw f.w f.descs) f.units.length).toList else [])
  (bits ++ rings).map (fun b => (core, b))

def xferWaiters (im : Image) (l pt c : Nat) : List (Nat × Nat) :=
  (im.xfer.filter (fun e => xLcl e == l && xPtick e == pt && xSend e == c && xWaitEn e)).map (fun e => (xCore e, xWaitBit e))

def awlWaiters (im : Image) (l pt c : Nat) : List (Nat × Nat) :=
  (im.awl.filter (fun e => aLcl e == l && aPtick e == pt && aStart e == c && aWaitEn e)).map (fun e => (aCore e, aWaitBit e))

/-- Contributor words of a reduction: ADDR in bits 15:0, BIT in bits 23:16 (04 R135). -/
def contribBit (r : Nat × List Nat) (i : Nat) : Nat := field (r.2.getD i 0) 16 8

/-- Contributors added in this schedule cycle: the first one of a reduction that starts, the next one of one under way. -/
def redWaiters (s : State) (im : Image) (l pt c : Nat) : List (Nat × Nat) :=
  (im.reduce.zipIdx).flatMap (fun e =>
    if rLcl e.1.1 != l then []
    else
      let first := if redAt im e.1.1 0 = (pt, c) then [(rCore e.1.1, contribBit e.1 0)] else []
      let next := ((getAwl s l).reds.filter (fun r => r.ix == e.2 && r.next != 0 && r.next < rNc e.1.1 &&
        redAt im e.1.1 r.next == (pt, c))).map (fun r => (rCore e.1.1, contribBit e.1 r.next))
      first ++ next)

def waiters (s : State) (im : Image) (l pt c : Nat) : List (Nat × Nat) :=
  (List.range 64).flatMap (coreWaiters s im l pt c) ++ awlWaiters im l pt c ++ xferWaiters im l pt c ++
    redWaiters s im l pt c

/-! ## Votes and holds -/

/-- A package casts a vote whenever its largest cluster vote for the tick rises, in the cycle that the lag has reached (05 R178): a hold
in phase 40 gives a vote of phase 41. -/
def castVotes (s : State) : State :=
  let lag := s.clusters.foldl (fun m e => max m e.2.lag) 0
  let q := min (s.lace.x + 1) (ceilDiv lag (max 1 s.lace.q))
  if q ≤ s.lace.cast then s
  else
    let v : Vote := ⟨s.lace.tick, q, s.lace.phase⟩
    let s := originate s 0x10 s.lace.tick s.lace.phase q
    { s with lace := { s.lace with cast := q, votes := s.lace.votes ++ [v], forwarded := s.lace.forwarded ++ [v] } }

/-- A hold begins (04 R131): one at a bit, or one for a late wake, whose core is 0xff (17 R553; log entry 108). -/
def beginHold (s : State) (l core bit pt : Nat) : State :=
  let c := getCl s l
  if c.hold.isSome then s
  else
    let s := count (setCl s l { c with hold := some ⟨core, bit, s.cyc⟩, reported := true }) 0x3040 1 1
    if c.reported then s else raise s 0x3003 (f16 l ++ f8 core ++ f8 bit ++ f16 pt)

/-- The waiters of the cluster's schedule cycle are taken together (04 R129 step 2): true where the cycle's actions take
place, found once for the cycle; a clear bit, or a cluster not awake (17 R553), begins a hold. -/
def takeCycle (s : State) (l : Nat) (im : Image) (pt : Nat) : State × Bool :=
  let c := getCl s l
  let now := (s.lace.tick, schedCyc s l)
  if c.passed = some now then (s, true)
  else if c.asleep then (beginHold s l 0xff 0xff pt, false)
  else
    match (waiters s im l pt (schedCyc s l)).find? (fun w => !sbGet s l w.1 w.2) with
    | some w => (beginHold s l w.1 w.2 pt, false)
    | none => (setCl s l { c with hold := none, passed := some now }, true)

/-- The cluster of a scheduled action, where its partition's schedule stands at period tick `pt` and cycle `c` and the
cycle's actions take place; the state carries a hold that begins. -/
def atCycle (s : State) (l : Nat) (pt c : Nat) : State × Option (Nat × Image) :=
  match partOf s l with
  | none => (s, none)
  | some (p, im) =>
    if clusterGoes s l && periodTick s p im = pt && schedCyc s l = c then
      let (s, ok) := takeCycle s l im pt
      (s, if ok then some (p, im) else none)
    else (s, none)

end Sys2Proof.Machine
end

