-- ==== Sys2Proof/Machine/Engine.lean ====
section
/-! DEFINITION. The engine array: issue and completion of op words, resole windows, link transfers of the schedule (02 R60–R74, 03
R86–R117, 04 R126–R148). -/
namespace Sys2Proof.Machine

/-! ## Completion (03 R110, R112) -/

/-- Counts of an operation's arithmetic (02 R40, R50, R54, R56, R60), and the events of R76 that it raises for the first time: `told` lists
those that it raised before. What the limit of R76 withholds does not count in SUPPRESSED, which R524 and R525 leave open (DESIGN
CHOICE, log entry 104). -/
def countRes (s : State) (l core ix tick : Nat) (told : List Nat) (r : OpResult) : State × List Nat :=
  let at' := f16 l ++ f8 core ++ f32 ix ++ f64 tick
  let s := count (count (count s 0x9030 7 r.invScale) 0x9030 8 r.mismatch) 0x9030 9 r.badT16
  let s := count (count s 0x9030 0x0a r.clipped) 0x9030 0x0b (r.nonfin + r.badInit)
  let evs := [(0x9002, r.invScale, []), (0x9003, r.badT16, f16 r.badT16Addr), (0x9004, r.mismatch, []),
    (0x9005, r.badInit, f32 r.badInit)].filter (fun e => e.2.1 != 0 && !told.contains e.1)
  (evs.foldl (fun s e => raise s e.1 (at' ++ e.2.2)) s, told ++ evs.map (·.1))

/-- Level of a row's flag (02 R69): 0 none. -/
def flagLevel (rec : Nat) (r : RowRep) : Nat :=
  if r.severe || recSevere rec * r.elems < r.clips * 1024 then 2
  else if recClip rec * r.elems < r.clips * 1024 then 1
  else 0

/-- Stacked SRAM address of a retained row (04 R146). -/
def stashAddr (rec row : Nat) : Nat := sramTile (recLcl rec / 19) 0 + recBase rec + row * recStride rec

/-- Appliance slot of row `row` of an operation, where it has one (04 R140). -/
def slotOfRow (im : Image) (f : InFlight) (row : Nat) : Option Nat :=
  match (opSlots f.w f.descs).find? (fun e => e.1 == row) with
  | some (_, some i) => if f.group = 0xff then none else some (f.group * im.slotsPer + i)
  | _ => none

/-- Address of the source row of a REQUANT, which a recomputation may have replaced (02 R71). -/
def sourceRow (f : InFlight) (row : Nat) : Option Nat :=
  if wOpc f.w = 4 then some (spAddr (f32Addr (rowOpOf f.w f.descs).dx row 0)) else none

/-- Addresses of the binary32 rows that an operation requantises or writes anew: a recomputation's mark on one ends there (02 R71). -/
def freshRows (f : InFlight) : List Nat :=
  if wOpc f.w = 4 then (List.range (rowOpOf f.w f.descs).m).filterMap (sourceRow f)
  else if isMm f.w then
    let a := mmOf f.w f.descs
    a.probs.flatMap (fun p => if dFmt p.dO = 2 then (List.range a.m).map (fun m => spAddr (f32Addr p.dO m 0)) else [])
  else []

/-- A flagged row: its binary32 values go to the stash, its flag on the way to the consumer's resole unit (02 R69, R72, 04 R146). -/
def flagRow (l core : Nat) (im : Image) (f : InFlight) (site : Nat) (s : State) (r : RowRep) : State :=
  match im.records.find? (fun e => recLcl e == l && recSite e == site) with
  | none => s
  | some rec =>
    let lev := flagLevel rec r
    if lev = 0 then s
    else
      let s := count s 0x9030 lev 1
      let s := noteWrite (physPut s (stashAddr rec r.row) (r.values.flatMap (leBytes 4))) (stashAddr rec r.row) (4 * r.values.length)
      let c := f.cyc + r.doneAt
      let fl : Flag := ⟨f.tick + c / max 1 im.tickLen, c % max 1 im.tickLen, l, core, r.row, lev,
        im.records.findIdx (fun e => e == rec), slotOfRow im f r.row⟩
      let u := winLcl (im.windows.getD (recWin rec) 0)
      modCl s u (fun c => { c with resole := { c.resole with transit := c.resole.transit ++ [fl] } })

/-- Rows of a resole site raise their flags, but the rows that a recomputation replaced (02 R69, R71). -/
def flagRows (s : State) (l core : Nat) (im : Image) (f : InFlight) (rows : List RowRep) : State :=
  let old := (getCore s l core).resoled
  let isOld := fun (r : RowRep) => match sourceRow f r.row with | some a => old.contains a | none => false
  let s := match opSite f.w with
    | none => s
    | some site => (rows.filter (fun r => !isOld r)).foldl (flagRow l core im f site) s
  let used := freshRows f
  let co := getCore s l core
  setCore s l core { co with resoled := co.resoled.filter (fun a => !used.contains a) }

/-- Results are undefined until a raised voltage is confirmed (17 R547): the bytes written are then free values. -/
def resultCells (s : State) (cells : List Host.Cell) : State × List Host.Cell :=
  if voltLate s then
    let (n, s) := fresh s
    (s, cells.zipIdx.map (fun e => (e.1.1, Config.freeByte n e.2)))
  else (s, cells)

/-- Scratchpad of a core as the reads of an operation in flight met it (03 R96): by the cycle, counted from its issue. -/
def flightRd (s : State) (l c : Nat) (f : InFlight) : RdAt := fun t a => spadAt s l c (f.issued + t) a

/-- The bit-packed sign vector that an operation's rotation site has in stacked SRAM (02 R62). -/
def rotSigns (s : State) (l : Nat) (w : Word128) : List Bool :=
  match (partOf s l).bind (fun p => (getPart s p.1).active) with
  | some n => unpackSigns (((getSlot s n).signs.find? (fun e => e.1 == field w.toNat 55 10)).elim [] (·.2))
  | none => []

/-- The parts of an operation's output for its active rows, and the bytes of one of them. -/
def flightPieces (f : InFlight) : List Piece :=
  if isMm f.w then let a := mmOf f.w f.descs; a.pieces.filter (fun x => fbit f.rows (x.prob * a.m + x.row))
  else (rowPieces f.w (rowOpOf f.w f.descs)).filter (fun x => fbit f.rows x.row)

def pieceCells (s : State) (l c : Nat) (f : InFlight) (x : Piece) : List Host.Cell :=
  let rd := flightRd s l c f
  if isMm f.w then mmPiece rd f.units (mmOf f.w f.descs) x
  else rowPiece rd f.w (if wOpc f.w = 5 then rotSigns s l f.w else []) (rowOpOf f.w f.descs) x

/-- What an operation reports when it completes. -/
def flightReport (s : State) (l c : Nat) (f : InFlight) : OpResult :=
  let rd := flightRd s l c f
  if isMm f.w then mmResult rd f.units (mmOf f.w f.descs) f.rows else rowOpResult rd f.w (rowOpOf f.w f.descs) f.rows

/-- The parts of an operation's output that become readable after cluster time `f.written`, up to `t`, are written (03 R97, R112). -/
def writePieces (s : State) (l c t : Nat) (f : InFlight) : State :=
  ((flightPieces f).filter (fun x => f.written < f.issued + x.at' && f.issued + x.at' ≤ t)).foldl (fun s x =>
    let (s, cells) := resultCells s ((pieceCells s l c f x).map (fun e => (spadAddr l c e.1, e.2)))
    spadPutCells s cells) s

/-- Entries of `spadLog` for a core that none of its operations in flight can read any more are dropped. -/
def trimLog (s : State) (l c : Nat) : State :=
  let fl := (getCore s l c).flight
  { s with spadLog := s.spadLog.filter (fun e => spadLcl e.2.1 != l || spadCore e.2.1 != c || fl.any (fun f => decide (f.issued < e.1))) }

/-- Results of a core that became readable by the present cluster time stand in scratchpad. -/
def writeDue (s : State) (l c : Nat) : State :=
  let t := clTime s l
  let s := (getCore s l c).flight.foldl (fun s f => if f.written < t then writePieces s l c t f else s) s
  let co := getCore s l c
  setCore s l c { co with flight := co.flight.map (fun f => { f with written := max t f.written }) }

/-- An operation completes: what it has not yet written is written, its reports are made, and a resole consumer keeps the weights that it
read (04 R147). -/
def commit (s : State) (l core : Nat) (im : Image) (f : InFlight) : State :=
  let s := writePieces s l core (max f.due (clTime s l)) f
  let r := flightReport s l core f
  let (s, told) := countRes s l core f.ix f.tick f.told r
  let a := mmOf f.w f.descs
  let units := if isMm f.w then (List.range a.sets).flatMap (a.setUnits (flightRd s l core f) f.units 0) else []
  let co := getCore s l core
  let s := setCore s l core { co with
    flight := co.flight.filter (fun g => g != f)
    latched := match mfind co.latched f.ix with
      | some g => if g.issued = f.issued then mbind co.latched f.ix { f with units := units, told := told } else co.latched
      | none => co.latched }
  trimLog (flagRows s l core im f r.rows) l core

/-- Operations of a core whose latency has passed complete, in order of issue. -/
def commitDue (s : State) (l core : Nat) (im : Image) : State :=
  ((getCore s l core).flight.filter (fun f => f.due ≤ clTime s l && unitsRead f)).foldl
    (fun s f => commit s l core im f) s

/-- OPERATION_COMPLETE: the operation at a stream position reaches its latency. -/
def execOperationComplete (core : CoreRef) (ix : Nat) (s : State) : Out :=
  match partOf s core.lcl, (getCore s core.lcl core.core).flight.find? (fun f => f.ix == ix) with
  | some (_, im), some f =>
    if f.due ≤ clTime s core.lcl && unitsRead f then .next (commit s core.lcl core.core im f) else .next s
  | _, _ => .next s

/-! ## Issue (03 R106–R109, R614) -/

/-- Bytes of a core's scratchpad as its operations read them. -/
def coreRd (s : State) (l c : Nat) : Nat → Byte := fun a => spadByte s l c a

/-- The slot mask as an operation that issues in this cycle reads it: without the updates of this cycle (03 R98). -/
def maskSeen (s : State) (l : Nat) : Nat :=
  let c := getCl s l
  if c.maskAt = s.cyc + 1 then c.maskOld else c.mask

/-- Rows of an operation whose slot-mask bit is set when it issues, or that have no slot (03 R98, 04 R141). -/
def activeRows (s : State) (l : Nat) (im : Image) (g : Nat) (w : Word128) (descs : SMap Nat) : Nat :=
  (opSlots w descs).foldl (fun m e =>
    let on := match e.2 with
      | none => true
      | some i => g != 0xff && fbit (maskSeen s l) (g * im.slotsPer + i)
    if on then m + 2 ^ e.1 else m) 0

/-- Errors that reads of a core's scratchpad ranges meet (06 R214, R217). -/
def coreEcc (s : State) (l c : Nat) (rs : List (Nat × Nat)) : State :=
  rs.foldl (fun s r => (ecc s 0xffff (spadAddr l c r.1) r.2).1) s

/-- Weight units whose turn has come are read, each quarter's first unit taking its ring bit (03 R92). -/
def readUnits : Nat → Nat → Nat → InFlight → State → State × InFlight
  | 0, _, _, f, s => (s, f)
  | n + 1, l, c, f, s =>
    if !unitDue f (clTime s l) then (s, f)
    else
      let dw := mmDw f.w f.descs
      let u := f.units.length
      let s := match ringBit dw u with | some b => sbSet s l c b false | none => s
      let s := coreEcc s l c (unitReads dw u)
      readUnits n l c { f with units := f.units ++ [readUnit (coreRd s l c) dw u] } s

/-- Ring operations of a core read on in a cycle whose waiters were found set. -/
def ringStep (s : State) (l c : Nat) : State :=
  (getCore s l c).flight.foldl (fun s f =>
    if !unitDue f (clTime s l) then s
    else
      let (s, g) := readUnits 128 l c f s
      let co := getCore s l c
      setCore s l c { co with flight := co.flight.map (fun e => if e = f then g else e) }) s

/-- An operation starts: its scratchpad reads meet their errors (log entry 30), and the first units of a ring are read. -/
def startReads (s : State) (l c : Nat) (f : InFlight) : State × InFlight :=
  readUnits 128 l c f (coreEcc s l c (opReads f.w f.descs f.rows))

/-- Resources that an op word uses (R106): the array, the vector path. -/
def usesArray (w : Word128) : Bool := isMm w
def usesVector (w : Word128) (descs : SMap Nat) : Bool :=
  wOpc w == 4 || wOpc w == 6 || (isMm w && (mmOf w descs).outFmt != 2)

/-- Every resource of an op word is free (R107). -/
def resourceFree (s : State) (l c : Nat) (w : Word128) (descs : SMap Nat) : Bool :=
  let co := getCore s l c
  let t := clTime s l
  (!usesArray w || co.arrayBusy ≤ t) && (!usesVector w descs || co.vecBusy ≤ t) &&
    (wOpc w != 5 || (getCl s l).rotBusy ≤ t)

def occupy (s : State) (l c : Nat) (w : Word128) (descs : SMap Nat) : State :=
  let t := clTime s l
  let o := t + opOcc w descs
  let co := getCore s l c
  let s := setCore s l c { co with
    arrayBusy := if usesArray w then o else co.arrayBusy
    vecBusy := if isMm w && usesVector w descs then t + opLat w descs else if usesVector w descs then o else co.vecBusy }
  if wOpc w = 5 then modCl s l (fun c => { c with rotBusy := o }) else s

/-- Event 0x3202, once per core per tick (R117). -/
def unwritten (s : State) (l c ix d : Nat) : State :=
  let s := count s 0x9041 5 1
  let co := getCore s l c
  if co.reported then suppress s 0x3202
  else raise (setCore s l c { co with reported := true }) 0x3202 (f16 l ++ f8 c ++ f64 s.lace.tick ++ f32 ix ++ f8 d)

/-- The consumer of some resole record: its issue is kept for recomputation (04 R147). -/
def isConsumer (im : Image) (l c ix : Nat) : Bool :=
  im.records.any (fun e => winLcl (im.windows.getD (recWin e) 0) == l && recCore e == c && recOp e == ix)

/-- An operation other than NOP and SETDESC issues. Choices where the spec is silent (DESIGN CHOICE, log entry 105): of several unwritten
descriptors event 0x3202 names the first in the order of the op word's fields; an unwritten descriptor counts as value 0 in O and L; the
array cycles of an operation that is not executed do not count in object 0x9041.03; a masked PACKMM row counts the steps of all column
sets in object 0x9041.04. -/
def issueOp (s : State) (l c : Nat) (im : Image) (pt ix : Nat) (w : Word128) : State :=
  let descs := (getCore s l c).descs
  match (opUses w).find? (fun d => (mfind descs d).isNone) with
  | some d => unwritten (occupy s l c w descs) l c ix d
  | none =>
    let g := groupOf im l pt
    let rows := activeRows s l im g w descs
    let s := occupy (count s 0x9041 1 1) l c w descs
    let s := if isMm w then
        let a := mmOf w descs
        let gated := ((opSlots w descs).filter (fun e => !fbit rows e.1)).length
        count (count s 0x9041 3 a.occ) 0x9041 4 (gated * a.steps) else s
    let s := { s with power := { s.power with units := s.power.units + opUnits w descs } }
    let t := clTime s l
    let f : InFlight := ⟨ix, w, descs, rows, g, s.lace.tick, schedCyc s l, t, t + opLat w descs, [], t, []⟩
    let (s, f) := startReads s l c f
    let co := getCore s l c
    setCore s l c { co with
      flight := co.flight ++ [f]
      latched := if isConsumer im l c ix then mbind co.latched ix f else co.latched }

/-- An op word that fails its CHK (R109): not executed, not waiting, reported. -/
def badWord (s : State) (l c ix : Nat) (w : Word128) : State :=
  let co := getCore s l c
  let s := setCore s l c { co with bad := co.bad ++ [ix], pos := ix + 1 }
  raise (count s 0x9041 2 1) 0x3201 (f16 l ++ f8 c ++ f64 s.lace.tick ++ f32 ix ++ f8 (wOpc w))

/-- The core sequencer issues the op word `w` at stream position `ix` (R82, R107, R109): at its issue cycle, once its bit is
set and its resources are free; `ok` says that the word is the row's. -/
def sequencer (s : State) (core : CoreRef) (ix : Nat) (w : Word128) (ok : Bool) (act : State → Nat → Image → State) : State :=
  let l := core.lcl.val
  let c := core.core.val
  match partOf s l with
  | none => s
  | some (p, im) =>
    let pt := periodTick s p im
    match (segment im l c pt).find? (fun e => e.1 == ix) with
    | none => s
    | some (_, w0) =>
      let here := clusterGoes s l && wIssue w0 = schedCyc s l && (getCore s l c).pos ≤ ix
      if !here then s
      else if !chkOk w then badWord s l c ix w
      else if !ok then s
      else
        let (s, go) := takeCycle s l im pt
        let s := commitDue (if go then ringStep s l c else s) l c im
        if !go || !resourceFree s l c w (getCore s l c).descs then s
        else
          let s := if wWaitEn w then sbSet s l c (wWaitBit w) false else s
          let co := getCore s l c
          act (setCore s l c { co with pos := ix + 1 }) pt im

def seqOp (s : State) (core : CoreRef) (ix : Nat) (w : Word128) (ok : Bool) : Out :=
  .next (sequencer s core ix w ok (fun s pt im => issueOp s core.lcl core.core im pt ix w))

/-- NOP: occupies nothing and writes nothing. -/
def execOpNop (core : CoreRef) (ix : Nat) (w : Word128) (s : State) : Out :=
  .next (sequencer s core ix w (wOpc w == 0) (fun s _ _ => count s 0x9041 1 1))

/-- SETDESC writes a descriptor (R88). -/
def execSetdesc (core : CoreRef) (ix : Nat) (w : Word128) (s : State) : Out :=
  .next (sequencer s core ix w (wOpc w == 1) (fun s _ _ =>
    let s := count s 0x9041 1 1
    let co := getCore s core.lcl core.core
    setCore s core.lcl core.core { co with descs := mbind co.descs (field w.toNat 29 4) (descOf w) }))

/-- MATMUL (R93). -/
def execMatmul (core : CoreRef) (ix : Nat) (w : Word128) (s : State) : Out := seqOp s core ix w (wOpc w == 2)
/-- PACKMM (R99). -/
def execPackmm (core : CoreRef) (ix : Nat) (w : Word128) (s : State) : Out := seqOp s core ix w (wOpc w == 3)
/-- REQUANT (R101). -/
def execRequant (core : CoreRef) (ix : Nat) (w : Word128) (s : State) : Out := seqOp s core ix w (wOpc w == 4)
/-- ROTATE (R101). -/
def execRotate (core : CoreRef) (ix : Nat) (w : Word128) (s : State) : Out := seqOp s core ix w (wOpc w == 5)

def isVect (w : Word128) (fn : Nat) : Bool := wOpc w == 6 && vectFn w == fn

/-- The VECT functions (R103, R104). -/
def execVectAdd (core : CoreRef) (ix : Nat) (w : Word128) (s : State) : Out := seqOp s core ix w (isVect w 0)
def execVectSub (core : CoreRef) (ix : Nat) (w : Word128) (s : State) : Out := seqOp s core ix w (isVect w 1)
def execVectMul (core : CoreRef) (ix : Nat) (w : Word128) (s : State) : Out := seqOp s core ix w (isVect w 2)
def execVectMax (core : CoreRef) (ix : Nat) (w : Word128) (s : State) : Out := seqOp s core ix w (isVect w 3)
def execVectMin (core : CoreRef) (ix : Nat) (w : Word128) (s : State) : Out := seqOp s core ix w (isVect w 4)
def execVectExp (core : CoreRef) (ix : Nat) (w : Word128) (s : State) : Out := seqOp s core ix w (isVect w 5)
def execVectRecip (core : CoreRef) (ix : Nat) (w : Word128) (s : State) : Out := seqOp s core ix w (isVect w 6)
def execVectRsqrt (core : CoreRef) (ix : Nat) (w : Word128) (s : State) : Out := seqOp s core ix w (isVect w 7)
def execVectSilu (core : CoreRef) (ix : Nat) (w : Word128) (s : State) : Out := seqOp s core ix w (isVect w 8)
def execVectTanh (core : CoreRef) (ix : Nat) (w : Word128) (s : State) : Out := seqOp s core ix w (isVect w 9)
def execRowsum (core : CoreRef) (ix : Nat) (w : Word128) (s : State) : Out := seqOp s core ix w (isVect w 10)
def execRowmax (core : CoreRef) (ix : Nat) (w : Word128) (s : State) : Out := seqOp s core ix w (isVect w 11)
def execVectCopy (core : CoreRef) (ix : Nat) (w : Word128) (s : State) : Out := seqOp s core ix w (isVect w 12)

/-! ## Arrivals (04 R126, R129) -/

/-- ARRIVAL: a producer sets its bit; the last clear bit ends the hold of the cluster. -/
def execArrival (core : CoreRef) (bit : Nat) (s : State) : Out :=
  let l := core.lcl.val
  let s := Sys2Proof.Machine.arrive s l core.core bit
  match partOf s l with
  | some (p, im) => if (getCl s l).hold.isSome then .next (takeCycle s l im (periodTick s p im)).1 else .next s
  | none => .next s

/-! ## Resole (02 R70–R74, 04 R144–R148) -/

def setResole (s : State) (l : Nat) (r : Resole) : State := modCl s l (fun c => { c with resole := r })

/-- Order of flags (R72). -/
def flagBefore (a b : Flag) : Bool :=
  let key := fun (f : Flag) => ((((f.tick * 65536 + f.cycle) * 512 + f.lcl) * 64 + f.core) * 2048 + f.row)
  key a ≤ key b

/-- RESOLE_FLAG_ARRIVAL: the flags on their way reach the resole unit, which keeps them in order (R72). -/
def execResoleFlagArrival (lcl : Lcl) (s : State) : Out :=
  let r := (getCl s lcl).resole
  .next (setResole s lcl { r with transit := [], flags := sortBy flagBefore (r.flags ++ r.transit) })

/-- The wider copy of a record's weights: its object. -/
def wideObj (s : State) (im : Image) (rec : Nat) : Option ObjEnt :=
  if recWideRef rec = 0xffff then none
  else match im.objects[recWideRef rec]? with
    | some e => (objById s (entryId e)).map (·.2)
    | none => none

/-- The issue of a record's consumer in the tick of its window (04 R147). -/
def consumer (s : State) (l rec : Nat) : Option InFlight := mfind (getCore s l (recCore rec)).latched (recOp rec)

/-- The level at which a flag is carried out (R70). -/
def effLevel (s : State) (l : Nat) (im : Image) (rec : Nat) (f : Flag) : Nat :=
  if f.level = 1 then 1
  else
    let fmt := match consumer s l rec with | some g => dFmt (mmDw g.w g.descs) | none => 6
    if !recWide rec || (wideObj s im rec).isNone || fmt = 6 || getO s 0x9000 2 = 0 then 1 else 2

/-- A flag whose record names window `w`. -/
def servedBy (im : Image) (w : Nat) (f : Flag) : Bool := recWin (im.records.getD f.record 0) == w

/-- The next recomputation of the window starts, or its work ends with the flags that remain undone (R73); flags of other windows wait. A
level-2 flag that is carried out at level 1 is counted (R70). -/
def nextResole (s : State) (l : Nat) (im : Image) : State :=
  let r := (getCl s l).resole
  match r.window with
  | none => s
  | some (w, budget, close) =>
    match r.flags.find? (servedBy im w) with
    | none => s
    | some f =>
      let rc := im.records.getD f.record 0
      let lev := effLevel s l im rc f
      if recCost rc lev ≤ budget then
        setResole (if f.level = 2 && lev = 1 then count s 0x9030 5 1 else s) l
          { r with
            flags := r.flags.erase f, window := some (w, budget - recCost rc lev, close)
            work := some (f, lev, clTime s l + recCost rc lev) }
      else setResole s l { r with flags := r.flags.filter (fun g => !servedBy im w g), undone := r.undone ++ r.flags.filter (servedBy im w) }

/-- The window that opens in the cluster's schedule cycle. -/
def windowHere (im : Image) (l pt c : Nat) : Option Nat :=
  match (im.windows.zipIdx).find? (fun e => winLcl e.1 == l && winPtick e.1 == pt && winStart e.1 == c) with
  | some e => some e.2
  | none => none

/-- A window opens (R73, 04 R148): of the flags of its records it serves those of this period iteration whose slot-mask bit is set; flags
that arose in an earlier iteration are dropped. -/
def openWindow (s : State) (l : Nat) (im : Image) (w : Nat) : State :=
  let r := (getCl s l).resole
  let e := im.windows.getD w 0
  let all := sortBy flagBefore (r.flags ++ r.transit)
  let first := s.lace.tick - ptickOf s l
  let live := all.filter (fun f => !servedBy im w f || (first ≤ f.tick &&
    (match f.slot with | some i => fbit (getCl s l).mask i | none => true)))
  nextResole (setResole s l { r with
    transit := [], flags := live, undone := [], work := none
    window := some (w, winLen e * getO s 0x9000 1 / 100, clTime s l + winLen e) }) l im

/-- RESOLE_WINDOW_OPEN: at its START the unit drops the flags whose slot-mask bit is clear and starts the first recomputation
(R73). -/
def execResoleWindowOpen (lcl : Lcl) (s : State) : Out :=
  match partOf s lcl with
  | none => .next s
  | some (p, im) =>
    let pt := periodTick s p im
    match windowHere im lcl pt (schedCyc s lcl) with
    | none => .next s
    | some w =>
      match atCycle s lcl pt (schedCyc s lcl) with
      | (s, some _) => if (getCl s lcl).resole.window.isSome then .next s else .next (openWindow s lcl im w)
      | (s, none) => .next s

/-- Code and scale bytes of a weight unit of a wider copy at index `u` (06 R236). -/
def unitsPerTile (fmt : Nat) : Nat := if fmt = 3 then 56 else if fmt = 4 then 13 else if fmt = 6 then 31 else 60

/-- Object-space addresses of a unit's codes and scales in a wider copy (06 R236). -/
def wideAt (o : ObjEnt) (fmt u : Nat) : Nat × Nat :=
  let n := unitsPerTile fmt
  let t := o.base + u / n * 16384
  (t + u % n * unitCode fmt, t + n * unitCode fmt + u % n * unitScale fmt)

def wideUnit (s : State) (o : ObjEnt) (fmt u : Nat) : List Byte :=
  peek s (wideAt o fmt u).1 (unitCode fmt) ++ peek s (wideAt o fmt u).2 (unitScale fmt)

/-- The errors that a read of a wider copy's unit meets (06 R214, R216). -/
def wideEcc (s : State) (o : ObjEnt) (fmt u : Nat) : State :=
  let s := (ecc s 0xffff (physAddr s o (wideAt o fmt u).1) (unitCode fmt)).1
  (ecc s 0xffff (physAddr s o (wideAt o fmt u).2) (unitScale fmt)).1

/-- R limit of a weight format that was in force at load (04 R147, 02 R52): W2, T1.6, W4, W8. -/
def rLimit (lims : List Nat) (fmt : Nat) : Nat := lims.getD (fmt - 3) 16

/-- The multiplication that a recomputation runs, with its weight units: at level 2 with the wider format and the smaller run length (04
R147). -/
def resoleMm (s : State) (p : Nat) (im : Image) (rec : Nat) (g : InFlight) (lev : Nat) : Mm × List (List Byte) :=
  let a := mmOf g.w g.descs
  let fmt := dFmt a.dw
  match lev, wideObj s im rec with
  | 2, some o =>
    let wf := if fmt = 5 then 6 else 5
    let lims := match (getPart s p).active with | some n => (getSlot s n).rLimits | none => []
    let dw := a.dw - fmt * 2 ^ 56 + wf * 2 ^ 56
    let probs := a.probs.map (fun q => { q with width := if a.packed then 4 else 16 })
    let b := { a with dw := dw, run := min a.run (rLimit lims wf), probs := probs }
    (b, (List.range b.unitCount).map (wideUnit s o wf))
  | _, _ => (a, g.units)

/-- Memory that a recomputation reads: the stash row and, at level 2, the units of the wider copy (04 R147); errors that the reads meet
are corrected and counted as of any read (06 R214). -/
def resoleEcc (s : State) (im : Image) (rc : Nat) (f : Flag) (lev : Nat) (a : Mm) : State :=
  let s := (ecc s 0xffff (stashAddr rc f.row) (128 * a.kb)).1
  match lev, wideObj s im rc with
  | 2, some o => (List.range a.unitCount).foldl (fun s u => wideEcc s o (dFmt a.dw) u) s
  | _, _ => s

/-- A row of the consumer recomputed with A16 activations from the stash (R70, R71, 04 R147), for the row's slot-mask bit that the
consumer latched; the reports of the stash row's requantisation go to the counters (R60). Where the consumer carries in place
the initial value is its own finished result, and invalid T1.6 bytes are not counted again: R71 and R40 leave both open (DESIGN
CHOICE, log entry 106). -/
def recompute (s : State) (l p : Nat) (im : Image) (f : Flag) (lev : Nat) : State :=
  let rc := im.records.getD f.record 0
  match consumer s l rc with
  | none => s
  | some g =>
    let (a, units) := resoleMm s p im rc g lev
    let s := resoleEcc s im rc f lev a
    match a.probs.find? (fun q => q.ix == f.row / max 1 a.m) with
    | none => s
    | some q =>
      let m := f.row % max 1 a.m
      let c := recCore rc
      let xs := (List.range (32 * a.kb)).map (fun i => fieldB (peek s (stashAddr rc f.row + 4 * i) 4) 0 4)
      let reps := requantRow true 0 xs
      let act := fun (kb : Nat) =>
        let codes := ((reps.getD kb ⟨[], 0, 0, false, 0⟩).codes)
        [(codes.map (fun z => signed 8 (unsigned 16 z / 256)), 1), (codes.map (fun z => Int.ofNat (unsigned 16 z % 256)), 0)]
      let sc := fun (kb : Nat) => (reps.getD kb ⟨[], 0, 0, false, 0⟩).scale
      let on := fbit g.rows (q.ix * a.m + m)
      let init := initVal (fun y => spadByte s l c y) a q m
      let es := if on then (List.range q.n).map (fun n =>
          mmElemOf act sc (init n) ((units.drop (n / q.width * a.perSet)).take a.perSet) a q n) else []
      let r : OpResult := { OpResult.empty with
        invScale := es.foldl (fun t e => t + e.2.1.inv) 0
        mismatch := es.foldl (fun t e => t + e.2.1.mis) 0
        badInit := es.foldl (fun t e => t + e.2.2) 0
        clipped := reps.foldl (fun t b => t + b.clips) 0
        nonfin := reps.foldl (fun t b => t + b.nonfin) 0 }
      let s := spadPutCells s ((f32Writes q.dO m 0 (es.map (·.1))).map (fun e => (spadAddr l c e.1, e.2)))
      let (s, told) := countRes s l c g.ix g.tick g.told r
      let co := getCore s l c
      count (setCore s l c { co with
        resoled := if on then co.resoled ++ [spAddr (f32Addr q.dO m 0)] else co.resoled
        latched := mbind co.latched g.ix { g with told := told } }) 0x9030 (2 + lev) 1

/-- A recomputation ends and the next one starts. -/
def endWork (s : State) (l p : Nat) (im : Image) : State :=
  match (getCl s l).resole.work with
  | none => s
  | some (f, lev, _) =>
    let s := recompute s l p im f lev
    nextResole (modCl s l (fun c => { c with resole := { c.resole with work := none } })) l im

/-- RESOLE_RECOMPUTATION_DONE: its charged cost has passed (R74). -/
def execResoleRecomputationDone (lcl : Lcl) (s : State) : Out :=
  match partOf s lcl, (getCl s lcl).resole.work with
  | some (p, im), some (_, _, endAt) =>
    if clusterGoes s lcl && endAt ≤ clTime s lcl then .next (endWork s lcl p im) else .next s
  | _, _ => .next s

/-- Event 0x9001 of one site (02 R76, 16 R525). -/
def undoneEvent (s : State) (im : Image) (k : Nat) (fs : List Flag) : State :=
  let rc := im.records.getD k 0
  let mine := fs.filter (fun f => f.record == k)
  let named := (mine.filterMap (·.slot)).take 16
  raise s 0x9001 (f16 (recLcl rc) ++ f8 (recSite rc) ++ f8 (getO s 0x9000 1) ++ f8 mine.length ++ f8 named.length ++
    (List.range 16).flatMap (fun i => f16 (named.getD i 0xffff)))

/-- The open window closes: its rows that were not recomputed are counted and reported; flags of other windows stay. A window that ends with
its tick closes at phase 0 of the next one, whose tick its event then carries: R74 does not say which (DESIGN CHOICE, log entry 107). -/
def closeWindow (s : State) (l : Nat) (im : Image) : State :=
  let r := (getCl s l).resole
  match r.window with
  | none => s
  | some (w, _, _) =>
    let left := r.undone ++ (match r.work with | some (f, _, _) => [f] | none => []) ++ r.flags.filter (servedBy im w)
    let sites := left.foldl (fun a f => if a.contains f.record then a else a ++ [f.record]) []
    let s := setResole s l { r with window := none, work := none, flags := r.flags.filter (fun f => !servedBy im w f), undone := [] }
    sites.foldl (fun s k => undoneEvent s im k left) (count s 0x9030 6 left.length)

/-- RESOLE_WINDOW_CLOSE: the window's undone rows are reported (R74). -/
def execResoleWindowClose (lcl : Lcl) (s : State) : Out :=
  match partOf s lcl, (getCl s lcl).resole.window with
  | some (p, im), some (_, _, close) =>
    if !(clusterGoes s lcl && close ≤ clTime s lcl) then .next s
    else
      let s := match (getCl s lcl).resole.work with
        | some (_, _, e) => if e ≤ clTime s lcl then endWork s lcl p im else s
        | none => s
      .next (closeWindow s lcl im)
  | _, _ => .next s

/-! ## Link transfers (04 R133, R134, 08 R272, R273) -/

/-- Flits of a transfer's data; the last one carries LAST. -/
def dataFlits (l : List Byte) : List Flit :=
  let cs := chunks 128 l
  (cs.zipIdx).map (fun e => ⟨1, e.2 + 1 == cs.length, 0, padTo 128 e.1⟩)

/-- The transfer head (08 R272). -/
def headFlit (s : State) (e stamp : Nat) : Flit :=
  ⟨2, false, 0, padTo 128 (f16 (field e 144 16) ++ f8 (field e 160 8) ++ f8 (field e 168 8) ++ f16 (field e 112 16) ++
    f16 (field e 32 16) ++ f8 (field e 56 8) ++ [0, 0, 0] ++ f32 stamp ++ f16 (lnode s))⟩

/-- The bytes of a transfer as they leave: its source read with its check bits (06 R214), compressed where the entry says so (07 R254). -/
def xferBytes (s : State) (ix e : Nat) : State × List Byte :=
  let (s, _) := ecc s 0xffff (spadAddr (xLcl e) (xCore e) (xAddr e)) (xLen e)
  let bytes := spadGet s (xLcl e) (xCore e) (xAddr e) (xLen e)
  if xComp e then
    let (s, fs, b) := encodeGroups (some (xPort e)) 6 0 (xLen e / 264) bytes s
    (if b then raise s 0x9012 (f8 1 ++ f16 (xPort e) ++ f32 ix) else s, fs.flatten)
  else (s, bytes)

/-- A transfer's actual start (04 R133, 08 R272): its head waits for the next block boundary, its data for its first link slot. On a
port that is lost, and across a failed welt port, it occupies its slots and nothing of it leaves (08 R288, 16 R532). -/
def sendTransfer (s : State) (ix e : Nat) : State :=
  let p := xPort e
  let slots := ceilDiv (ceilDiv (xLen e) 128) 12
  let stamp := (laceCycle s + 40 + 32 * slots) % 2 ^ 32
  let (s, bytes) := xferBytes s ix e
  let y := (getPort s p).slotsBegun s.cyc
  let leaves := y.state == .up && !weltFailed s (2 * (xLcl e / 19) + p / 32)
  setPort s p { y with
    sched := if leaves then y.sched ++ [headFlit s e stamp] else y.sched
    busyUntil := s.cyc + 40 + 32 * slots
    tx := y.tx.filter (fun t => s.cyc < t.endAt) ++
      [⟨ix, s.cyc + 40, s.cyc + 40 + 32 * slots, if leaves then dataFlits bytes else []⟩] }

/-- A transfer reaches SEND: it starts, or waits until its port has sent the entries before it (04 R133). -/
def startTransfer (s : State) (ix e : Nat) : State :=
  let x := getPort s (xPort e)
  if s.cyc < x.busyUntil || x.late != [] then setPort s (xPort e) { x with late := x.late ++ [(ix, e)] }
  else sendTransfer s ix e

/-- A cluster's transfers that waited start in a cycle in which it does not hold and their port is free (04 R129, R133). -/
def lateTransfers (s : State) (l : Nat) : State :=
  s.ports.foldl (fun s q =>
    match (getPort s q.1).late with
    | (ix, e) :: r =>
      if xLcl e = l && (getPort s q.1).busyUntil ≤ s.cyc then sendTransfer (modPort s q.1 (fun x => { x with late := r })) ix e
      else s
    | [] => s) s

/-- A transfer has reached SEND in this tick and has not left its port yet. -/
def xferBegun (s : State) (p ix : Nat) : Bool :=
  (getPort s p).tx.any (fun t => t.ix == ix && s.cyc < t.endAt) || (getPort s p).late.any (fun t => t.1 == ix)

/-- TRANSFER_START: the transfer at its SEND cycle, its bit set (R133). -/
def execTransferStart (part : Part) (ix : Nat) (s : State) : Out :=
  match activeImage s part with
  | none => .next s
  | some im =>
    match im.xfer[ix]? with
    | none => .next s
    | some e =>
      let l := xLcl e
      if (getPart s part).runs && !xferBegun s (xPort e) ix then
        match atCycle s l (xPtick e) (xSend e) with
        | (s, some _) =>
          let s := if xWaitEn e then sbSet s l (xCore e) (xWaitBit e) false else s
          .next (startTransfer (commitDue s l (xCore e) im) ix e)
        | (s, none) => .next s
      else .next s

end Sys2Proof.Machine
end

