-- ==== Sys2Proof/Machine/RoutePlan.lean ====
section
/-! DEFINITION. The route plan: header, site entries, share tables and banks, and which awl descriptors a bound plan names
(11 R382–R386). -/
namespace Sys2Proof.Machine

/-- A plan header (R383) with the object that holds it. -/
structure Plan where
  base : Nat
  length : Nat
  nsites : Nat
  lastId : Nat
  siteOff : Nat
  bank0 : Nat
  bank1 : Nat
  bankLen : Nat
  countOff : Nat

def planOf (s : State) (o : ObjEnt) : Plan :=
  let b := peek s o.base 64
  ⟨o.base, o.length, fieldB b 6 2, fieldB b 8 8, fieldB b 16 4, fieldB b 20 4, fieldB b 24 4, fieldB b 28 4, fieldB b 32 4⟩

/-- A site entry (R384). -/
structure Site where
  id : Nat
  kind : Nat
  round : Nat
  nrounds : Nat
  lcl : Nat
  slotEn : Bool
  slotBase : Nat
  desc : Nat
  layer : Nat
  topk : Nat
  norm : Nat
  pref : Nat
  e : Nat
  skip : Nat
  m : Nat
  kb : Nat
  n : Nat
  gate : Nat
  gateStride : Nat
  tok : Nat
  tokStride : Nat
  tokS : Nat
  tokSs : Nat
  disp : Nat
  dispStride : Nat
  ret : Nat
  retStride : Nat
  out : Nat
  outStride : Nat
  rrec : Nat
  nrows : Nat
  share : Nat
  raw : List Byte
  deriving DecidableEq

def siteOfBytes (b : List Byte) : Site :=
  { id := fieldB b 0 2, kind := fieldB b 2 1, round := fieldB b 3 1 % 4, nrounds := field (fieldB b 3 1) 2 2 + 1,
    lcl := fieldB b 4 2, slotEn := fbit (fieldB b 6 2) 15, slotBase := fieldB b 6 2 % 4096, desc := fieldB b 8 4,
    layer := fieldB b 12 1, topk := fieldB b 13 1, norm := fieldB b 14 1, pref := fieldB b 15 1, e := fieldB b 16 2,
    skip := fieldB b 18 2, m := fieldB b 20 1 + 1, kb := fieldB b 22 2, n := fieldB b 24 2, gate := fieldB b 26 2,
    gateStride := fieldB b 28 2, tok := fieldB b 30 2, tokStride := fieldB b 32 2, tokS := fieldB b 34 2,
    tokSs := fieldB b 36 2, disp := fieldB b 38 2, dispStride := fieldB b 40 2, ret := fieldB b 42 2,
    retStride := fieldB b 44 2, out := fieldB b 46 2, outStride := fieldB b 48 2, rrec := fieldB b 50 2,
    nrows := fieldB b 52 2, share := fieldB b 54 4, raw := b }

def sitesOf (s : State) (p : Plan) : List Site :=
  (List.range p.nsites).map (fun i => siteOfBytes (peek s (p.base + p.siteOff + 64 * i) 64))

/-- Bytes of a token row in A8 groups and of a returned row in P16 groups (R384). -/
def Site.rb (x : Site) : Nat := 264 * ceilDiv x.kb 8
def Site.pb (x : Site) : Nat := 260 * ceilDiv x.n 128

/-- A share entry (R385): first row, rows, round. -/
structure Share where
  first : Nat
  rows : Nat
  round : Nat
  deriving DecidableEq

def bankOff (p : Plan) (bank : Nat) : Nat := if bank = 0 then p.bank0 else p.bank1

def shareAt (s : State) (p : Plan) (bank : Nat) (x : Site) (e i : Nat) : Share :=
  let w := fieldB (peek s (p.base + bankOff p bank + x.share + 8 * (e * x.pref + i)) 8) 0 8
  ⟨field w 0 12, field w 12 12, field w 24 2⟩

/-- Every share of a site in a bank, expert by expert. -/
def sharesOf (s : State) (p : Plan) (bank : Nat) (x : Site) : List Share :=
  (List.range x.e).flatMap (fun e => (List.range x.pref).map (shareAt s p bank x e))

def bankGen (s : State) (p : Plan) (bank : Nat) : Nat := fieldB (peek s (p.base + bankOff p bank) 4) 0 4

/-- The plan bound to a last slot. -/
def boundPlan (s : State) (slot : Nat) : Option Plan :=
  let id := getO s 0x3025 (slot + 1)
  if id = 0 then none else (objById s id).map (fun o => planOf s o.2)

/-- The site entry whose route descriptor is `ix` in the active last of a partition, with its plan and slot (R382). -/
def routeOf (s : State) (part ix : Nat) : Option (Nat × Plan × Site) :=
  match (getPart s part).active with
  | none => none
  | some slot =>
    match boundPlan s slot with
    | none => none
    | some p => ((sitesOf s p).find? (fun x => x.desc == ix)).map (fun x => (slot, p, x))

end Sys2Proof.Machine
end

