-- ==== Sys2Proof/Machine/Awl.lean ====
section
/-! DEFINITION. The awl: scheduled and unscheduled descriptors, layout transforms, reductions (04 R135, 06 R233–R243). -/
namespace Sys2Proof.Machine

/-! ## Timing (06 R238) -/

/-- Channel of a descriptor, first latency and rate. -/
structure AwlRow where
  chanS : Bool
  lat : Nat
  rate : Nat
  deriving DecidableEq, Repr

def sramRow (l die : Nat) : AwlRow := if die = l / 19 then ⟨true, 32, 512⟩ else ⟨true, 88, 128⟩
def dramRow : AwlRow := ⟨false, 560, 64⟩

/-- The row of R238 that a descriptor takes; `pinned` lists objects that were PINNED when the last was loaded, with their die. -/
def awlRow (s : State) (l e : Nat) (pinned : Option (List (Nat × Nat))) : AwlRow :=
  if aSpace e = 2 || aXform e = 5 then ⟨true, 12, 512⟩
  else if aSpace e = 1 then
    match objAt s (aMem e) with
    | none => dramRow
    | some (_, o) =>
      match pinned with
      | some ps => match ps.find? (fun x => x.1 == o.id) with
        | some x => sramRow l x.2
        | none => dramRow
      | none => if o.cls = 0 then sramRow l o.homeDie else dramRow
  else match classify (aMem e) with
    | .sram d _ => sramRow l d
    | _ => dramRow

def awlBytes (e : Nat) : Nat := aRows e * aRowLen e
def awlOcc (r : AwlRow) (e : Nat) : Nat := ceilDiv (awlBytes e) r.rate

/-! ## Places -/

def a8RowBytes (kb : Nat) : Nat := 264 * ceilDiv kb 8
def p16RowBytes (kb : Nat) : Nat := 260 * ceilDiv kb 4
def awlOut (e : Nat) : Bool := aXform e == 3 || aXform e == 4 || (aXform e == 0 && aDir e)
def memRow (e r : Nat) : Nat := aMem e + r * aMstride e

/-- Memory-side pieces (address, bytes) of a descriptor; the codes and scales of each unit for WUNITS. -/
def memPieces (e : Nat) : List (Nat × Nat) :=
  if aXform e = 5 then []
  else if aXform e = 1 then
    let f := aFmt e
    let n := unitsPerTile f
    let t := aMem e / 16384 * 16384
    let u0 := aMem e % 16384 / unitCode f
    (List.range (aRows e)).flatMap (fun i =>
      let b := t + (u0 + i) / n * 16384
      let k := (u0 + i) % n
      [(b + k * unitCode f, unitCode f), (b + n * unitCode f + k * unitScale f, unitScale f)])
  else (List.range (aRows e)).map (fun r => (memRow e r, aRowLen e))

/-! ## The memory side -/

def awlWho (l ix pt : Nat) : Who := ⟨2, l, ix, pt, false, l / 19⟩

/-- Why an access of the memory side is refused (06 R206, R222, R243): SPACE 0 reaches DRAM and stacked SRAM only. -/
def awlRefusal (s : State) (w : Who) (e : Nat) : Option (Nat × Nat) :=
  if aSpace e = 2 then none
  else (memPieces e).findSome? (fun p =>
    let bad := match aSpace e, classify p.1, classify (p.1 + p.2 - 1) with
      | 0, .dram, .dram => false
      | 0, .sram _ _, .sram _ _ => false
      | 1, .objSpace, .objSpace => false
      | _, _, _ => true
    if bad then some (p.1, 1) else refusalRange s w p.1 p.2 (awlOut e))

/-- The path of some piece crosses a failed welt port (16 R532). -/
def awlCut (s : State) (l e : Nat) : Bool :=
  s.welts != [] && aSpace e != 2 && (memPieces e).any (fun p =>
    [p.1, p.1 + p.2 - 1].any (fun a =>
      let pa := if aSpace e = 1 then (match objAt s a with | some (_, o) => physAddr s o a | none => a) else a
      (weltPath (l / 19) (awlOut e) pa).any (weltFailed s)))

/-- One memory-side piece read; SPACE 2 reads the scratchpad of the same cluster. -/
def awlGet (s : State) (w : Who) (l e : Nat) (p : Nat × Nat) : State × List Byte × Bool :=
  if aSpace e = 2 then
    let c := aMem e / 65536 % 64
    let (s, bad) := ecc s (awlEcc w.desc) (spadAddr l c p.1) p.2
    (s, spadGet s l c (p.1 % 65536) p.2, bad)
  else getAt s w p.1 p.2

def awlGets (w : Who) (l e : Nat) : List (Nat × Nat) → State → State × List (List Byte) × Bool
  | [], s => (s, [], false)
  | p :: r, s =>
    let (s, b, x) := awlGet s w l e p
    let (s, bs, y) := awlGets w l e r s
    (s, b :: bs, x || y)

/-! ## Transforms (06 R235) -/

/-- Scratchpad bytes at an address of every receiving core. -/
def spWrite (l e a : Nat) (bs : List Byte) : List Host.Cell :=
  (List.range (aNcore e + 1)).flatMap (fun i => cellsAt l ((aCore e + i) % 64) a bs)

def spRow (e r : Nat) : Nat := aSp e + 32 * r * aStride e

/-- Codes and scales of a row of A8 groups at their places. -/
def unpackRow (l e r : Nat) (groups : List Byte) : List Host.Cell :=
  (List.range (aKb e)).flatMap (fun kb =>
    let g := 264 * (kb / 8)
    spWrite l e (aSp e + 32 * (r * aStride e + kb)) (sub groups (g + 32 * (kb % 8)) 32) ++
      spWrite l e (aSps e + r * aSstride e + kb) (sub groups (g + 256 + kb % 8) 1))

/-- A row of the A8 layout as groups (02 R65). -/
def packRow (s : State) (l e r : Nat) : List Byte :=
  (List.range (ceilDiv (aKb e) 8)).flatMap (fun g =>
    let n := min 8 (aKb e - 8 * g)
    padTo 256 ((List.range n).flatMap (fun b => spadGet s l (aCore e) (aSp e + 32 * (r * aStride e + 8 * g + b)) 32)) ++
      padTo 8 (spadGet s l (aCore e) (aSps e + r * aSstride e + 8 * g) n))

/-- Binary32 values as P16 groups (02 R66), with the clipped and the non-finite elements met (R59, R60). -/
def p16Groups (xs : List Nat) : List Byte × Nat × Nat :=
  let reps := requantRow true 0 xs
  let gs := (chunks 4 reps).flatMap (fun g =>
    padTo 256 (g.flatMap (fun r => r.codes.flatMap (fun z => leBytes 2 (unsigned 16 z)))) ++
      padTo 4 (g.map (fun r => BitVec.ofNat 8 r.scale)))
  (gs, reps.foldl (fun t r => t + r.clips) 0, reps.foldl (fun t r => t + r.nonfin) 0)

def rowF32 (s : State) (l c a n : Nat) : List Nat := (List.range n).map (fun i => leNat (spadGet s l c (a + 4 * i) 4))

/-- The frames of a row's groups in their slots (07 R255): bytes beyond a frame are undefined. -/
def frameSlots (s : State) : List (List Byte) → State × List Byte
  | [] => (s, [])
  | f :: r =>
    let (n, s) := fresh s
    let (s, l) := frameSlots s r
    (s, f ++ (List.range (264 - f.length)).map (Config.freeByte n) ++ l)

/-- The frames in the slots of a row decoded, the bytes saved counted (log entry 16); the MODE of a failed one. -/
def unframe : List (List Byte) → State → State × List Byte × Option Nat
  | [], s => (s, [], none)
  | f :: r, s =>
    let (s, g, bad) := decodeOne s f
    let s := count s 0x9063 7 (264 - frameLen f)
    let (s, l, m) := unframe r s
    (s, g ++ l, if bad then some ((f.getD 8 0).toNat % 8) else m)

/-- What an inbound descriptor writes into scratchpad, with a decode failure's MODE. -/
def inbound (s : State) (l e : Nat) (data : List (List Byte)) : State × List Host.Cell × Option Nat :=
  match aXform e with
  | 0 => (s, (data.zipIdx).flatMap (fun d => spWrite l e (spRow e d.2) d.1), none)
  | 1 =>
    let f := aFmt e
    (s, (data.zipIdx).flatMap (fun d =>
      if d.2 % 2 = 0 then spWrite l e (aSp e + d.2 / 2 * unitCode f) d.1
      else spWrite l e (aSps e + d.2 / 2 * unitScale f) d.1), none)
  | 2 =>
    if aComp e then
      let (s, gs, m) := unframe (data.flatMap (chunks 264)) s
      (s, ((chunks (a8RowBytes (aKb e)) gs).zipIdx).flatMap (fun d => unpackRow l e d.2 d.1), m)
    else (s, (data.zipIdx).flatMap (fun d => unpackRow l e d.2 d.1), none)
  | _ => (s, (List.range (aRows e)).flatMap (fun r => spWrite l e (spRow e r) (List.replicate (aRowLen e) 0)), none)

/-- The rows that an outbound descriptor writes to the memory side, and whether a group was written in mode 5. -/
def outRows (l e : Nat) : List Nat → State → State × List (List Byte) × Bool
  | [], s => (s, [], false)
  | r :: rest, s =>
    let (s, row, b) :=
      if aXform e = 3 then
        let g := packRow s l e r
        if aComp e then
          let (s, fs, b) := encodeGroups none 7 1 (ceilDiv (aKb e) 8) g s
          let (s, l) := frameSlots s fs
          (s, l, b)
        else (s, g, false)
      else if aXform e = 4 then
        let (g, clips, bad) := p16Groups (rowF32 s l (aCore e) (spRow e r) (32 * aKb e))
        (count (count s 0x9030 0x0a clips) 0x9030 0x0b bad, g, false)
      else (s, spadGet s l (aCore e) (spRow e r) (aRowLen e), false)
    let (s, rows, b') := outRows l e rest s
    (s, row :: rows, b || b')

/-- Outbound rows as cells: by memory address, or by scratchpad window address for SPACE 2. -/
def outCells (l e : Nat) (rows : List (List Byte)) : List Host.Cell :=
  (rows.zipIdx).flatMap (fun d =>
    let a := memRow e d.2
    if aSpace e = 2 then cellsAt l (aMem e / 65536 % 64) (a % 65536) d.1
    else (d.1.zipIdx).map (fun b => (a + b.2, b.1)))

/-- Scratchpad (address, length) ranges that the awl reads for descriptor `ix` meet their errors; true where one is uncorrectable. -/
def spadEcc (s : State) (l c ix : Nat) (reads : List (Nat × Nat)) : State × Bool :=
  reads.foldl (fun (x : State × Bool) q =>
    let y := ecc x.1 (awlEcc ix) (spadAddr l c q.1) q.2
    (y.1, x.2 || y.2)) (s, false)

/-- The work of a descriptor that starts: poison, bytes for scratchpad, bytes for the memory side (06 R235, R243). -/
def awlWork (s : State) (l ix pt e : Nat) : State × Bool × List Host.Cell × List Host.Cell :=
  let w := awlWho l ix pt
  match awlRefusal s w e with
  | some (a, reason) => (refuse s w a reason, true, [], [])
  | none =>
    if awlCut s l e then (s, true, [], [])
    else if awlOut e then
      let reads := (List.range (aRows e)).flatMap (fun r =>
        if aXform e = 3 then [(spRow e r, 32 * aKb e), (aSps e + r * aSstride e, aKb e)]
        else [(spRow e r, if aXform e = 4 then 128 * aKb e else aRowLen e)])
      let (s, bad) := spadEcc s l (aCore e) ix reads
      let (s, rows, b) := outRows l e (List.range (aRows e)) s
      let s := if b then raise s 0x9012 (f8 2 ++ f16 l ++ f32 ix) else s
      if aSpace e = 2 then (s, bad, outCells l e rows, []) else (s, bad, [], outCells l e rows)
    else
      let (s, data, bad) := awlGets w l e (memPieces e) s
      let (s, cells, m) := inbound s l e data
      match m with
      | some mode => (raiseP s 0x9011 (f8 2 ++ f16 l ++ f32 ix ++ f8 mode) true, true, cells, [])
      | none => (s, bad, cells, [])

/-! ## Start and completion (06 R237–R239, R242) -/

/-- Index of the stream of channel D that is free first. -/
def freeStream (l : List Nat) : Nat :=
  (List.range 4).foldl (fun b i => if l.getD i 0 < l.getD b 0 then i else b) 0

/-- The cycle from which the channel of a row, or a stream of it, is free. -/
def chanFree (a : Awl) (row : AwlRow) : Nat := if row.chanS then a.sBusy else a.dBusy.getD (freeStream a.dBusy) 0

/-- A descriptor takes its channel from cycle `at'` on; it is in flight until its bit is set (R238). -/
def bookAwl (s : State) (l ix e owner : Nat) (row : AwlRow) (at' occ : Nat) (bad : Bool) (sp mem : List Host.Cell) : State :=
  let a := getAwl s l
  let a := if row.chanS then { a with sBusy := at' + occ } else { a with dBusy := a.dBusy.set (freeStream a.dBusy) (at' + occ) }
  setAwl s l { a with flight := a.flight ++ [⟨ix, e, at' + row.lat + occ, bad, sp, mem, s.lace.tick, owner⟩] }

/-- A descriptor takes its channel, at once or when it is free, and its work begins; a poisoned one is counted (R217, R243, R244). -/
def startAwl (s : State) (l ix pt e owner : Nat) (row : AwlRow) : State :=
  let at' := max s.cyc (chanFree (getAwl s l) row)
  let (s, bad, sp, mem) := awlWork s l ix pt e
  bookAwl (count s 0x4020 0x0c (if bad then 1 else 0)) l ix e owner row at' (awlOcc row e) bad sp mem

/-- A scheduled descriptor whose channel is occupied at its START waits for it, and only it starts late (R237). -/
def scheduleAwl (s : State) (l ix e : Nat) (row : AwlRow) (cells : Option (List Host.Cell)) : State :=
  let a := getAwl s l
  setAwl s l { a with late := a.late ++ [⟨ix, e, row.chanS, row.lat, row.rate, cells⟩] }

/-- A descriptor that waits starts in a cycle in which its cluster does not hold and its channel is free (R237, 04 R129). -/
def startLate1 (l : Nat) (s : State) (x : AwlLate) : State :=
  let row : AwlRow := ⟨x.chanS, x.lat, x.rate⟩
  let a := getAwl s l
  if s.cyc < chanFree a row then s
  else
    let s := setAwl s l { a with late := a.late.erase x }
    match x.cells with
    | some cs => bookAwl s l x.ix x.desc 0 row s.cyc (awlOcc row x.desc) false cs []
    | none => startAwl s l x.ix (aPtick x.desc) x.desc 0 row

def startLate (s : State) (l : Nat) : State := (getAwl s l).late.foldl (startLate1 l) s

/-- Control core of a logical cluster's physical cluster (13 R433). -/
def ctlOf (s : State) (l : Nat) : Nat := l / 19 * 20 + physOf s l

/-- A thread that stalls on the full queue puts its descriptor into the freed entry (R242). -/
def refillQueue (s : State) (l : Nat) : State :=
  let c := ctlOf s l
  match s.harts.find? (fun e => e.1 / 8 == c && (match e.2.wait with | .awlQueue _ => true | _ => false)) with
  | none => s
  | some (k, h) =>
    match h.wait with
    | .awlQueue d =>
      let a := getAwl s l
      setAwl { s with harts := mset HartSt.init s.harts k { h with wait := .none } } l { a with queue := a.queue ++ [(d, k / 8)] }
    | _ => s

/-- A descriptor has taken its START in this tick. -/
def awlBegun (s : State) (l ix : Nat) : Bool :=
  (getAwl s l).flight.any (fun f => f.ix == ix && f.tick == s.lace.tick) || (getAwl s l).late.any (fun x => x.ix == ix)

/-- AWL_DESCRIPTOR_START: a scheduled descriptor at its START, or with index 0xffff the front of the unscheduled queue of a
cluster that runs no segment. -/
def execAwlDescriptorStart (lcl : Lcl) (ix : Nat) (s : State) : Out :=
  let l := lcl.val
  if ix = 0xffff then
    match (getAwl s l).queue with
    | [] => .next s
    | (e, owner) :: r =>
      if clusterRuns s l || s.dev.mode = .keeper || s.dev.mode = .standby then .next s
      else
        let s := setAwl s l { getAwl s l with queue := r }
        .next (refillQueue (startAwl s l 0xffff 0xffff e owner (awlRow s l e none)) l)
  else
    match partOf s l with
    | none => .next s
    | some (p, im) =>
      match im.awl[ix]? with
      | none => .next s
      | some e =>
        if aLcl e != l || (routeOf s p ix).isSome || awlBegun s l ix then .next s
        else
          match atCycle s l (aPtick e) (aStart e) with
          | (s, none) => .next s
          | (s, some _) =>
            let s := if aWaitEn e then sbSet s l (aCore e) (aWaitBit e) false else s
            let s := (List.range 64).foldl (fun s c => commitDue s l c im) s
            let pins := match (getPart s p).active with | some n => (getSlot s n).pinned | none => []
            .next (startLate (scheduleAwl s l ix e (awlRow s l e (some pins)) none) l)

/-- Memory-side bytes go to their places in runs of consecutive addresses. -/
def putCells (w : Who) : Nat → List Host.Cell → State → State
  | 0, _, s => s
  | _ + 1, [], s => s
  | n + 1, (a, b) :: r, s =>
    let run := ((a, b) :: r).zipIdx.takeWhile (fun e => e.1.1 == a + e.2)
    putCells w n (((a, b) :: r).drop run.length) (putAt s w a (run.map (fun e => e.1.2)))

/-- A descriptor reaches cycle A: its bytes land, its bit is set in every core of its scratchpad side; an unscheduled one is
reported to the control core, and takes no effect on the cores of a cluster that runs a segment by then (R242, 13 R444). -/
def completeAwl (s : State) (l : Nat) (f : AwlFlight) : State :=
  let a := getAwl s l
  let s := setAwl s l { a with flight := a.flight.filter (fun g => g != f) }
  let idle := f.ix != 0xffff || !clusterRuns s l
  let s := if idle then spadPutCells s f.spWrites else s
  let s := putCells (awlWho l f.ix 0xffff) f.memWrites.length f.memWrites s
  let s := if aNobit f.desc || !idle then s
    else (List.range (aNcore f.desc + 1)).foldl (fun s i => arrive s l ((aCore f.desc + i) % 64) (aBit f.desc)) s
  if f.ix != 0xffff then s
  else
    let c := getCtl s f.owner
    setCtl s f.owner { c with done := min (2 ^ 32 - 1) (c.done + 1), meip := true,
                              poisoned := if f.poison then min 65535 (c.poisoned + 1) else c.poisoned }

/-- AWL_DESCRIPTOR_COMPLETE. -/
def execAwlDescriptorComplete (lcl : Lcl) (ix : Nat) (s : State) : Out :=
  match (getAwl s lcl).flight.find? (fun f => f.ix == ix && f.due ≤ s.cyc) with
  | some f => .next (completeAwl s lcl f)
  | none => .next s

/-! ## Reductions (04 R135, 02 R67) -/

/-- Value and validity of a P16 block of 32 elements (02 R66, R613). -/
def p16Block (man : List Byte) (scale : Nat) : List Nat × Bool :=
  if scale = 0xff then (List.replicate 32 0, true)
  else ((List.range 32).map (fun i => p16Val (signed 16 (fieldB man (2 * i) 2)) scale), false)

/-- A row of `n` elements in P16 groups, and its blocks with scale 0xff. -/
def p16Row (l : List Byte) (n : Nat) : List Nat × Nat :=
  (List.range (n / 32)).foldl (fun r b =>
    let g := 260 * (b / 4)
    let (xs, bad) := p16Block (sub l (g + 64 * (b % 4)) 64) (fieldB l (g + 256 + b % 4) 1)
    (r.1 ++ xs, r.2 + if bad then 1 else 0)) ([], 0)

def setRed (s : State) (l : Nat) (r : Reduction) : State :=
  let a := getAwl s l
  setAwl s l { a with reds := a.reds.map (fun e => if e.ix = r.ix then r else e) }

/-- REDUCTION_START. -/
def execReductionStart (part : Part) (ix : Nat) (s : State) : Out :=
  match activeImage s part with
  | none => .next s
  | some im =>
    match im.reduce[ix]? with
    | none => .next s
    | some (h, _) =>
      let l := rLcl h
      if !(getPart s part).runs || (getAwl s l).reds.any (fun r => r.ix == ix) then .next s
      else
        match atCycle s l (rPtick h) (rStart h) with
        | (s, none) => .next s
        | (s, some _) =>
          let a := getAwl s l
          let r : Reduction := ⟨ix, 0, List.replicate (rElem h) 0, clTime s l + 16 + rNc h * (rElem h / 32)⟩
          .next (setAwl s l { a with reds := a.reds ++ [r] })

/-- A finished reduction writes its row and sets DONE_BIT. -/
def finishRed (s : State) (l h : Nat) (r : Reduction) : State :=
  let a := getAwl s l
  let s := setAwl s l { a with reds := a.reds.filter (fun e => e.ix != r.ix) }
  let s := spadPut s l (rCore h) (rDst h) (r.row.flatMap (leBytes 4))
  arrive s l (rCore h) (rDone h)

/-- REDUCTION_CONTRIBUTION: the next contribution of the list in its cycle, its blocks without a value counted then (02 R613), or the end
of the reduction. -/
def execReductionContribution (part : Part) (ix : Nat) (s : State) : Out :=
  match activeImage s part with
  | none => .next s
  | some im =>
    match im.reduce[ix]? with
    | none => .next s
    | some (h, ws) =>
      let l := rLcl h
      match (getAwl s l).reds.find? (fun r => r.ix == ix) with
      | none => .next s
      | some r =>
        if rNc h ≤ r.next then
          if clusterGoes s l && r.doneAt ≤ clTime s l then .next (finishRed s l h r) else .next s
        else
          let (pt, c) := redAt im h r.next
          match atCycle s l pt c with
          | (s, none) => .next s
          | (s, some _) =>
            let s := sbSet s l (rCore h) (contribBit (h, ws) r.next) false
            let n := p16RowBytes (rElem h / 32)
            let (s, _) := ecc s 0xffff (spadAddr l (rCore h) (field (ws.getD r.next 0) 0 16)) n
            let (xs, bad) := p16Row (spadGet s l (rCore h) (field (ws.getD r.next 0) 0 16) n) (rElem h)
            .next (setRed (badP16 s 1 r.ix l 0xff 0xff bad) l { r with next := r.next + 1, row := List.zipWith f32Add r.row xs })

end Sys2Proof.Machine
end

