-- ==== Sys2Proof/Machine/LastFmt.lean ====
section
/-! DEFINITION. The last container: header, node directory, node image and its sections as a node image of the state (04
R118–R144). -/
namespace Sys2Proof.Machine

/-- A last under check: where its container lies, its header, its directory entry and its image's bytes. -/
structure LastSrc where
  addr : Nat
  hdr : List Byte
  entries : List (List Byte)
  img : List Byte
  deriving DecidableEq, Repr

def hNodes (h : List Byte) : Nat := fieldB h 24 2

/-- The directory entry of a logical node, with its place. -/
def dirEntry (src : LastSrc) (n : Nat) : Option (List Byte × Nat) :=
  (src.entries.zipIdx).find? (fun e => fieldB e.1 0 2 == n)

/-- A container at a package physical address, with the image of logical node `n`. -/
def readLast (s : State) (a n : Nat) : LastSrc :=
  let h := peek s a 128
  let es := (List.range (min 2048 (hNodes h))).map (fun i => peek s (a + 128 + 32 * i) 32)
  let src : LastSrc := ⟨a, h, es, []⟩
  match dirEntry src n with
  | some (e, _) => { src with img := peek s (a + fieldB e 8 8) (min (2 ^ 32) (fieldB e 16 8)) }
  | none => src

/-! ## Sections (R122, R123) -/

/-- Section table entries: type, offset, length, CRC. -/
def sections (img : List Byte) : List (Nat × Nat × Nat × Nat) :=
  (List.range (fieldB img 3 1)).map (fun i =>
    let o := 256 + 16 * i
    (fieldB img o 1, fieldB img (o + 4) 4, fieldB img (o + 8) 4, fieldB img (o + 12) 4))

def secOff (img : List Byte) (t : Nat) : Nat :=
  match (sections img).find? (fun x => x.1 == t) with | some x => x.2.1 | none => 0

def secBody (img : List Byte) (t : Nat) : List Byte :=
  match (sections img).find? (fun x => x.1 == t) with | some x => sub img x.2.1 x.2.2.1 | none => []

/-- Entries of a counted section, each of `k` bytes. -/
def entriesOf (sec : List Byte) (k : Nat) : List Nat :=
  (List.range (fieldB sec 0 4)).map (fun i => fieldB sec (16 + k * i) k)

/-- Reduction entries with their contributor words (R135). -/
def reduceF : Nat → List Byte → List (Nat × List Nat)
  | 0, _ => []
  | n + 1, l =>
    let nc := fieldB l 7 1
    (fieldB l 0 16, (List.range nc).map (fun i => fieldB l (16 + 4 * i) 4)) :: reduceF n (l.drop (16 + 4 * nc))

/-- Logical clusters used by a node image (R122). -/
def usedClusters (img : List Byte) : List Nat :=
  (List.range 304).filter (fun l => fbit (fieldB img (16 + 4 * (l / 19)) 4) (l % 19))

/-- Cluster blocks of the OPS section in turn (R125). -/
def opsF (period : Nat) : List Nat → List Byte → SMap (List Nat × List (List Nat))
  | [], _ => []
  | l :: ls, b =>
    let nt := 64 * (period + 1)
    let tab := (List.range nt).map (fun i => fieldB b (4 * i) 4)
    let cnt := fun (c : Nat) => tab.getD (c * (period + 1) + period) 0
    let words := (List.range 64).foldl (fun (r : List (List Nat) × List Byte) c =>
      (r.1 ++ [(List.range (cnt c)).map (fun i => fieldB r.2 (16 * i) 16)], r.2.drop (16 * cnt c))) ([], b.drop (4 * nt))
    (l, (tab, words.1)) :: opsF period ls words.2

/-- The node image that a container's bytes give. -/
def parseImage (src : LastSrc) (n : Nat) : Image :=
  let h := src.hdr
  let img := src.img
  let used := usedClusters img
  let per := fieldB h 32 4
  let slots := secBody img 0x0a
  let resole := secBody img 0x07
  let nst := fieldB slots 1 1
  { lastId := fieldB h 8 8, baseId := fieldB h 16 8, partition := fieldB h 26 1, oppoint := fieldB h 27 1,
    tickLen := fieldB h 28 4, period := per, classO := fieldB h 36 2, faultNode := fieldB h 38 2, faultPorts := (List.range 8).map (fun i => fieldB h (40 + 4 * i) 4), lnode := n,
    stage := fieldB img 2 1, clusterMap := used,
    portClass := (List.range 64).map (fun p => field (fieldB img (80 + p / 2) 1) (4 * (p % 2)) 4),
    ops := opsF per used (secBody img 0x01),
    awl := entriesOf (secBody img 0x02) 48, xfer := entriesOf (secBody img 0x03) 32,
    arrive := entriesOf (secBody img 0x04) 16, lacePts := entriesOf (secBody img 0x05) 8,
    wake := entriesOf (secBody img 0x06) 8,
    windows := (List.range (fieldB resole 0 4)).map (fun i => fieldB resole (16 + 16 * i) 16),
    records := (List.range (fieldB resole 4 4)).map (fun i => fieldB resole (16 + 16 * fieldB resole 0 4 + 32 * i) 32),
    rotate := entriesOf (secBody img 0x08) 16,
    reduce := reduceF (fieldB (secBody img 0x09) 0 4) ((secBody img 0x09).drop 16),
    groups := fieldB slots 0 1, slotsPer := fieldB slots 2 2,
    stages := (List.range nst).map (fun i => sub slots (16 + 256 * i) 256),
    groupTab := (used.zipIdx).map (fun e => (e.1, (List.range per).map (fun p => fieldB slots (16 + 256 * nst + e.2 * per + p) 1))),
    expert := entriesOf (secBody img 0x0b) 16, objects := entriesOf (secBody img 0x0c) 16,
    length := img.length, maxUnits := 0, busy := [] }

/-! ## Entries' fields beside those of the schedule -/

/-- A lace event point (R137). -/
def ptPtick (e : Nat) : Nat := field e 0 16
def ptCycle (e : Nat) : Nat := field e 16 16
def ptType (e : Nat) : Nat := field e 32 8
def ptLcl (e : Nat) : Nat := field e 40 9
def ptArg (e : Nat) : Nat := field e 49 15

/-- A point names a cluster: its own or every one. -/
def ptNames (e l : Nat) : Bool := ptLcl e == 0x1ff || ptLcl e == l

/-- An arrival declaration (R128). -/
def dPtick (e : Nat) : Nat := field e 0 16
def dLcl (e : Nat) : Nat := field e 16 16
def dCore (e : Nat) : Nat := field e 32 8
def dBit (e : Nat) : Nat := field e 40 8
def dKind (e : Nat) : Nat := field e 48 8
def dSpan (e : Nat) : Nat := field e 56 8
def dRef (e : Nat) : Nat := field e 64 32
def dDue (e : Nat) : Nat := field e 96 16

/-- A wake or sleep hint (R139). -/
def hPtick (e : Nat) : Nat := field e 0 16
def hLead (e : Nat) : Nat := field e 16 8
def hKind (e : Nat) : Nat := field e 24 8
def hTarget (e : Nat) : Nat := field e 32 16
def hSpan (e : Nat) : Nat := field e 48 16

/-- Cluster field of a capacity entry (R142). -/
def eLcl (e : Nat) : Nat := field e 48 16

/-! ## The walk of the op streams (03 R108, R614) -/

/-- An op word as the check meets it: cluster, core, period tick, stream index, word, descriptors written before. -/
structure OpAt where
  lcl : Nat
  core : Nat
  pt : Nat
  ix : Nat
  w : Word128
  descs : SMap Nat
  deriving DecidableEq, Repr

def walkWords (l c pt : Nat) : List (Nat × Word128) → SMap Nat → List OpAt × SMap Nat
  | [], d => ([], d)
  | (ix, w) :: r, d =>
    let d' := if wOpc w = 1 then mbind d (field w.toNat 29 4) (descOf w) else d
    let (os, d'') := walkWords l c pt r d'
    (⟨l, c, pt, ix, w, d⟩ :: os, d'')

def walkCore (im : Image) (l c : Nat) : List OpAt :=
  ((List.range im.period).foldl (fun (r : List OpAt × SMap Nat) pt =>
    let (os, d) := walkWords l c pt (segment im l c pt) r.2
    (r.1 ++ os, d)) ([], [])).1

def walk (im : Image) : List OpAt := im.clusterMap.flatMap (fun l => (List.range 64).flatMap (walkCore im l))

/-- Time of issue on the line of one period. -/
def OpAt.at (im : Image) (o : OpAt) : Nat := o.pt * im.tickLen + wIssue o.w
def OpAt.occ (o : OpAt) : Nat := opOcc o.w o.descs
def OpAt.lat (o : OpAt) : Nat := opLat o.w o.descs

/-! ## Activity (03 R113, R114) -/

/-- Activity units of an op word's array cycles that lie in a period tick. -/
def unitsIn (im : Image) (o : OpAt) (pt : Nat) : Nat :=
  if !isMm o.w then 0
  else
    let per := if colsPer (dFmt (mmDw o.w o.descs)) = 2 then 16 else 12
    let a := o.at im
    let span := im.period * im.tickLen
    let lo := pt * im.tickLen
    let part := fun (shift : Nat) => min (a + o.occ) (lo + shift + im.tickLen) - max a (lo + shift)
    (part 0 + part span) * per

/-- Units of a C-die, or of the node where `die` is none, in a period tick. -/
def dieUnits (im : Image) (ops : List OpAt) (die : Option Nat) (pt : Nat) : Nat :=
  ops.foldl (fun t o => if die.all (fun d => o.lcl / 19 == d) then t + unitsIn im o pt else t) 0

/-- The largest number of activity units in any period tick (17 R556). -/
def maxUnitsOf (im : Image) (ops : List OpAt) : Nat :=
  (List.range im.period).foldl (fun m pt => max m (dieUnits im ops none pt)) 0

/-! ## Room in the last store (06 R210) -/

/-- Bytes of a node image that the last store of C-die `d` receives, sign vectors included. -/
def dieBytes (im : Image) (d : Nat) : Nat :=
  let onD := fun (l : Nat) => decide (l / 19 = d)
  let n := fun (es : List Nat) (f : Nat → Nat) => (es.filter (fun e => onD (f e))).length
  let ops := (im.ops.filter (fun e => onD e.1)).foldl (fun t e =>
    t + 4 * e.2.1.length + 16 * e.2.2.foldl (fun t w => t + w.length) 0) 0
  let sv := im.rotate.foldl (fun t e => t + 4 ^ (field e 16 8 + 3) / 8) 0
  let clHint := im.wake.filter (fun e => hKind e < 2)
  256 + ops + 48 * n im.awl aLcl + 32 * n im.xfer xLcl + 16 * n im.arrive dLcl +
    8 * (im.lacePts.filter (fun e => ptLcl e == 0x1ff || onD (ptLcl e))).length +
    8 * (n clHint hTarget + (im.wake.length - clHint.length)) + 16 * n im.windows winLcl + 32 * n im.records recLcl +
    16 * im.rotate.length + (im.reduce.filter (fun r => onD (rLcl r.1))).foldl (fun t r => t + 16 + 4 * r.2.length) 0 +
    256 * im.stages.length + (im.groupTab.filter (fun e => onD e.1)).foldl (fun t e => t + e.2.length) 0 +
    16 * n im.expert eLcl + 16 * im.objects.length + sv

/-- Bytes missing on the die with the largest shortfall; `slot` is the target. -/
def shortfall (s : State) (im : Image) (slot : Nat) : Nat :=
  (List.range 16).foldl (fun m d =>
    let used := s.slots.foldl (fun t e => match e.2.image with
      | some i => if e.1 = slot then t else t + dieBytes i d
      | none => t) 0
    max m (used + dieBytes im d - getO s 0x4002 (d + 1) * 16384)) 0

end Sys2Proof.Machine
end

