-- ==== Sys2Proof/Machine/LastCheck.lean ====
section
/-! DEFINITION. The checks of a last at load, in the order of its refusal reasons (03 R85, R108, R114, 04 R135–R153, 06 R240, 17
R551, R563). Each check answers the detail of the first failure. Several items pack into 32 bits as cluster 31:23, core
22:17, index 16:0, and pairs as 31:16 and 15:0 (DESIGN CHOICE, log entry 35). -/
namespace Sys2Proof.Machine

def d3 (l c i : Nat) : Nat := l * 2 ^ 23 + c * 2 ^ 17 + i % 2 ^ 17
def d2 (a b : Nat) : Nat := a * 65536 + b % 65536
def dOp (o : OpAt) : Nat := d3 o.lcl o.core o.ix

/-- First element that fails, as its detail. -/
def firstBad {α : Type} (l : List α) (bad : α → Bool) (det : α → Nat) : Option Nat := (l.find? bad).map det

def ixList {α : Type} (l : List α) : List (α × Nat) := l.zipIdx

/-! ## Steps 1 to 3 (R151, R153) -/

/-- Container header: MAGIC, VERSION, HDR_LEN, then fields outside their ranges (log entry 36), then HDR_CRC; its reserved bytes are
ignored (00 R10). -/
def checkHeader (h : List Byte) : Option (Nat × Nat) :=
  let f := fun o n => fieldB h o n
  let bad : List (Bool × Nat) :=
    [(f 0 4 != 0x5453414c, 0), (f 4 2 != 1, 4), (f 6 2 != 128, 6), (f 8 8 == 0, 8), (f 24 2 == 0 || 2048 < f 24 2, 24),
     (7 < f 26 1, 26), (4 < f 27 1, 27), (f 28 4 < 512 || 65536 < f 28 4, 28), (f 32 4 == 0 || 1024 < f 32 4, 32),
     (f 36 2 != 0 && (f 36 2 < 768 || 1536 < f 36 2 || f 36 2 % 64 != 0), 36)]
  match bad.find? (·.1) with
  | some (_, o) => some (1, o)
  | none => if fieldB h 124 4 != crc32 (h.take 124) then some (2, 2 ^ 31 + 124) else none

/-- Directory (R121): the entry of the node, ascending order, reserved bytes, place and bounds of the image. The spec states no length
of a container: the image must end within DRAM and begin behind the directory (DESIGN CHOICE, log entry 117). -/
def checkDir (src : LastSrc) (n : Nat) : Option (Nat × Nat) :=
  match dirEntry src n with
  | none => some (3, n)
  | some (e, _) =>
    let ns := src.entries.map (fun e => fieldB e 0 2)
    let rising := (ns.zip (ns.drop 1)).all (fun p => decide (p.1 < p.2)) && ns.all (fun x => decide (x < hNodes src.hdr))
    let off := fieldB e 8 8
    if !rising || fieldB e 2 6 != 0 || fieldB e 28 4 != 0 || off % 256 != 0 || off < 128 + 32 * hNodes src.hdr ||
      fieldB e 16 8 < 256 || 0x006000000000 < src.addr + off + fieldB e 16 8 then some (10, 0)
    else none

/-- One entry of the section table: known type, no repeat, bounds (R122, R123). -/
def badSection (img : List Byte) (i : Nat) : Bool :=
  match (sections img)[i]? with
  | none => true
  | some (t, o, n, _) =>
    t = 0 || 12 < t || o % 16 != 0 || img.length < o + n || o < 256 + 16 * fieldB img 3 1 ||
      (((sections img).take i).any (fun x => x.1 == t))

/-- Bytes that a count of reduction entries takes, or more than there are. -/
def reduceLen : Nat → List Byte → Nat
  | 0, _ => 0
  | n + 1, l =>
    let k := 16 + 4 * fieldB l 7 1
    if l.length < k then k else k + reduceLen n (l.drop k)

/-- Bytes that the cluster blocks of the OPS section take by their segment tables (R125). -/
def opsLen (period : Nat) : List Nat → List Byte → Nat
  | [], _ => 0
  | _ :: ls, b =>
    let k := (List.range 64).foldl (fun t c => t + 16 * fieldB b (4 * (c * (period + 1) + period)) 4) (256 * (period + 1))
    if b.length < k then k else k + opsLen period ls (b.drop k)

/-- Bytes that the contents of a section take by its counts (R123, log entry 13). -/
def sectionNeeds (src : LastSrc) (t : Nat) (sec : List Byte) : Nat :=
  let n := fieldB sec 0 4
  match t with
  | 1 => opsLen (fieldB src.hdr 32 4) (usedClusters src.img) sec
  | 2 => 16 + 48 * n
  | 3 => 16 + 32 * n
  | 5 => 16 + 8 * n
  | 6 => 16 + 8 * n
  | 7 => 16 + 16 * n + 32 * fieldB sec 4 4
  | 9 => 16 + reduceLen n (sec.drop 16)
  | 10 => 16 + 256 * fieldB sec 1 1 + (usedClusters src.img).length * fieldB src.hdr 32 4
  | _ => 16 + 16 * n

/-- The first section that is shorter than its own counts say. -/
def overrun (src : LastSrc) : Option Nat :=
  ((sections src.img).find? (fun x => x.2.2.1 < sectionNeeds src x.1 (sub src.img x.2.1 x.2.2.1))).map (·.1)

def checkImage (s : State) (src : LastSrc) (n slot : Nat) : Option (Nat × Nat) :=
  match dirEntry src n with
  | none => none
  | some (e, i) =>
    let img := src.img
    let secs := sections img
    let miss := shortfall s (parseImage src n) slot
    if miss != 0 then some (0x70, miss)
    else if crc32 img != fieldB e 24 4 then some (2, 2 ^ 31 + 128 + 32 * i + 24)
    else if fieldB img 0 2 != n then some (3, n)
    else if secs.length = 0 || 16 < secs.length then some (10, 0)
    else match (List.range secs.length).find? (badSection img) with
      | some k => some (10, (secs.getD k (0, 0, 0, 0)).1)
      | none =>
        match [1, 4, 5, 10].find? (fun t => !secs.any (fun x => x.1 == t)) with
        | some t => some (10, t)
        | none => (secs.zipIdx.find? (fun x => crc32 (sub img x.1.2.1 x.1.2.2.1) != x.1.2.2.2)).map
            (fun x => (2, 256 + 16 * x.2 + 12)) <|> (overrun src).map (fun t => (10, t))

/-! ## Step 4: entries' CHK and reserved values (R120, R10) -/

def chkBad (bs : List Byte) (at' : Nat) : Bool := crc8 (bs.take at' ++ bs.drop (at' + 1)) != fieldB bs at' 1

/-- Image offset of the first failing CHK of a counted section, in section-table order of their types. -/
def chkCounted (img : List Byte) (t k at' : Nat) : Option Nat :=
  let sec := secBody img t
  ((List.range (fieldB sec 0 4)).find? (fun i => chkBad (sub sec (16 + k * i) k) at')).map
    (fun i => secOff img t + 16 + k * i + at')

def chkReduceF : Nat → Nat → List Byte → Option Nat
  | 0, _, _ => none
  | n + 1, o, l =>
    let len := 16 + 4 * fieldB l 7 1
    if chkBad (l.take len) 15 then some (o + 15) else chkReduceF n (o + len) (l.drop len)

def checkChk (img : List Byte) : Option Nat :=
  let red := secBody img 0x09
  let res := secBody img 0x07
  let rec0 := 16 + 16 * fieldB res 0 4
  chkCounted img 2 48 47 <|> chkCounted img 3 32 31 <|> chkCounted img 4 16 15 <|>
    ((List.range (fieldB res 4 4)).find? (fun i => chkBad (sub res (rec0 + 32 * i) 32) 31)).map
      (fun i => secOff img 7 + rec0 + 32 * i + 31) <|>
    chkReduceF (fieldB red 0 4) (secOff img 9 + 16) (red.drop 16) <|> chkCounted img 0x0b 16 15 <|> chkCounted img 0x0c 16 15

/-- Reserved values of a descriptor and the conditions of 06 R234 and R235, but for PTICK. -/
def badAwlFields (e : Nat) : Bool :=
  63 < aCore e || field e 62 2 != 0 || field e 148 4 != 0 || 2 < aSpace e || (aSpace e == 2 && field e 182 26 != 0) ||
    field e 208 16 != 0 || 5 < aXform e || field e 320 56 != 0 || aSp e % 32 != 0 || aRows e == 0 ||
    aRowLen e == 0 || (if aXform e = 1 then aFmt e < 3 || 6 < aFmt e else aFmt e != 0) ||
    (aXform e == 0 && aRowLen e % 32 != 0) ||
    (2 ≤ aXform e && aXform e ≤ 3 && aRowLen e != a8RowBytes (aKb e)) ||
    (aXform e == 4 && aRowLen e != p16RowBytes (aKb e)) ||
    (awlOut e && aNcore e != 0) || 63 < aCore e + aNcore e

def badAwl (e : Nat) : Bool := aPtick e == 0xffff || badAwlFields e

def badXfer (e : Nat) : Bool :=
  63 < xPort e || field e 58 2 == 3 || field e 60 4 != 0 || xAddr e % 32 != 0 || field e 112 16 % 32 != 0 ||
    63 < xCore e || field e 208 40 != 0

def badPoint (e : Nat) : Bool :=
  ptType e == 0 || 7 < ptType e || (303 < ptLcl e && ptLcl e != 0x1ff) ||
    (4 ≤ ptType e && ptType e ≤ 6 && ptCycle e != 0) || ((ptType e == 1 || (4 ≤ ptType e && ptType e ≤ 6)) && ptArg e != 0)

def badWindow (im : Image) (e : Nat) : Bool := winLen e == 0 || im.tickLen < winStart e + winLen e

def badRecord (im : Image) (e : Nat) : Bool :=
  field e 25 7 != 0 || 1024 < recClip e || 1024 < recSevere e || recSevere e < recClip e || (!recWide e && recCost e 2 != 0) ||
    im.windows.length ≤ recWin e || 63 < recCore e || field e 120 8 != 0 || recStride e % 32 != 0 || recBase e % 256 != 0 ||
    field e 224 24 != 0

def badRed (r : Nat × List Nat) : Bool :=
  rNc r.1 == 0 || rElem r.1 % 32 != 0 || rElem r.1 < 32 || 4096 < rElem r.1 || field r.1 104 16 != 0 || 63 < rCore r.1 ||
    r.2.any (fun w => field w 24 8 != 0)

def dEntry (t i : Nat) : Nat := t * 2 ^ 24 + i

def badEntry {α : Type} (t : Nat) (l : List α) (bad : α → Bool) : Option Nat :=
  ((ixList l).find? (fun e => bad e.1)).map (fun e => dEntry t e.2)

/-- Reserved values and non-zero reserved fields in the sections other than OPS (reason 0x0011). -/
def checkReserved (im : Image) (img : List Byte) : Option Nat :=
  let res := secBody img 7
  let sl := secBody img 0x0a
  badEntry 2 im.awl badAwl <|> badEntry 3 im.xfer badXfer <|>
    badEntry 4 im.arrive (fun e => 2 < dKind e || field e 112 8 != 0 || 63 < dCore e) <|>
    badEntry 5 im.lacePts badPoint <|> badEntry 6 im.wake (fun e => 3 < hKind e || (2 ≤ hKind e && 63 < hTarget e)) <|>
    (if fieldB res 8 8 != 0 then some (dEntry 7 0) else none) <|> badEntry 7 im.windows (badWindow im) <|>
    badEntry 7 im.records (badRecord im) <|>
    badEntry 8 im.rotate (fun e => 1023 < field e 0 16 || 4 < field e 16 8 || field e 24 40 != 0) <|> badEntry 9 im.reduce badRed <|>
    (if im.groups = 0 || 16 < im.groups || fieldB sl 1 1 = 0 || 64 < fieldB sl 1 1 || im.slotsPer = 0 || 4096 < im.slotsPer ||
      fieldB sl 4 12 != 0 then some (dEntry 10 0) else none) <|>
    badEntry 10 im.groupTab (fun e => e.2.any (fun g => im.groups ≤ g && g != 0xff)) <|>
    badEntry 11 im.expert (fun e => 15 < field e 40 8 || 63 < field e 64 8 || field e 72 8 != 0 || field e 96 16 == 0 ||
      128 < field e 80 16 + field e 96 16 || field e 112 8 != 0) <|>
    badEntry 12 im.objects (fun e => entryTier e == 0 || 2 < entryTier e || 3 < entryAccess e || field e 80 40 != 0)

/-- A reserved opcode, function or field of an op word (R86, R88, R93, R99, R101, R103). -/
def opReserved (o : OpAt) : Bool :=
  let v := o.w.toNat
  match wOpc o.w with
  | 0 => field v 29 91 != 0
  | 1 => field v 89 3 == 7 || field v 105 15 != 0 || (3 ≤ field v 89 3 && field v 85 4 != 0)
  | 2 => 4 < field v 71 3 || field v 74 2 == 3 || field v 89 31 != 0
  | 3 => 4 < field v 87 3 || field v 90 2 == 3 || field v 105 15 != 0
  | 4 => field v 69 51 != 0
  | 5 => 4 < field v 44 3 || field v 65 55 != 0
  | 6 => 12 < field v 41 4 || field v 45 2 == 3 || field v 66 54 != 0
  | _ => true

/-! ## Ports, clusters, segment tables -/

def portFlaw (s : State) (im : Image) (p : Nat) : Bool :=
  let c := im.portClass.getD p 0
  let x := getPort s p
  (c != 0 && (x.state != .up || x.cls != c || (c == 3 && x.const != im.classO))) ||
    im.xfer.any (fun e => xPort e == p && (x.state != .up || field e 128 16 != x.peerLog || c == 0))

/-- The port check of R153 reason 0x0006 and R155: the first port that fails. -/
def portCheck (s : State) (im : Image) : Option Nat := allPorts.find? (portFlaw s im)

/-- Logical cluster in a partition's set (12 R420). -/
def inSet (s : State) (p l : Nat) : Bool := fbit (getO s (0xa000 + p) (3 + l / 32)) (l % 32)

def badSegs (im : Image) (l : Nat) : Bool :=
  let t := (mget ([], []) im.ops l).1
  let n := im.period + 1
  (List.range 64).any (fun c => (List.range im.period).any (fun p => t.getD (c * n + p + 1) 0 < t.getD (c * n + p) 0))

/-! ## Op words: order, shape, resources (reasons 0x0012 to 0x0019) -/

/-- Op words of one core in turn. -/
def sameCore (a b : OpAt) : Bool := a.lcl == b.lcl && a.core == b.core

def badIssue (im : Image) (ops : List OpAt) (o : OpAt) : Bool :=
  im.tickLen ≤ wIssue o.w ||
    ops.any (fun q => sameCore q o && q.pt == o.pt && q.ix + 1 == o.ix && wIssue o.w ≤ wIssue q.w)

/-- Two occupancies on the line of one period, which repeats, overlap. -/
def overlap (span a n b m : Nat) : Bool :=
  0 < n && 0 < m && ((decide (a < b + m) && decide (b < a + n)) || (decide (a + span < b + m) && decide (b < a + span + n)) ||
    (decide (a < b + span + m) && decide (b + span < a + n)))

def arrayTime (o : OpAt) : Nat := if usesArray o.w then o.occ else 0
def vectorTime (o : OpAt) : Nat :=
  if !usesVector o.w o.descs then 0 else if isMm o.w then o.lat else o.occ

def before (im : Image) (a b : OpAt) : Bool := a.at im < b.at im || (a.at im == b.at im && (a.lcl, a.core) != (b.lcl, b.core) && (a.lcl * 64 + a.core) < (b.lcl * 64 + b.core))

/-- Resource overlap of R106 and R102, of an operation with its own issue in the next period too, and a core of a window's CORE_MASK that is occupied (R145). -/
def badResource (im : Image) (ops : List OpAt) (o : OpAt) : Bool :=
  let span := im.period * im.tickLen
  span < arrayTime o || span < vectorTime o || (wOpc o.w == 5 && span < o.occ) ||
  ops.any (fun q => before im q o &&
    ((sameCore q o && (overlap span (q.at im) (arrayTime q) (o.at im) (arrayTime o) ||
        overlap span (q.at im) (vectorTime q) (o.at im) (vectorTime o))) ||
     (q.lcl == o.lcl && wOpc q.w == 5 && wOpc o.w == 5 && overlap span (q.at im) q.occ (o.at im) o.occ))) ||
  im.windows.any (fun w => winLcl w == o.lcl && fbit (winMask w) o.core &&
    (overlap span (winPtick w * im.tickLen + winStart w) (winLen w) (o.at im) (arrayTime o) ||
     overlap span (winPtick w * im.tickLen + winStart w) (winLen w) (o.at im) (vectorTime o)))

def fmtOf (o : OpAt) (i : Nat) : Nat := dFmt ((mfind o.descs i).getD 0)
def actFmt (f : Nat) : Bool := f ≤ 1
def wgtFmt (f : Nat) : Bool := 3 ≤ f && f ≤ 6

/-- Shape, formats and descriptors of an op word (R88, R94, R99, R101, R103, R614). -/
def badShape (o : OpAt) : Bool :=
  let v := o.w.toNat
  match wOpc o.w with
  | 0 => false
  | 1 => field v 33 5 != 0 || (3 ≤ field v 89 3 && field v 49 5 != 0)
  | 2 =>
    (mmUses o.w).any (fun i => (mfind o.descs i).isNone) || !actFmt (fmtOf o (field v 29 4)) ||
      !wgtFmt (fmtOf o (field v 33 4)) || 2 < fmtOf o (field v 37 4) ||
      (field v 74 2 != 0 && fmtOf o (field v 41 4) != 2) ||
      (fmtOf o (field v 37 4) != 2 && (field v 52 10 + 1) % 32 != 0) ||
      (fmtOf o (field v 33 4) == 4 && (field v 62 9 + 1) % 5 != 0)
  | 3 =>
    let np := field v 29 2 + 1
    let r := List.range np
    (mmUses o.w).any (fun i => 15 < i || (mfind o.descs i).isNone) ||
      r.any (fun p => fmtOf o (field v 31 4 + p) != fmtOf o (field v 31 4) || fmtOf o (field v 39 4 + p) != fmtOf o (field v 39 4)) ||
      !actFmt (fmtOf o (field v 31 4)) || !wgtFmt (fmtOf o (field v 35 4)) || 2 < fmtOf o (field v 39 4) ||
      (field v 90 2 != 0 && r.any (fun p => fmtOf o (field v 43 4 + p) != 2)) ||
      (fmtOf o (field v 39 4) != 2 && r.any (fun p => (field v (59 + 7 * p) 7 + 1) % 32 != 0)) ||
      (fmtOf o (field v 35 4) == 4 && (field v 50 9 + 1) % 5 != 0)
  | 4 => (opUses o.w).any (fun i => (mfind o.descs i).isNone) || fmtOf o (field v 29 4) != 2 ||
      !actFmt (fmtOf o (field v 33 4)) || (field v 44 12 + 1) % 32 != 0
  | _ => (opUses o.w).any (fun i => (mfind o.descs i).isNone || fmtOf o i != 2)

/-- An operand with SLOT_EN 1 that has no slot (R140). -/
def badSlots (im : Image) (o : OpAt) : Bool :=
  let rows := opSlots o.w o.descs
  rows.any (fun e => match e.2 with
    | none => false
    | some i => groupOf im o.lcl o.pt == 0xff || im.slotsPer ≤ i)

def rLimitNow (s : State) (fmt : Nat) : Nat := getO s 0x9020 (fmt - 2)

/-- A SETDESC of a weight operand with a RING that breaks R92 (R108). -/
def badRing (o : OpAt) : Bool :=
  let d := descOf o.w
  wOpc o.w == 1 && wgtFmt (dFmt d) && dRing d != 0 && (dRing d % 4 != 0 || 255 < dRingBit d + 3)

/-- Ranges that an op word writes. -/
def opWrites (w : Word128) (descs : SMap Nat) : List (Nat × Nat) :=
  let out := fun (d m n : Nat) =>
    if dFmt d = 2 then [(f32Addr d m 0, 4 * n)]
    else [(dBase d + 32 * m * dStride d, (if dFmt d = 1 then 2 else 1) * n), (dSbase d + m * dSstride d, ceilDiv n 32)]
  if isMm w then
    let a := mmOf w descs
    a.probs.flatMap (fun p => (List.range a.m).flatMap (fun m => out p.dO m p.n))
  else
    let a := rowOpOf w descs
    (List.range a.m).flatMap (fun m => out a.dz m (if wOpc w = 6 && (vectFn w = 10 || vectFn w = 11) then 1 else a.n))

/-- An operand region outside the scratchpad, but for the wrap of a ring (R108). -/
def badRegion (o : OpAt) : Bool :=
  let all := 2 ^ 128
  let ring := if onRing o.w o.descs then
      let d := mmDw o.w o.descs
      [(dBase d, dRing d * unitCode (dFmt d)), (dSbase d, dRing d * unitScale (dFmt d))] else []
  1 < wOpc o.w && ((opReads o.w o.descs (all - 1) ++ opWrites o.w o.descs ++ ring).any (fun r => 65536 < r.1 + r.2))

/-! ### Banks (03 R85) -/

/-- An access of the core phase: cycle from issue, write, granule. -/
abbrev Acc3 := Nat × Bool × Nat

def grans (a n : Nat) : List Nat := (List.range ((a + n - 1) / 32 - a / 32 + 1)).map (fun i => (a / 32 + i) % 2048)
def reads (t a n : Nat) : List Acc3 := if n = 0 then [] else (grans a n).map (fun g => (t, false, g))
def writesAt (t a n : Nat) : List Acc3 := if n = 0 then [] else (grans a n).map (fun g => (t, true, g))

/-- The weight line of a step: of a T1.6 unit, line b in step b, none in the fifth. -/
def lineReads (a : Mm) (t s kb h : Nat) : List Acc3 :=
  let d := a.dw
  let f := dFmt d
  let u := unitIx f a.kb s kb
  let v := if dRing d = 0 then u else u % dRing d
  let b := dBase d + v * unitCode f
  if f = 4 then (if kb % 5 < 4 then reads t (b + 256 * (kb % 5)) 256 else [])
  else if f = 6 then reads t (b + 256 * h) 256
  else reads t b 256

/-- Scale granules in the first cycle that uses them, the activation block and the initial values (R96, log entry 11). -/
def stepReads (a : Mm) (m s kb : Nat) : List Acc3 :=
  let t := a.cycle m s kb 0 0
  let d := a.dw
  let f := dFmt d
  let u := unitIx f a.kb s kb
  let v := if dRing d = 0 then u else u % dRing d
  let k := if f = 4 then 32 * (kb % 5) else 0
  let sc := dSbase d + v * unitScale f + k
  let e := sc + (if f = 4 then 32 else unitScale f)
  let b := if v = 0 && k = 0 then sc else 32 * ceilDiv sc 32
  let first := m == 0 || (a.standard && dRing d != 0)
  (if first then reads t b (e - b) else []) ++
    a.probs.flatMap (fun p =>
      if p.sets ≤ s then []
      else
        let blk := if dFmt p.da = 1 then 64 else 32
        let bAt := dBase p.da + 32 * m * dStride p.da + blk * kb
        let sAt := dSbase p.da + m * dSstride p.da + kb
        let n := min p.width (p.n - s * p.width)
        reads t bAt blk ++ (if s = 0 && a.scaleCycle (sAt / 32) = t then reads t sAt 1 else []) ++
          (if a.init != 0 && kb = 0 then reads t (f32Addr p.db (if a.init = 1 then 0 else m) (s * p.width)) (4 * n) else []))

def mmReads (a : Mm) : List Acc3 :=
  (List.range a.m).flatMap (fun m => (List.range a.sets).flatMap (fun s => (List.range a.kb).flatMap (fun kb =>
    stepReads a m s kb ++ (List.range a.fh).flatMap (fun h =>
      if a.standard then (List.range a.fp).flatMap (fun p => lineReads a (a.cycle m s kb h p) s kb h)
      else if m = 0 then lineReads a (a.cycle 0 s kb h 0) s kb h else []))))

/-- Writes of an operation: each part of its output in the cycle before it is readable (R97, R110, R112). -/
def pieceWrites (d m lo hi t : Nat) : List Acc3 :=
  if dFmt d = 2 then writesAt t (f32Addr d m lo) (4 * (hi - lo))
  else
    let blk := if dFmt d = 1 then 64 else 32
    writesAt t (dBase d + 32 * m * dStride d + blk * (lo / 32)) blk ++ writesAt t (dSbase d + m * dSstride d + lo / 32) 1

def mmWrites (a : Mm) : List Acc3 :=
  a.pieces.flatMap (fun x => match a.probs.find? (fun p => p.ix == x.prob) with
    | some p => pieceWrites p.dO x.row x.lo x.hi (x.at' - 1)
    | none => [])

/-- Accesses of REQUANT and VECT: the elements of one cycle, and the writes of their results. -/
def rowAccess (w : Word128) (a : RowOp) : List Acc3 :=
  let k := perCycle w
  (List.range a.m).flatMap (fun m => (List.range (ceilDiv a.n k)).flatMap (fun j =>
    let t := rowCycle w a m (k * j)
    let n := min k (a.n - k * j)
    reads t (f32Addr a.dx m (k * j)) (4 * n) ++
      (if wOpc w != 6 || !vectBinary (vectFn w) then []
        else match field w.toNat 45 2 with
          | 0 => reads t (f32Addr a.dy m (k * j)) (4 * n)
          | 1 => reads t (f32Addr a.dy 0 (k * j)) (4 * n)
          | _ => reads t (f32Addr a.dy 0 0) 4))) ++
    (rowPieces w a).flatMap (fun x => pieceWrites a.dz x.row x.lo (if vectReduces w then 1 else x.hi) (x.at' - 1))

def opAccess (o : OpAt) : List Acc3 :=
  match wOpc o.w with
  | 2 => mmReads (mmOf o.w o.descs) ++ mmWrites (mmOf o.w o.descs)
  | 3 => mmReads (mmOf o.w o.descs) ++ mmWrites (mmOf o.w o.descs)
  | 4 => rowAccess o.w (rowOpOf o.w o.descs)
  | 6 => rowAccess o.w (rowOpOf o.w o.descs)
  | _ => []

def bankOf (g : Nat) : Nat := (g + g / 32) % 32

/-- Two distinct granules of one bank in one cycle, both read or both written. -/
def clash (a b : Acc3) : Bool := a.1 == b.1 && a.2.1 == b.2.1 && a.2.2 != b.2.2 && bankOf a.2.2 == bankOf b.2.2

def shiftAcc (span t : Nat) (l : List Acc3) : List Acc3 := l.map (fun a => ((t + a.1) % span, a.2))

/-- An op word's accesses conflict among themselves or with an earlier op word of its core (R85). -/
def badBanks (im : Image) (ops : List OpAt) (o : OpAt) : Bool :=
  let span := im.period * im.tickLen
  let mine := shiftAcc span (o.at im) (opAccess o)
  let others := (ops.filter (fun q => sameCore q o && before im q o && (usesArray q.w || usesVector q.w q.descs) &&
    overlap span (q.at im) (q.lat + 1) (o.at im) (o.lat + 1))).flatMap (fun q => shiftAcc span (q.at im) (opAccess q))
  mine.any (fun a => mine.any (clash a) || others.any (clash a))

def badRotate (im : Image) (o : OpAt) : Bool :=
  wOpc o.w == 5 && !im.rotate.any (fun e => field e 0 16 == field o.w.toNat 55 10 && field e 16 8 == rotSize o.w)

/-! ## Arrivals (R128, R149) -/

/-- A waiter: cluster, core, bit, period tick, schedule cycle. -/
structure WaitAt where
  lcl : Nat
  core : Nat
  bit : Nat
  pt : Nat
  cyc : Nat
  deriving DecidableEq, Repr

def ringWaits (im : Image) (o : OpAt) : List WaitAt :=
  if !onRing o.w o.descs then []
  else
    let a := mmOf o.w o.descs
    (List.range a.unitCount).filterMap (fun u => (ringBit a.dw u).map (fun b =>
      let (pt, c) := schedAt im o.pt (wIssue o.w + a.unitCycle u)
      ⟨o.lcl, o.core, b, pt, c⟩))

def allWaits (im : Image) (ops : List OpAt) : List WaitAt :=
  (ops.flatMap (fun o => (if wWaitEn o.w then [⟨o.lcl, o.core, wWaitBit o.w, o.pt, wIssue o.w⟩] else []) ++ ringWaits im o)) ++
    (im.awl.filter aWaitEn).map (fun e => ⟨aLcl e, aCore e, aWaitBit e, aPtick e, aStart e⟩) ++
    (im.xfer.filter xWaitEn).map (fun e => ⟨xLcl e, xCore e, xWaitBit e, xPtick e, xSend e⟩) ++
    im.reduce.flatMap (fun r => (List.range (rNc r.1)).map (fun i =>
      let (pt, c) := redAt im r.1 i
      ⟨rLcl r.1, rCore r.1, contribBit r i, pt, c⟩))

/-- Waiters on a core and bit in a period tick, in order. -/
def waitsOn (ws : List WaitAt) (l c b pt : Nat) : List WaitAt :=
  sortBy (fun a b => a.cyc ≤ b.cyc) (ws.filter (fun w => w.lcl == l && w.core == c && w.bit == b && w.pt == pt))

def declsOn (im : Image) (l c b pt : Nat) : List Nat :=
  im.arrive.filter (fun e => dLcl e == l && dCore e == c && dBit e == b && dPtick e == pt)

/-- Waiter without declaration or declaration without waiter. -/
def checkPairs (im : Image) (ws : List WaitAt) : Option Nat :=
  firstBad ws (fun w => (waitsOn ws w.lcl w.core w.bit w.pt).length != (declsOn im w.lcl w.core w.bit w.pt).length)
      (fun w => d3 w.lcl w.core w.bit) <|>
    firstBad im.arrive (fun e => (waitsOn ws (dLcl e) (dCore e) (dBit e) (dPtick e)).length = 0)
      (fun e => d3 (dLcl e) (dCore e) (dBit e))

/-- The waiter that a declaration pairs with. -/
def waiterOf (im : Image) (ws : List WaitAt) (e : Nat) : Option WaitAt :=
  let k := (declsOn im (dLcl e) (dCore e) (dBit e) (dPtick e)).findIdx (fun x => x == e)
  (waitsOn ws (dLcl e) (dCore e) (dBit e) (dPtick e))[k]?

def dDecl (e : Nat) : Nat := d3 (dLcl e) (dCore e) (dBit e)

def lateDue (im : Image) (ws : List WaitAt) (e : Nat) : Bool :=
  match waiterOf im ws e with | some w => w.cyc < dDue e | none => false

/-- Row of R238 that a scheduled descriptor takes at this load. -/
def rowAtLoad (s : State) (e : Nat) : AwlRow := awlRow s (aLcl e) e none

/-- Period tick and cycle in which a producer of this node arrives, where it names the declaration's core and bit. -/
def producerAt (s : State) (im : Image) (e : Nat) : Option (Nat × Nat) :=
  if dKind e = 0 then
    match im.awl[dRef e]? with
    | none => none
    | some a =>
      let r := rowAtLoad s a
      if aLcl a = dLcl e && aCore a ≤ dCore e && dCore e ≤ aCore a + aNcore a && aBit a = dBit e && !aNobit a then
        some (schedAt im (aPtick a) (aStart a + r.lat + awlOcc r a)) else none
  else
    match im.reduce[dRef e]? with
    | none => none
    | some (h, _) =>
      if rLcl h = dLcl e && rCore h = dCore e && rDone h = dBit e then
        some (schedAt im (rPtick h) (rStart h + 16 + rNc h * (rElem h / 32))) else none

/-- A producer on the node arrives after DUE, or earlier than SPAN allows, or does not exist. -/
def lateProducer (s : State) (im : Image) (e : Nat) : Bool :=
  dKind e != 1 && (match producerAt s im e with
    | none => true
    | some (pt, c) =>
      let d := (dPtick e + im.period - pt) % im.period
      if d = 0 then dDue e < c else dSpan e < d)

/-- Two declarations of one bit closer than R149 allows, with Q and X in force. -/
def badReuse (s : State) (im : Image) (ws : List WaitAt) (e : Nat) : Bool :=
  let qx := s.lace.q * s.lace.x
  1 < im.arrive.countP (fun f => f == e) || im.arrive.any (fun f => f != e && dLcl f == dLcl e && dCore f == dCore e && dBit f == dBit e &&
    (if dPtick f = dPtick e then
      match waiterOf im ws f with
      | some w => im.period ≤ dSpan e || (dDue f ≤ dDue e && dDue e < w.cyc + qx)
      | none => im.period ≤ dSpan e
    else
      let d := (dPtick e + im.period - dPtick f) % im.period
      d ≤ dSpan e))

/-! ## Transfers (reasons 0x0030 to 0x0032) -/

def xSlots (e : Nat) : Nat := ceilDiv (ceilDiv (xLen e) 128) 12
def classOf (im : Image) (p : Nat) : Nat :=
  match im.portClass.getD p 0 with | 1 => 192 | 2 => 448 | 3 => im.classO | _ => 0
def dXfer (e : Nat × Nat) : Nat := d2 (xPort e.1) e.2

def slotClash (im : Image) (e : Nat × Nat) : Bool :=
  im.xfer.zipIdx.any (fun f => f.2 < e.2 && xPort f.1 == xPort e.1 &&
    overlap (im.period * im.tickLen) (xPtick f.1 * im.tickLen + xSend f.1 + 40) (32 * xSlots f.1)
      (xPtick e.1 * im.tickLen + xSend e.1 + 40) (32 * xSlots e.1))

/-- The arrival lies after the first DUE moment at or after SEND. -/
def lateXfer (im : Image) (e : Nat × Nat) : Bool :=
  let span := im.period * im.tickLen
  let send := xPtick e.1 * im.tickLen + xSend e.1
  let due := field e.1 176 16 * im.tickLen + field e.1 192 16
  (due + span - send) % span < 80 + classOf im (xPort e.1) + 32 * xSlots e.1

def badComp (s : State) (e : Nat) : Bool :=
  aComp e && !((aXform e == 2 || aXform e == 3) &&
    (match aSpace e with
      | 0 => (match classify (aMem e) with | .dram => true | _ => false)
      | 1 => (match objAt s (aMem e) with | some (_, o) => o.comp | none => false)
      | _ => false))

/-! ## Resole (reasons 0x0040 to 0x0042) -/

def siteOf (ops : List OpAt) (r : Nat) : List OpAt :=
  ops.filter (fun o => o.lcl == recLcl r && opSite o.w == some (recSite r))
def consOf (im : Image) (ops : List OpAt) (r : Nat) : Option OpAt :=
  let w := im.windows.getD (recWin r) 0
  ops.find? (fun o => o.lcl == winLcl w && o.core == recCore r && o.ix == recOp r && o.pt == winPtick w)
def dRec (r : Nat) : Nat := d2 (recLcl r) (recSite r)

/-- Rows and columns of a requantisation, its destination and, for a consumer, its activation rows. -/
def siteRows (o : OpAt) : Nat := if isMm o.w then (mmOf o.w o.descs).m * (mmOf o.w o.descs).probs.length else (rowOpOf o.w o.descs).m
def siteCols (o : OpAt) : Nat :=
  if isMm o.w then (mmOf o.w o.descs).probs.foldl (fun m p => max m p.n) 0 else (rowOpOf o.w o.descs).n
/-- Cycle after issue in which the site's last row completes (R112). -/
def siteDone (o : OpAt) : Nat :=
  if isMm o.w then
    let a := mmOf o.w o.descs
    a.probs.foldl (fun m p => max m (a.rowDone p (a.m - 1))) 0
  else o.lat - 1

/-- Cycle after issue in which the first of them does. -/
def siteFirst (o : OpAt) : Nat :=
  if isMm o.w then
    let a := mmOf o.w o.descs
    a.probs.foldl (fun m p => min m (a.rowDone p 0)) (siteDone o)
  else
    let a := rowOpOf o.w o.descs
    min (siteDone o) (rowCycle o.w a 0 (a.n - 1))

/-- The awl writes scratchpad address `a` of an op word's core. -/
def awlFeeds (im : Image) (o : OpAt) (a : Nat) : Bool :=
  im.awl.any (fun e => aLcl e == o.lcl &&
    (if awlOut e then aSpace e == 2 && aMem e / 65536 % 64 == o.core && spAddr (aMem e % 65536) == a
     else aCore e ≤ o.core && o.core ≤ aCore e + aNcore e && spAddr (aSp e) == a))

/-- The activation rows of the consumer are the site's rows (R145): as many, and in place on the site's core unless the awl brings
them (log entry 118). -/
def rowsMatch (im : Image) (site cons : OpAt) : Bool :=
  let outs := if isMm site.w then
      let a := mmOf site.w site.descs
      a.probs.flatMap (fun p => (List.range a.m).map (fun m => spAddr (dBase p.dO + 32 * m * dStride p.dO)))
    else let a := rowOpOf site.w site.descs; (List.range a.m).map (fun m => spAddr (dBase a.dz + 32 * m * dStride a.dz))
  let c := mmOf cons.w cons.descs
  let ins := c.probs.flatMap (fun p => (List.range c.m).map (fun m => spAddr (dBase p.da + 32 * m * dStride p.da)))
  outs == ins || (outs.length == ins.length && (!sameCore site cons || ins.any (awlFeeds im cons)))

/-- Scratchpad ranges of two lists of (address, length) meet. -/
def rangesMeet (xs ys : List (Nat × Nat)) : Bool :=
  xs.any (fun x => ys.any (fun y => decide (x.1 < y.1 + y.2) && decide (y.1 < x.1 + x.2)))

/-- A REQUANT that reads a part of the consumer's result. -/
def readsResult (cons o : OpAt) : Bool :=
  sameCore o cons && wOpc o.w == 4 &&
    (let a := rowOpOf o.w o.descs
     rangesMeet (opWrites cons.w cons.descs) ((List.range a.m).map (fun m => (f32Addr a.dx m 0, 4 * a.n))))

/-- Time from `a` to the next moment `b` on the line of the period. -/
def after (im : Image) (a b : Nat) : Nat := (b + im.period * im.tickLen - a) % (im.period * im.tickLen)

def directHas (s : State) (p d a n : Nat) : Bool :=
  let f := getO s (0xa000 + p) (0x21 + d)
  f != 0xffff && f * 16384 ≤ a && a + n ≤ (f + getO s (0xa000 + p) (0x11 + d)) * 16384

/-- The placement of a record's window breaks R145. The window comes after its site in one period iteration, since it serves no flag
of an earlier one (R148). -/
def badWindowOf (s : State) (im : Image) (ops : List OpAt) (r : Nat) : Bool :=
  match siteOf ops r, consOf im ops r with
  | [site], some cons =>
    let w := im.windows.getD (recWin r) 0
    let start := winPtick w * im.tickLen + winStart w
    let readers := ops.filter (fun o => readsResult cons o && 0 < after im (cons.at im) (o.at im))
    let firstRead := readers.foldl (fun m o => min m (after im (cons.at im) (o.at im))) (im.period * im.tickLen)
    !isMm cons.w || (mmOf cons.w cons.descs).outFmt != 2 || !rowsMatch im site cons || !fbit (winMask w) (recCore r) ||
      start < cons.at im + cons.lat || start < site.at im + siteDone site + 64 || firstRead < after im (cons.at im) start + winLen w ||
      recStride r < 4 * siteCols site ||
      !directHas s im.partition (recLcl r / 19) (recBase r) (siteRows site * recStride r) ||
      im.windows.zipIdx.any (fun v => v.2 != recWin r && winLcl v.1 == winLcl w && winPtick v.1 == winPtick w &&
        winStart v.1 < winStart w + winLen w && winStart w < winStart v.1 + winLen v.1)
  | _, _ => true

/-- C_min of R147 for a weight format. -/
def cMin (cons : OpAt) (fmt g : Nat) : Nat :=
  let a := mmOf cons.w cons.descs
  let n := a.probs.foldl (fun m p => max m p.n) 0
  let s := ceilDiv n ((if a.packed then 4 else 16) * colsPer fmt)
  let units := if fmt = 4 then s * (a.kb / 5) else s * a.kb
  2 * s * a.kb * (if fmt = 6 then 2 else 1) + ceilDiv (units * (unitCode fmt + unitScale fmt)) g + 96

def badCost (im : Image) (ops : List OpAt) (r : Nat) : Bool :=
  match consOf im ops r with
  | none => false
  | some c =>
    let f := dFmt (mmDw c.w c.descs)
    recCost r 1 < cMin c f 256 || (recWide r && recCost r 2 < cMin c (if f = 5 then 6 else 5) 32)

/-! ## Lace points, hints, objects -/

def hasSwitch (im : Image) (pt : Nat) : Bool := im.lacePts.any (fun e => ptType e == 5 && ptPtick e == pt)

def badPoints (im : Image) (pt : Nat) : Bool :=
  im.clusterMap.any (fun l => !im.lacePts.any (fun e => ptType e == 1 && ptPtick e == pt && ptNames e l)) ||
    im.arrive.any (fun e => dPtick e == pt &&
      (List.range (dSpan e)).any (fun k => hasSwitch im ((pt + im.period * 256 - k) % im.period))) ||
    im.xfer.any (fun e => xPtick e == pt &&
      (List.range ((xSend e + 80 + classOf im (xPort e) + 32 * xSlots e) / im.tickLen)).any
        (fun k => hasSwitch im ((pt + k + 1) % im.period))) ||
    (pt == 0 && !(List.range im.period).any (hasSwitch im))

/-- A cluster (kind 0) or port (kind 2) sleeps in a period tick. -/
def sleepsIn (im : Image) (kind target pt : Nat) : Bool :=
  im.wake.any (fun h => hKind h == kind + 1 && hTarget h == target && (pt + im.period - hPtick h) % im.period < hSpan h)

/-- An occupancy of `n` cycles from `a` meets period tick `pt`. -/
def inTick (im : Image) (a n pt : Nat) : Bool := overlap (im.period * im.tickLen) a (max 1 n) (pt * im.tickLen) im.tickLen

/-- A transfer from its start to the end of its last slot meets period tick `pt` (R133). -/
def xferIn (im : Image) (e pt : Nat) : Bool := inTick im (xPtick e * im.tickLen + xSend e) (40 + 32 * xSlots e) pt

/-- The arrival of a declaration may fall in period tick `pt`: that of a producer on the node in the tick in which it arrives, that of
a transfer in PTICK or the SPAN ticks before it (R128). -/
def arrivesIn (s : State) (im : Image) (e pt : Nat) : Bool :=
  if dKind e = 1 then (dPtick e + im.period - pt) % im.period ≤ dSpan e
  else dPtick e == pt || (match producerAt s im e with | some (q, _) => q == pt | none => false)

/-- A cluster has an op word, descriptor, transfer, reduction, resole window or arrival in a period tick (R139). -/
def clusterWork (s : State) (im : Image) (ops : List OpAt) (l pt : Nat) : Bool :=
  ops.any (fun o => o.lcl == l && inTick im (o.at im) (max o.occ o.lat) pt) ||
    im.awl.any (fun e => aLcl e == l && inTick im (aPtick e * im.tickLen + aStart e) ((rowAtLoad s e).lat + awlOcc (rowAtLoad s e) e + 1) pt) ||
    im.xfer.any (fun e => xLcl e == l && xferIn im e pt) ||
    im.reduce.any (fun r => rLcl r.1 == l && inTick im (rPtick r.1 * im.tickLen + rStart r.1) (17 + rNc r.1 * (rElem r.1 / 32)) pt) ||
    im.windows.any (fun w => winLcl w == l && winPtick w == pt) || im.arrive.any (fun e => dLcl e == l && arrivesIn s im e pt)

def badHint (s : State) (im : Image) (ops : List OpAt) (h : Nat) : Bool :=
  if hKind h = 0 || hKind h = 2 then hLead h < 16 || im.period ≤ hPtick h
  else
    let k := hKind h - 1
    !im.wake.any (fun v => hKind v == k && hTarget v == hTarget h && hPtick v == (hPtick h + hSpan h) % im.period &&
      hLead v < hSpan h) || im.period ≤ hSpan h ||
    (List.range (hSpan h)).any (fun i =>
      let pt := (hPtick h + i) % im.period
      if k = 0 then clusterWork s im ops (hTarget h) pt else im.xfer.any (fun e => xPort e == hTarget h && xferIn im e pt))

/-- C-die of the stacked SRAM that a descriptor reaches, if it reaches one. -/
def awlDie (s : State) (e : Nat) : Option Nat :=
  if aXform e = 5 || aSpace e = 2 then none
  else if aSpace e = 0 then (match classify (aMem e) with | .sram d _ => some d | _ => none)
  else match objAt s (aMem e) with | some (_, o) => if o.cls = 0 then some o.homeDie else none | none => none

def dieSleeps (im : Image) (d pt : Nat) : Bool :=
  let ls := im.clusterMap.filter (fun l => decide (l / 19 = d))
  ls != [] && ls.all (fun l => sleepsIn im 0 l pt)

def badObject (s : State) (im : Image) (e : Nat) : Bool :=
  match objById s (entryId e) with
  | none => true
  | some (_, o) =>
    o.partition != im.partition || o.state != 1 ||
      (entryTier e == 1 && !(o.cls == 0 && (tilesOf o).all (fun t => (getTile s t).copy && (getTile s t).die == o.homeDie))) ||
      s.images.any (fun i => i.2.state != 0 && i.2.state != 3 && i.2.objs.any (fun x => x.1 == o.id))

/-- An object-space range outside every listed object, or an access that its listing does not permit (06 R240). -/
def badRange (s : State) (im : Image) (e : Nat) : Bool :=
  aSpace e == 1 && aXform e != 5 && !im.objects.any (fun x => match objById s (entryId x) with
    | none => false
    | some (_, o) => (memPieces e).all (fun p => o.base ≤ p.1 && p.1 + p.2 ≤ o.base + o.length) &&
        fbit (entryAccess x) (if awlOut e then 1 else 0))

/-- A SPACE 0 range not wholly in DRAM or in one mapped stacked SRAM window (06 R238). -/
def badPlace (e : Nat) : Bool :=
  aSpace e == 0 && aXform e != 5 && !((memPieces e).all (fun p => match classify p.1, classify (p.1 + p.2 - 1) with
    | .dram, .dram => true | _, _ => false) ||
    (memPieces e).all (fun p => match classify p.1, classify (p.1 + p.2 - 1), classify (aMem e) with
      | .sram a _, .sram b _, .sram c _ => a == b && a == c | _, _, _ => false))

/-! ## Booking (06 R240 items 1 to 5) -/

/-- Occupancy of a descriptor on the line of the period: start, length. -/
def awlSpan (s : State) (im : Image) (e : Nat) : Nat × Nat := (aPtick e * im.tickLen + aStart e, awlOcc (rowAtLoad s e) e)

/-- A moment lies in an occupancy that may wrap. -/
def covers (span a n t : Nat) : Bool := (t + span - a % span) % span < n

def chanCount (s : State) (im : Image) (e : Nat) (chanS : Bool) : Nat :=
  let t := (awlSpan s im e).1
  (im.awl.filter (fun f => aLcl f == aLcl e && (rowAtLoad s f).chanS == chanS &&
    covers (im.period * im.tickLen) (awlSpan s im f).1 (awlSpan s im f).2 t)).length

def inFlightCount (s : State) (im : Image) (e : Nat) : Nat :=
  let t := (awlSpan s im e).1
  (im.awl.filter (fun f => aLcl f == aLcl e &&
    covers (im.period * im.tickLen) (awlSpan s im f).1 ((awlSpan s im f).2 + (rowAtLoad s f).lat) t)).length

/-- A user of the cluster phase (06 R241): cluster, first core and the cores after it, start on the line of the period, length, bytes
read and written per cycle on each core, and the descriptor index, where it is one. -/
structure CoreUse where
  lcl : Nat
  core : Nat
  more : Nat
  start : Nat
  len : Nat
  rd : Nat
  wr : Nat
  ix : Option Nat
  deriving DecidableEq, Repr

/-- What a descriptor uses. -/
def awlUses (s : State) (im : Image) (e : Nat × Nat) : List CoreUse :=
  let (a, n) := awlSpan s im e.1
  let use := fun (core more rd wr : Nat) => (⟨aLcl e.1, core, more, a, n, rd, wr, some e.2⟩ : CoreUse)
  let far := aMem e.1 / 65536 % 64
  if aSpace e.1 = 2 && awlOut e.1 then [use (aCore e.1) 0 512 0, use far 0 0 512]
  else if aSpace e.1 = 2 then (if aXform e.1 = 5 then [] else [use far 0 512 0]) ++ [use (aCore e.1) (aNcore e.1) 0 512]
  else
    let r := if (rowAtLoad s e.1).chanS then 512 else 64
    [if awlOut e.1 then use (aCore e.1) (aNcore e.1) r 0 else use (aCore e.1) (aNcore e.1) 0 r]

/-- Every user of R241. The stash writes of a site may take each cycle from its first row to the arrival of its last row's flag. The
image names neither the length nor the port of an inbound transfer: one slot is booked for it (log entry 118). -/
def coreUses (s : State) (im : Image) (ops : List OpAt) : List CoreUse :=
  let span := im.period * im.tickLen
  im.awl.zipIdx.flatMap (awlUses s im) ++
  im.reduce.map (fun r => ⟨rLcl r.1, rCore r.1, 0, rPtick r.1 * im.tickLen + rStart r.1, 16 + rNc r.1 * (rElem r.1 / 32), 128, 128, none⟩) ++
  im.xfer.map (fun e => ⟨xLcl e, xCore e, 0, xPtick e * im.tickLen + xSend e + 40, 32 * xSlots e, 48, 0, none⟩) ++
  (im.arrive.filter (fun e => dKind e == 1)).map (fun e =>
    ⟨dLcl e, dCore e, 0, (dPtick e * im.tickLen + dDue e + span - 32) % span, 32, 0, 48, none⟩) ++
  (ops.filter (fun o => wOpc o.w == 5)).map (fun o => ⟨o.lcl, o.core, 0, o.at im, o.occ, 128, 128, none⟩) ++
  im.windows.flatMap (fun w => ((List.range 64).filter (fbit (winMask w))).map (fun c =>
    ⟨winLcl w, c, 0, winPtick w * im.tickLen + winStart w, winLen w, 128, 128, none⟩)) ++
  im.records.flatMap (fun r => (siteOf ops r).map (fun o =>
    ⟨o.lcl, o.core, 0, o.at im + siteFirst o, siteDone o + 64 - siteFirst o, 128, 128, none⟩))

/-- Bytes per cycle read and written on a core at a moment. -/
def phaseUse (uses : List CoreUse) (span l c t : Nat) : Nat × Nat :=
  let on := uses.filter (fun u => u.lcl == l && u.core ≤ c && c ≤ u.core + u.more && covers span u.start u.len t)
  ((on.map (·.rd)).sum, (on.map (·.wr)).sum)

/-- A user's start overbooks one of its cores (R240 item 3). -/
def badPhase (uses : List CoreUse) (span : Nat) (u : CoreUse) : Bool :=
  (List.range (u.more + 1)).any (fun i =>
    let x := phaseUse uses span u.lcl (u.core + i) u.start
    1024 < x.1 || 1024 < x.2)

/-- Half of DRAM that a descriptor's memory side lies in (06 R211); none for stacked SRAM. -/
def awlHalf (s : State) (e : Nat) : Option Nat :=
  if (rowAtLoad s e).chanS then none
  else
    let a := if aSpace e = 1 then (match objAt s (aMem e) with | some (_, o) => o.dramHome + (aMem e - o.base) | none => 0) else aMem e
    some (if 0x003000000000 ≤ a then 1 else 0)

/-- A path of R240 items 4 and 5: a half of DRAM, or a welt port of a C-die in one direction. -/
inductive PathKey where
  | half (h : Nat)
  | welt (die side : Nat) (out : Bool)
  deriving DecidableEq, Repr

def PathKey.limit : PathKey → Nat
  | .half _ => 600
  | .welt _ _ _ => 224

/-- Traffic on those paths: start on the line of the period, length, bytes per cycle on each path, cluster and descriptor index. -/
structure PathUse where
  start : Nat
  len : Nat
  loads : List (PathKey × Nat)
  lcl : Nat
  ix : Option Nat
  deriving DecidableEq, Repr

/-- DRAM by the half's side, another die's stacked SRAM on both dies' ports, link slots on their port's side, and the fetch of a
window's wider copies from their half. -/
def pathUses (s : State) (im : Image) : List PathUse :=
  let awl := im.awl.zipIdx.filterMap (fun e =>
    let (a, n) := awlSpan s im e.1
    let own := aLcl e.1 / 19
    let out := awlOut e.1
    let use := fun l => some (⟨a, n, l, aLcl e.1, some e.2⟩ : PathUse)
    match awlHalf s e.1, awlDie s e.1 with
    | some h, _ => use [(.half h, 64), (.welt own h out, 64)]
    | none, some q => if q = own then none else
        let x := crossSide out own q
        use [(.welt own x out, 128), (.welt q x (!out), 128)]
    | none, none => none)
  let links := im.xfer.map (fun e =>
    ⟨xPtick e * im.tickLen + xSend e + 40, 32 * xSlots e, [(.welt (xLcl e / 19) (xPort e / 32) true, 48)], xLcl e, none⟩)
  let wide := im.windows.zipIdx.map (fun w =>
    let halves := (List.range 2).filter (fun h => im.records.any (fun r => recWin r == w.2 && recWide r && (match wideObj s im r with
      | some o => (if 0x003000000000 ≤ o.dramHome then 1 else 0) == h
      | none => false)))
    ⟨winPtick w.1 * im.tickLen + winStart w.1, winLen w.1, halves.map (fun h => (.half h, 32)), winLcl w.1, none⟩)
  awl ++ links ++ wide

/-- Bytes per cycle on a path at a moment. -/
def pathUse (uses : List PathUse) (span : Nat) (k : PathKey) (t : Nat) : Nat :=
  ((uses.filter (fun u => covers span u.start u.len t)).map (fun u => ((u.loads.filter (fun x => x.1 == k)).map (·.2)).sum)).sum

/-- The most that a last books on a path in schedule cycle `c` of any of its period ticks. -/
def pathPeak (im : Image) (uses : List PathUse) (k : PathKey) (c : Nat) : Nat :=
  ((List.range im.period).map (fun p => pathUse uses (im.period * im.tickLen) k (p * im.tickLen + c))).foldl max 0

/-- Loaded lasts of the other partitions, which may run beside this one, by partition. -/
def lastsBeside (s : State) (im : Image) : List (List (Image × List PathUse)) :=
  ((List.range 8).filter (· != im.partition)).map (fun p => s.slots.filterMap (fun e => match e.2.image with
    | some i => if i.partition = p then some (i, pathUses s i) else none
    | none => none))

/-- A path of a last's user is overbooked in some cycle in which a user of it starts, with the most that a last of each other
partition books there (R240 items 4 and 5; log entry 118). -/
def badPath (im : Image) (uses : List PathUse) (beside : List (List (Image × List PathUse))) (u : PathUse) : Bool :=
  let starts := (uses ++ beside.flatMap (fun l => l.flatMap (·.2))).map (fun v => v.start % im.tickLen)
  u.loads.any (fun k => starts.any (fun c =>
    k.1.limit < pathPeak im uses k.1 c + (beside.map (fun l => (l.map (fun x => pathPeak x.1 x.2 k.1 c)).foldl max 0)).sum))

/-- Cluster and descriptor index of a breach: a user that is no descriptor gives the first descriptor of its cluster that runs at its
start, or index 0xffff (log entry 118). -/
def bookDetail (s : State) (im : Image) (l start : Nat) (ix : Option Nat) : Nat :=
  let runs := fun (e : Nat × Nat) => aLcl e.1 == l && covers (im.period * im.tickLen) (awlSpan s im e.1).1 (awlSpan s im e.1).2 start
  d2 l (ix.getD (((im.awl.zipIdx.find? runs).map (·.2)).getD 0xffff))

/-- The first breach of R240 items 1 to 5, each examined wherever a user starts. -/
def checkBooking (s : State) (im : Image) (ops : List OpAt) : Option Nat :=
  let cores := coreUses s im ops
  let paths := pathUses s im
  (im.awl.zipIdx.find? (fun e => 1 < chanCount s im e.1 true || 4 < chanCount s im e.1 false || 1024 < inFlightCount s im e.1)).map
      (fun e => d2 (aLcl e.1) e.2) <|>
    (cores.find? (badPhase cores (im.period * im.tickLen))).map (fun u => bookDetail s im u.lcl u.start u.ix) <|>
    (paths.find? (badPath im paths (lastsBeside s im))).map (fun u => bookDetail s im u.lcl u.start u.ix)

/-! ## Power (17 R556, R563) -/

/-- Energy per unit in 0.01 pJ and P_fixed in mW by operating point (17 R543). -/
def energyOf (opp : Nat) : Nat := [251, 293, 347, 407, 471].getD opp 471
def fixedOf (opp : Nat) : Nat := [440000, 485000, 535000, 590000, 655000].getD opp 655000

/-- ΣU over the partitions of loaded lasts, `extra` a (partition, units) pair that is being loaded. -/
def sumUnits (s : State) (extra : Option (Nat × Nat)) : Nat :=
  (List.range 8).foldl (fun t p =>
    let m := s.slots.foldl (fun m e => match e.2.image with
      | some i => if i.partition = p then max m i.maxUnits else m
      | none => m) 0
    t + (match extra with | some (q, u) => if q = p then max m u else m | none => m)) 0

/-- P_env times 1000 × TICK_LEN, in mW (17 R556). -/
def pEnvScaled (s : State) (extra : Option (Nat × Nat)) : Nat :=
  let c := getO s 0x2200 3
  fixedOf c * (1000 * max 1 (getO s 0x3000 0)) + energyOf c * (6 + c) * sumUnits s extra

/-- P_env in mW, rounded down. -/
def pEnv (s : State) (extra : Option (Nat × Nat)) : Nat := pEnvScaled s extra / (1000 * max 1 (getO s 0x3000 0))

/-- Watts of a power in mW, rounded to the nearest (log entry 66). -/
def watts (mw : Nat) : Nat := (mw + 500) / 1000

/-- Engine term of the last in a slot, in mW (17 R556). -/
def engineTerm (s : State) (n : Nat) : Nat :=
  let c := getO s 0x2200 3
  match (getSlot s n).image with
  | some im => energyOf c * (6 + c) * im.maxUnits / (1000 * max 1 (getO s 0x3000 0))
  | none => 0

/-! ## Step 4 in the order of its reasons -/

def dAwl (e : Nat × Nat) : Nat := d2 (aLcl e.1) e.2

def checkActivity (s : State) (im : Image) (ops : List OpAt) : Option Nat :=
  let budget := getO s 0x9040 (5 - im.oppoint) * im.tickLen * 1216
  ((List.range 16).flatMap (fun d => (List.range im.period).map (fun pt => (d, pt)))).findSome? (fun e =>
    if budget < dieUnits im ops (some e.1) e.2 then some (d2 e.1 e.2) else none)

/-- Every other reason, the lowest code first (R153). -/
def checkRules (s : State) (im : Image) (img : List Byte) : Option (Nat × Nat) :=
  let ops := walk im
  let ws := allWaits im ops
  let awl := im.awl.zipIdx
  let xf := im.xfer.zipIdx
  let bad := fun (r : Nat) (d : Option Nat) => d.map (fun x => (r, x))
  let op := fun (r : Nat) (f : OpAt → Bool) => bad r (firstBad ops f dOp)
  bad 2 (checkChk img) <|>
  bad 4 (if im.tickLen != getO s 0x3000 0 then some im.tickLen else none) <|>
  bad 5 (if im.oppoint < s.power.opp then some s.power.opp else none) <|>
  bad 6 (portCheck s im) <|>
  bad 7 (allPorts.find? (fun p => im.portClass.getD p 0 != 0 && (ethernetPort s p || (getPort s p).state == .ethernet))) <|>
  bad 9 (im.clusterMap.find? (fun l => !inSet s im.partition l)) <|>
  bad 10 (if im.clusterMap.any (badSegs im) then some 1 else none) <|>
  op 0x10 (fun o => !chkOk o.w) <|>
  bad 0x11 (firstBad ops opReserved dOp <|> checkReserved im img) <|>
  op 0x12 (badIssue im ops) <|>
  bad 0x13 (firstBad ops (badResource im ops) dOp <|> checkBooking s im ops) <|>
  op 0x14 (fun o => badShape o || badSlots im o) <|>
  op 0x15 (fun o => isMm o.w && rLimitNow s (dFmt (mmDw o.w o.descs)) < (mmOf o.w o.descs).run) <|>
  op 0x16 badRing <|> op 0x17 badRegion <|> op 0x18 (badBanks im ops) <|> op 0x19 (badRotate im) <|>
  bad 0x1a (checkActivity s im ops) <|>
  bad 0x1b (let new := some (im.partition, maxUnitsOf im ops)
    if getO s 0x2180 4 * 1000 * (1000 * max 1 (getO s 0x3000 0)) < pEnvScaled s new && pEnvScaled s none < pEnvScaled s new then
      some (watts (pEnv s new)) else none) <|>
  bad 0x20 (checkPairs im ws) <|> bad 0x21 (firstBad im.arrive (lateDue im ws) dDecl) <|>
  bad 0x22 (firstBad im.arrive (lateProducer s im) dDecl) <|> bad 0x23 (firstBad im.arrive (badReuse s im ws) dDecl) <|>
  bad 0x30 (firstBad xf (slotClash im) dXfer) <|> bad 0x31 (firstBad xf (lateXfer im) dXfer) <|>
  bad 0x32 (firstBad xf (fun e => xComp e.1 && (field e.1 58 2 != 0 || xLen e.1 % 264 != 0)) dXfer <|>
    firstBad awl (fun e => badComp s e.1) dAwl) <|>
  bad 0x40 (firstBad im.records (fun r => recLcl r / 19 != winLcl (im.windows.getD (recWin r) 0) / 19) dRec) <|>
  bad 0x41 (firstBad im.records (badWindowOf s im ops) dRec <|>
    firstBad ops (fun o => match opSite o.w with
      | some k => (im.records.filter (fun r => recLcl r == o.lcl && recSite r == k)).length != 1
      | none => false) (fun o => d2 o.lcl ((opSite o.w).getD 0))) <|>
  bad 0x42 (firstBad im.records (badCost im ops) dRec) <|>
  bad 0x50 ((List.range im.period).find? (badPoints im)) <|>
  bad 0x51 ((im.wake.zipIdx.find? (fun h => badHint s im ops h.1)).map (·.2)) <|>
  bad 0x52 (im.awl.findSome? (fun e => match awlDie s e with
    | some d => ((List.range im.period).find? (fun pt => dieSleeps im d pt &&
        inTick im (aPtick e * im.tickLen + aStart e) ((rowAtLoad s e).lat + awlOcc (rowAtLoad s e) e + 1) pt)).map (d2 d)
    | none => none)) <|>
  bad 0x60 ((im.objects.zipIdx.find? (fun e => badObject s im e.1)).map (·.2)) <|>
  bad 0x61 (firstBad awl (fun e => badRange s im e.1) dAwl) <|>
  bad 0x62 (firstBad awl (fun e => badPlace e.1) dAwl)

end Sys2Proof.Machine
end

