-- ==== Sys2Proof/Machine/CtlCore.lean ====
section
/-! DEFINITION. The control cores' reset and release, and the binding of logical clusters to physical clusters (04 R157–R159, 13
R445–R448). -/
namespace Sys2Proof.Machine

/-! ## Reset of threads and cores (R445, R446, R448) -/

/-- What a thread waited for is delivered to nobody from now on (R446). -/
def dropSink (k : Nat) (x : Sink) : Sink :=
  match x with
  | .reg h _ _ _ _ => if hartKey h = k then .discard else x
  | .posted h => if hartKey h = k then .discard else x
  | _ => x

def sinkOf (k : Nat) (x : Sink) : Bool :=
  match x with
  | .reg h _ _ _ _ => hartKey h == k
  | .posted h => hartKey h == k
  | _ => false

/-- A thread stops and parks with its reset values; its incarnation rises (R445). An access that stalls without a tag was
never issued and is gone. -/
def resetThread (s : State) (c t : Nat) : State :=
  let k := 8 * c + t
  let fab := { s.fab with
    reqs := s.fab.reqs.map (fun e => (e.1, { e.2 with sink := dropSink k e.2.sink }))
    stalled := s.fab.stalled.filter (fun e => !sinkOf k e.1) }
  bumpInc { s with fab := fab, harts := mset HartSt.init s.harts k HartSt.init } c t

def threadsOf (c : Nat) : Nat := if c < 320 then 8 else 4

/-- A core in reset: every thread parked with a raised incarnation, its caches and its completion register empty (R448). -/
def resetCore (s : State) (c : Nat) : State :=
  setCtl ((List.range (threadsOf c)).foldl (fun s t => resetThread s c t) s) c CtlCore.init

/-- A core leaves reset: thread 0 starts at offset 0 of its local RAM (R445, R448). -/
def releaseCore (s : State) (c : Nat) : State :=
  let s := setCtl s c { getCtl s c with run := true }
  let h : Hart := ⟨c, 0⟩
  setHart s h { getHart s h with live := true, pc := ramAddr c 0 }

/-! ## Binding (04 R157–R159) -/

def healthy (s : State) (d p : Nat) : Bool := fbit (getO s 0x2010 (d + 1)) p

/-- A physical cluster of a C-die that a local index holds. -/
def isBound (s : State) (d p : Nat) : Bool := (List.range 19).any (fun l => getO s (0x3050 + d) (l + 1) == p)

/-- The lowest-numbered healthy physical cluster that no local index holds. -/
def spareOf (s : State) (d : Nat) : Option Nat := (List.range 20).find? (fun p => healthy s d p && !isBound s d p)

/-- One used logical cluster is examined: the state with its binding, the changes (cluster, old, new) and the clusters that
nothing can be bound to. -/
def bindStep (r : State × List (Nat × Nat × Nat) × List Nat) (l : Nat) : State × List (Nat × Nat × Nat) × List Nat :=
  let (s, ch, un) := r
  let d := l / 19
  let old := physOf s l
  if old != 0xff && healthy s d old then r
  else
    let new := (spareOf s d).getD 0xff
    (setO s (0x3050 + d) (l % 19 + 1) new, if new = old then ch else ch ++ [(l, old, new)],
      if new = 0xff then un ++ [l] else un)

/-- A change of binding is reported; the control core of a physical cluster that it frees is reset (R159, 13 R448). -/
def reportBind (s : State) (c : Nat × Nat × Nat) : State :=
  let (l, old, new) := c
  let d := l / 19
  let s := setO (count s 0x3040 6 1) 0x2011 (d + 1) ((spareOf s d).getD 0x1f)
  let s := raise s 0x3005 (f8 d ++ f8 (l % 19) ++ f8 old ++ f8 new)
  if old = 0xff then s else resetCore s (20 * d + old)

/-- The binding of the used clusters of a last. -/
def tryBind (s : State) (used : List Nat) : State × List (Nat × Nat × Nat) × List Nat := used.foldl bindStep (s, [], [])

/-- The binding at a load: the C-die that cannot be bound, and then nothing changes, or the state with every change (R157). -/
def bindLoad (s : State) (im : Image) : Except Nat State :=
  let (s', ch, un) := tryBind s im.clusterMap
  match un with
  | l :: _ => .error (l / 19)
  | [] => .ok (ch.foldl reportBind s')

/-- The binding at a fallback switch: a cluster that nothing can be bound to stays unbound (R158). -/
def bindSwitch (s : State) (im : Image) : State :=
  let (s', ch, un) := tryBind s im.clusterMap
  un.foldl (fun s l => raise s 0x3006 (f8 (l / 19) ++ f8 (l % 19) ++ f64 im.lastId)) (ch.foldl reportBind s')

end Sys2Proof.Machine
end

