-- ==== Sys2Proof/Machine/Last.lean ====
section
/-! DEFINITION. Loading, unloading and activating lasts (04 R150–R156). -/
namespace Sys2Proof.Machine

/-- A slot is the active one of a partition. -/
def slotActive (s : State) (n : Nat) : Bool := s.parts.any (fun e => e.2.active == some n)

/-- A write of object 0x3030.03 (R152): 1 starts a load, 2 unloads. -/
def wLastCmd (s : State) (v : Nat) : WRes :=
  let n := getO s 0x3030 2
  if s.dev.mode != .ready && s.dev.mode != .running then .error 0x0401
  else if v = 1 then
    if slotActive s n then .error 0x0401
    else if s.loading.isSome then .error 0x0601
    else
      let s := setSlot { s with loading := some ⟨n, getO s 0x3030 1, 1⟩ } n { SlotSt.init with loading := true }
      .ok (setO (setO (setO s 0x3025 (n + 1) 0) 0x3031 1 1) 0x3031 4 n)
  else if v = 2 then
    if slotActive s n then .error 0x0401
    else if (getSlot s n).loading then .ok s
    else .ok (setO (setSlot s n SlotSt.init) 0x3025 (n + 1) 0)
  else .error 0x0302

/-- A load ends refused (R153): the slot is empty, the reason and detail are reported. -/
def refuseLoad (s : State) (l : Loading) (lastId reason detail : Nat) : State :=
  let s := setSlot { s with loading := none } l.slot SlotSt.init
  let s := setO (setO (setO s 0x3031 1 3) 0x3031 2 reason) 0x3031 3 detail
  raise (count s 0x3040 5 1) 0x3002 (f8 l.slot ++ f64 lastId ++ f16 reason ++ f32 detail)

/-- Objects that the last lists and that are PINNED now, with their HOME_DIE (06 R238). -/
def pinnedNow (s : State) (im : Image) : List (Nat × Nat) :=
  im.objects.filterMap (fun e => match objById s (entryId e) with
    | some (_, o) => if o.cls = 0 then some (o.id, o.homeDie) else none
    | none => none)

/-- The checks of the steps of R151 in their order, up to the binding. -/
def loadChecks (s : State) (l : Loading) (src : LastSrc) (im : Image) : Option (Nat × Nat) :=
  checkHeader src.hdr <|> checkDir src (lnode s) <|> checkImage s src (lnode s) l.slot <|> checkRules s im src.img

/-- Busy engine-cycles of each period tick (12 R428). -/
def busyOf (im : Image) (ops : List OpAt) : List Nat :=
  (List.range im.period).map (fun pt => (ops.filter (fun o => o.pt == pt && isMm o.w)).foldl (fun n o => n + 16 * o.occ) 0)

/-- The sign vectors of a last's rotation sites, generated when it is loaded and held until it is unloaded (02 R62). -/
def signsOf (im : Image) : SMap (List Byte) :=
  im.rotate.foldr (fun e m => mbind m (field e 0 16) (packSigns (field e 64 64) (4 ^ (field e 16 8 + 3)))) []

/-- The end of a load (R151, R153). The container is read as it stands now (log entry 37). -/
def finishLoad (s : State) (l : Loading) : State :=
  let (s, _) := readAt s Who.pkg l.addr 128
  let src := readLast s l.addr (lnode s)
  let im := parseImage src (lnode s)
  match loadChecks s l src im with
  | some (r, d) => refuseLoad s l im.lastId r d
  | none =>
    match bindLoad s im with
    | .error die => refuseLoad s l im.lastId 8 die
    | .ok s =>
      let im := { im with maxUnits := maxUnitsOf im (walk im), busy := busyOf im (walk im) }
      let limits := (List.range 4).map (fun i => getO s 0x9020 (i + 1))
      let s := setSlot { s with loading := none } l.slot ⟨some im, im.lastId, false, limits, pinnedNow s im, signsOf im⟩
      raise (count (setO s 0x3031 1 2) 0x3040 4 1) 0x3001 (f8 l.slot ++ f64 im.lastId ++ f8 im.partition)

/-- LAST_LOAD_COMPLETE. -/
def execLastLoadComplete (s : State) : Out :=
  match s.loading with
  | some l => .next (finishLoad s l)
  | none => .next s

/-- A load is abandoned by a change of device state (14 R475); which step runs depends on time and is a free value. -/
def abandonLoad (s : State) : State :=
  match s.loading with
  | none => s
  | some l =>
    let (n, s) := fresh s
    refuseLoad s l (fieldB (peek s l.addr 128) 8 8) 0x0071 (1 + Config.freeValue n % 6)

/-- A write of object 0x3020 (R154). -/
def wActive (s : State) (p v : Nat) : WRes :=
  if s.dev.mode != .ready then .error 0x0401
  else if v = 0xff then .ok (setPart s p { getPart s p with active := none })
  else if 64 ≤ v then .error 0x0302
  else
    match (getSlot s v).image with
    | none => .error 0x0302
    | some im =>
      if im.partition != p || (portCheck s im).isSome then .error 0x0302
      else .ok (setPart s p { getPart s p with active := some v })

/-- State of a slot as object 0x3022 gives it. -/
def slotState (s : State) (n : Nat) : Nat :=
  let x := getSlot s n
  if x.loading then 1 else if x.image.isNone then 0 else if slotActive s n then 3 else 2

end Sys2Proof.Machine
end

