-- ==== Sys2Proof/Machine/Lace.lean ====
section
/-! DEFINITION. Lace: the symbols that a package receives and sends, the tree, tick faults, and the commands that flood a timed
symbol (05 R162–R203). -/
namespace Sys2Proof.Machine

/-! ## Symbols (R172, R174) -/

def yType (w : Word128) : Nat := field w.toNat 0 8
def ySeq (w : Word128) : Nat := field w.toNat 8 8
def yOrigin (w : Word128) : Nat := field w.toNat 16 11
def yTick (w : Word128) : Nat := field w.toNat 32 32
def yPhase (w : Word128) : Nat := field w.toNat 64 16
def yArg (w : Word128) : Nat := field w.toNat 80 40

/-- The tick that a symbol's 32 bits name, taken nearest to the tick in force (log entry 38). -/
def fullTick (s : State) (t32 : Nat) : Nat := (Int.ofNat s.lace.tick + signed 32 (sub32 t32 s.lace.tick)).toNat

def symKey (w : Word128) : Timed := ⟨yType w, yOrigin w, ySeq w, yTick w, yArg w, 0⟩

/-- The identity of a flooded symbol (R174): type, origin, sequence number, tick. -/
def sameSym (a b : Timed) : Bool := a.type == b.type && a.origin == b.origin && a.seq == b.seq && a.tick == b.tick

/-- A symbol of a row's type arrives on a trained port (R174): dropped and counted where its CHK fails. -/
def laceIn (s : State) (p ty : Nat) (w : Word128) (act : State → State) : State :=
  if !portUp s p || yType w != ty then s
  else if !chkOk w then count s 0x3060 9 1
  else act s

/-- A flooded symbol is forwarded and acts once (R174). -/
def floodIn (s : State) (p ty : Nat) (w : Word128) (act : State → State) : State :=
  laceIn s p ty w (fun s =>
    if s.lace.seen.any (sameSym (symKey w)) then s
    else act (flood { s with lace := { s.lace with seen := s.lace.seen ++ [symKey w] } } w (some p)))

/-- Event 0x3108: a late or refused symbol, the tick it names and that of its receipt (R203). -/
def symEv (s : State) (x : Timed) (named rcv : Nat) : State :=
  raise s 0x3108 (f8 x.type ++ f16 x.origin ++ f8 x.seq ++ f64 named ++ f64 rcv)

/-- A late symbol: event 0x3108 and its count (R180, R185). -/
def lateSym (s : State) (x : Timed) (named : Nat) : State := symEv (count s 0x3060 4 1) x named s.lace.tick

/-! ## Tick faults (R182, R183, 16 R534, R536) -/

/-- Every cluster, as R137 writes it: the cluster field of a fault that names none (log entry 39). -/
def everyCluster : Nat := 0x1ff

/-- A tick that ends at P_0 whatever the votes and raises no fault (R183). -/
def forcedTick (s : State) (t : Nat) : Bool :=
  match s.lace.faultTick with
  | some f => decide (f < t) && decide (t < f + horizon s)
  | none => false

def faultedPart (s : State) (p : Nat) : Bool := (getPart s p).faultTick.isSome

/-- Tick `t` is faulted (R183): counted once, every partition with an active last that is not faulted becomes so and stops from
tick T + H. A package without one ends the ticks up to there as the others do. -/
def markFault (s : State) (t : Nat) : State :=
  let s := if (mfind s.lace.faults t).isSome then s
    else count { s with lace := { s.lace with faults := mbind s.lace.faults t false } } 0x3060 3 1
  let new := (s.parts.filter (fun e => e.2.active.isSome && e.2.faultTick.isNone)).map (·.1)
  if new = [] then
    if s.parts.any (fun e => e.2.active.isSome) then s else { s with lace := { s.lace with faultTick := some t } }
  else
    let s := new.foldl (fun s p => startTimer (setPart s p { getPart s p with faultTick := some t }) p) s
    { s with lace := { s.lace with faultTick := some t, stopFrom := some (t + horizon s) } }

/-- This package raises a tick fault for tick `t` (R182): its event and FAULT symbol once for each tick. -/
def tickFault (s : State) (t lcl cause : Nat) : State :=
  if forcedTick s t || !laceRuns s then s
  else if mfind s.lace.faults t = some true then s
  else
    let s := markFault s t
    let s := { s with lace := { s.lace with faults := mbind s.lace.faults t true } }
    let s := raise s 0x3107 (f64 t ++ f16 lcl ++ f8 cause)
    originate s 0x11 t 0 (lnode s % 65536 + lcl * 65536)

/-- FAULT (R183). -/
def execFaultSymbol (port : Port) (sym : Word128) (s : State) : Out :=
  .next (floodIn s port 0x11 sym (fun s => if laceRuns s then markFault s (fullTick s (yTick sym)) else s))

/-! ## Votes (R178–R181) -/

/-- The end phase P_k (R179). -/
def endPhase (s : State) (k : Nat) : Nat := s.lace.tickLen + s.lace.q * k

/-- Every vote for the tick with c ≤ P_k − V asks for no more than k. -/
def votesAllow (s : State) (k : Nat) : Bool :=
  s.lace.votes.all (fun v => v.tick != s.lace.tick || endPhase s k < v.cast + s.lace.v || v.quanta ≤ k)

/-- A vote received (R178, R180): for a tick that has ended before its cut-off it is late, which faults the tick. -/
def recordVote (s : State) (x : Timed) (t c q : Nat) : State :=
  if !laceRuns s then s
  else if t < s.lace.tick then
    match s.lace.ended.find? (fun e => e.1 == t) with
    | some (_, k) =>
      if c + s.lace.v ≤ endPhase s k then tickFault (lateSym s x t) t everyCluster 3 else s
    | none => s
  else { s with lace := { s.lace with votes := s.lace.votes ++ [⟨t, q, c⟩] } }

/-- VOTE: recorded, and forwarded unless a vote forwarded before covers it (R181). -/
def execVoteSymbol (port : Port) (sym : Word128) (s : State) : Out :=
  .next (laceIn s port 0x10 sym (fun s =>
    if s.lace.seen.any (sameSym (symKey sym)) then s
    else
      let t := fullTick s (yTick sym)
      let v : Vote := ⟨t, yArg sym % 64, yPhase sym⟩
      let s := { s with lace := { s.lace with seen := s.lace.seen ++ [symKey sym] } }
      let covered := s.lace.forwarded.any (fun u => u.tick == t && v.quanta ≤ u.quanta && u.cast ≤ v.cast)
      let s := if covered then s
        else flood { s with lace := { s.lace with forwarded := s.lace.forwarded ++ [v] } } sym (some port)
      recordVote s (symKey sym) t v.cast v.quanta))

/-! ## The tree (R169–R171, R175–R177) -/

/-- A rank outranks another (R169). -/
def outranks (a b : Nat × Nat) : Bool := decide (a.1 < b.1) || (a.1 == b.1 && decide (a.2 < b.2))

/-- A package is a root candidate (R169). -/
def candidate (s : State) : Bool := fbit (getO s 0x1010 3) 2
def ownRank (s : State) : Nat × Nat := (getO s 0x3011 1, pnode s)

/-- A rank is taken into the best and second-best seen. -/
def noteRank (s : State) (r : Nat × Nat) : State :=
  match s.lace.best with
  | none => { s with lace := { s.lace with best := some r, betterAt := s.now } }
  | some b =>
    if outranks r b then { s with lace := { s.lace with best := some r, second := some b, betterAt := s.now } }
    else if r = b then s
    else match s.lace.second with
      | none => { s with lace := { s.lace with second := some r } }
      | some c => if outranks r c then { s with lace := { s.lace with second := some r } } else s

def rootArg (prio lat hops : Nat) : Nat := prio % 256 + lat % 2 ^ 24 * 2 ^ 8 + hops % 16 * 2 ^ 32

/-- Lace acquisition starts (14 R474): the election, with this package's own ROOT where it is a candidate. -/
def startLace (s : State) : State :=
  let s := { s with lace := { Lace.init with mode := .electing, betterAt := s.now, nextSeq := s.lace.nextSeq } }
  if candidate s then originate (noteRank s (ownRank s)) 3 0 0 (rootArg (getO s 0x3011 1) 0 0) else s

/-- Arrivals of a root's symbol in the order in which ports are chosen (R171). -/
def rootPorts (s : State) (root : Nat) : List RootArr :=
  sortBy (fun a b => a.lat < b.lat || (a.lat == b.lat && a.port ≤ b.port))
    (s.lace.arrivals.filter (fun a => a.node == root && portUp s a.port))

/-- Parent and alternate parent from the arrivals. -/
def takeParent (s : State) (root : Nat) : State :=
  let ps := rootPorts s root
  match ps.head? with
  | none => s
  | some a =>
    let b := (ps.find? (fun x => x.port != a.port)).map (·.port)
    { s with lace := { s.lace with parent := a.port, alt := b.getD 0xff, depth := a.hops, pathLat := a.lat } }

/-- This package is the tick root: it counts on its own and its values are in force (R167, R177). -/
def becomeRoot (s : State) : State :=
  { s with lace := { s.lace with mode := .locked, root := pnode s, parent := 0xff, alt := 0xff, depth := 0, pathLat := 0,
                                 phaseErr := 0, lastSyncAt := s.cyc, rootSyncAt := s.cyc, syncSentAt := s.cyc } }

/-- Values in force from a root's own objects (R167). -/
def rootValues (s : State) : State :=
  { s with lace := { s.lace with tickLen := getO s 0x3000 0, q := getO s 0x3001 0, x := getO s 0x3002 0, v := getO s 0x3013 1 } }

def lockedEv (s : State) : State := raise s 0x3101 (f16 s.lace.root ++ f8 s.lace.depth ++ f32 s.lace.pathLat)

/-- A package at a depth above 8 does not lock (R171): event 0x3104, lace state 1. -/
def depthCheck (s : State) : State :=
  if 8 < s.lace.depth then
    raise { s with lace := { s.lace with mode := .electing, betterAt := s.now, goodSyncs := 0, aligned := false } } 0x3104
      (f8 s.lace.depth ++ f16 (unsigned 16 s.lace.phaseErr))
  else s

def rootEv (s : State) (old : Nat) : State := raise s 0x3102 (f16 old ++ f16 s.lace.root ++ f64 s.lace.tick)

/-- The election after the loss of the root (R170, R177; log entry 113): a candidate floods its rank. -/
def electAgain (s : State) : State :=
  let s := { s with lace := { s.lace with reelect := true, betterAt := s.now } }
  if candidate s then originate (noteRank s (ownRank s)) 3 0 0 (rootArg (getO s 0x3011 1) 0 0) else s

/-- The standby root of another root's ROOT: the package re-parents to it (R177), and the next election runs. -/
def newRoot (s : State) (a : RootArr) : State :=
  let old := s.lace.root
  let s := { s with lace := { s.lace with root := a.node, standby := 0xffff, best := some (a.prio, a.node), second := none,
                                          arrivals := [a], goodSyncs := 0, lastSyncAt := s.cyc, rootSyncAt := s.cyc } }
  electAgain (depthCheck (rootEv (takeParent s a.node) old))

/-- This package takes the root over; the vote reach in force stays in force (log entry 41). -/
def takeRoot (s : State) : State :=
  let old := s.lace.root
  rootEv (becomeRoot (setO s 0x3013 1 s.lace.v)) old

def rootIn (s : State) (p : Nat) (w : Word128) : State :=
  let prio := yArg w % 256
  let lat := field (yArg w) 8 24 + (getPort s p).const
  let a : RootArr := ⟨p, prio, yOrigin w, lat, field (yArg w) 32 4 + 1⟩
  if s.lace.mode = .off || a.node = pnode s then s
  else
    let better := match s.lace.best with | none => true | some b => outranks (prio, a.node) b
    let takes := laceRuns s && a.node != s.lace.root && (a.node == s.lace.standby || s.lace.mode == .holdover)
    let fwd := mkSym 3 (ySeq w) a.node 0 0 (rootArg prio lat a.hops)
    if laceRuns s then
      if takes then flood (newRoot s a) fwd (some p)
      else if s.lace.reelect && a.node != s.lace.root then
        let s := noteRank { s with lace := { s.lace with arrivals := s.lace.arrivals ++ [a] } } (prio, a.node)
        if better then flood s fwd (some p) else s
      else if a.node = s.lace.root && a.node != pnode s then
        takeParent { s with lace := { s.lace with arrivals := s.lace.arrivals ++ [a] } } a.node
      else s
    else
      let s := noteRank { s with lace := { s.lace with arrivals := s.lace.arrivals ++ [a] } } (prio, a.node)
      if better then flood s fwd (some p) else s

/-- ROOT (R170, R177): forwarded only where it outranks the best seen. -/
def execRootSymbol (port : Port) (sym : Word128) (s : State) : Out := .next (laceIn s port 3 sym (fun s => rootIn s port sym))

/-- The end of an election at acquisition: this package is the root, or acquires from its parent. -/
def firstElected (s : State) (b : Nat × Nat) : State :=
  let s := { s with lace := { s.lace with root := b.2, standby := (s.lace.second.map (·.2)).getD 0xffff, reelect := false } }
  if b.2 = pnode s then lockedEv (rootValues (becomeRoot s))
  else
    let s := takeParent s b.2
    if s.lace.parent = 0xff then s
    else if 8 < s.lace.depth then depthCheck s
    else { s with lace := { s.lace with mode := .acquiring, goodSyncs := 0, aligned := false, lastSyncAt := s.cyc, rootSyncAt := s.cyc } }

/-- The end of an election of a package that counts: the standby root, and the root where another rank is the best. -/
def electedAgain (s : State) (b : Nat × Nat) : State :=
  let old := s.lace.root
  let s := { s with lace := { s.lace with standby := (s.lace.second.map (·.2)).getD 0xffff, reelect := false } }
  if b.2 = old then s
  else if b.2 = pnode s then takeRoot s
  else
    let s := { s with lace := { s.lace with root := b.2, goodSyncs := 0, lastSyncAt := s.cyc, rootSyncAt := s.cyc } }
    depthCheck (rootEv (takeParent s b.2) old)

/-- ELECTION_END: 1 ms after the last better rank (R169–R171). -/
def execElectionEnd (s : State) : Out :=
  if s.lace.betterAt + msec ≤ s.now then
    match s.lace.best with
    | none => .next s
    | some b =>
      if s.lace.mode = .electing then .next (firstElected s b)
      else if s.lace.reelect && laceRuns s then .next (electedAgain s b)
      else .next s
  else .next s

/-! ### Phase alignment (R175) -/

/-- The counter runs: locked, in holdover, or aligned while acquiring. -/
def counting (s : State) : Bool := laceRuns s || (s.lace.mode == .acquiring && s.lace.aligned)

/-- Cycles from phase 0 of the sender's tick to this package's present phase; none where its tick is out of reach. -/
def phaseSince (s : State) (t : Nat) : Option Nat :=
  if t = s.lace.tick then some s.lace.phase
  else if t + 1 = s.lace.tick then
    let k := ((s.lace.ended.find? (fun e => e.1 == t)).map (·.2)).getD 0
    some (s.lace.phase + s.lace.tickLen + s.lace.q * k)
  else none

/-- Phase error in 1/8 cycle of a SYNC that arrived `adj` eighths after the present cycle's start. -/
def phaseErrorOf (s : State) (p : Nat) (w : Word128) (adj : Int) : Option Int :=
  (phaseSince s (fullTick s (yTick w))).map (fun d =>
    8 * Int.ofNat d + adj - 8 * Int.ofNat (yPhase w + (getPort s p).const))

/-- The first SYNC of an acquisition sets the counter: the sender's tick, its phase and C. The stretches of earlier ticks are not on the
line, and the lace cycle number of phase 0 is a free value (08 R273; log entry 114). -/
def alignTo (s : State) (p : Nat) (w : Word128) : State :=
  let ph := yPhase w + (getPort s p).const
  let t := s.lace.tick / 2 ^ 32 * 2 ^ 32 + yTick w
  let (t, ph) := if s.lace.tickLen != 0 && s.lace.tickLen ≤ ph then (t + 1, ph - s.lace.tickLen) else (t, ph)
  let (n, s) := fresh s
  { s with lace := { s.lace with tick := t, phase := ph, goodSyncs := 0, aligned := true, phaseErr := 0,
                                 cyc0 := Config.freeValue n % 2 ^ 32 } }

/-- The PLL trim after a SYNC: a value within ±250 ppm that the spec does not fix. -/
def steer (s : State) : State :=
  let (n, s) := fresh s
  { s with lace := { s.lace with trim := Int.ofNat (Config.freeValue n % 50001) - 25000 } }

/-- A SYNC steers the PLL and counts toward lock: `gap` cycles after the one before, an interval without a SYNC breaks the run of
good intervals (log entry 115). -/
def steerBy (s : State) (p : Nat) (w : Word128) (adj : Int) (gap : Nat) : State :=
  let s := steer { s with lace := { s.lace with depth := field (yArg w) 24 4 + 1,
                                                pathLat := yArg w % 2 ^ 24 + (getPort s p).const } }
  if 8 < s.lace.depth then depthCheck s
  else if s.lace.mode = .acquiring && !s.lace.aligned then alignTo s p w
  else
    match phaseErrorOf s p w adj with
    | none => if s.lace.mode = .acquiring then alignTo s p w else s
    | some e =>
      let s := { s with lace := { s.lace with phaseErr := e } }
      let s := if 8 < e.natAbs then raise s 0x3104 (f8 s.lace.depth ++ f16 (unsigned 16 e)) else s
      if e.natAbs ≤ 1 then
        let n := if gap < 1024 then s.lace.goodSyncs + 1 else 1
        let s := { s with lace := { s.lace with goodSyncs := n } }
        if 64 ≤ n && s.lace.mode != .locked then lockedEv { s with lace := { s.lace with mode := .locked } } else s
      else if s.lace.mode = .acquiring then alignTo s p w
      else { s with lace := { s.lace with goodSyncs := 0 } }

/-- A SYNC arrives on a port; one in a flit sent again is not used (08 R276). -/
def syncIn (s : State) (p : Nat) (w : Word128) (adj : Int) (replayed : Bool) : State :=
  if s.lace.mode = .off || s.lace.mode = .electing || s.lace.root = pnode s then s
  else
    let s := if yOrigin w = s.lace.root then { s with lace := { s.lace with rootSyncAt := s.cyc } } else s
    if p != s.lace.parent then s
    else
      let gap := s.cyc - s.lace.lastSyncAt
      let s := { s with lace := { s.lace with lastSyncAt := s.cyc } }
      if replayed then s else steerBy s p w adj gap

/-- SYNC (R175). -/
def execSyncSymbol (port : Port) (sym : Word128) (eighth : Nat) (s : State) : Out :=
  .next (laceIn s port 1 sym (fun s => syncIn s port sym eighth false))

/-- Ports that lead to children: every trained lace port but the parent (log entry 40). -/
def childPorts (s : State) : List Nat := (upPorts s).filter (fun p => p != s.lace.parent)

def toChildren (s : State) (w : Word128) : State := (childPorts s).foldl (fun s p => sendLace s p w) s

/-- SYNC_SEND: every 512 cycles (R173); TICK and PHASE are written when the flit leaves (08 R276). -/
def execSyncSend (s : State) : Out :=
  if s.lace.mode = .locked && s.lace.syncSentAt + 512 ≤ s.cyc then
    let n := mget 0 s.lace.nextSeq 1
    let s := { s with lace := { s.lace with syncSentAt := s.cyc, nextSeq := mset 0 s.lace.nextSeq 1 (n + 1) } }
    .next (toChildren s (mkSym 1 n s.lace.root s.lace.tick s.lace.phase (s.lace.pathLat % 2 ^ 24 + s.lace.depth % 16 * 2 ^ 24)))
  else .next s

/-- EPOCH and CONFIG go to the children at phase 0 (R173). -/
def sendEpoch (s : State) : State :=
  if s.lace.mode = .locked then
    let n := mget 0 s.lace.nextSeq 2
    let m := mget 0 s.lace.nextSeq 4
    let s := { s with lace := { s.lace with nextSeq := mset 0 (mset 0 s.lace.nextSeq 2 (n + 1)) 4 (m + 1) } }
    let t := s.lace.tick
    let s := toChildren s (mkSym 2 n s.lace.root t 0 (t / 2 ^ 32 % 2 ^ 32))
    toChildren s (mkSym 4 m s.lace.root t s.lace.q (s.lace.tickLen % 2 ^ 17 + s.lace.x % 64 * 2 ^ 17 + s.lace.v % 2 ^ 16 * 2 ^ 23))
  else s

/-- Tick of this package `c` cycles ago. -/
def tickAgo (s : State) (c : Nat) : Nat :=
  if c ≤ s.lace.phase then s.lace.tick
  else
    let k := ((s.lace.ended.find? (fun e => e.1 + 1 == s.lace.tick)).map (·.2)).getD 0
    if c ≤ s.lace.phase + endPhase s k then s.lace.tick - 1 else s.lace.tick - 2

/-- EPOCH from the parent is compared with the own count (16 R521); while acquiring it gives the upper bits. -/
def epochIn (s : State) (p : Nat) (w : Word128) : State :=
  if p != s.lace.parent then s
  else if s.lace.mode = .acquiring then
    { s with lace := { s.lace with tick := yArg w % 2 ^ 32 * 2 ^ 32 + s.lace.tick % 2 ^ 32 } }
  else if !laceRuns s || s.lace.root = pnode s then s
  else
    let theirs := yArg w % 2 ^ 32 * 2 ^ 32 + yTick w
    if tickAgo s (getPort s p).const = theirs then s
    else
      let s := raise (count s 0x8021 5 1) 0x8002 (f64 s.lace.tick ++ f64 theirs ++ f8 p)
      tickFault s s.lace.tick everyCluster 1

/-- EPOCH. -/
def execEpochSymbol (port : Port) (sym : Word128) (s : State) : Out := .next (laceIn s port 2 sym (fun s => epochIn s port sym))

def configIn (s : State) (p : Nat) (w : Word128) : State :=
  if p != s.lace.parent || s.lace.root = pnode s then s
  else
    { s with lace := { s.lace with tickLen := yArg w % 2 ^ 17, q := yPhase w, x := field (yArg w) 17 6, v := field (yArg w) 23 16 } }

/-- CONFIG: the values in force (R167). -/
def execConfigSymbol (port : Port) (sym : Word128) (s : State) : Out := .next (laceIn s port 4 sym (fun s => configIn s port sym))

/-! ### Loss of the parent and of the root (R176, R177) -/

/-- PARENT_LOSS: 8 intervals without SYNC on the parent port, of a package that counts or acquires. -/
def execParentLoss (s : State) : Out :=
  if (laceRuns s || s.lace.mode == .acquiring) && s.lace.parent != 0xff && s.lace.lastSyncAt + 4096 ≤ s.cyc && s.lace.alt != 0xff then
    let old := s.lace.parent
    let new := s.lace.alt
    let next := ((rootPorts s s.lace.root).find? (fun a => a.port != new && a.port != old)).map (·.port)
    let s := match (rootPorts s s.lace.root).find? (fun a => a.port == new) with
      | some a => { s with lace := { s.lace with depth := a.hops, pathLat := a.lat } }
      | none => s
    let s := { s with lace := { s.lace with parent := new, alt := next.getD 0xff, lastSyncAt := s.cyc, goodSyncs := 0 } }
    .next (depthCheck (raise s 0x3103 (f8 old ++ f8 new ++ f64 s.lace.tick)))
  else .next s

/-- HOLDOVER: 16 intervals without a SYNC that originates at the root. -/
def execHoldover (s : State) : Out :=
  if s.lace.mode = .locked && s.lace.root != pnode s && s.lace.rootSyncAt + 8192 ≤ s.cyc then
    let s := { s with lace := { s.lace with mode := .holdover, goodSyncs := 0 } }
    .next (raise (count s 0x3060 7 1) 0x310d (f64 s.lace.tick ++ f16 (unsigned 16 s.lace.phaseErr)))
  else .next s

/-- ROOT_TAKEOVER: the standby root in holdover, at a tick boundary; its ROOT also begins the next election. -/
def execRootTakeover (s : State) : Out :=
  if s.lace.mode = .holdover && s.lace.standby = pnode s && s.lace.phase = 0 then
    let s := { s with lace := { s.lace with standby := 0xffff, best := some (ownRank s), second := none, arrivals := []
                                            reelect := true, betterAt := s.now } }
    .next (originate (takeRoot s) 3 0 0 (rootArg (getO s 0x3011 1) 0 0))
  else .next s

/-! ## Halt (R197–R199) -/

/-- HALT_RECEIVED. -/
def execHaltReceived (port : Port) (sym : Word128) (s : State) : Out :=
  .next (floodIn s port 0x20 sym (fun s =>
    haltLocal s (yOrigin sym) (yArg sym % 65536) (fullTick s (yTick sym)) (yPhase sym)))

/-- A write of object 0x3016.01 (R197, R202). -/
def wHalt (s : State) (v : Nat) : WRes :=
  if s.dev.mode = .keeper || s.dev.mode = .alarm then .error 0x0401
  else if v != 1 then .error 0x0302
  else .ok (originateHalt s 1)

/-! ## Timed symbols (R184–R188) -/

/-- Least lead of a timed symbol (R184). -/
def leastLead (s : State) (ty : Nat) : Nat :=
  if ty = 0x23 then max 16 (horizon s) else if ty = 0x30 then horizon s else max 8 (horizon s)

/-- A timed symbol of this package: refused with too small a lead, else flooded and held here as by every receiver. A package
whose counter does not run has no tick to lead from: 0x0401 (log entry 42). -/
def sendTimed (s : State) (ty e arg : Nat) : WRes :=
  if !laceRuns s then .error 0x0401
  else if e < s.lace.tick + leastLead s ty then .error 0x0302
  else
    let x : Timed := ⟨ty, pnode s, mget 0 s.lace.nextSeq ty % 256, e, arg, s.lace.tick⟩
    let s := originate s ty e 0 arg
    .ok (if ty = 0x30 then { s with lace := { s.lace with masks := s.lace.masks ++ [x] } }
      else { s with lace := { s.lace with timed := s.lace.timed ++ [x] } })

/-- Several timed symbols that were checked before: those refused are left out. -/
def sendMask (s : State) (e slot : Nat) (bit : Bool) (p : Nat) : State :=
  match sendTimed s 0x30 e (slot % 65536 + (if bit then 65536 else 0) + p % 8 * 2 ^ 17) with
  | .ok s => s
  | .error _ => s

/-- A partition's active last has a point of type `ty` in its period tick of tick `t`. -/
def pointAt (s : State) (p ty t : Nat) : Bool :=
  match activeImage s p with
  | none => true
  | some im =>
    let pt := (t - (getPart s p).t0) % max 1 im.period
    im.lacePts.any (fun e => ptType e == ty && ptPtick e == pt)

/-- Every active last has a FREQ point in tick `t`. -/
def freqPoint (s : State) (t : Nat) : Bool := s.parts.all (fun e => e.2.active.isNone || pointAt s e.1 6 t)

/-- Ticks from `a` to `b`, at most the last 65,536 of them. -/
def ticksUpTo (a b : Nat) : List Nat := (List.range (min 65536 (b + 1 - a))).map (fun i => b - i)

def swPart (arg : Nat) : Nat := field arg 6 3

/-- The moment of a timed symbol's effect has passed (R185, R188). -/
def isLate (s : State) (ty e arg : Nat) : Bool :=
  let t := s.lace.tick
  match ty with
  | 0x21 => decide (e < t + max 8 (horizon s))
  | 0x22 => (ticksUpTo e t).any (pointAt s (swPart arg) 5)
  | 0x23 => (ticksUpTo e t).any (freqPoint s)
  | 0x24 => decide (e ≤ t)
  | _ => decide (e < t) || (e == t && (match activeImage s (field arg 17 3) with
      | some im => im.clusterMap.any (fun l => (getCl s l).maskTick == t + 1)
      | none => false))

/-- A timed symbol is received: held for its tick, or late (R185). -/
def timedIn (s : State) (w : Word128) : State :=
  if !laceRuns s || s.dev.mode = .halted || s.dev.mode = .alarm then s
  else
    let ty := yType w
    let e := fullTick s (yTick w)
    let x : Timed := { symKey w with tick := e, rcv := s.lace.tick }
    if isLate s ty e x.arg then
      let s := lateSym s x e
      if ty = 0x21 || ty = 0x22 then tickFault s s.lace.tick everyCluster 3 else s
    else if ty = 0x30 then { s with lace := { s.lace with masks := s.lace.masks ++ [x] } }
    else { s with lace := { s.lace with timed := s.lace.timed ++ [x] } }

/-- START (R188). -/
def execStartSymbol (port : Port) (sym : Word128) (s : State) : Out := .next (floodIn s port 0x21 sym (fun s => timedIn s sym))
/-- SWITCH (R189). -/
def execSwitchSymbol (port : Port) (sym : Word128) (s : State) : Out := .next (floodIn s port 0x22 sym (fun s => timedIn s sym))
/-- MASK (R187). -/
def execMaskSymbol (port : Port) (sym : Word128) (s : State) : Out := .next (floodIn s port 0x30 sym (fun s => timedIn s sym))

/-- FREQ: held, and the change is prepared at its receipt (17 R546). -/
def execFreqSymbol (port : Port) (sym : Word128) (s : State) : Out :=
  .next (floodIn s port 0x23 sym (fun s =>
    let n := s.lace.timed.length
    let s := timedIn s sym
    if n < s.lace.timed.length then beginChange s (yArg sym % 8) else s))

/-- Peers record the adopter as their port's trained peer (R194), and forget the tag of the one before (07 R260). -/
def recordAdopter (s : State) (origin n : Nat) : State :=
  allPorts.foldl (fun s p =>
    if portUp s p && (getPort s p).peerPhys = origin then modPort s p (fun x => { x with peerLog := n, peerTag := 0 }) else s) s

/-- ADOPT (R194). -/
def execAdoptSymbol (port : Port) (sym : Word128) (s : State) : Out :=
  .next (floodIn s port 0x24 sym (fun s => timedIn (recordAdopter s (yOrigin sym) (yArg sym % 2048)) sym))

/-! ## Commands (R188, R189, R193) -/

/-- Appliance slots that requests of a partition hold (10). -/
def heldSlots (s : State) (p : Nat) : List Nat :=
  s.serving.slots.filterMap (fun e => match e.2.eyelet with
    | some i => if (mget Eyelet.init s.serving.eyelets i).partition = p then some e.1 else none
    | none => none)

/-- A write of object 0x3014.01 (R188): START, and a MASK set for every held slot of the started partitions. -/
def wStart (s : State) (tick : Nat) : WRes :=
  if !isManager s || (s.dev.mode != .ready && s.dev.mode != .running) then .error 0x0401
  else
    let mask := getO s 0x3014 2
    match sendTimed s 0x21 tick mask with
    | .error e => .error e
    | .ok s => .ok ((List.range 8).foldl (fun s p =>
        if fbit mask p then (heldSlots s p).foldl (fun s i => sendMask s tick i true p) s else s) s)

/-- A write of object 0x3015.01 (R189, R192). -/
def wSwitch (s : State) (v : Nat) : WRes :=
  if !isManager s || s.dev.mode != .running then .error 0x0401
  else if getO s 0x3024 (v % 64 + 1) = 0 then .error 0x0302
  else sendTimed s 0x22 (getO s 0x3015 2) v

/-- A write of object 0x3015.02: the switch tick (R192). -/
def wSwitchTick (s : State) (v : Nat) : WRes :=
  if !isManager s || s.dev.mode != .running then .error 0x0401 else .ok (setO s 0x3015 2 v)

/-- Adoption is open: READY with no active last (R193). -/
def mayAdopt (s : State) : Bool := s.dev.mode == .ready && s.parts.all (fun e => e.2.active.isNone)

/-- A write of object 0x3017.01 (R193). -/
def wAdoptNode (s : State) (n : Nat) : WRes :=
  if !mayAdopt s then .error 0x0401
  else if n < 2048 && allPorts.any (fun p => portUp s p && (getPort s p).peerLog == n) then .error 0x0402
  else if 2048 ≤ n && n != 0xffff then .error 0x0302
  else .ok (setO s 0x3017 1 n)

/-- A write of object 0x3017.02: ADOPT is flooded and the logical node taken (R193, R194). -/
def wAdoptTick (s : State) (e : Nat) : WRes :=
  let n := getO s 0x3017 1
  if !mayAdopt s || n = 0xffff then .error 0x0401
  else match sendTimed s 0x24 e n with
    | .error c => .error c
    | .ok s => .ok (setO (setO s 0x3017 2 e) 0x1010 2 n)

/-- The state that an outcome goes on from. -/
def nextOf (o : Out) (s : State) : State :=
  match o with
  | .next t => t
  | _ => s

/-- A lace symbol goes to its rule (05 R172). One of a type that no rule names does nothing, its CHK apart (R174). -/
def laceSym (p : Port) (adj : Int) (replayed : Bool) (s : State) (w : Word128) : State :=
  match symType w with
  | 0x01 => laceIn s p 1 w (fun s => syncIn s p w adj replayed)
  | 0x02 => nextOf (execEpochSymbol p w s) s
  | 0x03 => nextOf (execRootSymbol p w s) s
  | 0x04 => nextOf (execConfigSymbol p w s) s
  | 0x10 => nextOf (execVoteSymbol p w s) s
  | 0x11 => nextOf (execFaultSymbol p w s) s
  | 0x20 => nextOf (execHaltReceived p w s) s
  | 0x21 => nextOf (execStartSymbol p w s) s
  | 0x22 => nextOf (execSwitchSymbol p w s) s
  | 0x23 => nextOf (execFreqSymbol p w s) s
  | 0x24 => nextOf (execAdoptSymbol p w s) s
  | 0x30 => nextOf (execMaskSymbol p w s) s
  | _ => if portUp s p && !chkOk w then count s 0x3060 9 1 else s

/-- The eight 16-byte words of a body; unused places are 0. -/
def words (b : List Byte) : List Word128 :=
  ((List.range 8).map (fun j => BitVec.ofNat 128 (fieldB b (16 * j) 16))).filter (fun w => w != 0)

/-- Release of a lace flit that came `eighth` into this cycle, in 1/8 cycle: the pad is C minus the measured one-way latency. -/
def releaseTime (s : State) (p eighth : Nat) : Int :=
  8 * Int.ofNat s.cyc + Int.ofNat eighth + 8 * Int.ofNat (getPort s p).const - Int.ofNat (getPort s p).fwd

/-- A lace flit waits in the pad up to its release C cycles after its departure; FRAC is the departure's fraction. One that was sent
again is released as it is received (R276). -/
def laceFlitIn (s : State) (p : Port) (eighth frac : Nat) (replayed : Bool) (ws : List Word128) : State :=
  let r := releaseTime s p eighth
  let due := max s.cyc (r / 8).toNat
  let adj := r - 8 * Int.ofNat due - Int.ofNat frac
  if replayed || due = s.cyc then ws.foldl (laceSym p adj replayed) s
  else modPort s p (fun x => { x with pad := x.pad ++ [⟨due, adj, ws⟩] })

/-- Lace flits of a port whose release has come. -/
def releasePad (s : State) (p : Port) : State :=
  let x := getPort s p
  (x.pad.filter (fun d => d.due ≤ s.cyc)).foldl (fun s d => d.words.foldl (laceSym p d.adj false) s)
    (setPort s p { x with pad := x.pad.filter (fun d => s.cyc < d.due) })

def releasePads (s : State) : State :=
  s.ports.foldl (fun s e => if e.2.pad = [] then s else releasePad s (Fin.ofNat 64 e.1)) s

end Sys2Proof.Machine
end

