-- ==== Sys2Proof/Machine/Serving.lean ====
section
/-! DEFINITION. The serving engine (10 R334–R380): submission queues, completion rings, feeds, the sampler, admission, deadlines,
rewinds, the mirror and the takeover. -/
namespace Sys2Proof.Machine

/-! ## Tables -/

def getEy (s : State) (i : Nat) : Eyelet := mget Eyelet.init s.serving.eyelets i
def setEy (s : State) (i : Nat) (e : Eyelet) : State :=
  { s with serving := { s.serving with eyelets := mset Eyelet.init s.serving.eyelets i e } }
def getSs (s : State) (k : Nat) : ServSlot := mget ServSlot.init s.serving.slots k
def setSs (s : State) (k : Nat) (x : ServSlot) : State :=
  { s with serving := { s.serving with slots := mset ServSlot.init s.serving.slots k x } }
def getSq (s : State) (q : Nat) : SubQ := mget SubQ.init s.serving.queues q
def setSq (s : State) (q : Nat) (x : SubQ) : State :=
  { s with serving := { s.serving with queues := mset SubQ.init s.serving.queues q x } }
def getTen (s : State) (t : Nat) : Tenant := mget Tenant.init s.serving.tenants t
def setTen (s : State) (t : Nat) (x : Tenant) : State :=
  { s with serving := { s.serving with tenants := mset Tenant.init s.serving.tenants t x } }

/-- Key of appliance slot `a` of partition `p`. -/
def slotKey (p a : Nat) : Nat := p * 65536 + a

def orBit (v i : Nat) : Nat := if fbit v i then v else v + 2 ^ i
def clrBit (v i : Nat) : Nat := if fbit v i then v - 2 ^ i else v

/-- The 128 bytes of an eyelet (R339). -/
def Eyelet.bytes (e : Eyelet) : List Byte :=
  f64 e.handle ++ f64 e.seed ++ f64 e.promptAddr ++ f64 e.paramAddr ++ f64 e.grammarAddr ++ f32 e.promptLen ++ f32 e.pos ++
    f32 e.tokenIndex ++ f32 e.maxTokens ++ f32 e.stopToken ++ f32 e.temp ++ f32 e.topP ++ f16 e.topK ++ f16 e.tenant ++
    f8 e.prio ++ f8 e.state ++ f8 e.flags ++ f8 e.queue ++ f16 e.slot ++ f8 e.partition ++ f8 e.endStatus ++ f32 e.gstate ++
    f32 e.ft ++ f32 e.bt ++ f64 e.commitTick ++ f64 e.lastSample ++ f32 e.commitSeq ++ f64 e.admitTick ++ f64 0

/-- The eyelet that 128 bytes spell. -/
def Eyelet.ofBytes (b : List Byte) : Eyelet :=
  { handle := fieldB b 0 8, seed := fieldB b 8 8, promptAddr := fieldB b 16 8, paramAddr := fieldB b 24 8,
    grammarAddr := fieldB b 32 8, promptLen := fieldB b 40 4, pos := fieldB b 44 4, tokenIndex := fieldB b 48 4,
    maxTokens := fieldB b 52 4, stopToken := fieldB b 56 4, temp := fieldB b 60 4, topP := fieldB b 64 4,
    topK := fieldB b 68 2, tenant := fieldB b 70 2, prio := fieldB b 72 1, state := fieldB b 73 1, flags := fieldB b 74 1,
    queue := fieldB b 75 1, slot := fieldB b 76 2, partition := fieldB b 78 1, endStatus := fieldB b 79 1,
    gstate := fieldB b 80 4, ft := fieldB b 84 4, bt := fieldB b 88 4, commitTick := fieldB b 92 8,
    lastSample := fieldB b 100 8, commitSeq := fieldB b 108 4, admitTick := fieldB b 112 8 }

def eyAddr (s : State) (i : Nat) : Nat := getO s 0x6000 1 + 128 * i

/-- The key of a request's slot, where it holds one (SLOTTED). -/
def Eyelet.key (e : Eyelet) : Option Nat := if fbit e.flags 5 then some (slotKey e.partition e.slot) else none

/-! ### The sample table (R353) -/

structure SampleEnt where
  logit : Nat
  stride : Nat
  vocab : Nat
  valid : Bool
  admits : Bool
  chunk : Nat
  core : Nat
  depth : Nat
  feed : Nat
  maxPos : Nat

def sampleEnt (s : State) (p g : Nat) : SampleEnt :=
  let b := peek s (getO s 0x6060 1 + 32 * (16 * p + g)) 32
  let f := fieldB b 16 1
  ⟨fieldB b 0 8, fieldB b 8 4, fieldB b 12 4, fbit f 0, fbit f 1, fieldB b 17 1, fieldB b 18 1, fieldB b 19 1, fieldB b 20 2,
    fieldB b 22 4⟩

/-- Slot groups of a partition's active last whose entry admits a request of `need` positions, with their entries (R359). -/
def eligible (s : State) (p need : Nat) : List (Nat × SampleEnt) :=
  match activeImage s p with
  | none => []
  | some im => ((List.range im.groups).map (fun g => (g, sampleEnt s p g))).filter
      (fun x => x.2.valid && x.2.admits && need ≤ x.2.maxPos)

def slotsPerOf (s : State) (p : Nat) : Nat := match activeImage s p with | some im => max 1 im.slotsPer | none => 1

/-! ## The host-write window and completion rings (13 R449, R348–R350) -/

/-- A write to offset `o` of this package's host-write window. -/
def hostPost (s : State) (req o : Nat) (data : List Byte) : State :=
  if s.dev.pcieUp then emit s (.hostWrite (getO s 0x1040 1 + o) data)
  else raiseMs (count s 0x1040 2 1) 0x1005 0 (leBytes 3 req ++ f32 o ++ f32 (inInterval s 0x1005))

/-- A completion entry (R348) before its PHASE. -/
def compEntry (handle token index kind status flags eyelet tick : Nat) : List Byte :=
  f64 handle ++ f32 token ++ f32 index ++ f8 kind ++ f8 status ++ f8 flags ++ [0] ++ f32 eyelet ++ f64 tick

def ringFull (s : State) (q : Nat) : Bool :=
  2 ^ getO s (0x6020 + q) 8 ≤ sub32 (getSq s q).tail (getO s (0x6020 + q) 0x0b)

/-- Bytes at offset `o` of the host-write window of the package at fabric address `base`: one WRITE for each line they touch. -/
def farPost (s : State) (base o : Nat) (b : List Byte) : State :=
  let put := fun (s : State) (line at' : Nat) (b : List Byte) =>
    (issue s false (base + line % 2 ^ 31) 2 0 328 0 0 ((2 ^ b.length - 1) * 2 ^ at') (padTo 64 (List.replicate at' 0 ++ b)) .host).1
  let r := o % 64
  let s := put s (o - r) r (b.take (64 - r))
  if r + b.length ≤ 64 then s else put s (o - r + 64) 0 (b.drop (64 - r))

/-- An entry goes to the tail of its ring, with PHASE by trip. -/
def writeComp (s : State) (q : Nat) (e : List Byte) : State :=
  let x := getSq s q
  let n := 2 ^ getO s (0x6020 + q) 8
  let ph := 1 - x.tail / n % 2
  let e := e.take 18 ++ f8 (fieldB e 18 1 + ph) ++ e.drop 19
  let o := (getO s (0x6020 + q) 7 + 32 * (x.tail % n)) % 2 ^ 31
  let node := getO s (0x6020 + q) 9
  let s := setSq s q { x with tail := (x.tail + 1) % 2 ^ 32 }
  if node = 0xffff || node = pnode s then hostPost s (reqId s 328 0) o e
  else farPost s (2 ^ 60 + node % 2048 * 2 ^ 48 + 0x00f080000000) o e

def ringBlocked (s : State) (q : Nat) : Bool := ringFull s q || s.serving.held.any (fun e => e.1 == q)

def setPaused (s : State) (e : List Byte) (v : Bool) : State :=
  let i := fieldB e 20 4
  let y := getEy s i
  if y.state = 0 then s else setEy s i { y with flags := if v then orBit y.flags 3 else clrBit y.flags 3 }

/-- A pass posts an entry, or holds it where its ring is full (R350). -/
def post (s : State) (q : Nat) (e : List Byte) : State :=
  if ringBlocked s q then
    let s := { s with serving := { s.serving with held := s.serving.held ++ [(q, e)] } }
    let s := setPaused (count s 0x6070 0x0b 1) e true
    raiseMs s 0x6004 q (f8 q ++ f16 (s.serving.held.filter (fun h => h.1 == q)).length ++ f64 s.lace.tick)
  else writeComp s q e

/-- A held entry is posted; with its FINAL an eyelet is free (R340, R350). -/
def postHeld (s : State) (q : Nat) (e : List Byte) : State :=
  let s := writeComp s q e
  if fieldB e 16 1 = 3 then setEy s (fieldB e 20 4) Eyelet.init else s

/-- Entries held from earlier passes go first, in their order (R350). -/
def drainHeld (s : State) : State :=
  let held := s.serving.held
  let s := { s with serving := { s.serving with held := [] } }
  let s := held.foldl (fun s h => setPaused s h.2 false) s
  held.foldl (fun s h =>
    if ringBlocked s h.1 then setPaused { s with serving := { s.serving with held := s.serving.held ++ [h] } } h.2 true
    else postHeld s h.1 h.2) s

/-- The hold is full: 4,096 entries, or 4 of one eyelet that holds a slot (log entry 53). -/
def holdFull (s : State) : Bool :=
  decide (4096 ≤ s.serving.held.length) ||
    s.serving.slots.any (fun x => match x.2.eyelet with
      | some i => decide (4 ≤ (s.serving.held.filter (fun h => fieldB h.2 20 4 == i)).length)
      | none => false)

/-- FLAGS of a request's completions (R348). -/
def compFlags (e : Eyelet) : Nat :=
  (if fbit e.flags 1 then 2 else 0) + (if fbit e.flags 2 then 4 else 0) + (if fbit e.flags 4 then 8 else 0)

def noToken : Nat := 0xffffffff

/-- A completion of eyelet `i`. -/
def postFor (s : State) (i kind status token index tick : Nat) : State :=
  let e := getEy s i
  post s e.queue (compEntry e.handle token index kind status (compFlags e) i tick)

/-- An item is rejected (R349, R380); where it names a request by its eyelet and HANDLE, the completion is one of that request
and carries its TOKEN_INDEX and flags (R363, R377). -/
def reject (s : State) (q op status handle eyelet : Nat) : State :=
  let e := getEy s eyelet
  let his := eyelet != noToken && e.state != 0 && e.handle == handle
  let s := post s q (compEntry handle noToken (if his then e.tokenIndex else 0) 4 status (if his then compFlags e else 0) eyelet
    s.lace.tick)
  let s := count s 0x6070 3 1
  raiseMs s 0x6001 q (f8 q ++ f8 status ++ f8 op ++ f32 (inInterval s 0x6001))

/-! ## Grammars (R373–R376) -/

def gramByte (s : State) (a n : Nat) : List Byte := (readAt s Who.serving a n).2.1

/-- A grammar header with its PINNED object, MAGIC, VERSION, fields and CRC right, and a start state in range (R373). -/
def gramOk (s : State) (a start : Nat) : Bool :=
  let h := peek s a 64
  (match objAt s a with | some (_, o) => o.cls == 0 && (!o.secure) && a + 64 ≤ o.base + o.length | none => false) &&
    fieldB h 0 4 == 0x4d415247 && fieldB h 4 2 == 1 && 1 ≤ fieldB h 8 4 && fieldB h 8 4 ≤ 1048576 &&
    fieldB h 16 8 % 16 == 0 && fieldB h 24 8 % 8 == 0 && fieldB h 32 8 % 8 == 0 && fieldB h 60 4 == crc32 (h.take 60) && start < fieldB h 8 4

/-- State `st` of the grammar at `a`: its runs, its transitions, its default, and whether it is a bare final state. -/
structure GramState where
  runs : List (Nat × Nat)
  trans : List (Nat × Nat)
  dflt : Option Nat
  stop : Bool

def gramState (s : State) (a st : Nat) : GramState :=
  let h := gramByte s a 64
  let n := fieldB h 8 4
  let d := gramByte s (a + fieldB h 16 8 + 16 * st) 16
  let w := fieldB d 12 3
  let pair := fun (o i : Nat) => let b := gramByte s (a + o + 8 * i) 8; (fieldB b 0 4, fieldB b 4 4)
  let ok := fun (x : Nat) => decide (x < n)
  { runs := (List.range (fieldB d 4 2)).map (fun i => pair (fieldB h 24 8) (fieldB d 0 4 + i))
    trans := (List.range (fieldB d 10 2)).map (fun i => let x := pair (fieldB h 32 8) (fieldB d 6 4 + i); (x.1, x.2 % 2 ^ 20))
    dflt := if fbit w 21 && ok (w % 2 ^ 20) then some (w % 2 ^ 20) else none
    stop := fbit w 20 && fieldB d 4 2 == 0 }

/-- The next state of token `v` (R375). -/
def gramNext (n : Nat) (g : GramState) (v : Nat) : Option Nat :=
  match g.trans.find? (fun x => x.1 == v) with
  | some (_, x) => if x < n then some x else none
  | none => g.dflt

def gramAllows (n : Nat) (g : GramState) (v : Nat) : Bool :=
  g.runs.any (fun r => r.1 ≤ v && v < r.1 + r.2) && (gramNext n g v).isSome

/-! ## The sampler's arithmetic (R369, R371, R372) -/

structure ParamBlock where
  bias : List (Nat × Nat)
  allow : Option (List Nat)

def paramBlock (b : List Byte) : ParamBlock :=
  let nb := fieldB b 0 2
  let na := fieldB b 4 4
  ⟨(List.range nb).map (fun i => (fieldB b (8 + 8 * i) 4, fieldB b (12 + 8 * i) 4)),
    if na = 0 then none else some ((List.range na).map (fun i => fieldB b (8 + 8 * nb + 4 * i) 4))⟩

def paramLen (b : List Byte) : Nat := 8 + 8 * fieldB b 0 2 + 4 * fieldB b 4 4

def ascending : List Nat → Bool
  | a :: b :: r => decide (a < b) && ascending (b :: r)
  | _ => true

/-- The checks of a parameter block when its item is consumed (R371): the head fits, biases are finite, tokens lie below the largest
VOCAB of the eligible groups, the allowed list ascends. -/
def paramOk (head b : List Byte) (vocab : Nat) : Bool :=
  fieldB head 0 2 ≤ 64 && fieldB head 4 4 ≤ 2048 &&
    (let p := paramBlock b
     p.bias.all (fun x => f32Fin x.2 && x.1 < vocab) &&
       (match p.allow with | none => true | some l => ascending l && l.all (fun v => v < vocab)))

/-- The quotient of two binary32 values, the divisor finite and above 0, rounded once. -/
def f32DivPos (a b : Nat) : Nat :=
  let sg := if f32Sign a then 0x80000000 else 0
  if f32Nan a then qNan else if f32Inf a then a
  else sg + rndPos (f32Int a).natAbs (f32Int b).natAbs

/-- Both zeros are one value where values are ranked. -/
def f32Below (a b : Nat) : Bool := !(f32Int a == 0 && f32Int b == 0 && f32Fin a && f32Fin b) && !f32Le b a

def listSet (l : List Nat) (i v : Nat) : List Nat := l.set i v

/-- Logits with the biases of the parameter block added in list order (step 1). -/
def biased (xs : List Nat) (bias : List (Nat × Nat)) : List Nat :=
  bias.foldl (fun xs b => listSet xs b.1 (f32Add (xs.getD b.1 0) b.2)) xs

/-- The largest of (token, value) pairs, a tie to the first (step 3). -/
def greedy : List (Nat × Nat) → Option (Nat × Nat)
  | [] => none
  | x :: r => match greedy r with
    | none => some x
    | some y => if f32Below x.2 y.2 then some y else some x

/-- Running sums of the weights (step 6). -/
def running : Nat → List Nat → List Nat
  | _, [] => []
  | c, e :: r => f32Add c e :: running (f32Add c e) r

/-- Steps 4 to 7: the token drawn from the allowed (token, logit) pairs in ascending token. -/
def drawToken (al : List (Nat × Nat)) (temp topP topK seed index : Nat) : Nat :=
  let ys := al.map (fun x => (x.1, f32DivPos x.2 temp))
  let ranked := (sortBy (fun a b => !f32Below a.2 b.2) ys).take (if topK = 0 then 1024 else topK)
  let m := (ranked.headD (0, 0)).2
  let es := ranked.map (fun x => f32ExpF (f32Sub x.2 m))
  let cs := match es with | [] => [] | e :: r => e :: running e r
  let tau := f32Mul topP (cs.getLastD 0)
  let j := (cs.findIdx? (fun c => f32Le tau c)).getD (cs.length - 1)
  let j := if topP = 0x3f800000 then cs.length - 1 else j
  let w0 := (philox (index, 1, 0, 0) (seed % 2 ^ 32) (seed / 2 ^ 32)).1
  let theta := f32Mul (rndPos (w0 / 256) (2 ^ 24)) (cs.getD j 0)
  let k := ((cs.take (j + 1)).findIdx? (fun c => f32Below theta c)).getD j
  (ranked.getD k (0, 0)).1

/-- The token of R369, none at a dead end. -/
def sampleToken (xs : List Nat) (pb : ParamBlock) (gram : Nat → Bool) (temp topP topK seed index : Nat) : Option Nat :=
  let xs := biased xs pb.bias
  let al := (xs.zipIdx.map (fun x => (x.2, x.1))).filter (fun x =>
    (match pb.allow with | none => true | some l => l.contains x.1) && gram x.1)
  if al = [] then none
  else if temp = 0 then (greedy al).map (·.1)
  else some (drawToken al temp topP topK seed index)

/-! ## Queues (R341–R347) -/

/-- A doorbell write (R344): the state, and whether it was accepted; bits 63:48 of the value are reserved. -/
def commitBell (s : State) (q v : Nat) : State × Bool :=
  let x := getSq s q
  if !isManager s then (count s 0x6070 0x0d 1, false)
  else if field v 32 16 != x.epoch || 2 ^ getO s (0x6020 + q) 2 < sub32 v x.consumed then (count s 0x6070 2 1, false)
  else (setSq s q { x with commit := v % 2 ^ 32 }, true)

/-- A flush raises the epoch; words below the commit index keep the epoch under which they were committed (R346). -/
def SubQ.flush (x : SubQ) : SubQ :=
  let new := x.commit != x.consumed && (x.marks.getLast?.map (·.1)) != some x.commit
  { x with epoch := (x.epoch + 1) % 65536, marks := if new then x.marks ++ [(x.commit, x.epoch)] else x.marks }

/-- The epoch that the item at the consumed index must carry (R345, R346). -/
def SubQ.itemEpoch (x : SubQ) : Nat := (x.marks.head?.map (·.2)).getD x.epoch

/-- `w` words are consumed; a flush whose words are all consumed is over. -/
def SubQ.take (x : SubQ) (w : Nat) : SubQ :=
  let c := (x.consumed + w) % 2 ^ 32
  { x with consumed := c, marks := x.marks.dropWhile (fun m => sub32 c m.1 < 2 ^ 31) }

/-- A write of subindex 0x05 (R346). -/
def wFlush (s : State) (q v : Nat) : WRes :=
  if v != 1 then .error 0x0302 else .ok (setSq s q (getSq s q).flush)

/-- A write of object 0x6030.01 (R364): the next pass takes the cancel. -/
def wCancel (s : State) (i : Nat) : WRes :=
  if (getEy s i).state = 0 then .error 0x0302
  else .ok { s with serving := { s.serving with cancels := s.serving.cancels ++ [i] } }

/-- A request is marked ending with a status (R364); one that ends already stays as it is. -/
def cancelReq (s : State) (i status : Nat) : State :=
  let e := getEy s i
  if e.state != 1 && e.state != 2 then s
  else
    let s := count (setEy s i { e with state := 3, endStatus := status }) 0x6070 8 1
    match e.key with
    | none => s
    | some k => setSs s k { getSs s k with ended := true, cancelAt := s.lace.tick + 1 }

/-- Tenants with a slot or a queued request. -/
def tenantActive (s : State) (t : Nat) : Bool :=
  s.serving.eyelets.any (fun e => e.2.tenant == t && (e.2.state == 1 || fbit e.2.flags 5))

/-- VMIN of R358. -/
def vmin (s : State) : Nat :=
  let vs := (s.serving.eyelets.filter (fun e => e.2.state == 1 || fbit e.2.flags 5)).map (fun e => (getTen s e.2.tenant).vt)
  match vs with
  | [] => 0
  | v :: r => r.foldl min v

/-- The lowest-numbered free eyelet (R340). -/
def freeEyF : Nat → SMap Eyelet → Nat → Nat
  | 0, _, i => i
  | _ + 1, [], i => i
  | n + 1, (k, _) :: r, i => if k = i then freeEyF n r (i + 1) else i

def freeEyelet (s : State) : Nat := freeEyF (s.serving.eyelets.length + 1) s.serving.eyelets 0

/-- Fields of a SUBMIT item in their ranges (R339, R342). -/
def submitFields (it : List Byte) : Bool :=
  let temp := fieldB it 64 4
  let topP := fieldB it 68 4
  fieldB it 32 4 != 0 && fieldB it 36 4 != 0 && (temp == 0 || (0x3b800000 ≤ temp && temp ≤ 0x47800000)) &&
    0 < topP && topP ≤ 0x3f800000 && fieldB it 72 2 ≤ 1024

def doSubmit (s : State) (q : Nat) (it : List Byte) : State :=
  let h := fieldB it 8 8
  let no := fun (s : State) (st : Nat) => reject s q 1 st h noToken
  let p := fieldB it 55 1
  let ok := eligible s p (fieldB it 32 4 + fieldB it 36 4)
  if !submitFields it then no s 9
  else if ok = [] then no s 0x0c
  else
    let vocab := ok.foldl (fun v x => max v x.2.vocab) 0
    let pa := fieldB it 80 8
    let (s, head, _) := if pa = 0 then (s, [], false, none) else readAt s Who.serving pa 8
    let n := min (paramLen head) 8712
    let (s, blk, _) := if pa = 0 then (s, [], false, none) else readAt s Who.serving pa n
    if pa != 0 && !paramOk head blk vocab then no s 9
    else if fieldB it 88 8 != 0 && !gramOk s (fieldB it 88 8) (fieldB it 96 4) then no s 9
    else if getO s 0x6000 2 ≤ s.serving.eyelets.length then no s 8
    else
      let t := fieldB it 52 2
      let s := if tenantActive s t then s else setTen s t { getTen s t with vt := max (getTen s t).vt (vmin s) }
      let i := freeEyelet s
      let e : Eyelet := { Eyelet.init with
        handle := h, seed := fieldB it 16 8, promptAddr := fieldB it 24 8, paramAddr := pa, grammarAddr := fieldB it 88 8,
        promptLen := fieldB it 32 4, maxTokens := fieldB it 36 4, stopToken := fieldB it 40 4, temp := fieldB it 64 4,
        topP := fieldB it 68 4, topK := fieldB it 72 2, tenant := t, prio := fieldB it 54 1, state := 1,
        flags := fieldB it 56 1, queue := q, partition := p, gstate := fieldB it 96 4 % 2 ^ 20, ft := fieldB it 44 4,
        bt := fieldB it 48 4, commitTick := s.lace.tick, commitSeq := s.serving.commitSeq % 2 ^ 32 }
      let s := setEy s i e
      let s := if e.ft = 0 then s
        else { s with serving := { s.serving with deads := s.serving.deads ++ [(e.commitTick + e.ft, i, 0)] } }
      postFor s i 1 0 noToken 0 s.lace.tick

/-! ## Rewinds (R377, R378, 16 R535) -/

/-- The state after token `k − 1` of a slot's request; `k` = 0 is its start. -/
def histAt (x : ServSlot) (k : Nat) : Hist := (x.hist.find? (fun h => h.index == k)).getD ⟨0, k, 0, 0⟩

/-- The deadline of token `k` counts again where it is not yet due (log entry 54). -/
def reDead (s : State) (i k : Nat) (prev : Hist) : State :=
  let e := getEy s i
  let due := if k = 0 then e.commitTick + e.ft else prev.tick + e.bt
  let keep := s.serving.deads.filter (fun d => !(d.2.1 == i && k ≤ d.2.2))
  let old := s.serving.deads.filter (fun d => d.2.1 == i && d.2.2 == k)
  let on := (if k = 0 then e.ft else e.bt) != 0 && decide (s.lace.tick ≤ due)
  { s with serving := { s.serving with deads := keep ++ (if on then [(due, i, k)] else old) } }

/-- A request goes back to token index `k` (R377 steps 2 to 6, R535 steps 2 to 5): the entry posted in step 5 comes before step 6
sets REWOUND. -/
def goBack (s : State) (key i k : Nat) (discard : Bool) (replay : Nat) : State :=
  let x := getSs s key
  let h := histAt x k
  let e := getEy s i
  let s := setEy s i { e with
    tokenIndex := k, gstate := h.gstate, pos := if k = 0 then 0 else e.promptLen + k - 1, lastSample := h.tick }
  let rs := s.serving.results.filter (fun r => !(r.slot == key && k ≤ r.index))
  let s := setSs s key { x with
    lastTok := h.token, fed := k == 0, discard := discard, replay := replay,
    ended := rs.any (fun r => r.slot == key && r.status != 0),
    awaits := if discard then x.awaits else none, hist := x.hist.filter (fun y => y.index ≤ k) }
  let s := { s with serving := { s.serving with results := rs } }
  let s := postFor (reDead s i k h) i 5 0 noToken k s.lace.tick
  setEy s i { getEy s i with flags := orBit (getEy s i).flags 4 }

def hasReplay (s : State) (p g : Nat) : Bool :=
  match activeImage s p with
  | some im => im.lacePts.any (fun e => ptType e == 7 && ptArg e == g)
  | none => false

/-- A REWIND item (R377, R378). -/
def doRewind (s : State) (q i k : Nat) : State :=
  let e := getEy s i
  let no := reject s q 4 0x0a e.handle i
  match e.key with
  | none => no
  | some key =>
    if e.state != 2 || k = 0 || k + 1 < e.tokenIndex || e.tokenIndex < k || e.pos < e.promptLen ||
        !hasReplay s e.partition (e.slot / slotsPerOf s e.partition) then no
    else
      let x := getSs s key
      goBack (count s 0x6070 0x0c 1) key i k (x.awaits.isSome || x.busy) (s.lace.tick + 1)

/-! ## Items (R341–R345) -/

def zeros (b : List Byte) (o n : Nat) : Bool := (sub b o n).all (fun x => x == 0)

/-- Words of an item by its OP; an item without a known OP is taken as one word (log entry 52). -/
def itemWords (op : Nat) : Nat := if op = 1 then 2 else 1

/-- OP, NW, EPOCH and reserved fields of an item are right (R341–R343, R345). -/
def itemOk (it : List Byte) (epoch : Nat) : Bool :=
  let op := fieldB it 0 1
  op ≤ 4 && fieldB it 1 1 == itemWords op && fieldB it 2 2 == epoch && zeros it 4 4 &&
    (match op with
     | 0 => true
     | 1 => fieldB it 52 2 < 4096 && fieldB it 54 1 < 16 && fieldB it 55 1 < 8 && fieldB it 56 1 < 2 && zeros it 57 7 &&
        zeros it 74 6 && zeros it 100 28
     | 2 => zeros it 12 4 && zeros it 24 40
     | 3 => zeros it 12 4 && fieldB it 24 1 < 16 && zeros it 25 39
     | _ => zeros it 12 4 && zeros it 24 4 && zeros it 32 32)

/-- The item at the head of a queue that this pass may consume: its bytes and words, and whether it lies within the ring. -/
def headItem (s : State) (q : Nat) : Option (List Byte × Nat × Bool) :=
  let o := 0x6020 + q
  if getO s o 0x0c != 1 || (holdFull s && ringBlocked s q) then none
  else
    let x := getSq s q
    let size := 2 ^ getO s o 2
    let avail := sub32 x.commit x.consumed
    let pos := x.consumed % size
    if avail = 0 then none
    else
      let w := peek s (getO s o 1 + 64 * pos) 64
      let n := itemWords (fieldB w 0 1)
      let fits := pos + n ≤ size
      let n := if fits then n else 1
      if avail < n then none else some (w ++ (if n = 2 then peek s (getO s o 1 + 64 * pos + 64) 64 else []), n, fits)

/-- A consumed item acts (R342, R343, R345, R360, R364, R377); COMMIT_SEQ counts the submit items consumed, this one among
them (log entry 23). -/
def runItem (s : State) (q epoch : Nat) (it : List Byte) (fits : Bool) : State :=
  let op := fieldB it 0 1
  let i := fieldB it 8 4
  let h := fieldB it 16 8
  let s := if op = 1 then { s with serving := { s.serving with commitSeq := s.serving.commitSeq + 1 } } else s
  if !fits || !itemOk it epoch then
    if op = 1 then reject s q op 0x0b (fieldB it 8 8) noToken
    else if 2 ≤ op && op ≤ 4 then reject s q op 0x0b h i
    else reject s q op 0x0b 0 noToken
  else if op = 0 then s
  else if op = 1 then doSubmit s q it
  else
    let e := getEy s i
    if e.state = 0 || e.handle != h then reject s q op 0x0a h i
    else if op = 2 then cancelReq s i 6
    else if op = 3 then setEy s i { e with prio := fieldB it 24 1 }
    else doRewind s q i (fieldB it 28 4)

/-- Items of one pass, one at a time from each queue in turn (R347). -/
def consume : Nat → State → State
  | 0, s => s
  | n + 1, s =>
    let order := (List.range 64).map (fun i => (s.serving.nextQueue + i) % 64)
    match order.findSome? (fun q => (headItem s q).map (fun x => (q, x))) with
    | none => s
    | some (q, it, w, fits) =>
      let x := getSq s q
      let s := setSq s q (x.take w)
      let s := count { s with serving := { s.serving with nextQueue := (q + 1) % 64 } } 0x6070 1 1
      consume n (runItem s q x.itemEpoch it fits)

/-! ## The other steps of the pass (R351) -/

/-- Step 1: a sampler result is posted. -/
def applyResult (s : State) (r : SampleRes) : State :=
  let s := match r.token with
    | some v => postFor s r.eyelet 2 0 v r.index r.tick
    | none => s
  let e := getEy s r.eyelet
  if r.status != 0 && e.state = 2 then setEy s r.eyelet { e with state := 3, endStatus := r.status } else s

def applyResults (s : State) : State :=
  let t := s.lace.tick
  let now := s.serving.results.filter (fun r => r.doneTick < t)
  let s := { s with serving := { s.serving with results := s.serving.results.filter (fun r => !(r.doneTick < t)) } }
  now.foldl applyResult s

/-- Step 3: a deadline that nothing met in time (R362, R363). -/
def missDead (s : State) (d : Nat × Nat × Nat) : State :=
  let (due, i, tok) := d
  let e := getEy s i
  let s := { s with serving := { s.serving with deads := s.serving.deads.filter (fun x => x != d) } }
  if e.state != 1 && e.state != 2 then s
  else
    let first := tok == 0
    let s := setEy s i { e with flags := orBit e.flags (if first then 1 else 2) }
    let s := count s 0x6070 (if first then 6 else 7) 1
    let s := raiseMs s 0x6002 0 (f32 i ++ f64 e.handle ++ f8 (if first then 1 else 2) ++ f64 due)
    if fbit e.flags 0 then cancelReq s i 7 else s

def deadBefore (a b : Nat × Nat × Nat) : Bool := decide (a.1 < b.1) || (a.1 == b.1 && decide (a.2.1 ≤ b.2.1))

def checkDeads (s : State) : State :=
  let due := sortBy deadBefore (s.serving.deads.filter (fun d => d.1 + 1 ≤ s.lace.tick))
  (due.take (getO s 0x6011 4)).foldl missDead s

/-- The FINAL of eyelet `i` waits in the hold. -/
def finalHeld (s : State) (i : Nat) : Bool :=
  s.serving.held.any (fun h => fieldB h.2 16 1 == 3 && fieldB h.2 20 4 == i)

/-- FINAL is posted and the eyelet is free; where the ring has no room, FINAL waits in the hold and the eyelet, which no longer has
a slot, with it (R340, R350). -/
def finalReq (s : State) (i : Nat) : State :=
  let e := getEy s i
  let s := { s with serving := { s.serving with deads := s.serving.deads.filter (fun d => d.2.1 != i) } }
  let s := postFor s i 3 e.endStatus noToken e.tokenIndex s.lace.tick
  setEy s i (if finalHeld s i then { getEy s i with flags := clrBit (getEy s i).flags 5 } else Eyelet.init)

/-- Step 4: a request that ends is posted FINAL, its slot and eyelet are freed, once its last tokens are posted (R364, R365). -/
def endReq (s : State) (i : Nat) : State :=
  let e := getEy s i
  if e.state != 3 || finalHeld s i then s
  else
    match e.key with
    | none => finalReq s i
    | some k =>
      let x := getSs s k
      if x.busy || s.serving.results.any (fun r => r.slot == k) || x.cancelAt = s.lace.tick + 1 then s
      else
        let s := finalReq s i
        setSs (sendMask s (s.lace.tick + horizon s) e.slot false e.partition) k ServSlot.init

def endReqs (s : State) : State := (s.serving.eyelets.map (·.1)).foldl endReq s

/-- The charge of a request (R357). -/
def chargeOf (share prio : Nat) : Nat := let w := share * (prio + 1); if w = 0 then 2 ^ 36 else 2 ^ 36 / w

def addVt (s : State) (t n : Nat) : State := setTen s t { getTen s t with vt := ((getTen s t).vt + n) % 2 ^ 64 }

/-- Step 5: held slots are charged to their tenants, and engine time with them (R358, 12 R429). -/
def chargeSlot (s : State) (y : Nat × ServSlot) : State :=
  match y.2.eyelet with
  | none => s
  | some i =>
    let e := getEy s i
    let s := addVt s e.tenant (chargeOf (getTen s e.tenant).share y.2.prio)
    setSs s y.1 { y.2 with prio := e.prio }

/-- Engine time of the slot-holding requests of a partition (12 R429). -/
def chargePart (s : State) (p : Nat) : State :=
  match activeImage s p with
  | none => s
  | some im =>
    let ep := getO s (0xa000 + p) 0x34
    let c := ep / max 1 (im.groups * im.slotsPer)
    let hold := s.serving.slots.filterMap (fun y => match y.2.eyelet with
      | some i => if y.1 / 65536 = p then some (getEy s i).tenant else none
      | none => none)
    let s := hold.foldl (fun s t => setTen s t { getTen s t with engine := min (2 ^ 64 - 1) ((getTen s t).engine + c) }) s
    count s (0xa000 + p) 0x35 (ep - c * hold.length)

def chargeAll (s : State) : State := (List.range 8).foldl chargePart (s.serving.slots.foldl chargeSlot s)

/-- The lowest-numbered free appliance slot a request may take (R359). -/
def freeSlotFor (s : State) (e : Eyelet) : Option Nat :=
  let n := slotsPerOf s e.partition
  (eligible s e.partition (e.promptLen + e.maxTokens)).findSome? (fun g =>
    ((List.range n).map (fun i => g.1 * n + i)).find? (fun a => (getSs s (slotKey e.partition a)).eyelet.isNone))

/-- The key by which admission ranks a request (R359): urgency class, slack or VT, priority, COMMIT_SEQ. -/
def admitKey (s : State) (e : Eyelet) : Int × Int × Int × Int :=
  let seq : Int := (e.commitSeq + (2 ^ 32 - 1) - s.serving.commitSeq % 2 ^ 32) % 2 ^ 32
  let slack : Int := if e.ft = 0 then 2 ^ 63 else Int.ofNat (e.commitTick + e.ft) - Int.ofNat s.lace.tick
  if slack ≤ signed 32 (getO s 0x6011 3) then (0, slack, 0, seq)
  else (1, Int.ofNat (getTen s e.tenant).vt, 0 - Int.ofNat e.prio, seq)

def keyBelow (a b : Int × Int × Int × Int) : Bool :=
  if a.1 != b.1 then decide (a.1 < b.1)
  else if a.2.1 != b.2.1 then decide (a.2.1 < b.2.1)
  else if a.2.2.1 != b.2.2.1 then decide (a.2.2.1 < b.2.2.1)
  else decide (a.2.2.2 < b.2.2.2)

/-- The candidate that admission takes next, with its slot. -/
def bestReq (s : State) : Option (Nat × Nat) :=
  let cand := s.serving.eyelets.filterMap (fun e =>
    if e.2.state = 1 && (getTen s e.2.tenant).share != 0 then (freeSlotFor s e.2).map (fun a => (admitKey s e.2, e.1, a)) else none)
  match cand with
  | [] => none
  | c :: r => some ((r.foldl (fun b x => if keyBelow x.1 b.1 then x else b) c).2)

/-- A request takes a slot (R356, R359, R371). -/
def admitReq (s : State) (i a : Nat) : State :=
  let e := getEy s i
  let at' := s.lace.tick + horizon s
  let s := sendMask s at' a true e.partition
  let s := addVt s e.tenant (chargeOf (getTen s e.tenant).share e.prio)
  let s := setEy s i { e with state := 2, slot := a, flags := orBit e.flags 5, admitTick := at' }
  let s := setSs s (slotKey e.partition a) { ServSlot.init with
    eyelet := some i, prio := e.prio, hist := [⟨0, 0, e.gstate, 0⟩] }
  let s := if e.paramAddr = 0 then s
    else
      let b := peek s e.paramAddr 8
      let (s, blk, _) := readAt s Who.serving e.paramAddr (min 9216 (paramLen b))
      pkgPut s (getO s 0x6000 4 + a * 9216) blk
  count s 0x6070 4 1

def admitAll : Nat → State → State
  | 0, s => s
  | n + 1, s => match bestReq s with
    | none => s
    | some (i, a) => admitAll n (admitReq s i a)

/-! ### The mirror (R336) -/

/-- Fabric address of a byte of the standby's package. -/
def mirrorAddr (s : State) (a : Nat) : Nat := 2 ^ 60 + getO s 0x6001 4 % 2048 * 2 ^ 48 + a

def mirrorPage : Nat := 0x00f005000000

/-- A slot's state as the mirror carries it (log entry 49): eyelet, last token, the TOKEN_INDEX of its latest state. -/
def slotLine (k : Nat) (x : ServSlot) : List Byte :=
  padTo 64 (f32 k ++ f32 (x.eyelet.getD noToken) ++ f32 x.lastTok ++ f32 (x.hist.headD ⟨0, 0, 0, 0⟩).index)

/-- A state of a slot's history as the mirror carries it (log entry 49). -/
def histLine (k : Nat) (h : Hist) : List Byte := padTo 64 (f32 k ++ f32 h.index ++ f64 h.tick ++ f32 h.gstate ++ f32 h.token)

/-- The mirror writes of a slot that changed: its state, and the states of its history that are new, oldest first. -/
def slotWrites (k : Nat) (old x : ServSlot) : List (Nat × List Byte) :=
  (mirrorPage + 0x440, slotLine k x) ::
    ((x.hist.filter (fun h => !(old.eyelet == x.eyelet && old.hist.contains h))).reverse.map
      (fun h => (mirrorPage + 0x4c0, histLine k h)))

def tenantLine (t : Nat) (x : Tenant) : List Byte := padTo 64 (f32 t ++ f32 x.share ++ f64 x.vt ++ f64 x.engine)

def sendMirror (s : State) (w : Nat × List Byte) : State :=
  (issue s false (mirrorAddr s w.1) 2 0 328 0 0 (2 ^ 64 - 1) (padTo 64 w.2) .mirror).1

/-- The first pass whose writes are not complete sends them. -/
def startMirror (s : State) : State :=
  match s.serving.mirror with
  | [] => s
  | (t, ws) :: _ =>
    if ws = [] then sendMirror { s with serving := { s.serving with fence := true } } (mirrorPage + 0x400, f64 t)
    else ws.foldl sendMirror { s with serving := { s.serving with fence := false } }

def isMirror : Sink → Bool
  | .mirror => true
  | _ => false

/-- A mirror write is answered: once none is outstanding the fence lets the tick's write go, and after it the next pass. -/
def mirrorStep (s : State) : State :=
  if s.fab.reqs.any (fun e => isMirror e.2.sink) || s.fab.stalled.any (fun e => isMirror e.1) then s
  else match s.serving.mirror with
    | [] => s
    | (t, _) :: r =>
      if s.serving.fence then startMirror { s with serving := { s.serving with mirror := r, fence := false, mirrorTick := t } }
      else sendMirror { s with serving := { s.serving with fence := true } } (mirrorPage + 0x400, f64 t)

/-- Eyelets that the table in DRAM does not show as they are: those that changed since the pass before, by it or by the sampler
results that it applies. -/
def staleEyelets (s : State) (before : SMap Eyelet) : List Nat :=
  ((before.map (·.1)) ++ (s.serving.eyelets.map (·.1)).filter (fun i => (mfind before i).isNone)).filter
    (fun i => peek s (eyAddr s i) 128 != (getEy s i).bytes)

def changedKeys {α : Type} [DecidableEq α] (d : α) (a b : SMap α) : List Nat :=
  ((a.map (·.1)) ++ (b.map (·.1)).filter (fun k => (mfind a k).isNone)).filter (fun k => mget d a k != mget d b k)

/-- Step 7 and the end of the pass: the table, the mirror, and what the points of the next tick see. -/
def endPass (s old : State) : State :=
  let stale := staleEyelets s old.serving.eyelets
  let s := stale.foldl (fun s i => pkgPut s (eyAddr s i) (getEy s i).bytes) s
  let view := s.serving.slots.filterMap (fun y => match y.2.eyelet with
    | some i => some (y.1, (⟨i, y.2.ended, fbit (getEy s i).flags 3, (getEy s i).admitTick⟩ : SlotView))
    | none => none)
  let s := { s with serving := { s.serving with
    viewOld := old.serving.view
    view := view
    passTick := s.lace.tick + 1
    passSlots := s.serving.slots
    passTens := s.serving.tenants } }
  if getO s 0x6001 4 = 0xffff then s
  else
    let ws := stale.flatMap (fun i => let b := (getEy s i).bytes; [(eyAddr s i, b.take 64), (eyAddr s i + 64, b.drop 64)]) ++
      (changedKeys ServSlot.init old.serving.passSlots s.serving.slots).flatMap
        (fun k => slotWrites k (mget ServSlot.init old.serving.passSlots k) (getSs s k)) ++
      (changedKeys Tenant.init old.serving.passTens s.serving.tenants).map (fun t => (mirrorPage + 0x480, tenantLine t (getTen s t)))
    let idle := s.serving.mirror = []
    let s := if idle then s
      else raise s 0x6007 (f16 (getO s 0x6001 4) ++ f64 s.lace.tick ++ f64 s.serving.mirrorTick)
    let s := { s with serving := { s.serving with mirror := s.serving.mirror ++ [(s.lace.tick, ws)] } }
    if idle then startMirror s else s

/-- The pass of a tick (R351). -/
def passOf (s : State) : State :=
  let old := s
  let s := applyResults (drainHeld s)
  let cs := s.serving.cancels
  let s := cs.foldl (fun s i => cancelReq s i 6) { s with serving := { s.serving with cancels := [] } }
  let s := chargeAll (endReqs (checkDeads (consume (getO s 0x6011 1) s)))
  let s := if s.dev.mode = .draining then s else admitAll (getO s 0x6011 2) s
  endPass s old

/-- TICK_PASS: once in each tick, at its phase 0, on the active manager while its package runs. -/
def execTickPass (s : State) : Out :=
  if isManager s && inRun s && laceRuns s && s.lace.phase = 0 && s.serving.passTick ≤ s.lace.tick then .next (passOf s) else .next s

/-! ## Points (R352, R354, R355, R367, R377) -/

/-- What a point of this tick sees (R352). -/
def viewNow (s : State) : SMap SlotView := if s.serving.passTick = s.lace.tick + 1 then s.serving.viewOld else s.serving.view

/-- The point `ix` of a partition's last, where its cluster stands at it for the first time in the tick (log entry 55). -/
def pointGo (s : State) (p ix ty : Nat) : State × Option (Nat × Image × Nat) :=
  match activeImage s p with
  | none => (s, none)
  | some im =>
    match im.lacePts[ix]? with
    | none => (s, none)
    | some e =>
      if ptType e != ty || !(getPart s p).runs || !isManager s || s.serving.points.contains (p, ix) then (s, none)
      else
        let at' := im.clusterMap.find? (fun l => ptNames e l && clusterGoes s l && periodTick s p im == ptPtick e &&
          schedCyc s l == ptCycle e)
        match at' with
        | none => (s, none)
        | some l =>
          match atCycle s l (ptPtick e) (ptCycle e) with
          | (s, some _) =>
            ({ s with serving := { s.serving with points := s.serving.points ++ [(p, ix)] } }, some (l, im, ptArg e))
          | (s, none) => (s, none)

/-- COUNT and tokens of a slot's feed (R354). A cancel that the pass of this tick took acts from the next tick (R364). -/
def feedOf (s : State) (k chunk : Nat) : Option (Nat × Nat × Bool) :=
  match mfind (viewNow s) k with
  | none => none
  | some v =>
    let x := getSs s k
    let e := getEy s v.eyelet
    if e.state = 0 || v.ended || v.paused || s.lace.tick ≤ v.admitTick || x.eyelet != some v.eyelet ||
        (x.ended && x.cancelAt != s.lace.tick + 1) ||
        x.awaits.isSome || x.busy || x.replay != 0 then none
    else if e.pos < e.promptLen then
      let n := min chunk (e.promptLen - e.pos)
      some (v.eyelet, n, true)
    else if x.fed then none
    else some (v.eyelet, 1, false)

/-- The feed record of one slot, and what it changes. -/
def feedSlot (l : Nat) (x : SampleEnt) (p a i n0 : Nat) (s : State) : State :=
  let k := slotKey p a
  let size := 32 * ceilDiv (8 + 4 * x.chunk) 32
  let put := fun (s : State) (b : List Byte) => spadPut s l x.core (x.feed + i * size) (padTo size b)
  match feedOf s k x.chunk with
  | none =>
    match (getSs s k).eyelet with
    | some i => put s (f32 (getEy s i).pos)
    | none => put s ((List.range 4).map (fun j => Config.freeByte n0 (4 * i + j)))
  | some (y, n, prompt) =>
    let e := getEy s y
    let (s, toks) := if prompt then
        let (s, b, _) := readAt s Who.serving (e.promptAddr + 4 * e.pos) (4 * n)
        (s, b)
      else (s, f32 (getSs s k).lastTok)
    let s := put s (f32 e.pos ++ f16 n ++ [0, 0] ++ toks)
    let s := setEy s y { e with pos := (e.pos + n) % 2 ^ 32 }
    let z := getSs s k
    let last := !prompt || decide (e.promptLen ≤ e.pos + n)
    setSs s k { z with fed := true, awaits := if last then some 0 else none }

/-- ADMIT_POINT: the feed records of a slot group (R354, R355). -/
def execAdmitPoint (part : Part) (ix : Nat) (s : State) : Out :=
  match pointGo s part ix 2 with
  | (s, none) => .next s
  | (s, some (l, im, g)) =>
    let x := sampleEnt s part g
    if !x.valid then .next s
    else
      let (n0, s) := fresh s
      .next ((List.range im.slotsPer).foldl (fun s i => feedSlot l x part (g * im.slotsPer + i) i n0 s) s)

/-- A SAMPLE point meets a slot (R364, R367): a step counts its points, and is taken at the DEPTH-th. -/
def meetSlot (depth : Nat) (r : State × List Nat) (k : Nat) : State × List Nat :=
  let (s, got) := r
  match mfind (viewNow s) k with
  | none => r
  | some v =>
    let x := getSs s k
    if v.ended || x.eyelet != some v.eyelet then r
    else match x.awaits with
      | none => r
      | some n =>
        if n + 1 < depth then (setSs s k { x with awaits := some (n + 1) }, got)
        else
          let s := setSs s k { x with awaits := none, busy := true }
          let e := getEy s v.eyelet
          if x.discard then (s, got ++ [k])
          else
            let t := s.lace.tick
            let met := s.serving.deads.filter (fun d => !(d.2.1 == v.eyelet && d.2.2 == e.tokenIndex && t ≤ d.1))
            let next := if e.bt = 0 || e.maxTokens ≤ e.tokenIndex + 1 then [] else [(t + e.bt, v.eyelet, e.tokenIndex + 1)]
            ({ s with serving := { s.serving with deads := met ++ next } }, got ++ [k])

/-- Bytes of a row of P16 groups of `v` elements (R367). -/
def logitRow (v : Nat) : Nat := 260 * ceilDiv v 128

/-- D_s of R367. -/
def samplerTime (slots vocab : Nat) : Nat := 64 + slots * (ceilDiv (logitRow vocab) 192 + 256)

/-- SAMPLE_POINT (R367, R368). -/
def execSamplePoint (part : Part) (ix : Nat) (s : State) : Out :=
  match pointGo s part ix 3 with
  | (s, none) => .next s
  | (s, some (_, im, g)) =>
    let x := sampleEnt s part g
    if !x.valid then .next s
    else
      let keys := (List.range im.slotsPer).map (fun i => slotKey part (g * im.slotsPer + i))
      let (s, got) := keys.foldl (meetSlot x.depth) (s, [])
      let late := s.serving.samplerBusy - s.cyc
      let s := if late = 0 then s
        else raise (count s 0x6070 0x0a 1) 0x6005 (f8 g ++ f8 part ++ f64 s.lace.tick ++ f32 late)
      let fin := max s.cyc s.serving.samplerBusy + samplerTime im.slotsPer x.vocab
      let jobs := if got = [] then s.serving.jobs else s.serving.jobs ++ [⟨part, g, s.lace.tick, fin, got⟩]
      .next { s with serving := { s.serving with samplerBusy := fin, jobs := jobs } }

/-- REPLAY_POINT: the slots of the group rewound in an earlier tick may be fed again (R377). -/
def execReplayPoint (part : Part) (ix : Nat) (s : State) : Out :=
  match pointGo s part ix 7 with
  | (s, none) => .next s
  | (s, some (_, im, g)) =>
    .next { s with serving := { s.serving with slots := s.serving.slots.map (fun y =>
      if y.1 / 65536 = part.val && y.1 % 65536 / max 1 im.slotsPer = g && y.2.replay ≤ s.lace.tick then (y.1, { y.2 with replay := 0 })
      else y) } }

/-! ## Sampler results (R369, R370, R376) -/

/-- End status of a request after a token (R370). -/
def endAfter (e : Eyelet) (v maxPos : Nat) (bare : Bool) : Nat :=
  if v = e.stopToken then 1 else if e.tokenIndex = e.maxTokens then 2 else if e.pos = maxPos then 3 else if bare then 4 else 0

/-- The token of a slot is found and its state updated. -/
def sampleSlot (s : State) (j : SampleJob) (k : Nat) : State × Nat :=
  let x := getSs s k
  let s := setSs s k { x with busy := false, discard := false }
  match x.eyelet with
  | none => (s, 0)
  | some i =>
    if x.discard then (s, 0)
    else
      let ent := sampleEnt s j.partition j.group
      let e := getEy s i
      let row := k % 65536 % slotsPerOf s j.partition
      let (s, raw, _) := readAt s Who.serving (ent.logit + row * ent.stride) (logitRow ent.vocab)
      let (xs, bad) := p16Row raw ((ent.vocab + 31) / 32 * 32)
      let pb := if e.paramAddr = 0 then ⟨[], none⟩ else paramBlock (peek s (getO s 0x6000 4 + e.slot * 9216) 9216)
      let nst := fieldB (gramByte s e.grammarAddr 64) 8 4
      let g := gramState s e.grammarAddr e.gstate
      let allow := fun v => if e.grammarAddr = 0 then true else gramAllows nst g v
      let res := fun (tok : Option Nat) (st : Nat) (s : State) =>
        let r : SampleRes := ⟨k, i, tok, e.tokenIndex, j.tick, st, s.lace.tick⟩
        { s with serving := { s.serving with results := s.serving.results ++ [r] } }
      match sampleToken (xs.take ent.vocab) pb allow e.temp e.topP e.topK e.seed e.tokenIndex with
      | none =>
        let s := raiseMs (count s 0x6070 9 1) 0x6003 0 (f32 i ++ f64 e.handle ++ f32 e.gstate ++ f32 e.tokenIndex)
        (res none 5 (setSs s k { getSs s k with ended := true, cancelAt := 0 }), bad)
      | some v =>
        let gs := if e.grammarAddr = 0 then e.gstate else (gramNext nst g v).getD e.gstate
        let e' := { e with tokenIndex := e.tokenIndex + 1, gstate := gs, lastSample := j.tick }
        let st := endAfter e' v ent.maxPos (e.grammarAddr != 0 && (gramState s e.grammarAddr gs).stop)
        let s := setEy (count s 0x6070 5 1) i e'
        let z := getSs s k
        let s := setSs s k { z with
          lastTok := v, fed := false, ended := z.ended || st != 0, cancelAt := if st = 0 then z.cancelAt else 0,
          hist := ⟨j.tick, e'.tokenIndex, gs, v⟩ :: z.hist }
        (res (some v) st s, bad)

/-- A slot is sampled and its blocks without a value are counted for the SAMPLE point. -/
def sampleOf (s : State) (j : SampleJob) (k : Nat) : State :=
  let r := sampleSlot s j k
  badP16 r.1 2 j.tick 0xffff j.group j.partition r.2

/-- The front job's next slot completes; its blocks without a value are counted (02 R613, R76). -/
def sampleOne (s : State) : State :=
  match s.serving.jobs with
  | [] => s
  | j :: r =>
    match j.slots with
    | [] => { s with serving := { s.serving with jobs := r } }
    | k :: ks =>
      let s := sampleOf s j k
      { s with serving := { s.serving with jobs := if ks = [] then r else { j with slots := ks } :: r } }

/-- SAMPLER_RESULT: one slot of the job whose time has come. -/
def execSamplerResult (s : State) : Out :=
  match s.serving.jobs with
  | [] => .next s
  | j :: _ => if j.endAt ≤ s.cyc then .next (sampleOne s) else .next s

/-! ## Rewinds at a switch (16 R535) -/

/-- Sampled steps of a partition below tick `v` give their tokens; later ones are dropped. -/
def settleJobs : Nat → Nat → Nat → State → State
  | 0, _, _, s => s
  | n + 1, p, v, s =>
    match s.serving.jobs.find? (fun j => j.partition == p) with
    | none => s
    | some j =>
      let rest := s.serving.jobs.filter (fun x => x != j)
      if v ≤ j.tick then settleJobs n p v { s with serving := { s.serving with jobs := rest } }
      else
        let s := { s with serving := { s.serving with jobs := [] } }
        let s := j.slots.foldl (fun s k => sampleOf s j k) s
        settleJobs n p v { s with serving := { s.serving with jobs := rest } }

/-- One slot-holding request goes back to the last token below `v`; the count of rewound requests and of restarted prefills. -/
def rewindOne (e v : Nat) (r : State × Nat × Nat) (y : Nat × ServSlot) : State × Nat × Nat :=
  let (s, n, z) := r
  match y.2.eyelet with
  | none => r
  | some i =>
    if (getEy s i).state != 2 then
      (setSs s y.1 { y.2 with awaits := none, busy := false, discard := false, replay := 0 }, n, z)
    else
      let x := y.2
      let cur := (getEy s i).tokenIndex
      let keep := x.hist.find? (fun h => h.index == 0 || h.tick < v)
      let k := match keep with
        | some h => if h.index < cur && h.tick + 64 < e then 0 else h.index
        | none => 0
      let s := setSs s y.1 { x with busy := false, awaits := none }
      (goBack (count s 0x8021 4 1) y.1 i k false 0, n + 1, z + if k = 0 then 1 else 0)

/-- R535 at switch tick `e` of partition `p`, with T_v `v`. -/
def rewindSwitch (s : State) (p e v : Nat) : State :=
  if !isManager s then s
  else
    let s := settleJobs (s.serving.jobs.length) p v s
    let keys := (s.serving.slots.filter (fun y => y.1 / 65536 = p)).map (·.1)
    let (s, n, z) := keys.foldl (fun r k => rewindOne e v r (k, getSs r.1 k)) (s, 0, 0)
    raise s 0x8005 (f8 p ++ f64 e ++ f64 v ++ f32 n ++ f32 z)

/-! ## The manager role (R334–R337) -/

/-- A write of object 0x6001.01. -/
def wManager (s : State) (v : Nat) : WRes :=
  if 3 < v then .error 0x0302
  else if v = 0 then .ok (setRole (setRole s 0 false) 1 false)
  else if !fbit (getO s 0x1010 3) 0 then .error 0x0401
  else if v = 3 then
    if !fbit (getO s 0x1010 4) 1 || !laceRuns s then .error 0x0401
    else
      let e := getO s 0x6001 2
      if e < s.lace.tick + max 8 (horizon s) then .error 0x0302
      else .ok { s with serving := { s.serving with takeover := some e } }
  else if s.dev.mode != .standby && s.dev.mode != .ready then .error 0x0401
  else .ok (setRole (setRole s 0 (v == 1)) 1 (v == 2))

/-- Eyelets of the table in DRAM: entries with a listed byte. -/
def tableEyelets (s : State) : SMap Eyelet :=
  let b := getO s 0x6000 1
  let ix := (s.mem.filter (fun c => b ≤ c.1 && c.1 < b + 128 * getO s 0x6000 2)).map (fun c => (c.1 - b) / 128)
  (ix.foldr (fun i l => if l.head? = some i then l else i :: l) []).foldl (fun m i =>
    mset Eyelet.init m i (Eyelet.ofBytes (peek s (b + 128 * i) 128))) []

/-- A slot as the mirror gave it. -/
def MSlot.toSlot (x : MSlot) : ServSlot :=
  { ServSlot.init with eyelet := some x.eyelet, lastTok := x.lastTok, hist := x.hist }

/-- The deadline that is pending for a mirrored request at mirror tick `m` (R361, R362; log entry 54). -/
def mirroredDead (m i : Nat) (e : Eyelet) : List (Nat × Nat × Nat) :=
  if e.state != 1 && e.state != 2 then []
  else if e.tokenIndex = 0 then (if e.ft = 0 || fbit e.flags 1 then [] else [(e.commitTick + e.ft, i, 0)])
  else if e.bt = 0 || e.lastSample + e.bt < m then [] else [(e.lastSample + e.bt, i, e.tokenIndex)]

/-- The state of the mirror tick is restored (R337): every step in flight is gone, each slot-holding request stands at its
mirrored TOKEN_INDEX, no completion waits and the deadlines of the mirrored requests are pending. -/
def restoreMirror (s : State) : State :=
  let eys := (tableEyelets s).map (fun y => (y.1, { y.2 with flags := clrBit y.2.flags 3 }))
  let s : State := { s with serving := { s.serving with
    eyelets := eys, jobs := [], results := [], held := [], samplerBusy := 0,
    deads := eys.flatMap (fun y => mirroredDead s.serving.mirrorTick y.1 y.2),
    slots := s.serving.mslots.map (fun y => (y.1, y.2.toSlot)) } }
  s.serving.eyelets.foldl (fun s e =>
    match e.2.key with
    | none => s
    | some k =>
      let x := getSs s k
      setSs s k { x with eyelet := some e.1, prio := e.2.prio, ended := e.2.state == 3 }) s

/-- MANAGER_TAKEOVER at phase 0 of tick E (R337). -/
def execManagerTakeover (s : State) : Out :=
  match s.serving.takeover with
  | none => .next s
  | some e =>
    if !laceRuns s || s.lace.tick != e || s.lace.phase != 0 then .next s
    else
      let m := s.serving.mirrorTick
      let s := setRole (setRole { s with serving := { s.serving with takeover := none } } 0 true) 1 false
      let s := restoreMirror s
      let held := s.serving.eyelets.filter (fun y => y.2.state == 2 && y.2.key.isSome)
      let s := held.foldl (fun s y => match y.2.key with
        | some k => goBack s k y.1 y.2.tokenIndex false 0
        | none => s) s
      .next (raise s 0x6006 (f64 e ++ f64 m ++ f32 held.length))

end Sys2Proof.Machine
end

