-- ==== Sys2Proof/Machine/Cores.lean ====
section
/-! DEFINITION. The control cores' commands (13 R433–R449): loads, stores and atomics, vendor instructions and registers, thread
control, timers, core control and the host-write window. -/
namespace Sys2Proof.Machine

/-! ## Threads -/

/-- The engine clock of a C-die stands: every bound cluster of it sleeps, and at least one is bound (17 R551). -/
def dieStopped (s : State) (d : Nat) : Bool :=
  let bound := (List.range 19).filter (fun l => physOf s (19 * d + l) != 0xff)
  bound != [] && bound.all (fun l => (getCl s (19 * d + l)).asleep)

/-- A core's clock runs. -/
def coreClocked (s : State) (c : Nat) : Bool := c ≥ 320 || !dieStopped s (c / 20)

/-- A thread that issues: started, waiting for nothing (R435). -/
def issues (s : State) (h : Hart) : Bool :=
  (getHart s h).live && (getHart s h).wait == .none && coreClocked s h.core

/-- RISC-V exception causes (R436). -/
def causeIllegal : Nat := 2
def causeLoadMisaligned : Nat := 4
def causeLoadFault : Nat := 5
def causeStoreMisaligned : Nat := 6
def causeStoreFault : Nat := 7

/-- A thread takes an exception: its cause and value; no request, no register (log entry 97). -/
def takeTrap (s : State) (h : Hart) (cause val : Nat) : State :=
  setHart s h { getHart s h with trap := some (cause, val) }

/-- A general register; x0 stays 0. -/
def setReg (s : State) (h : Hart) (rd v : Nat) : State :=
  let x := getHart s h
  if rd = 0 then s else setHart s h { x with regs := mset 0 x.regs rd (v % 2 ^ 64) }

/-- FN_FSTAT after a fabric response (R439, R442). -/
def setFstat (s : State) (h : Hart) (st : Nat) : State :=
  let x := getHart s h
  setHart s h { x with fstat := st, sticky := x.sticky || st != 0 }

/-- A loaded value of `n` bytes in a 64-bit register. -/
def extend (sgn : Bool) (n v : Nat) : Nat := if sgn then unsigned 64 (signed (8 * n) v) else v % 2 ^ (8 * n)

/-! ## Addresses (R437) -/

/-- Where an effective address leads: the core's own local RAM, a fabric address, or nowhere. -/
inductive Ea where
  | own (off : Nat)
  | fabric (a : Nat)
  | fault
  deriving DecidableEq, Repr

/-- The fabric address carries the world of the thread (log entry 89). -/
def withWorld (secure : Bool) (a : Nat) : Nat := if secure && !faWorld a then a + 2 ^ 62 else a

def effective (s : State) (h : Hart) (a : Nat) : Ea :=
  let sec := (getHart s h).secure
  if a < 2 ^ 48 then
    (match classify a with
    | .ram c o => if c = h.core then .own o else .fabric (withWorld sec (a + 2 * 2 ^ 60))
    | _ => .fabric (withWorld sec (a + 2 * 2 ^ 60)))
  else if 2 ^ 63 ≤ a && a < 2 ^ 64 then .fabric (withWorld sec (a - 2 ^ 63))
  else .fault

/-- An access to the core's own local RAM, under the world that 15 R494 gives it. -/
def ownWho (s : State) (h : Hart) : Who :=
  ⟨1, reqId s h.core h.thread, 0xffff, 0xffff, (getHart s h).secure, if h.core < 320 then h.core / 20 else 16⟩

/-! ## The data cache (R441, R322) -/

/-- Ranges whose lines the cache keeps: DRAM, stacked SRAM, object space. -/
def cacheable (a : Nat) : Bool :=
  match classify (a % 2 ^ 48) with
  | .dram | .sram _ _ | .objSpace => true
  | _ => false

def lineOf (a : Nat) : Nat := a / 64 * 64
/-- A fabric address without its WORLD. -/
def noWorld (a : Nat) : Nat := a - (if faWorld a then 2 ^ 62 else 0)

def fillLine (s : State) (c a : Nat) (l : List Byte) : State :=
  if cacheable a then setCtl s c { getCtl s c with cache := mbind (getCtl s c).cache (lineOf a) l } else s

def patch (l : List Byte) (o : Nat) (d : List Byte) : List Byte := l.take o ++ d ++ l.drop (o + d.length)

/-- A store updates the cached line where it is present. -/
def patchLine (s : State) (c a : Nat) (d : List Byte) : State :=
  let x := getCtl s c
  setCtl s c { x with cache := x.cache.map (fun e =>
    if noWorld e.1 = noWorld (lineOf a) then (e.1, patch e.2 (a % 64) d) else e) }

/-- A fabric address names this package. -/
def isLocal (s : State) (a : Nat) : Bool :=
  match faSpace a with
  | 0 => mget 0xffff s.fab.lmap (faNode a) == pnode s
  | 1 => faNode a == pnode s
  | _ => true

/-! ## Loads and stores -/

/-- A thread's request left or waits: for its response, or for a tag (R325, R326). -/
def waitFor (s old : State) (h : Hart) : State :=
  setHart s h { getHart s h with
    wait := if old.fab.stalled.length < s.fab.stalled.length then .tags else .response }

/-- A thread issues a READ, atomic or lease; a request that completes at once returns zeros. -/
def issueWait (s : State) (h : Hart) (a op size8 lease mask : Nat) (data : List Byte) (sink : Sink) (rd : Nat) : State :=
  match issue s (getHart s h).secure a op size8 h.core h.thread lease mask data sink with
  | (t, none) => waitFor t s h
  | (t, some st) => setReg (setFstat t h st) h rd 0

/-- Byte mask of `n` bytes at position `o` of a line. -/
def byteMask (o n : Nat) : Nat := (2 ^ n - 1) * 2 ^ o

/-- MMIO at the target of a fabric address. -/
def mmioAt (a : Nat) : Bool := 0x00f000000000 ≤ a % 2 ^ 48 && a % 2 ^ 48 < 0x00f100000000

def load (s : State) (h : Hart) (rd a n : Nat) (sgn : Bool) : State :=
  if a % n != 0 then takeTrap s h causeLoadMisaligned a
  else match effective s h a with
    | .fault => takeTrap s h causeLoadFault a
    | .own o =>
      let r := readAt s (ownWho s h) (ramAddr h.core o) n
      setReg r.1 h rd (extend sgn n (leNat r.2.1))
    | .fabric f =>
      match (if cacheable f then mfind (getCtl s h.core).cache (lineOf f) else none) with
      | some l => setReg s h rd (extend sgn n (fieldB l (f % 64) n))
      | none =>
        issueWait s h (lineOf f) 1 0 0 (if mmioAt f then byteMask (f % 64) n else 0) [] (.reg h rd n f sgn) rd

/-- CONTROL_CORE_LOAD. -/
def execControlCoreLoad (hart : Hart) (rd : Fin 32) (addr bytes : Nat) (sgn : Bool) (s : State) : Out :=
  if issues s hart then .next (load s hart rd addr bytes sgn) else .next s

/-- A thread's WRITE: it goes on, but at the bound of 16 or without a tag (R325, R326). It updates the cached line where it is sent
(R322). -/
def postWrite (s : State) (h : Hart) (a : Nat) (d : List Byte) : State :=
  let sec := (getHart s h).secure
  let data := padTo 64 (List.replicate (a % 64) 0 ++ d)
  let mask := byteMask (a % 64) d.length
  match fabRoute s sec (lineOf a) with
  | .done st => setFstat (issueDone s st) h st
  | .node n logical =>
    let s := patchLine s h.core a d
    let p := reqPkt s (lineOf a) 2 0 h.core h.thread 0 mask data n logical
    if !writeRoom s h.core then setHart (stall s (.posted h) p) h { getHart s h with wait := .writes }
    else
      let t := sendOrStall s (.posted h) p
      if s.fab.stalled.length < t.fab.stalled.length then setHart t h { getHart t h with wait := .tags } else t

def store (s : State) (h : Hart) (a n v : Nat) : State :=
  if a % n != 0 then takeTrap s h causeStoreMisaligned a
  else match effective s h a with
    | .fault => takeTrap s h causeStoreFault a
    | .own o => (writeAt s (ownWho s h) (ramAddr h.core o) (leBytes n v)).1
    | .fabric f => postWrite s h f (leBytes n v)

/-- CONTROL_CORE_STORE. -/
def execControlCoreStore (hart : Hart) (addr bytes data : Nat) (s : State) : Out :=
  if issues s hart then .next (store s hart addr bytes data) else .next s

/-! ## Atomics (R438) -/

/-- The fabric operation of an atomic instruction; none for those that only local RAM performs. -/
def amoCode : AmoOp → Option Nat
  | .add => some 0x10 | .or => some 0x11 | .and => some 0x12 | .min => some 0x13 | .max => some 0x14
  | .minu => some 0x15 | .maxu => some 0x16 | .swap => some 0x17
  | .xor => none | .lr => none | .sc => none

/-- What an atomic instruction other than LR and SC leaves in memory. -/
def amoResult (op : AmoOp) (w x a : Nat) : Nat :=
  match amoCode op with
  | some c => atomic c w x a
  | none => x ^^^ a

/-- LR takes the reservation of its 8-byte word. -/
def loadReserved (s : State) (h : Hart) (rd a n : Nat) : State :=
  let r := readAt s (ownWho s h) a n
  let s := setReg r.1 h rd (extend true n (leNat r.2.1))
  setHart s h { getHart s h with resv := some (a / 8 * 8) }

/-- SC stores and returns 0 while the reservation holds, else it returns 1; the reservation ends. -/
def storeCond (s : State) (h : Hart) (rd a n v : Nat) : State :=
  let held := (getHart s h).resv == some (a / 8 * 8)
  let s := setHart s h { getHart s h with resv := none }
  if held then setReg (writeAt s (ownWho s h) a (leBytes n v)).1 h rd 0 else setReg s h rd 1

/-- An atomic instruction on the core's own local RAM. -/
def localAmo (s : State) (h : Hart) (op : AmoOp) (rd a n v : Nat) : State :=
  match op with
  | .lr => loadReserved s h rd a n
  | .sc => storeCond s h rd a n v
  | _ =>
    let r := readAt s (ownWho s h) a n
    let x := leNat r.2.1
    let t := match r.2.2.2 with
      | some _ => r.1
      | none => (writeAt r.1 (ownWho s h) a (leBytes n (amoResult op (8 * n) x (v % 2 ^ (8 * n))))).1
    setReg t h rd (extend true n x)

def amo (s : State) (h : Hart) (op : AmoOp) (rd a n v : Nat) : State :=
  let lr := op == .lr
  if a % n != 0 then takeTrap s h (if lr then causeLoadMisaligned else causeStoreMisaligned) a
  else match effective s h a with
    | .fault => takeTrap s h (if lr then causeLoadFault else causeStoreFault) a
    | .own o => localAmo s h op rd (ramAddr h.core o) n v
    | .fabric f =>
      match amoCode op with
      | none => takeTrap s h (if lr then causeLoadFault else causeStoreFault) a
      | some c => issueWait s h f c (if n = 8 then 1 else 0) 0 0 (leBytes n v) (.reg h rd n 0 true) rd

/-- AMO. -/
def execAmo (hart : Hart) (op : AmoOp) (rd : Fin 32) (addr : Nat) (wide : Bool) (data : Nat) (s : State) : Out :=
  if issues s hart then .next (amo s hart op rd addr (if wide then 8 else 4) data) else .next s

/-! ## Vendor instructions (R440) -/

/-- A WRITE of a thread has no response yet. -/
def postedOut (s : State) (h : Hart) : Bool :=
  s.fab.reqs.any (fun e => e.2.sink == .posted h) || s.fab.stalled.any (fun e => e.1 == .posted h)

/-- FAB_FENCE: a thread stops until its WRITEs have their responses; its atomics had them (R321). -/
def execFabFence (hart : Hart) (s : State) : Out :=
  if issues s hart && postedOut s hart then .next (setHart s hart { getHart s hart with wait := .fence }) else .next s

/-- FAB_INV: lines of a range, or with length 0 every remote line, leave the cache (R322). -/
def fabInv (s : State) (h : Hart) (base len : Nat) : State :=
  let x := getCtl s h.core
  if len = 0 then setCtl s h.core { x with cache := x.cache.filter (fun e => isLocal s e.1) }
  else match effective s h base with
    | .fabric f =>
      let lo := noWorld f
      setCtl s h.core { x with cache := x.cache.filter (fun e => lo + len ≤ noWorld e.1 || noWorld e.1 + 64 ≤ lo) }
    | _ => s

def execFabInv (hart : Hart) (base len : Nat) (s : State) : Out :=
  if issues s hart then .next (fabInv s hart base len) else .next s

/-- A vendor atomic: an access-fault on the core's own local RAM and outside the address ranges. -/
def vendorAtomic (s : State) (h : Hart) (a n : Nat) (go : Nat → State) : State :=
  if a % n != 0 then takeTrap s h causeStoreMisaligned a
  else match effective s h a with
    | .fabric f => go f
    | _ => takeTrap s h causeStoreFault a

/-- FAB_CAS: compare value in FN_FCMP. -/
def execFabCas (hart : Hart) (rd : Fin 32) (addr : Nat) (wide : Bool) (data : Nat) (s : State) : Out :=
  let n := if wide then 8 else 4
  if issues s hart then
    .next (vendorAtomic s hart addr n (fun f => issueWait s hart f 0x18 (if wide then 1 else 0) 0 0
      (padTo 8 (leBytes n data) ++ leBytes n (getHart s hart).fcmp) (.reg hart rd n 0 true) rd))
  else .next s

/-- A lease request; a length beyond the field is one that every target refuses (log entry 99). -/
def lease (s : State) (h : Hart) (op rd a len : Nat) : State :=
  vendorAtomic s h a 8 (fun f => issueWait s h f op 1 (min len (2 ^ 32 - 1)) 0 [] (.reg h rd 8 0 false) rd)

/-- LEASE_ACQ. -/
def execLeaseAcq (hart : Hart) (rd : Fin 32) (addr len : Nat) (s : State) : Out :=
  if issues s hart then .next (lease s hart 0x20 rd addr len) else .next s
/-- LEASE_RENEW. -/
def execLeaseRenew (hart : Hart) (rd : Fin 32) (addr len : Nat) (s : State) : Out :=
  if issues s hart then .next (lease s hart 0x21 rd addr len) else .next s
/-- LEASE_REL. -/
def execLeaseRel (hart : Hart) (rd : Fin 32) (addr : Nat) (s : State) : Out :=
  if issues s hart then .next (lease s hart 0x22 rd addr 0) else .next s

/-! ## Vendor registers (R442–R445) -/

/-- An access to a machine-level vendor register: illegal in U mode (R442). -/
def csr (s : State) (h : Hart) (act : State → State) : Out :=
  if !issues s h then .next s
  else if (getHart s h).user then .next (takeTrap s h causeIllegal 0)
  else .next (act s)

/-- FN_WORLD: 0 lowers the world, 1 is refused (R443). -/
def execFnWorld (hart : Hart) (v : Nat) (s : State) : Out :=
  csr s hart (fun s =>
    if v % 2 = 1 then raise s 0x1004 (f16 hart.core ++ f8 hart.thread)
    else setHart s hart { getHart s hart with secure := false })

/-- The logical cluster that a physical cluster serves. -/
def clusterOf (s : State) (c : Nat) : Option Nat :=
  ((List.range 19).map (fun l => 19 * (c / 20) + l)).find? (fun l => physOf s l == c % 20)

/-- The 48 bytes of a descriptor in local RAM; addresses wrap at 64 KiB (log entry 90). -/
def ramDesc (s : State) (c o : Nat) : List Byte :=
  (List.range 48).flatMap (fun i => memGet s (ramAddr c ((o + i) % 65536)) 1)

/-- An unscheduled descriptor that R234, R235 or R444 refuses. -/
def badUnscheduled (s : State) (l e : Nat) (bs : List Byte) : Bool :=
  chkBad bs 47 || badAwlFields e || aPtick e != 0xffff || aLcl e != l || badComp s e

/-- A refused descriptor: a completion with poison, event 0x4005 (R444; log entry 98). -/
def refuseDesc (s : State) (c l e : Nat) : State :=
  let (n, s) := fresh s
  let s := raiseP (count s 0x4020 0x0c 1) 0x4005
    (f8 2 ++ f32 l ++ f64 (aMem e) ++ f8 (1 + (Config.freeByte n 0).toNat % 4) ++ f16 0xffff ++ f16 (aPtick e)) true
  let x := getCtl s c
  setCtl s c { x with done := min (2 ^ 32 - 1) (x.done + 1), poisoned := min 65535 (x.poisoned + 1), meip := true }

def submitDesc (s : State) (h : Hart) (o : Nat) : State :=
  match clusterOf s h.core with
  | none => s
  | some l =>
    let bs := ramDesc s h.core o
    let e := leNat bs
    let a := getAwl s l
    if badUnscheduled s l e bs then refuseDesc s h.core l e
    else if 64 ≤ a.queue.length then setHart s h { getHart s h with wait := .awlQueue e }
    else setAwl s l { a with queue := a.queue ++ [(e, h.core)] }

/-- FN_AWLSUB: illegal on a supervisor core (R444). -/
def execFnAwlsub (hart : Hart) (v : Nat) (s : State) : Out :=
  csr s hart (fun s => if 320 ≤ hart.core then takeTrap s hart causeIllegal 0 else submitDesc s hart (v % 65536))

/-- FN_AWLDONE: the counts are read and cleared. -/
def execFnAwldone (hart : Hart) (rd : Fin 32) (s : State) : Out :=
  csr s hart (fun s =>
    let x := getCtl s hart.core
    let boxes := s.relum.boxes.any (fun e => e.1 < 8 && (e.2.done || e.2.timeout) && e.2.owner.any (fun h => h.core == hart.core))
    setReg (setCtl s hart.core { x with done := 0, poisoned := 0, meip := boxes }) hart rd (x.done + x.poisoned * 2 ^ 32))

/-- FN_FSTAT: STATUS is written, STICKY cleared by 1. -/
def execFnFstat (hart : Hart) (v : Nat) (s : State) : Out :=
  csr s hart (fun s =>
    let x := getHart s hart
    setHart s hart { x with fstat := v % 256, sticky := x.sticky && !fbit v 8 })

/-- A parked thread starts at FN_TVEC in M mode, in the starter's world or with NS the non-secure one (R443, R445). -/
def startThread (s : State) (h : Hart) (v t : Nat) : State :=
  let k : Hart := ⟨h.core, t⟩
  let me := getHart s h
  if fbit v t && !(getHart s k).live then
    setHart s k { getHart s k with
      live := true, user := false, pc := me.tvec / 4 * 4, secure := me.secure && !fbit v 16 }
  else s

/-- THREAD_START: the START bits of FN_THCTL. -/
def execThreadStart (hart : Hart) (v : Nat) (s : State) : Out :=
  csr s hart (fun s => (List.range (threadsOf hart.core)).foldl (fun s t => startThread s hart v t) s)

/-- THREAD_RESET: the RESET bits of FN_THCTL; a thread's own bit is ignored. -/
def execThreadReset (hart : Hart) (v : Nat) (s : State) : Out :=
  csr s hart (fun s => (List.range (threadsOf hart.core)).foldl
    (fun s t => if fbit v (8 + t) && t != hart.thread then resetThread s hart.core t else s) s)

/-- TIMER_INTERRUPT: the thread's mtimecmp falls due on the keeper clock; WFI ends (R435, R436). -/
def execTimerInterrupt (hart : Hart) (s : State) : Out :=
  let x := getHart s hart
  if x.mtimecmp ≤ ktime s then
    .next (setHart s hart { x with mtip := true, wait := if x.wait = .wfi then .none else x.wait })
  else .next s

/-! ## Core control and the host-write window (R448, R449) -/

/-- RUN = 1 releases a bound core from reset. -/
def runCore (s : State) (c : Nat) : State :=
  if isBound s (c / 20) (c % 20) && !(getCtl s c).run then releaseCore s c else s

/-- CORE_RUN: both worlds are admitted (15 R494). -/
def execCoreRun (core : Nat) (_secure : Bool) (s : State) : Out := .next (runCore s core)
/-- CORE_RESET. -/
def execCoreReset (core : Nat) (_secure : Bool) (s : State) : Out := .next (resetCore s core)

/-- HOST_WINDOW_WRITE: both worlds are admitted (15 R494). -/
def execHostWindowWrite (req : Nat) (_secure : Bool) (off : Nat) (data : List Byte) (s : State) : Out :=
  .next (hostPost s req off data)

end Sys2Proof.Machine
end

