-- ==== Sys2Proof/Machine/Rdma.lean ====
section
/-! DEFINITION. The storage ports: Ethernet mode, queue pairs, pull descriptors and the RoCEv2 requester (08 R291–R300). Frame
layouts are those of Ethernet, IP, UDP and RoCEv2, without preamble and FCS (PRESUMED, log entry 27). -/
namespace Sys2Proof.Machine

/-- A write of object 0x5080.01 (R291). -/
def wStorage (s : State) (v : Nat) : WRes :=
  if v = 1 && !fbit s.dev.straps.role 1 then .error 0x0401 else .ok (setO s 0x5080 1 v)

/-! ## Addresses in force (R301): those of the port's last training -/

def ethMac (s : State) (i : Nat) : Nat := (getPort s (60 + i)).eth.getD 0 0
def ethIp4 (s : State) (i : Nat) : Nat := (getPort s (60 + i)).eth.getD 1 0
def ethIp6 (s : State) (i : Nat) : Nat × Nat := ((getPort s (60 + i)).eth.getD 2 0, (getPort s (60 + i)).eth.getD 3 0)
def ethPfc (s : State) (i : Nat) : Nat := (getPort s (60 + i)).eth.getD 4 0xff

/-! ## Queue pair contexts (R294) -/

def cField (ctx o n : Nat) : Nat := field ctx (8 * o) (8 * n)
def cIpv6 (ctx : Nat) : Bool := fbit ctx 64
def cMtu (ctx : Nat) : Nat := 512 * 2 ^ field ctx 65 3
def cMaxRd (ctx : Nat) : Nat := cField ctx 15 1
def cRetry (ctx : Nat) : Nat := field ctx 152 3
def cTimeout (ctx : Nat) : Nat := cField ctx 20 2
def cQpn (ctx : Nat) : Nat := cField ctx 12 3

/-- Every field of a context is in range. -/
def ctxOk (ctx : Nat) : Bool :=
  1 ≤ field ctx 65 3 && field ctx 65 3 ≤ 3 && field ctx 68 4 == 0 && field ctx 78 2 == 0 && 1 ≤ cMaxRd ctx &&
    cMaxRd ctx ≤ 64 && field ctx 155 5 == 0 && 1 ≤ cTimeout ctx && cField ctx 23 1 == 0 && cField ctx 40 24 == 0 &&
    (cIpv6 ctx || cField ctx 28 12 == 0)

def getQp (s : State) (q : Nat) : QueuePair := mget QueuePair.init s.rdma.qps q
def setQp (s : State) (q : Nat) (x : QueuePair) : State :=
  { s with rdma := { s.rdma with qps := mset QueuePair.init s.rdma.qps q x } }
/-- The VLAN tag of a queue pair's frames: its VID, none where VLAN_EN is 0. -/
def cVid (ctx : Nat) : Option Nat := if fbit ctx 63 then some (field ctx 48 12) else none
/-- Port of a queue pair. -/
def qpPort (q : Nat) : Nat := 60 + q / 16

/-! ## Frames -/

/-- Big-endian bytes, as network headers hold them. -/
def beBytes (n v : Nat) : List Byte := (leBytes n v).reverse
def beAt (l : List Byte) (o n : Nat) : Nat := leNat (sub l o n).reverse

/-- One's complement sum of the 16-bit words of an IPv4 header. -/
def ipSum (h : List Byte) : Nat :=
  let t := (List.range (h.length / 2)).foldl (fun a i => a + beAt h (2 * i) 2) 0
  let t := t % 65536 + t / 65536
  (t % 65536 + t / 65536) % 65536

def ipHeader (s : State) (i ctx len : Nat) : List Byte :=
  let dscp := field ctx 72 6
  if cIpv6 ctx then
    beBytes 4 (6 * 2 ^ 28 + (dscp * 4 + 2) * 2 ^ 20) ++ beBytes 2 len ++ [17] ++ f8 (cField ctx 22 1) ++
      beBytes 8 (ethIp6 s i).1 ++ beBytes 8 (ethIp6 s i).2 ++ beBytes 16 (cField ctx 24 16)
  else
    let h := fun (c : Nat) => [0x45] ++ f8 (dscp * 4 + 2) ++ beBytes 2 (20 + len) ++ [0, 0, 0x40, 0] ++
      f8 (cField ctx 22 1) ++ [17] ++ beBytes 2 c ++ beBytes 4 (ethIp4 s i) ++ beBytes 4 (cField ctx 24 4)
    h (65535 - ipSum (h 0))

/-- The bytes that the ICRC covers: variant fields of the headers as ones, behind 8 bytes of ones. -/
def icrcMask (v6 : Bool) (l : List Byte) : List Byte :=
  let ones := fun (l : List Byte) (is : List Nat) => is.foldl (fun l i => l.set i 0xff) l
  let l := if v6 then ones (l.set 0 ((l.getD 0 0) ||| 0x0f)) [1, 2, 3, 7, 46, 47, 52] else ones l [1, 8, 10, 11, 26, 27, 32]
  List.replicate 8 0xff ++ l

/-- A RoCEv2 frame of a queue pair with a transport header and body. -/
def roceFrame (s : State) (q ctx : Nat) (bth : List Byte) : List Byte :=
  let i := q / 16
  let udp := beBytes 2 (cField ctx 10 2) ++ beBytes 2 4791 ++ beBytes 2 (8 + bth.length + 4) ++ [0, 0]
  let ip := ipHeader s i ctx (8 + bth.length + 4) ++ udp ++ bth
  let vlan := if fbit ctx 63 then beBytes 2 0x8100 ++ beBytes 2 (field ctx 60 3 * 8192 + field ctx 48 12) else []
  beBytes 6 (cField ctx 0 6) ++ beBytes 6 (ethMac s i) ++ vlan ++
    beBytes 2 (if cIpv6 ctx then 0x86dd else 0x0800) ++ ip ++ f32 (crc32 (icrcMask (cIpv6 ctx) ip))

def bthBytes (op qpn psn : Nat) : List Byte := f8 op ++ [0, 0xff, 0xff, 0] ++ beBytes 3 qpn ++ [0] ++ beBytes 3 psn

/-- A READ request: PSN, remote address, key and length. -/
def readFrame (s : State) (q ctx psn va key n : Nat) : List Byte :=
  roceFrame s q ctx (bthBytes 0x0c (cQpn ctx) psn ++ beBytes 8 va ++ beBytes 4 key ++ beBytes 4 n)

/-- A CNP. -/
def cnpFrame (s : State) (q ctx : Nat) : List Byte :=
  roceFrame s q ctx (bthBytes 0x81 (cQpn ctx) 0 ++ List.replicate 16 0)

/-- What a received frame is (R293). -/
inductive RxFrame where
  | pfc (enable : Nat) (times : List Nat)
  | packet (qp op psn : Nat) (ce icrcOk : Bool) (body : List Byte)
  | dropped
  deriving DecidableEq, Repr

/-- The RoCEv2 packet behind a frame's Ethernet header, for the VLAN tag of its queue pair (R292, R293). -/
def parseIp (s : State) (i : Nat) (vid : Option Nat) (v6 : Bool) (f : List Byte) : RxFrame :=
  let hl := if v6 then 40 else 20
  let total := if v6 then 40 + beAt f 4 2 else beAt f 2 2
  let p := f.take total
  let ipOk := if v6 then
      beAt f 0 1 / 16 == 6 && beAt f 6 1 == 17 && beAt f 24 8 == (ethIp6 s i).1 && beAt f 32 8 == (ethIp6 s i).2
    else
      beAt f 0 1 == 0x45 && beAt f 6 2 % 0x4000 == 0 && beAt f 9 1 == 17 && ipSum (f.take 20) == 65535 &&
        ethIp4 s i != 0 && beAt f 16 4 == ethIp4 s i
  let op := beAt p (hl + 8) 1
  let qpn := beAt p (hl + 13) 3
  let ce := (if v6 then beAt f 0 2 / 16 else beAt f 1 1) % 4 == 3
  let good := fieldB p (total - 4) 4 == crc32 (icrcMask v6 (p.take (total - 4)))
  if ipOk && total ≤ f.length && hl + 24 ≤ total && beAt p (hl + 2) 2 == 4791 && 0x0d ≤ op && op ≤ 0x11 &&
      0x40 + 16 * i ≤ qpn && qpn < 0x50 + 16 * i && (getQp s (qpn - 0x40)).state = 1 &&
      cVid (getQp s (qpn - 0x40)).ctx == vid then
    .packet (qpn - 0x40) op (beAt p (hl + 17) 3) ce good (sub p (hl + 20) (total - hl - 24))
  else .dropped

def parseFrame (s : State) (i : Nat) (f : List Byte) : RxFrame :=
  if 9216 < f.length then .dropped
  else if beAt f 0 6 = 0x0180c2000001 && beAt f 12 2 = 0x8808 && beAt f 14 2 = 0x0101 then
    .pfc (beAt f 16 2) ((List.range 8).map (fun k => beAt f (18 + 2 * k) 2))
  else if beAt f 0 6 != ethMac s i then .dropped
  else
    let tagged := beAt f 12 2 == 0x8100
    let o := if tagged then 16 else 12
    let vid := if tagged then some (beAt f 14 2 % 4096) else none
    if beAt f o 2 = 0x0800 then parseIp s i vid false (f.drop (o + 2))
    else if beAt f o 2 = 0x86dd then parseIp s i vid true (f.drop (o + 2))
    else .dropped

/-- Port 60 + i takes frames: Ethernet mode with PCS lock. -/
def ethUp (s : State) (i : Nat) : Bool := (getPort s (60 + i)).state == .ethernet && (getPort s (60 + i)).lock

/-- A frame leaves its port, or waits while a PFC pause holds it (R292). -/
def sendFrame (s : State) (p : Nat) (f : List Byte) : State :=
  if (getPort s p).pfcUntil ≤ s.now && !s.rdma.waiting.any (fun e => e.1 == p) then emit s (.frame p f)
  else { s with rdma := { s.rdma with waiting := s.rdma.waiting ++ [(p, f)] } }

/-- Frames of ports whose pause has ended leave in their order. -/
def flushFrames (s : State) : State :=
  let go := fun (e : Nat × List Byte) => decide ((getPort s e.1).pfcUntil ≤ s.now)
  (s.rdma.waiting.filter go).foldl (fun s e => emit s (.frame e.1 e.2))
    { s with rdma := { s.rdma with waiting := s.rdma.waiting.filter (fun e => !go e) } }

/-! ## Completions (R297, R300) -/

def compRoom (s : State) : Bool :=
  sub32 (getO s 0x5090 9) (getO s 0x5090 0x0a) < 2 ^ getO s 0x5090 8

def putComp (s : State) (e : List Byte) : State :=
  let t := getO s 0x5090 9
  setO (pkgPut s (getO s 0x5090 7 + 16 * (t % 2 ^ getO s 0x5090 8)) e) 0x5090 9 ((t + 1) % 2 ^ 32)

/-- Held completions go out while the ring has room. -/
def drainComps (s : State) : State :=
  (s.rdma.held).foldl (fun s e =>
    if compRoom s then putComp { s with rdma := { s.rdma with held := s.rdma.held.drop 1 } } e else s) s

/-- A descriptor's completion entry and its event (R296, R297, R302). -/
def complete (s : State) (desc status written : Nat) : State :=
  let e := f32 (field desc 160 32) ++ f8 status ++ f8 (field desc 0 6) ++ [0, 0] ++ f64 written
  let s := if s.rdma.held = [] && compRoom s then putComp s e
    else { s with rdma := { s.rdma with held := s.rdma.held ++ [e] } }
  if fbit desc 8 then raise s 0x5012 (f8 (field desc 0 6) ++ f32 (field desc 160 32) ++ f8 status ++ f32 written) else s

/-- Descriptors at the front that have ended complete, once their fabric WRITEs are answered: a completion reports every byte that was
written (R298). -/
def settlePulls : List Pull → State → State × List Pull
  | [], s => (s, [])
  | d :: r, s => if d.status != 0 && d.out = 0 then settlePulls r (complete s d.desc d.status d.written) else (s, d :: r)

def settleQp (s : State) (q : Nat) : State :=
  let (s, l) := settlePulls (getQp s q).pulls s
  setQp s q { getQp s q with pulls := l }

/-- The descriptor in service of a queue pair ends; its outstanding requests are forgotten. -/
def finishPull (s : State) (q status : Nat) : State :=
  let x := getQp s q
  match x.pulls with
  | [] => s
  | d :: r =>
    let d := { d with status := if d.status = 0 then status else d.status }
    settleQp (setQp s q { x with pulls := d :: r, reqs := [], recvPsn := x.sendPsn, tries := 0 }) q

/-! ## Requests (R297, R299, R300) -/

def dLen (desc : Nat) : Nat := field desc 32 32
def dVa (desc : Nat) : Nat := field desc 64 64
def dKey (desc : Nat) : Nat := field desc 128 32
def dDest (desc : Nat) : Nat := field desc 192 64
def dFabric (desc : Nat) : Bool := fbit desc 9

def portReqs (s : State) (q : Nat) : Nat :=
  (s.rdma.qps.filter (fun e => e.1 / 16 == q / 16)).foldl (fun a e => a + e.2.reqs.length) 0

def sendRead (s : State) (q : Nat) (x : QueuePair) (d : Pull) (psn off n : Nat) : State :=
  sendFrame (count s 0x5091 2 1) (qpPort q) (readFrame s q x.ctx psn ((dVa d.desc + off) % 2 ^ 64) (dKey d.desc) n)

/-- A further READ request of the descriptor in service may go. -/
def mayRead (s : State) (q : Nat) : Bool :=
  let x := getQp s q
  x.state == 1 && x.reqs.length < cMaxRd x.ctx && portReqs s q < 256 && s.rdma.held == [] && compRoom s &&
    tagFree s 330 && ethUp s (q / 16) && (getPort s (qpPort q)).pfcUntil ≤ s.now

/-- READ requests of at most 256 KiB while the bounds admit them. -/
def pump : Nat → Nat → State → State
  | 0, _, s => s
  | n + 1, q, s =>
    let x := getQp s q
    match x.pulls with
    | [] => s
    | d :: r =>
      if mayRead s q && d.status = 0 && d.asked < dLen d.desc then
        let k := min 262144 (dLen d.desc - d.asked)
        let pk := ceilDiv k (cMtu x.ctx)
        let req : RdReq := ⟨x.sendPsn, pk, d.asked, k, 0, s.now⟩
        let y := { x with pulls := { d with asked := d.asked + k } :: r, reqs := x.reqs ++ [req],
                          sendPsn := (x.sendPsn + pk) % 2 ^ 24 }
        pump n q (sendRead (setQp s q y) q x d x.sendPsn d.asked k)
      else s

/-- Every queue pair asks for what the bounds admit. -/
def pumpAll (s : State) : State := s.rdma.qps.foldl (fun s e => pump 64 e.1 s) s

/-- In each cycle paused frames whose pause has ended leave, and reading goes on where tags, rings and pauses admit it (R292, R300). -/
def pumpCycle (s : State) : State := if s.rdma.qps = [] && s.rdma.waiting = [] then s else pumpAll (flushFrames s)

/-- The descriptors of a queue pair end: the one in service with `first`, those behind it with `rest`. -/
def endPulls (first rest : Nat) : List Pull → List Pull
  | [] => []
  | d :: l =>
    { d with status := if d.status = 0 then first else d.status } ::
      l.map (fun e => { e with status := if e.status = 0 then rest else e.status })

/-- A queue pair enters error: the descriptor in service completes with the cause, the others that it holds with 0x86, and event 0x5011
carries the cause (R295, R298, R302; log entry 28). -/
def qpError (s : State) (q cause : Nat) : State :=
  let x := getQp s q
  raise (settleQp (setQp s q { x with state := 2, pulls := endPulls cause 0x86 x.pulls, reqs := [] }) q) 0x5011 (f8 q ++ f8 cause)

/-- A queue pair sends its READ requests again from the oldest unanswered PSN, or enters error after RETRY attempts without
progress (R299). -/
def resend (s : State) (q : Nat) : State :=
  let x := getQp s q
  match x.pulls, x.reqs with
  | d :: _, r :: rest =>
    if cRetry x.ctx ≤ x.tries then qpError s q 0x83
    else
      let r' : RdReq := ⟨x.recvPsn, r.packets - r.got / cMtu x.ctx, r.offset + r.got, r.bytes - r.got, 0, s.now⟩
      let reqs := r' :: rest.map (fun e => { e with sentAt := s.now })
      let s := count (setQp s q { x with reqs := reqs, tries := x.tries + 1 }) 0x5091 4 1
      reqs.foldl (fun s e => sendRead s q x d e.psn e.offset e.bytes) s
  | _, _ => s

/-! ## Destinations (R297) -/

/-- Pieces of a range within one 64-byte line each. -/
def linePieces : Nat → Nat → Nat → List (Nat × Nat)
  | 0, _, _ => []
  | f + 1, a, n => if n = 0 then [] else
      let k := min n (64 - a % 64)
      (a, k) :: linePieces f (a + k) (n - k)

/-- A further fabric WRITE of the descriptor in service waits for its answer. -/
def oneOut (s : State) (q : Nat) : State :=
  let x := getQp s q
  match x.pulls with
  | d :: r => setQp s q { x with pulls := { d with out := d.out + 1 } :: r }
  | [] => s

/-- Payload forwarded as fabric WRITEs in the non-secure world; the first status that completes at once. -/
def forward (q a : Nat) (l : List Byte) : List (Nat × Nat) → State → State × Nat
  | [], s => (s, 0)
  | (p, k) :: r, s =>
    let o := p % 64
    let data := List.replicate o 0 ++ sub l (p - a) k
    let (s, st) := issue s false (p - o) 2 0 330 0 0 ((2 ^ k - 1) * 2 ^ o) (padTo 64 data) (.pull q k)
    match st with
    | some c => (s, c)
    | none => forward q a l r (oneOut s q)

/-- Payload goes to its place; true where the destination refused it. -/
def deposit (s : State) (q : Nat) (d : Pull) (off : Nat) (l : List Byte) : State × Bool :=
  let a := dDest d.desc + off
  if dFabric d.desc then
    let (s, st) := forward q a l (linePieces (l.length / 64 + 2) a l.length) s
    (s, st != 0)
  else
    let (s, r) := writeAt s ⟨5, 0, 0xffff, 0xffff, false, 0⟩ a l
    (s, r.isSome)

/-- Bytes of the descriptor in service have reached their place; the last one completes it. -/
def arrived (s : State) (q n : Nat) : State :=
  let x := getQp s q
  match x.pulls with
  | [] => s
  | d :: r =>
    let d := { d with written := d.written + n }
    let s := setQp s q { x with pulls := d :: r }
    if dLen d.desc ≤ d.written then finishPull s q 1 else settleQp s q

/-- A forwarded write of a queue pair is answered (R297, R298): it is one of the descriptor in service, since none completes with a WRITE
outstanding. -/
def pullAnswer (s : State) (q n status : Nat) : State :=
  let x := getQp s q
  match x.pulls with
  | [] => s
  | d :: r =>
    let s := setQp s q { x with pulls := { d with out := d.out - 1 } :: r }
    pumpAll (if status = 0 then arrived s q n else finishPull s q 0x84)

/-! ## Receiving -/

def sendCnp (s : State) (q : Nat) : State :=
  let x := getQp s q
  if x.cnpAt != 0 && s.now < x.cnpAt - 1 + getO s 0x5090 0x0b * usec then s
  else sendFrame (count (setQp s q { x with cnpAt := s.now + 1 }) 0x5091 5 1) (qpPort q) (cnpFrame s q x.ctx)

/-- The opcode that a packet of the oldest request has: FIRST, MIDDLE, LAST or ONLY. -/
def respOpcode (r : RdReq) (mtu : Nat) : Nat :=
  let first := r.got == 0
  let last := r.bytes ≤ r.got + mtu
  if first && last then 0x10 else if first then 0x0d else if last then 0x0f else 0x0e

/-- A READ RESPONSE packet in PSN order (R297). -/
def readResp (s : State) (q op psn : Nat) (body : List Byte) : State :=
  let x := getQp s q
  match x.pulls, x.reqs with
  | d :: _, r :: rest =>
    let mtu := cMtu x.ctx
    let n := min mtu (r.bytes - r.got)
    let l := if op = 0x0e then body else body.drop 4
    if psn != x.recvPsn || op != respOpcode r mtu || l.length != n then s
    else
      let r' := { r with got := r.got + n, sentAt := s.now }
      let reqs := if r.bytes ≤ r'.got then rest.map (fun e => { e with sentAt := s.now }) else r' :: rest
      let s := setQp (count s 0x5091 1 n) q { x with reqs := reqs, recvPsn := (x.recvPsn + 1) % 2 ^ 24, tries := 0 }
      let (s, bad) := deposit s q d (r.offset + r.got) l
      pumpAll (if bad then finishPull s q 0x84 else if dFabric d.desc then s else arrived s q n)
  | _, _ => s

/-- READ_RESPONSE: a response packet of a ready queue pair; a bad ICRC is counted. -/
def execReadResponse (eth : Fin 4) (frame : List Byte) (s : State) : Out :=
  if !ethUp s eth then .next s
  else match parseFrame s eth frame with
    | .packet q op psn ce good body =>
      if op = 0x11 then .next s
      else if !good then .next (count s 0x5091 3 1)
      else
        let s := if ce then sendCnp s q else s
        .next (readResp s q op psn body)
    | _ => .next s

/-- What the syndrome of an ACKNOWLEDGE does: a NAK of a PSN sequence error sends again, every other NAK, an RNR NAK too, puts the queue
pair in error (R295, R299), an ACK nothing. -/
def syndrome (s : State) (q n : Nat) : State :=
  if n = 0x60 then resend s q
  else if n = 0x62 then qpError s q 0x81
  else if n / 32 = 1 || n / 32 = 3 then qpError s q 0x82
  else s

/-- ACKNOWLEDGE. -/
def execAcknowledge (eth : Fin 4) (frame : List Byte) (s : State) : Out :=
  if !ethUp s eth then .next s
  else match parseFrame s eth frame with
    | .packet q op _ ce good body =>
      if op != 0x11 then .next s
      else if !good then .next (count s 0x5091 3 1)
      else
        .next (syndrome (if ce then sendCnp s q else s) q (beAt body 0 1 % 128))
    | _ => .next s

/-- QP_RESPONSE_TIMEOUT. -/
def execQpResponseTimeout (qp : Fin 64) (s : State) : Out :=
  let x := getQp s qp
  match x.state, x.reqs with
  | 1, r :: _ => if r.sentAt + cTimeout x.ctx * usec ≤ s.now then .next (resend s qp) else .next s
  | _, _ => .next s

/-- PFC_FRAME: the one priority of object 0x5084.01 is paused for the quanta of the frame, 512 bit times each (R292); frames on it wait up
to the end of the pause. -/
def execPfcFrame (eth : Fin 4) (frame : List Byte) (s : State) : Out :=
  let k := ethPfc s eth
  if !ethUp s eth then .next s
  else match parseFrame s eth frame with
    | .pfc en times =>
      if k < 8 && fbit en k then
        .next (pumpAll (modPort s (60 + eth) (fun x => { x with pfcUntil := s.now + ceilDiv (times.getD k 0 * 32256) 100 })))
      else .next s
    | _ => .next s

/-- FRAME_DROPPED: every other frame is counted in object 0x5091.06 (R293). -/
def execFrameDropped (eth : Fin 4) (frame : List Byte) (s : State) : Out :=
  if ethUp s eth && parseFrame s eth frame = .dropped then .next (count s 0x5091 6 1) else .next s

/-- ETHERNET_LINK_CHANGE: an Ethernet port gains or loses PCS lock (R302). -/
def execEthernetLinkChange (eth : Fin 4) (up : Bool) (s : State) : Out :=
  let p := 60 + eth.val
  let x := getPort s p
  if x.state = .ethernet && x.lock != up then
    .next (pumpAll (raise (setPort s p { x with lock := up }) 0x5010 (f8 p ++ f8 (if up then 1 else 0))))
  else .next s

/-! ## Descriptors and commands (R295–R297, R300) -/

/-- A descriptor field out of range or reserved (R298). -/
def pullBad (d : Nat) : Bool :=
  field d 6 2 != 0 || field d 10 6 != 0 || field d 16 16 != 0 || dLen d % 64 != 0 || dLen d = 0 ||
    (!dFabric d && (match classify (dDest d) with | .dram => false | .unmapped => false | _ => true))

/-- The requester takes the descriptor at the head of the pull ring. -/
def takePull (s : State) : State :=
  let h := getO s 0x5090 6
  let d := leNat (peek s (getO s 0x5090 3 + 32 * (h % 2 ^ getO s 0x5090 4)) 32)
  let s := setO s 0x5090 6 ((h + 1) % 2 ^ 32)
  let q := field d 0 6
  let x := getQp s q
  if pullBad d then complete s d 0x85 0
  else if x.state != 1 then complete s d 0x80 0
  else pumpAll (setQp s q { x with pulls := x.pulls ++ [⟨d, 0, 0, 0, 0⟩] })

/-- PULL_DESCRIPTOR. -/
def execPullDescriptor (s : State) : Out :=
  if cmdsRun s && getO s 0x5090 6 != s.rdma.tail then .next (takePull s) else .next s

/-- A write of the pull doorbell (R296, R300). -/
def wPull (s : State) (v : Nat) : WRes :=
  if 2 ^ getO s 0x5090 4 < sub32 v (getO s 0x5090 6) then .error 0x0302
  else .ok { s with rdma := { s.rdma with tail := v } }

/-- A write of the completion head (R300): held completions and requests go on. -/
def wCompHead (s : State) (v : Nat) : State := pumpAll (drainComps (setO s 0x5090 0x0a v))

/-- The queue pair is made ready (R295). -/
def readyQp (s : State) (q : Nat) : WRes :=
  let ctx := leNat (peek s (getO s 0x5090 1 + 64 * q) 64)
  if (getQp s q).state != 0 then .error 0x0401
  else if !ctxOk ctx then .error 0x0302
  else .ok (setQp s q { QueuePair.init with state := 1, ctx := ctx, sendPsn := cField ctx 16 3, recvPsn := cField ctx 16 3
                                            pulls := (getQp s q).pulls })

/-- The queue pair is reset; descriptors that it holds complete with 0x80 (DEDUCED, log entry 28). -/
def resetQp (s : State) (q : Nat) : State :=
  pumpAll (settleQp (setQp s q { QueuePair.init with pulls := endPulls 0x80 0x80 (getQp s q).pulls }) q)

/-- A write of object 0x5090.02 (R295). -/
def wQp (s : State) (v : Nat) : WRes :=
  if v / 64 % 4 != 0 || v / 1024 != 0 then .error 0x0302
  else if field v 8 2 = 1 then readyQp s (v % 64)
  else if field v 8 2 = 2 then .ok (resetQp s (v % 64))
  else .error 0x0302

def qpsReset (s : State) : Bool := s.rdma.qps.all (fun e => e.2.state == 0)

end Sys2Proof.Machine
end

