-- ==== Sys2Proof/Machine/Routing.lean ====
section
/-! DEFINITION. Expert routing: binding a plan, route steps, revisions and popularity counts (11 R381–R405). -/
namespace Sys2Proof.Machine

/-! ## Binding (R388) -/

def planFits (p : Plan) : Bool :=
  p.siteOff % 64 == 0 && p.bank0 % 256 == 0 && p.bank1 % 256 == 0 && p.countOff % 256 == 0 && 1 ≤ p.nsites && p.nsites ≤ 8192 &&
    p.siteOff + 64 * p.nsites ≤ p.length && p.bank0 + p.bankLen ≤ p.length && p.bank1 + p.bankLen ≤ p.length &&
    16 ≤ p.bankLen && p.countOff < p.length

def planHead (s : State) (p : Plan) : Bool :=
  let b := peek s p.base 64
  fieldB b 0 4 == 0x54554f52 && fieldB b 4 2 == 1 && fieldB b 60 4 == crc32 (b.take 60)

/-- Field ranges of a site entry and its CHK (R384); reserved fields are ignored (00 R10). -/
def siteOk (x : Site) : Bool :=
  !chkBad x.raw 63 && x.id < 4096 && x.kind < 2 && x.round < x.nrounds && x.lcl < 304 &&
    1 ≤ x.topk && x.topk ≤ 8 && x.norm < 2 && 1 ≤ x.pref && x.pref ≤ 16 && 2 ≤ x.e && x.e ≤ 1024 &&
    x.m ≤ 128 && 1 ≤ x.kb && x.kb ≤ 512 && 32 ≤ x.n && x.n ≤ 4096 && x.n % 32 == 0 && x.disp % 32 == 0 &&
    x.dispStride % 8 == 0 && x.rb ≤ x.dispStride && x.retStride % 4 == 0 && x.pb ≤ x.retStride && x.rrec % 32 == 0 &&
    1 ≤ x.nrows && x.nrows < 4096 && x.share % 8 == 0

def siteOrd (x : Site) : Nat := x.id * 8 + x.kind * 4 + (if x.kind = 0 then x.round else 0)

/-- Every field of an entry but KIND, ROUND, DESC and CHK. -/
def siteBody (x : Site) : Site := { x with kind := 0, round := 0, desc := 0, raw := [] }

/-- An entry breaks the order or the completeness of its site (R384). -/
def siteMisfit (xs : List Site) (i : Nat) (x : Site) : Bool :=
  (match xs[i + 1]? with | some y => !(siteOrd x < siteOrd y) | none => false) ||
    (let own := xs.filter (fun y => y.id == x.id)
     own.any (fun y => siteBody y != siteBody x) ||
       !((List.range x.nrounds).all (fun r => (own.filter (fun y => y.kind == 0 && y.round == r)).length == 1)) ||
       (own.filter (fun y => y.kind == 1)).length != 1)

/-- The route descriptor of an entry meets R382. -/
def descOk (im : Image) (xs : List Site) (x : Site) : Bool :=
  match im.awl[x.desc]? with
  | none => false
  | some e => aXform e == 0 && aSpace e == 2 && !aDir e && aNcore e == 0 && field (aMem e) 16 6 == aCore e && aLcl e == x.lcl &&
      (xs.filter (fun y => y.desc == x.desc)).length == 1

def crcOk (s : State) (p : Plan) (bank : Nat) : Bool :=
  let b := peek s (p.base + bankOff p bank) p.bankLen
  fieldB b 12 4 == crc32 (b.drop 16)

def noOverlap : List (Nat × Nat) → Bool
  | a :: b :: r => decide (a.1 + a.2 ≤ b.1) && noOverlap (b :: r)
  | _ => true

/-- R386 for one site in one bank. -/
def sharesOk (s : State) (p : Plan) (bank : Nat) (x : Site) : Bool :=
  x.share + 8 * (x.e * x.pref) ≤ p.bankLen &&
    (let l := (sharesOf s p bank x).filter (fun y => y.rows != 0)
     l.all (fun y => y.first + y.rows ≤ x.nrows && y.round < x.nrounds) &&
       noOverlap (sortBy (fun a b => a.1 ≤ b.1) (l.map (fun y => (y.first, y.rows)))))

def bankOk (s : State) (p : Plan) (xs : List Site) (bank : Nat) : Bool := crcOk s p bank && xs.all (sharesOk s p bank)

def roundRows (s : State) (p : Plan) (bank : Nat) (x : Site) (r : Nat) : Nat :=
  ((sharesOf s p bank x).filter (fun y => y.round == r)).foldl (fun a y => a + y.rows) 0

/-- The cost of a step (R394); bank 1 counts where it is a right bank (log entry 58). -/
def stepCost (s : State) (p : Plan) (xs : List Site) (x : Site) : Nat :=
  let rq := ceilDiv x.rb 512
  let nr := max (roundRows s p 0 x x.round) (if bankOk s p xs 1 then roundRows s p 1 x x.round else 0)
  if x.kind = 1 then 64 + x.m * x.topk * (ceilDiv x.pb 512 + ceilDiv (4 * x.n) 512)
  else 96 + (if x.round = 0 then x.m * ceilDiv x.e 32 else 0) + x.m * x.topk * (2 + rq) + nr * rq

/-- When a step's descriptor starts, in cycles of the period. -/
def stepAt' (im : Image) (x : Site) : Nat := match im.awl[x.desc]? with | some e => aPtick e * im.tickLen + aStart e | none => 0

/-- A site's steps in schedule order, with no SWITCH point between (check 7). -/
def siteOrderBad (im : Image) (xs : List Site) (x : Site) : Bool :=
  let own := xs.filter (fun y => y.id == x.id)
  let ts := own.map (stepAt' im)
  let t0 := ts.headD 0
  let t1 := ts.getLastD 0
  !ascending ts || im.lacePts.any (fun e => ptType e == 5 && t0 < ptPtick e * im.tickLen && ptPtick e * im.tickLen ≤ t1)

/-- Every scratchpad region of a site lies within 64 KiB (check 9). -/
def regionsOk (x : Site) : Bool :=
  let top := 65536
  x.gate + 32 * (x.m - 1) * x.gateStride + 4 * x.e ≤ top && x.tok + 32 * (x.m - 1) * x.tokStride + 32 * x.kb ≤ top &&
    x.tokS + (x.m - 1) * x.tokSs + x.kb ≤ top && x.disp + (x.nrows - 1) * x.dispStride + x.rb ≤ top &&
    x.ret + (x.nrows - 1) * x.retStride + x.pb ≤ top && x.out + 32 * (x.m - 1) * x.outStride + 4 * x.n ≤ top &&
    x.rrec + 8 * x.m * x.topk ≤ top

/-- The first failing check of the table of R388, with its detail. -/
def bindCheck (s : State) (slot id : Nat) (im : Image) : Option (Nat × Nat) :=
  match objById s id with
  | none => some (1, 0)
  | some (_, o) =>
    if o.cls != 0 || !im.objects.any (fun e => entryId e == id && entryTier e == 1) then some (1, 0)
    else
      let p := planOf s o
      if !planHead s p || !planFits p then some (2, 0)
      else if p.lastId != (getSlot s slot).lastId then some (3, 0)
      else
        let xs := sitesOf s p
        let ix := xs.zipIdx
        let at' := fun (r : Nat) (bad : Site × Nat → Bool) (d : Site × Nat → Nat) => (ix.find? bad).map (fun x => (r, d x))
        at' 4 (fun x => !siteOk x.1 || siteMisfit xs x.2 x.1) (·.2) <|>
          at' 5 (fun x => !descOk im xs x.1) (·.2) <|>
          at' 6 (fun x => ((im.awl[x.1.desc]?).map (fun e => ceilDiv (aRows e * aRowLen e) 512)).getD 0 < stepCost s p xs x.1) (·.2) <|>
          at' 7 (fun x => siteOrderBad im xs x.1) (·.1.id) <|>
          (if crcOk s p 0 then none else some (8, (xs.headD (siteOfBytes [])).id)) <|>
          at' 8 (fun x => !sharesOk s p 0 x.1) (·.1.id) <|>
          at' 9 (fun x => !regionsOk x.1) (·.2)

/-- A write of object 0x3025.(slot + 1): the state, and the abort code (0 none). -/
def wBind (s : State) (slot id : Nat) : State × Nat :=
  if (s.dev.mode != .ready && s.dev.mode != .running) || slotActive s slot then (s, 0x0401)
  else match (getSlot s slot).image with
    | none => (s, 0x0302)
    | some im =>
      if id = 0 then (setO s 0x3025 (slot + 1) 0, 0)
      else match bindCheck s slot id im with
        | some (r, d) =>
          (raise (setO (setO s 0x3027 1 r) 0x3027 2 d) 0x3305 (f8 slot ++ f64 id ++ f8 r ++ f32 d), 0x0302)
        | none =>
          (setO { s with routing := { s.routing with banks := mset 0 s.routing.banks slot 0 } } 0x3025 (slot + 1) id, 0)

def activeBank (s : State) (slot : Nat) : Nat := mget 0 s.routing.banks slot

/-! ## Route steps -/

/-- An entry of the route record (R387). -/
structure RRec where
  weight : Nat
  row : Nat
  expert : Nat
  state : Nat
  bank : Nat
  deriving DecidableEq

def RRec.bytes (r : RRec) : List Byte := f64 (r.weight + r.row * 2 ^ 32 + r.expert * 2 ^ 44 + r.state * 2 ^ 54 + r.bank * 2 ^ 56)
def rrecOf (w : Nat) : RRec := ⟨field w 0 32, field w 32 12, field w 44 10, field w 54 2, field w 56 1⟩

/-- STATE of an open choice while round 0 runs (not a value of the record). -/
def open' : Nat := 4

def readRec (s : State) (x : Site) (core : Nat) : List RRec :=
  (List.range (x.m * x.topk)).map (fun i => rrecOf (leNat (spadGet s x.lcl core (x.rrec + 8 * i) 8)))

/-- The slot-mask bit of a row (R389, R98); a slot that the cluster does not serve has no bit and reads clear (log entry 59). -/
def rowOn (s : State) (im : Image) (x : Site) (g m : Nat) : Bool :=
  !x.slotEn || (g != 0xff && x.slotBase + m < im.slotsPer && fbit (maskSeen s x.lcl) (g * im.slotsPer + x.slotBase + m))

/-- Descending rank of scores, NaN last, ties in place. -/
def scoreLe (a b : Nat × Nat) : Bool := if f32Nan a.2 then f32Nan b.2 else f32Nan b.2 || !f32Below a.2 b.2

/-- The weights of a row's choices (R390), and whether a score is not finite. -/
def gateWeights (norm : Nat) (ss : List Nat) : List Nat × Bool :=
  if ss.any (fun v => !f32Fin v) then (ss.zipIdx.map (fun x => if x.2 = 0 then 0x3f800000 else 0), true)
  else if norm = 1 then (ss, false)
  else
    let es := ss.map (fun v => f32ExpF (f32Sub v (ss.headD 0)))
    let z := es.foldl f32Add 0
    (es.map (fun e => f32DivPos e z), false)

/-- Selection of one row in round 0 (R389). -/
def selectRow (s : State) (im : Image) (x : Site) (core g bank m : Nat) : List RRec × Bool :=
  if !rowOn s im x g m then (List.replicate x.topk ⟨0, 0xfff, 0, 3, bank⟩, false)
  else
    let sc := (List.range x.e).map (fun e => (e, rdF32 (coreRd s x.lcl core) (x.gate + 32 * m * x.gateStride + 4 * e)))
    let top := (sortBy scoreLe sc).take x.topk
    let (ws, bad) := gateWeights x.norm (top.map (·.2))
    ((top.zip ws).map (fun y => ⟨y.2, 0xfff, y.1.1, if y.1.1 = x.skip then 3 else open', bank⟩) ++
      List.replicate (x.topk - top.length) ⟨0, 0xfff, 0, 3, bank⟩, bad)

/-- A token row in A8 groups (02 R65). -/
def tokenGroups (s : State) (x : Site) (core m : Nat) : List Byte :=
  (List.range (ceilDiv x.kb 8)).flatMap (fun g =>
    let n := min 8 (x.kb - 8 * g)
    padTo 256 (spadGet s x.lcl core (x.tok + 32 * (m * x.tokStride + 8 * g)) (32 * n)) ++
      padTo 8 (spadGet s x.lcl core (x.tokS + m * x.tokSs + 8 * g) n))

/-- Placement in progress (R391): record, rows filled by (expert, preference), token of each filled site row, counts to add. -/
structure Placing where
  recs : List RRec
  taken : SMap Nat
  filled : List (Nat × Nat)
  placed : List Nat
  dropped : List (Nat × Nat)

/-- One choice is served. -/
def placeOne (s : State) (p : Plan) (x : Site) (r m j : Nat) (st : Placing) : Placing :=
  let i := m * x.topk + j
  let c := st.recs.getD i ⟨0, 0, 0, 3, 0⟩
  let fit := (List.range x.pref).find? (fun q =>
    let sh := shareAt s p c.bank x c.expert q
    sh.rows != 0 && sh.round == r && mget 0 st.taken (c.expert * 16 + q) < sh.rows)
  match fit with
  | some q =>
    let key := c.expert * 16 + q
    let n := mget 0 st.taken key
    let row := (shareAt s p c.bank x c.expert q).first + n
    { st with
      recs := st.recs.set i { c with row := row, state := 0 }
      taken := mset 0 st.taken key (n + 1)
      filled := st.filled ++ [(row, m)]
      placed := st.placed ++ [c.expert] }
  | none =>
    if r + 1 < x.nrounds then { st with recs := st.recs.set i { c with state := 1 } }
    else { st with recs := st.recs.set i { c with state := 2 }, dropped := st.dropped ++ [(m, c.expert)] }

/-- A round's placement (R391): ascending rank, then ascending row. -/
def placeAll (s : State) (im : Image) (p : Plan) (x : Site) (g r : Nat) (recs : List RRec) : Placing :=
  (List.range x.topk).foldl (fun st j => (List.range x.m).foldl (fun st m =>
    let i := m * x.topk + j
    let c := st.recs.getD i ⟨0, 0, 0, 3, 0⟩
    if r = 0 then (if c.state = open' then placeOne s p x r m j st else st)
    else if c.state != 1 then st
    else if rowOn s im x g m then placeOne s p x r m j st
    else { st with recs := st.recs.set i { c with state := 3 } }) st) ⟨recs, [], [], [], []⟩

/-- Site rows of the shares of a round. -/
def rowsOfRound (s : State) (p : Plan) (bank : Nat) (x : Site) (r : Nat) : List Nat :=
  ((sharesOf s p bank x).filter (fun y => y.round == r && y.rows != 0)).flatMap (fun y => (List.range y.rows).map (· + y.first))

/-- The cells that a dispatch round writes: its record, its filled rows and its zero rows. -/
def roundCells (s : State) (p : Plan) (x : Site) (core bank r : Nat) (st : Placing) : List Host.Cell :=
  let rec' := cellsAt x.lcl core x.rrec (st.recs.flatMap RRec.bytes)
  let rows := st.filled.flatMap (fun f => cellsAt x.lcl core (x.disp + f.1 * x.dispStride) (tokenGroups s x core f.2))
  let zero := ((rowsOfRound s p bank x r).filter (fun y => !st.filled.any (fun f => f.1 == y))).flatMap (fun y =>
    cellsAt x.lcl core (x.disp + y * x.dispStride) (List.replicate x.rb 0))
  rec' ++ rows ++ zero

/-- A count of the region gains `n` once its addition is carried out (R399, R400). -/
def addCount (s : State) (p : Plan) (x : Site) (word e n : Nat) : State :=
  if n = 0 then s
  else { s with routing := { s.routing with
    adds := s.routing.adds ++ [(p.base + p.countOff + 16 * (x.layer * 1024 + e) + 4 * word, n, s.lace.tick)] } }

/-- Occurrences of each expert in a list, as counts. -/
def addAll (s : State) (p : Plan) (x : Site) (word : Nat) (l : List Nat) : State :=
  (l.foldl (fun a e => if a.contains e then a else a ++ [e]) []).foldl (fun s e =>
    addCount s p x word e (l.filter (· == e)).length) s

/-- Up to 16 slots of rows, as an event carries them (16 R525). -/
def slotList (l : List Nat) : List Byte :=
  let l := l.take 16
  f8 l.length ++ (List.range 16).flatMap (fun i => f16 (l.getD i 0xffff))

/-- Dropped choices are counted and reported (R392). -/
def dropEv (s : State) (im : Image) (p : Plan) (x : Site) (g : Nat) (ds : List (Nat × Nat)) : State :=
  if ds = [] then s
  else
    let s := addAll (count s 0x3070 4 ds.length) p x 3 (ds.map (·.2))
    let rows := ds.foldl (fun a d => if a.contains d.1 then a else a ++ [d.1]) []
    let slots := if x.slotEn then rows.map (fun m => g * im.slotsPer + x.slotBase + m) else []
    raise s 0x3301 (f16 x.lcl ++ f16 x.id ++ f16 ds.length ++ slotList slots)

/-- The route descriptor starts on channel S with the step's writes, which land when its bit is set (R382, 06 R237, log entry 30). -/
def startStep (s : State) (ix e : Nat) (cells : List Host.Cell) : State :=
  count (startLate (scheduleAwl s (aLcl e) ix e ⟨true, 12, 512⟩ (some cells)) (aLcl e)) 0x3070 1 1

/-- A route step at the start of its descriptor: partition, image, plan, site, descriptor and slot. -/
def atStep (s : State) (l ix : Nat) (want : Site → Bool) : State × Option (Image × Plan × Site × Nat × Nat × Nat) :=
  match partOf s l with
  | none => (s, none)
  | some (p, im) =>
    match im.awl[ix]?, routeOf s p ix with
    | some e, some (slot, pl, x) =>
      if aLcl e != l || !want x || awlBegun s l ix then (s, none)
      else
        match atCycle s l (aPtick e) (aStart e) with
        | (s, none) => (s, none)
        | (s, some _) =>
          let s := if aWaitEn e then sbSet s l (aCore e) (aWaitBit e) false else s
          let s := commitDue s l (aCore e) im
          (s, some (im, pl, x, e, slot, groupOf im l (aPtick e)))
    | _, _ => (s, none)

/-- What a route step reads meets its errors; the awl reads for its route descriptor, which an uncorrectable one poisons (06 R214, R217). -/
def stepEcc (s : State) (x : Site) (core ix : Nat) (reads : List (Nat × Nat)) : State :=
  let (s, bad) := spadEcc s x.lcl core ix reads
  count s 0x4020 0x0c (if bad then 1 else 0)

/-- What a dispatch round reads: the scores of its rows or the route record, and the tokens that it places. -/
def roundReads (s : State) (im : Image) (x : Site) (g : Nat) (st : Placing) : List (Nat × Nat) :=
  (if x.round = 0 then ((List.range x.m).filter (rowOn s im x g)).map (fun m => (x.gate + 32 * m * x.gateStride, 4 * x.e))
   else [(x.rrec, 8 * x.m * x.topk)]) ++
    ((st.filled.map (·.2)).eraseDups).flatMap (fun m => [(x.tok + 32 * m * x.tokStride, 32 * x.kb), (x.tokS + m * x.tokSs, x.kb)])

/-- A dispatch round after its selection. -/
def runRound (s : State) (im : Image) (pl : Plan) (x : Site) (e ix g bank : Nat) (recs : List RRec) : State :=
  let st := placeAll s im pl x g x.round recs
  let cells := roundCells s pl x (aCore e) bank x.round st
  let s := stepEcc s x (aCore e) ix (roundReads s im x g st)
  let s := startStep s ix e cells
  let s := count s 0x3070 (if x.round = 0 then 2 else 3) st.placed.length
  let s := addAll s pl x (if x.round = 0 then 1 else 2) st.placed
  dropEv s im pl x g st.dropped

/-- ROUND_0 (R389–R391). -/
def execRound0 (lcl : Lcl) (ix : Nat) (s : State) : Out :=
  match atStep s lcl ix (fun x => x.kind == 0 && x.round == 0) with
  | (s, none) => .next s
  | (s, some (im, pl, x, e, slot, g)) =>
    let bank := activeBank s slot
    let rows := (List.range x.m).map (selectRow s im x (aCore e) g bank)
    let recs := rows.flatMap (·.1)
    let bad := (rows.filter (·.2)).length
    let nulls := ((List.range x.m).filter (rowOn s im x g)).foldl (fun n m =>
      n + (((rows.getD m ([], false)).1).filter (fun c => c.state == 3)).length) 0
    let s := count s 0x3070 5 nulls
    let s := addAll s pl x 0 ((recs.filter (fun c => c.state == open')).map (·.expert))
    let s := if bad = 0 then s
      else raise (count s 0x3070 8 bad) 0x3304 (f16 x.lcl ++ f16 x.id ++ f8 bad)
    .next (runRound s im pl x e ix g bank recs)

/-- DISPATCH_ROUND: a later round places carried choices (R391, R392). -/
def execDispatchRound (lcl : Lcl) (ix : Nat) (s : State) : Out :=
  match atStep s lcl ix (fun x => x.kind == 0 && x.round != 0) with
  | (s, none) => .next s
  | (s, some (im, pl, x, e, _, g)) =>
    let recs := readRec s x (aCore e)
    .next (runRound s im pl x e ix g (recs.headD ⟨0, 0, 0, 3, 0⟩).bank recs)

/-- One combined row and the blocks without a value that it met (R393, 02 R613). -/
def combineRow (s : State) (x : Site) (core : Nat) (recs : List RRec) (m : Nat) : List Nat × Nat :=
  (List.range x.topk).foldl (fun r j =>
    let c := recs.getD (m * x.topk + j) ⟨0, 0, 0, 3, 0⟩
    if c.state != 0 then r
    else
      let (ys, bad) := p16Row (spadGet s x.lcl core (x.ret + c.row * x.retStride) x.pb) x.n
      ((r.1.zip ys).map (fun a => f32Add a.1 (f32Mul c.weight a.2)), r.2 + bad)) (List.replicate x.n 0, 0)

/-- What a combine reads: the route record and the returned rows that are placed. -/
def combineReads (x : Site) (rows : List Nat) (recs : List RRec) : List (Nat × Nat) :=
  (x.rrec, 8 * x.m * x.topk) :: rows.flatMap (fun m => (List.range x.topk).filterMap (fun j =>
    let c := recs.getD (m * x.topk + j) ⟨0, 0, 0, 3, 0⟩
    if c.state = 0 then some (x.ret + c.row * x.retStride, x.pb) else none))

/-- COMBINE (R393). -/
def execCombine (lcl : Lcl) (ix : Nat) (s : State) : Out :=
  match atStep s lcl ix (fun x => x.kind == 1) with
  | (s, none) => .next s
  | (s, some (im, _, x, e, _, g)) =>
    let core := aCore e
    let recs := readRec s x core
    let rows := ((List.range x.m).filter (rowOn s im x g)).map (fun m => (m, combineRow s x core recs m))
    let bad := rows.foldl (fun n r => n + r.2.2) 0
    let cells := rows.flatMap (fun r => cellsAt x.lcl core (x.out + 32 * r.1 * x.outStride) (r.2.1.flatMap (leBytes 4)))
    let s := stepEcc s x core ix (combineReads x (rows.map (·.1)) recs)
    .next (badP16 (startStep s ix e cells) 3 ix x.lcl 0xff 0xff bad)

/-- POPULARITY_COUNT_ADD: the oldest count of a step goes to its word, modulo 2^32, while an object is there (R400). -/
def execPopularityCountAdd (s : State) : Out :=
  match s.routing.adds with
  | [] => .next s
  | (a, n, _) :: r =>
    let s := { s with routing := { s.routing with adds := r } }
    if (objAt s a).isNone then .next s
    else
      let (s, b, _) := getAt s Who.pkg a 4
      .next (putAt s Who.pkg a (f32 ((leNat b + n) % 2 ^ 32)))

/-! ## Revisions (R395–R398) -/

/-- A write of object 0x3026.03 arms a revision. -/
def wArm (s : State) (e : Nat) : WRes :=
  let p := getO s 0x3026 1
  if s.dev.mode != .ready && s.dev.mode != .running then .error 0x0401
  else match (getPart s p).active, activeImage s p with
    | some slot, some im =>
      if !im.lacePts.any (fun x => ptType x == 4) then .error 0x0401
      else match boundPlan s slot with
        | none => .error 0x0401
        | some pl =>
          let bank := 1 - activeBank s slot
          if e < s.lace.tick + horizon s || bankGen s pl bank != getO s 0x3026 2 || !bankOk s pl (sitesOf s pl) bank then
            .error 0x0302
          else .ok { s with routing := { s.routing with revs := mbind s.routing.revs p ⟨getO s 0x3026 2, e, im.lastId⟩ } }
    | _, _ => .error 0x0401

/-- EXPERT_POINT (R396): at cycle 0 of its tick. -/
def execExpertPoint (part : Part) (ix : Nat) (s : State) : Out :=
  let p := part.val
  match activeImage s p, (getPart s p).active, mfind s.routing.revs p with
  | some im, some slot, some rv =>
    match im.lacePts[ix]? with
    | none => .next s
    | some e =>
      if ptType e != 4 || !(getPart s p).runs || periodTick s p im != ptPtick e || s.lace.phase != ptCycle e || s.lace.tick < rv.tick then
        .next s
      else
        let s := { s with routing := { s.routing with revs := mdrop s.routing.revs p } }
        if im.lastId != rv.lastId then .next (raise (count s 0x3070 7 1) 0x3303 (f8 p ++ f32 rv.gen))
        else
          let b := 1 - activeBank s slot
          let s := { s with routing := { s.routing with banks := mset 0 s.routing.banks slot b } }
          .next (raise (count s 0x3070 6 1) 0x3302 (f8 p ++ f32 rv.gen ++ f8 b))
  | _, _, _ => .next s

end Sys2Proof.Machine
end

