-- ==== Sys2Proof/Machine/Crypto.lean ====
section
/-! DEFINITION. The cryptographic functions that the spec names by their standards: SHA-384, HMAC and HKDF with it, AES-256-XTS of
IEEE 1619, ECDSA P-384 verification (12 R409–R411, 15 R502, R503). Their definitions come from the standards (PRESUMED, log entry 60). -/
namespace Sys2Proof.Machine

/-! ## Constants, from the definitions that the standards give them -/

/-- The largest `r` below `acc + 2^n` with `r^k ≤ v`, one bit per step. -/
def rootFloor (k v : Nat) : Nat → Nat → Nat
  | 0, acc => acc
  | n + 1, acc => rootFloor k v n (if (acc + 2 ^ n) ^ k ≤ v then acc + 2 ^ n else acc)

/-- The first 64 fraction bits of the `k`-th root of a number below 512. -/
def rootFraction (k p : Nat) : Nat := rootFloor k (p * 2 ^ (64 * k)) 69 0 % 2 ^ 64

/-- The first 80 primes: those up to 409, which have no divisor from 2 to 20 below themselves. -/
def primes80 : List Nat :=
  (List.range 410).filter (fun n => 1 < n && (List.range 21).all (fun d => d < 2 || n ≤ d || n % d != 0))

/-- Round constants of SHA-384 (FIPS 180-4): of the cube roots of the first 80 primes. -/
def sha512K : List Nat := primes80.map (rootFraction 3)

/-- Initial value of SHA-384: of the square roots of the ninth to the sixteenth prime. -/
def sha384Init : List Nat := ((primes80.drop 8).take 8).map (rootFraction 2)

/-- Product of two bytes in the AES field (FIPS 197), from the top bit of the second. -/
def fieldMul (a b : Nat) : Nat :=
  [7, 6, 5, 4, 3, 2, 1, 0].foldl (fun r i =>
    let d := if r < 128 then 2 * r else (2 * r) ^^^ 0x11b
    if fbit b i then d ^^^ a else d) 0

/-- The inverse in the AES field, with 0 for 0: the 254th power. -/
def fieldInv (a : Nat) : Nat := (List.range 7).foldl (fun r _ => let q := fieldMul r a; fieldMul q q) 1

/-- Bit `i` of the result is the parity of the bits `i + d` of a byte, `d` in `ds`, and of bit `i` of `c`. -/
def affine (ds : List Nat) (c b : Nat) : Nat :=
  (List.range 8).foldl (fun r i =>
    if (ds.foldl (fun p d => p + b / 2 ^ ((i + d) % 8) % 2) (c / 2 ^ i)) % 2 = 1 then r + 2 ^ i else r) 0

/-- The AES S-box. -/
def aesS (b : Nat) : Nat := affine [0, 4, 5, 6, 7] 0x63 (fieldInv b)

/-- Its inverse. -/
def aesInvS (b : Nat) : Nat := fieldInv (affine [2, 5, 7] 0x05 b)

def m64 : Nat := 2 ^ 64
def inv64 (x : Nat) : Nat := (m64 - 1) ^^^ x
def rotr64 (x n : Nat) : Nat := (x >>> n) ||| ((x <<< (64 - n)) % m64)

/-- The number that bytes spell big-endian, and `n` big-endian bytes of a number. -/
def beNum (l : List Byte) : Nat := l.foldl (fun a b => 256 * a + b.toNat) 0
def beOut (n v : Nat) : List Byte := (leBytes n v).reverse

/-- The words of a block's message schedule, newest first. -/
def shaWords : Nat → List Nat → List Nat
  | 0, w => w
  | n + 1, w =>
    let g := fun i => w.getD i 0
    let a := g 14
    let b := g 1
    let s0 := rotr64 a 1 ^^^ rotr64 a 8 ^^^ (a >>> 7)
    let s1 := rotr64 b 19 ^^^ rotr64 b 61 ^^^ (b >>> 6)
    shaWords n (((g 15 + s0 + g 6 + s1) % m64) :: w)

/-- One round on the eight working variables. -/
def shaRound (v : List Nat) (kw : Nat × Nat) : List Nat :=
  match v with
  | [a, b, c, d, e, f, g, h] =>
    let s1 := rotr64 e 14 ^^^ rotr64 e 18 ^^^ rotr64 e 41
    let ch := (e &&& f) ^^^ (inv64 e &&& g)
    let t1 := (h + s1 + ch + kw.1 + kw.2) % m64
    let s0 := rotr64 a 28 ^^^ rotr64 a 34 ^^^ rotr64 a 39
    let mj := (a &&& b) ^^^ (a &&& c) ^^^ (b &&& c)
    [(t1 + s0 + mj) % m64, a, b, c, (d + t1) % m64, e, f, g]
  | _ => v

def shaBlock (h : List Nat) (b : List Byte) : List Nat :=
  let w0 := (List.range 16).map (fun i => beNum (sub b (8 * i) 8))
  let ws := (shaWords 64 w0.reverse).reverse
  let v := (sha512K.zip ws).foldl shaRound h
  (h.zip v).map (fun x => (x.1 + x.2) % m64)

def shaRun : Nat → List Nat → List Byte → List Nat
  | 0, h, _ => h
  | n + 1, h, l => shaRun n (shaBlock h (l.take 128)) (l.drop 128)

/-- SHA-384 (FIPS 180-4). -/
def sha384 (m : List Byte) : List Byte :=
  let z := (128 - (m.length + 17) % 128) % 128
  let p := m ++ [0x80] ++ List.replicate z 0 ++ beOut 16 (8 * m.length)
  ((shaRun (p.length / 128) sha384Init p).take 6).flatMap (beOut 8)

/-- HMAC-SHA-384 (RFC 2104). -/
def hmac (key m : List Byte) : List Byte :=
  let k := padTo 128 (if 128 < key.length then sha384 key else key)
  let x := fun c => k.map (fun b => b ^^^ c)
  sha384 (x 0x5c ++ sha384 (x 0x36 ++ m))

/-- 64 bytes of HKDF-SHA-384 (RFC 5869, 15 R503). -/
def hkdf (ikm salt info : List Byte) : List Byte :=
  let prk := hmac (if salt = [] then List.replicate 48 0 else salt) ikm
  let t1 := hmac prk (info ++ [1])
  (t1 ++ hmac prk (t1 ++ info ++ [2])).take 64

/-! ## AES-256 and XTS -/

def sBox (b : Byte) : Byte := BitVec.ofNat 8 (aesS b.toNat)
def invSBox (b : Byte) : Byte := BitVec.ofNat 8 (aesInvS b.toNat)
def xorB (a b : List Byte) : List Byte := (a.zip b).map (fun x => x.1 ^^^ x.2)
def xtime (b : Byte) : Byte := if b.toNat < 128 then b <<< 1 else (b <<< 1) ^^^ 0x1b

/-- Product in the AES field by a constant of 4 bits. -/
def gmul (c : Nat) (b : Byte) : Byte :=
  let b2 := xtime b
  let b4 := xtime b2
  let b8 := xtime b4
  (if fbit c 0 then b else 0) ^^^ (if fbit c 1 then b2 else 0) ^^^ (if fbit c 2 then b4 else 0) ^^^ (if fbit c 3 then b8 else 0)

/-- Key words, newest first (FIPS 197, Nk = 8). -/
def aesWords : Nat → Nat → List (List Byte) → List (List Byte)
  | 0, _, w => w
  | n + 1, i, w =>
    let t := w.headD []
    let t := if i % 8 = 0 then xorB ((t.drop 1 ++ t.take 1).map sBox) [BitVec.ofNat 8 (2 ^ (i / 8 - 1)), 0, 0, 0]
      else if i % 8 = 4 then t.map sBox else t
    aesWords n (i + 1) (xorB (w.getD 7 []) t :: w)

/-- The 15 round keys. -/
def aesKeys (k : List Byte) : List (List Byte) :=
  let w := (aesWords 52 8 ((List.range 8).map (fun i => sub k (4 * i) 4)).reverse).reverse
  (List.range 15).map (fun r => (w.drop (4 * r)).take 4 |>.flatten)

def shiftRows (s : List Byte) : List Byte := (List.range 16).map (fun i => s.getD ((i + 4 * (i % 4)) % 16) 0)
def invShiftRows (s : List Byte) : List Byte := (List.range 16).map (fun i => s.getD ((i + 12 * (i % 4)) % 16) 0)

def mixWith (m : List Nat) (s : List Byte) : List Byte :=
  (List.range 16).map (fun i => (List.range 4).foldl (fun a j =>
    a ^^^ gmul (m.getD ((j + 4 - i % 4) % 4) 0) (s.getD (i / 4 * 4 + j) 0)) 0)

def aesEnc (ks : List (List Byte)) (b : List Byte) : List Byte :=
  let s := xorB b (ks.headD [])
  let s := ((ks.drop 1).take 13).foldl (fun s k => xorB (mixWith [2, 3, 1, 1] (shiftRows (s.map sBox))) k) s
  xorB (shiftRows (s.map sBox)) (ks.getLastD [])

def aesDec (ks : List (List Byte)) (b : List Byte) : List Byte :=
  let s := xorB b (ks.getLastD [])
  let s := (((ks.drop 1).take 13).reverse).foldl (fun s k => mixWith [14, 11, 13, 9] (xorB ((invShiftRows s).map invSBox) k)) s
  xorB ((invShiftRows s).map invSBox) (ks.headD [])

/-- The next tweak: a product by x in the field of XTS. -/
def nextTweak (t : List Byte) : List Byte :=
  let v := leNat t * 2
  leBytes 16 (if v < 2 ^ 128 then v else (v - 2 ^ 128) ^^^ 0x87)

def xtsRun (f : List Byte → List Byte) : Nat → List Byte → List Byte → List Byte
  | 0, _, _ => []
  | n + 1, t, l => xorB (f (xorB (l.take 16) t)) t ++ xtsRun f n (nextTweak t) (l.drop 16)

/-- Decryption of one data unit with a 64-byte key pair and a tweak value (IEEE 1619, 12 R411). -/
def xtsDec (key : List Byte) (unit : Nat) (l : List Byte) : List Byte :=
  let k1 := aesKeys (key.take 32)
  let k2 := aesKeys (key.drop 32)
  xtsRun (aesDec k1) (l.length / 16) (aesEnc k2 (leBytes 16 unit)) l

/-- Decryption of consecutive 4,096-byte data units from unit `u`. -/
def xtsUnits (key : List Byte) : Nat → Nat → List Byte → List Byte
  | 0, _, _ => []
  | n + 1, u, l => xtsDec key u (l.take 4096) ++ xtsUnits key n (u + 1) (l.drop 4096)

/-! ## ECDSA P-384 -/

def p384 : Nat := 2 ^ 384 - 2 ^ 128 - 2 ^ 96 + 2 ^ 32 - 1
def p384n : Nat :=
  0xffffffffffffffffffffffffffffffffffffffffffffffffc7634d81f4372ddf581a0db248b0a77aecec196accc52973
def p384b : Nat :=
  0xb3312fa7e23ee7e4988e056be3f82d19181d9c6efe8141120314088f5013875ac656398d8a2ed19d2a85c8edd3ec2aef
def p384g : Nat × Nat :=
  (0xaa87ca22be8b05378eb1c71ef320ad746e1d3b628ba79b9859f741e082542a385502f25dbf55296c3a545e3872760ab7,
   0x3617de4a96262c6f5d9e98bf9292dc29f8f41dbd289a147ce9da3113b5f0b8c00a60b1ce1d7e819d7a431d7c90ea0e5f)

/-- x^e modulo m over the lowest `n` bits of e, from the top. -/
def powMod (m x e : Nat) : Nat → Nat → Nat
  | 0, r => r
  | n + 1, r => powMod m x e n (let q := r * r % m; if fbit e n then q * x % m else q)

def invMod (m x : Nat) : Nat := powMod m x (m - 2) 384 1

/-- Points in Jacobian coordinates; z = 0 is the point at infinity. -/
abbrev JPoint := Nat × Nat × Nat

def jDouble (a : JPoint) : JPoint :=
  let (x, y, z) := a
  let p := p384
  if z = 0 || y = 0 then (1, 1, 0)
  else
    let yy := y * y % p
    let s := 4 * x * yy % p
    let zz := z * z % p
    let m := 3 * ((x + p - zz) * (x + zz) % p) % p
    let x' := (m * m + 2 * (p - s)) % p
    (x', (m * (s + p - x') + (p - 8 * (yy * yy % p) % p)) % p, 2 * y * z % p)

def jAdd (a b : JPoint) : JPoint :=
  let (x1, y1, z1) := a
  let (x2, y2, z2) := b
  let p := p384
  if z1 = 0 then b
  else if z2 = 0 then a
  else
    let w1 := z1 * z1 % p
    let w2 := z2 * z2 % p
    let u1 := x1 * w2 % p
    let u2 := x2 * w1 % p
    let s1 := y1 * w2 % p * z2 % p
    let s2 := y2 * w1 % p * z1 % p
    if u1 = u2 then (if s1 = s2 then jDouble a else (1, 1, 0))
    else
      let h := (u2 + p - u1) % p
      let r := (s2 + p - s1) % p
      let hh := h * h % p
      let hhh := h * hh % p
      let v := u1 * hh % p
      let x3 := (r * r + (p - hhh) + 2 * (p - v)) % p
      (x3, (r * (v + p - x3) + (p - s1 * hhh % p)) % p, h * z1 % p * z2 % p)

def jMul (k : Nat) (a : JPoint) : Nat → JPoint → JPoint
  | 0, r => r
  | n + 1, r => jMul k a n (let q := jDouble r; if fbit k n then jAdd q a else q)

/-- A point lies on the curve. -/
def onCurve (x y : Nat) : Bool :=
  x < p384 && y < p384 && y * y % p384 == (x * x % p384 * x + (p384 - 3) * x + p384b) % p384

/-- ECDSA P-384 over a SHA-384 digest, with an uncompressed SEC 1 public key (12 R409). -/
def ecdsaOk (digest pub rB sB : List Byte) : Bool :=
  let n := p384n
  let x := beNum (sub pub 1 48)
  let y := beNum (sub pub 49 48)
  let r := beNum rB
  let s := beNum sB
  if pub.length != 97 || pub.headD 0 != 4 || !onCurve x y || r = 0 || n ≤ r || s = 0 || n ≤ s then false
  else
    let w := invMod n s
    let u1 := beNum digest % n * w % n
    let u2 := r * w % n
    let (px, _, pz) := jAdd (jMul u1 (p384g.1, p384g.2, 1) 384 (1, 1, 0)) (jMul u2 (x, y, 1) 384 (1, 1, 0))
    if pz = 0 then false
    else
      let zi := invMod p384 pz
      px * (zi * zi % p384) % p384 % n == r

/-- A signature block (12 R409) over `body`: type, digest of the key, signature. 0 right, 2 for a wrong SIG_TYPE, 3 signature invalid, 4 key not the one listed. -/
def sigCheck (blk digest keyHash : List Byte) : Nat :=
  if fieldB blk 0 2 != 1 then 2
  else if sha384 (sub blk 104 97) != keyHash then 4
  else if ecdsaOk digest (sub blk 104 97) (sub blk 8 48) (sub blk 56 48) then 0
  else 3

end Sys2Proof.Machine
end

