-- ==== Sys2Proof/Machine/Images.lean ====
section
/-! DEFINITION. Model images, residency and partitions (12 R406–R432). -/
namespace Sys2Proof.Machine

def getImg (s : State) (i : Nat) : ImgEnt := mget ImgEnt.init s.images i
def setImg (s : State) (i : Nat) (e : ImgEnt) : State := { s with images := mset ImgEnt.init s.images i e }

/-! ## The manifest (R406–R410) -/

/-- Byte offset of the first header field out of its range (R406); reserved bytes are ignored (00 R10). -/
def manifestHead (h : List Byte) : Option Nat :=
  if fieldB h 0 4 != 0x464e414d then some 0
  else if fieldB h 4 2 != 1 then some 4
  else if fieldB h 6 2 != 128 then some 6
  else if fieldB h 8 8 = 0 then some 8
  else if fieldB h 24 4 = 0 || 65536 < fieldB h 24 4 then some 24
  else if fieldB h 28 2 = 0 || 2048 < fieldB h 28 2 then some 28
  else if fieldB h 30 1 = 0 || 31 < fieldB h 30 1 then some 30
  else if 7 < fieldB h 31 1 then some 31
  else none

/-- A shard entry of the manifest (R407), without its reserved fields. -/
structure ShardEnt where
  store : Nat
  len : Nat
  owner : Nat
  cls : Nat
  die : Nat
  flags : Nat
  obj : Nat
  base : Nat
  off : Nat
  digest : List Byte
  deriving DecidableEq

def shardEnt (b : List Byte) : ShardEnt :=
  ⟨fieldB b 0 8, fieldB b 8 8, fieldB b 16 2, fieldB b 18 1, fieldB b 19 1, fieldB b 20 1 % 2, fieldB b 24 8,
    fieldB b 32 8, fieldB b 40 8, sub b 48 48⟩

def shardsOf (m : List Byte) : List ShardEnt := (List.range (fieldB m 24 4)).map (fun i => shardEnt (sub m (128 + 96 * i) 96))

/-- Length of the object that a shard list of one OBJ_ID gives (R408). -/
def objLen (es : List ShardEnt) (id : Nat) : Nat :=
  ceilDiv ((es.filter (fun e => e.obj == id)).foldl (fun a e => max a (e.off + e.len)) 0) 16384 * 16384

def meets (a n b m : Nat) : Bool := decide (a < b + m) && decide (b < a + n) && n != 0 && m != 0

/-- A shard entry breaks R407, or R408 with an entry before it. -/
def shardBad (nodes imageLen : Nat) (es : List ShardEnt) (e : ShardEnt) (i : Nat) : Bool :=
  e.store % 4096 != 0 || e.len % 4096 != 0 || nodes ≤ e.owner || 2 < e.cls || 15 < e.die ||
    e.off % 4096 != 0 || imageLen < e.store + e.len || 2 ^ 40 < objLen es e.obj ||
    (es.take i).any (fun x => meets x.store x.len e.store e.len ||
      (x.obj == e.obj && (x.owner != e.owner || x.base != e.base || x.cls != e.cls || x.die != e.die || x.flags != e.flags ||
        meets x.off x.len e.off e.len)))

/-- The manifest's bytes, from its header's NSHARDS. -/
def readManifest (s : State) (a : Nat) : List Byte :=
  let n := fieldB (peek s a 128) 24 4
  peek s a (384 + 96 * min n 65536)

/-- The checks of R406 to R410 in that order, each with its reason and detail (R431). -/
def manifestCheck (s : State) (m : List Byte) : Option (Nat × Nat) :=
  match manifestHead m with
  | some o => some (2, o)
  | none =>
    let n := fieldB m 24 4
    let es := shardsOf m
    let blk := m.drop (128 + 96 * n)
    match es.zipIdx.find? (fun x => shardBad (fieldB m 28 2) (fieldB m 16 8) es x.1 x.2) with
    | some (_, i) => some (6, i)
    | none =>
      let signer := fieldB m 31 1
      match sigCheck blk (sha384 (m.take (128 + 96 * n))) (mget [] s.sec.signers signer) with
      | 2 => some (2, 128 + 96 * n)
      | 3 => some (3, 0)
      | 4 => some (4, signer)
      | _ => if sha384 (es.flatMap (·.digest)) != sub m 32 48 then some (5, 0) else none

/-! ## Listings and eviction (R417–R419) -/

def listedBy (s : State) (id : Nat) (tier : Option Nat) : Bool :=
  (listings s id).any (fun e => match tier with | some t => entryTier e == t | none => true)

/-- The first object of an entry that a loaded last lists. -/
def listedObj (s : State) (e : ImgEnt) (tier : Option Nat) : Option Nat :=
  (e.objs.find? (fun o => listedBy s o.1 tier)).map (·.1)

def destroyImage (s : State) (e : ImgEnt) : State :=
  e.objs.foldl (fun s o => match objById s o.1 with
    | some (k, x) => destroyObj s k x
    | none => s) s

/-- DEMOTE: every object of manifest CLASS 0 becomes COLD. -/
def demoteImg (s : State) (i : Nat) : State :=
  let e := getImg s i
  let s := e.objs.foldl (fun s o => if o.2.1 != 0 then s else match objById s o.1 with
    | some (k, x) => changeNow s k x 2 x.homeDie
    | none => s) s
  setImg s i { getImg s i with residency := 1 }

def evictImg (s : State) (i : Nat) : State :=
  let s := destroyImage s (getImg s i)
  setImg s i { getImg s i with state := 5, residency := 0 }

/-- The image taken next for room (R419): state 3, unlisted, of least use tick. -/
def victim (s : State) (ok : ImgEnt → Bool) : Option Nat :=
  let c := s.images.filter (fun e => e.2.state == 3 && (listedObj s e.2 none).isNone && ok e.2)
  (c.foldl (fun b e => match b with
    | some x => if e.2.useTick < (getImg s x).useTick then some e.1 else b
    | none => some e.1) none)

def victimEv (s : State) (v req act : Nat) : State :=
  raise s 0xa002 (f8 v ++ f64 (getImg s v).imageId ++ f8 act ++ f8 req)

/-- One object takes its manifest class, other images demoted for room while that is permitted; true where it fits. -/
def pinObj (req id cls die : Nat) : Nat → State → State × Bool
  | 0, s => (s, false)
  | n + 1, s =>
    match objById s id with
    | none => (s, true)
    | some (k, o) =>
      if cls != 0 || pinFits s o die then (changeNow s k o cls die, true)
      else if getO s 0xa011 1 = 0 then (s, false)
      else
        let share := getO s (0xa000 + o.partition) 0x0f < partTiles s o.partition +
          ((tilesOf o).filter (fun t => !(getTile s t).copy)).length
        match victim s (fun e => e.residency == 2 && (!share || e.partition == o.partition)) with
        | none => (s, false)
        | some v => if v = req then (s, false) else pinObj req id cls die n (demoteImg (victimEv s v req 1) v)

/-- PIN: SETCLASS of each object to its manifest CLASS and HOME_DIE in entry order (R417). -/
def pinImg (s : State) (i : Nat) : State × Bool :=
  let e := getImg s i
  let (s, ok) := e.objs.foldl (fun r o => if r.2 then pinObj i o.1 o.2.1 o.2.2 33 r.1 else r) (s, true)
  (if ok then setImg s i { getImg s i with residency := if e.objs.any (fun o => o.2.1 == 0) then 2 else 1 } else s, ok)

/-- One object of OPEN is created, images of its partition evicted for room while that is permitted; the STATUS, 1 for done. -/
def openObj (req id base len flags part region : Nat) : Nat → State → State × Nat
  | 0, s => (s, 0x82)
  | n + 1, s =>
    match createStatus s id base len 2 0 flags part region false false with
    | 1 => ((createObj s id base len 0 flags part region).1, 1)
    | 0x82 =>
      if getO s 0xa011 1 < 2 then (s, 0x82)
      else match victim s (fun e => e.partition == part) with
        | none => (s, 0x82)
        | some v => openObj req id base len flags part region n (evictImg (victimEv s v req 2) v)
    | st => (s, st)

/-! ## The commands (R412–R417) -/

/-- Outcome of a command: state, reason (0 done), detail, state that the entry takes when the command ends. -/
abbrev ImgRes := State × Nat × Nat × Nat

def distinctIds (es : List ShardEnt) : List ShardEnt :=
  es.foldl (fun a e => if a.any (fun x => x.obj == e.obj) then a else a ++ [e]) []

def openImg (s : State) (i : Nat) : ImgRes :=
  let old := (getImg s i).state
  let m := readManifest s (getO s 0xa020 1)
  match manifestCheck s m with
  | some (r, d) => (s, r, d, old)
  | none =>
    let id := fieldB m 8 8
    match s.images.find? (fun e => e.1 != i && 1 ≤ e.2.state && e.2.state ≤ 4 && e.2.imageId == id) with
    | some e => (s, 0x0d, e.1, old)
    | none =>
      let es := shardsOf m
      let mine := es.zipIdx.filter (fun x => x.1.owner == lnode s)
      let part := getO s 0xa020 3
      let objs := distinctIds (mine.map (·.1))
      let (s', made, st) := objs.foldl (fun r e =>
        if r.2.2 != 1 then r
        else
          let (s, st) := openObj i e.obj e.base (objLen es e.obj) (2 + 4 * e.flags) part (getO s 0xa020 8) 33 r.1
          (s, if st = 1 then r.2.1 ++ [e.obj] else r.2.1, st)) (s, ([] : List Nat), 1)
      if st != 1 then
        (made.foldl (fun s id => match objById s id with | some (k, o) => destroyObj s k o | none => s) s', 7, st, old)
      else
        let shards := mine.map (fun x => (⟨x.2, x.1.store, x.1.len, x.1.obj, x.1.off, x.1.base, x.1.digest, false⟩ : Shard))
        (setImg s' i { ImgEnt.init with
          state := 1, residency := 1, imageId := id, partition := part, keyId := fieldB m 30 1, digest := sha384 m,
          addr := getO s 0xa020 1, shards := shards, objs := objs.map (fun e => (e.obj, e.cls, e.die)) }, 0, 0, 1)

/-- One shard is decrypted in place and hashed (R415 step 2). -/
def sealShard (i : Nat) (key : List Byte) (s : State) (x : Shard) : State :=
  if x.verified then s
  else
    let a := x.base + x.off
    let plain := xtsUnits key (x.len / 4096) (x.storeOff / 4096) (peek s a x.len)
    let s := putAt s Who.pkg a plain
    if sha384 plain = x.digest then
      let e := getImg s i
      setImg s i { e with shards := e.shards.map (fun y => if y.ix = x.ix then { y with verified := true } else y) }
    else raise s 0xa003 (f8 i ++ f32 x.ix ++ f64 (getImg s i).imageId)

def sealImg (s : State) (i : Nat) : ImgRes :=
  let e := getImg s i
  let s := setImg s i { e with state := 2 }
  if sha384 (readManifest s e.addr) != e.digest then (s, 0x0a, 0, 4)
  else
    let todo := e.shards.any (fun x => !x.verified)
    match (if todo then mfind s.sec.slots e.keyId else some []) with
    | none => (s, 8, e.keyId, 4)
    | some key =>
      let s := e.shards.foldl (sealShard i key) s
      match (getImg s i).shards.find? (fun x => !x.verified) with
      | some x => (s, 9, x.ix, 4)
      | none =>
        let s := e.objs.foldl (fun s o => match objById s o.1 with
          | some (k, x) => putObj s k { x with flags := if fbit x.flags 1 then x.flags - 2 else x.flags }
          | none => s) s
        let (s, ok) := pinImg s i
        if ok then (s, 0, 0, 3) else (s, 0x0b, 0x83, 3)

/-- The state an entry must be in, and what the command does (R412). -/
def runImg (s : State) (i c : Nat) : ImgRes :=
  let e := getImg s i
  let no : ImgRes := (s, 1, e.state, e.state)
  let used := fun (t : Option Nat) => (listedObj s e t)
  match c with
  | 1 => if e.state = 0 || e.state = 5 then openImg s i else no
  | 2 => if e.state = 1 || e.state = 4 then sealImg s i else no
  | 3 =>
    if e.state != 3 || e.residency != 2 then no
    else match used (some 1) with
      | some o => (s, 0x0c, o % 2 ^ 32, 3)
      | none => (demoteImg s i, 0, 0, 3)
  | 4 =>
    if e.state != 3 || e.residency != 1 then no
    else
      let (s, ok) := pinImg s i
      if ok then (s, 0, 0, 3) else (s, 0x0b, 0x83, 3)
  | 5 =>
    if e.state != 1 && e.state != 3 && e.state != 4 then no
    else match used none with
      | some o => (s, 0x0c, o % 2 ^ 32, e.state)
      | none => (evictImg s i, 0, 0, 5)
  | _ =>
    if e.state = 2 then no
    else match used none with
      | some o => (s, 0x0c, o % 2 ^ 32, e.state)
      | none => (setImg (destroyImage s e) i ImgEnt.init, 0, 0, 0)

/-- A write of object 0xA020.04. -/
def wImage (s : State) (c : Nat) : WRes :=
  if s.dev.mode != .ready && s.dev.mode != .running then .error 0x0401
  else if s.imgCmd.isSome then .error 0x0601
  else if c = 0 || 6 < c then .error 0x0302
  else
    let i := getO s 0xa020 2
    let (s, r, d, fin) := runImg s i c
    .ok (setO { s with imgCmd := some ⟨i, c, r, d, fin⟩ } 0xa020 5 1)

/-- IMAGE_COMMAND_COMPLETE: the outcome is reported, and a sealed entry leaves state 2. -/
def execImageCommandComplete (s : State) : Out :=
  match s.imgCmd with
  | none => .next s
  | some c =>
    let e := getImg s c.entry
    let s := if e.state = 2 then setImg s c.entry { e with state := c.final } else s
    let st := if c.reason = 0 then 2 else 3
    let s := setO (setO (setO { s with imgCmd := none } 0xa020 5 st) 0xa020 6 c.reason) 0xa020 7 c.detail
    .next (raise s 0xa001 (f8 c.entry ++ f8 c.cmd ++ f8 st ++ f8 c.reason ++ f32 c.detail))

/-! ## Partitions (R420–R424) -/

def partObj (p : Nat) : Nat := 0xa000 + p
def partState (s : State) (p : Nat) : Nat := getO s (partObj p) 1

/-- A logical cluster that belongs to no partition in state 1. -/
def freeCluster (s : State) (l : Nat) : Bool :=
  (List.range 8).all (fun p => partState s p != 1 || !inSet s p l)

/-- Tiles of PINNED copies of a partition's objects on a die. -/
def pinnedOf (s : State) (p d : Nat) : Nat :=
  (s.memSt.tiles.filter (fun e => e.2.copy && e.2.die == d &&
    (match objAt s (e.1 * 16384) with | some (_, o) => o.cls == 0 && o.partition == p | none => false))).length

/-- Free clusters in the order of the placement mode (R422). -/
def clusterOrder (s : State) (p : Nat) : List Nat :=
  let free := fun (d : Nat) => ((List.range 19).map (fun i => 19 * d + i)).filter (freeCluster s)
  let dies := List.range 16
  if getO s 0xa010 0 = 1 then
    (sortBy (fun a b => pinnedOf s p b ≤ pinnedOf s p a) dies).flatMap free
  else dies.flatMap free

/-- Tiles of a die that no direct region may take: last store, other direct regions, PINNED copies, the boot staging area. -/
def barred (s : State) (p d : Nat) : List (Nat × Nat) :=
  [(0, getO s 0x4002 (d + 1))] ++ (if s.dev.stagingHeld && d = 15 then [(24576, 4096)] else []) ++
    ((List.range 8).filterMap (fun q =>
      let f := getO s (partObj q) (0x21 + d)
      if q = p || f = 0xffff || partState s q != 1 then none else some (f, getO s (partObj q) (0x11 + d)))) ++
    (s.memSt.tiles.filterMap (fun e => if e.2.copy && e.2.die = d && pinnedCopy s e.1 d then some (e.2.tile, 1) else none)) ++
    (s.memSt.migs.filterMap (fun m => match m.dest with
      | some (d', t) => if m.forClass && d' = d then some (t, 1) else none
      | none => none))

/-- First tile of the highest run of `r` tiles (R423). -/
def placeRegion (s : State) (p d r : Nat) : Option Nat :=
  let b := barred s p d
  let cands := if r ≤ 28672 then (28672 - r) :: (b.filter (fun x => r ≤ x.1)).map (fun x => x.1 - r) else []
  (cands.filter (fun f => b.all (fun x => !meets x.1 x.2 f r))).foldl (fun a f => some (match a with | some x => max x f | none => f)) none

/-- A migration toward a run of tiles of a die. -/
def towardRun (d f r : Nat) (m : Migration) : Bool :=
  match m.dest with | some (d', t) => d' == d && f ≤ t && t < f + r | none => false

/-- HOT copies of a run are demoted, and promotions bound for it end (R423). -/
def clearRun (s : State) (d f r : Nat) : State :=
  clearTiles s (s.memSt.tiles.filter (fun e => e.2.copy && e.2.die == d && f ≤ e.2.tile && e.2.tile < f + r)) (towardRun d f r)

/-- The regions of every die with a requested size; none where one does not fit. -/
def placeRegions (s : State) (p : Nat) : Option (List (Nat × Nat)) :=
  (List.range 16).foldl (fun a d => match a with
    | none => none
    | some l =>
      let r := getO s (partObj p) (0x11 + d)
      if r = 0 then some l else (placeRegion s p d r).map (fun f => l ++ [(d, f)])) (some [])

def setWords (s : State) (p : Nat) (cs : List Nat) : State :=
  (List.range 10).foldl (fun s w =>
    setO s (partObj p) (3 + w) ((cs.filter (fun l => l / 32 == w)).foldl (fun v l => v + 2 ^ (l % 32)) 0)) s

def partEv (s : State) (p c : Nat) (cs : List Nat) : State :=
  raise s 0xa004 (f8 p ++ f8 c ++ f16 cs.length ++ f16 (cs.foldl min 0xffff))

/-- What a DEFINE with clusters `cs` and direct regions `rs` does (R421 to R423). -/
def defined (s : State) (p c : Nat) (cs : List Nat) (rs : List (Nat × Nat)) : State :=
  let s := rs.foldl (fun s x => setO (clearRun s x.1 x.2 (getO s (partObj p) (0x11 + x.1))) (partObj p) (0x21 + x.1) x.2) s
  rs.foldl (fun s x => sweepDie s x.1) (partEv (setO (setO (setWords s p cs) (partObj p) 1 1) (partObj p) 2 cs.length) p c cs)

/-- A DEFINE with its clusters. -/
def define (s : State) (p c : Nat) (cs : List Nat) : WRes :=
  match placeRegions s p with
  | none => .error 0x0302
  | some rs => .ok (defined s p c cs rs)

/-- Clusters that the words of a partition name. -/
def namedClusters (s : State) (p : Nat) : List Nat := (List.range 304).filter (inSet s p)

/-- The clusters of DEFINE_SET are free ones that exist. -/
def setFit (s : State) (p : Nat) : Bool :=
  !(namedClusters s p).isEmpty && (namedClusters s p).all (freeCluster s) && getO s (partObj p) 0x0c / 65536 == 0

/-- A loaded last belongs to a partition. -/
def lastOf (s : State) (p : Nat) : Bool :=
  s.slots.any (fun e => match e.2.image with | some im => im.partition == p | none => false)

/-- RELEASE: no clusters, no direct regions, state 2. -/
def released (s : State) (p : Nat) : State :=
  let s := (List.range 16).foldl (fun s d => setO s (partObj p) (0x21 + d) 0xffff) s
  partEv (setO (setO (setWords s p []) (partObj p) 1 2) (partObj p) 2 0) p 3 []

/-- CLEAR: no range, no share, state 0. -/
def cleared (s : State) (p : Nat) : State :=
  partEv (setO (setO (setO (setO s (partObj p) 0x0d 0) (partObj p) 0x0e 0) (partObj p) 0x0f 0) (partObj p) 1 0) p 4 []

/-- A write of object 0xA008.03 (R421). -/
def wPartCmd (s : State) (c : Nat) : WRes :=
  let p := getO s 0xa008 1
  let st := partState s p
  if s.dev.mode != .standby && s.dev.mode != .ready then .error 0x0401
  else if c = 1 then
    if st = 1 then .error 0x0401
    else
      let n := getO s 0xa008 2
      let cs := (clusterOrder s p).take n
      if cs.length < n then .error 0x0302 else define s p 1 (sortBy (fun a b => a ≤ b) cs)
  else if c = 2 then
    if st = 1 then .error 0x0401
    else if setFit s p then define s p 2 (namedClusters s p) else .error 0x0302
  else if c = 3 then
    if st != 1 || lastOf s p then .error 0x0401 else .ok (released s p)
  else if c = 4 then
    if st != 2 || s.memSt.objs.any (fun e => e.2.partition == p) then .error 0x0401 else .ok (cleared s p)
  else .error 0x0302

/-- A DRAM range is right for a partition (R424). -/
def rangeOk (s : State) (p base len : Nat) : Bool :=
  base % 16384 == 0 && len % 16384 == 0 &&
    (len == 0 || (getO s 0x4001 1 ≤ base && base + len ≤ getO s 0x4001 1 + getO s 0x4001 2 &&
      (List.range 8).all (fun q => q == p || partState s q == 0 ||
        !meets (getO s (partObj q) 0x0d) (getO s (partObj q) 0x0e) base len)))

/-- A write of subindex 0x0d or 0x0e. -/
def wRange (s : State) (p sub v : Nat) : WRes :=
  if s.memSt.objs.any (fun e => e.2.partition == p) then .error 0x0401
  else
    let base := if sub = 0x0d then v else getO s (partObj p) 0x0d
    let len := if sub = 0x0e then v else getO s (partObj p) 0x0e
    if rangeOk s p base len then .ok (setO s (partObj p) sub v) else .error 0x0302

/-- Pool tiles of all dies. -/
def allPool (s : State) : Nat := (List.range 16).foldl (fun n d => n + poolSize s d) 0

/-- A write of subindex 0x0f: the hot-set share. -/
def wShare (s : State) (p v : Nat) : WRes :=
  let others := (List.range 8).foldl (fun n q => if q = p || partState s q = 0 then n else n + getO s (partObj q) 0x0f) 0
  if v < partTiles s p || allPool s < others + v then .error 0x0302 else .ok (setO s (partObj p) 0x0f v)

end Sys2Proof.Machine
end

