-- ==== Sys2Proof/Machine/Timed.lean ====
section
/-! DEFINITION. What takes effect at a named tick: slot masks, START, SWITCH, ADOPT, the stop of faulted partitions (04 R137,
R141, R155, 05 R183–R196, 16 R533–R535). -/
namespace Sys2Proof.Machine

/-! ## Masks (R141, R186, R187) -/

def mSlot (arg : Nat) : Nat := field arg 0 16
def mBit (arg : Nat) : Bool := fbit arg 16
def mPart (arg : Nat) : Nat := field arg 17 3

/-- Order of two masks by SEQ, nearest first around its 256 values. -/
def seqBefore (a b : Timed) : Bool := (b.seq + 256 - a.seq) % 256 < 128

/-- A cluster takes one mask update, where the slot lies in its last and in a group that it serves; an operation that issues in the same
cycle reads the mask as it was (03 R98). -/
def takeMask (s : State) (p l : Nat) (im : Image) (x : Timed) : State :=
  let a := mSlot x.arg
  if mPart x.arg != p || im.groups * im.slotsPer ≤ a || !(mget [] im.groupTab l).contains (a / max 1 im.slotsPer) then s
  else modCl s l (fun c => { c with
    mask := if mBit x.arg then orBit c.mask a else clrBit c.mask a
    maskAt := s.cyc + 1
    maskOld := if c.maskAt = s.cyc + 1 then c.maskOld else c.mask })

/-- The first MASK point of a cluster in a tick: every update for this tick or before is taken in order. -/
def maskCluster (s : State) (p l : Nat) (im : Image) : State :=
  if (getCl s l).maskTick = s.lace.tick + 1 then s
  else
    let ms := sortBy seqBefore (s.lace.masks.filter (fun x => x.tick ≤ s.lace.tick))
    modCl (ms.foldl (fun s x => takeMask s p l im x) s) l (fun c => { c with maskTick := s.lace.tick + 1 })

/-- MASK_POINT: in every named cluster that stands at the point. -/
def execMaskPoint (part : Part) (ix : Nat) (s : State) : Out :=
  match activeImage s part with
  | none => .next s
  | some im =>
    match im.lacePts[ix]? with
    | none => .next s
    | some e =>
      if ptType e != 1 then .next s
      else .next (im.clusterMap.foldl (fun s l =>
        if !ptNames e l then s
        else match atCycle s l (ptPtick e) (ptCycle e) with
          | (s, some (p, _)) => if p = part.val then maskCluster s p l im else s
          | (s, none) => s) s)

/-! ## Symbols due (R184, R186) -/

/-- A timed symbol takes effect in this tick. -/
def symDue (s : State) (x : Timed) : Bool :=
  x.tick ≤ s.lace.tick &&
    (if x.type = 0x22 then pointAt s (swPart x.arg) 5 s.lace.tick
     else if x.type = 0x23 then freqPoint s s.lace.tick else true)

/-- Order of R186. -/
def symOrd (x : Timed) : Nat :=
  if x.type = 0x24 then 0 else if x.type = 0x22 then 1 + swPart x.arg else if x.type = 0x23 then 9 else 10

def symBefore (a b : Timed) : Bool := symOrd a < symOrd b || (symOrd a == symOrd b && seqBefore a b)

/-- The symbol that takes effect next at phase 0 of this tick, and the state without it. -/
def dueSym (s : State) (ty : Nat) : Option (State × Timed) :=
  if !laceRuns s || s.lace.phase != 0 then none
  else
    match (sortBy symBefore (s.lace.timed.filter (symDue s))).head? with
    | some x => if x.type = ty then some ({ s with lace := { s.lace with timed := s.lace.timed.filter (· != x) } }, x) else none
    | none => none

/-! ## START (R188) -/

/-- Clusters of a last as they are when it starts or replaces another: scoreboards clear, scratchpad undefined. -/
def freshClusters (s : State) (ls : List Nat) (keepMask : Bool) : State :=
  let s := ls.foldl (fun s l =>
    let s := spadForget s l
    let c := getCl s l
    let s := setCl s l { Cluster.init with epoch := c.epoch, mask := if keepMask then c.mask else 0 }
    let a := getAwl s l
    setAwl s l { Awl.init with queue := a.queue, flight := a.flight.filter (fun f => f.ix == 0xffff) }) s
  let s := { s with cores := s.cores.filter (fun e => !ls.contains (e.1 / 64)) }
  s.ports.foldl (fun s e => if e.2.late = [] then s
    else setPort s e.1 { e.2 with late := e.2.late.filter (fun t => !ls.contains (xLcl t.2)) }) s

/-- RUNNING is entered, or went on (R188, 08 R290). -/
def enterRunning (s : State) : State :=
  if s.dev.mode != .ready then s
  else
    let s := setMode { s with dev := { s.dev with armed := false } } .running 1 0
    (upPorts s).foldl (fun s p => sendCtl s p (ctlIdent s p)) s

/-- A partition with an active last starts at this tick, unless its ports fail (04 R155). -/
def startPart (s : State) (p : Nat) : State :=
  match (getPart s p).active, activeImage s p with
  | some n, some im =>
    match portCheck s im with
    | some q => raise s 0x3002 (f8 n ++ f64 im.lastId ++ f16 6 ++ f32 q)
    | none =>
      let s := freshClusters s im.clusterMap false
      setPart s p { getPart s p with t0 := s.lace.tick, runs := true, faultTick := none }
  | _, _ => s

/-- RUNNING_ENTRY: the START that is due. -/
def execRunningEntry (s : State) : Out :=
  match dueSym s 0x21 with
  | none => .next s
  | some (s, x) =>
    let ps := (List.range 8).filter (fun p => fbit x.arg p && (activeImage s p).isSome && !(getPart s p).runs)
    if ps = [] || !((s.dev.mode = .ready && s.dev.armed) || s.dev.mode = .running) then .next s
    else .next (ps.foldl startPart (enterRunning s))

/-! ## SWITCH (R189–R191) -/

/-- The adopter's SWITCH of its adoption tick (R196). -/
def adopting (s : State) : Bool := s.dev.mode == .ready && s.dev.armed && getO s 0x3017 2 == s.lace.tick && getO s 0x3017 1 != 0xffff

/-- The loaded slot that a table entry names (R189); an adopter without an active last finds it by LAST_ID (log entry 46). Every package
looks, one in READY with an active last too (log entry 63). -/
def switchSlot (s : State) (p id : Nat) : Option (Nat × Image) :=
  match (getPart s p).active, activeImage s p with
  | some n, some im =>
    if im.lastId = id then some (n, im)
    else s.slots.findSome? (fun e => match e.2.image with
      | some x => if x.lastId = id && x.baseId = im.lastId && x.partition = p then some (e.1, x) else none
      | none => none)
  | _, _ =>
    if adopting s then s.slots.findSome? (fun e => match e.2.image with
      | some x => if x.lastId = id && x.partition = p then some (e.1, x) else none
      | none => none)
    else none

def switchEv (s : State) (p ix id outcome : Nat) : State := raise s 0x310a (f8 p ++ f8 ix ++ f64 id ++ f8 outcome)

/-- Recovery timers that a SWITCH of partition `p` stops (16 R533). -/
def stopTimers (s : State) (p : Nat) : State := { s with recovery := s.recovery.filter (fun e => e.1 != p && e.1 < 8) }

/-- The switch is taken (R190); its segment runs from then on where the package runs, or adopts in this tick (R196). -/
def takeSwitch (s : State) (p ix id n : Nat) (im : Image) : State :=
  let x := getPart s p
  let old := activeImage s p
  let restart := (old.map (·.lastId)) == some id
  let keep := !restart && (old.map (·.period)) == some im.period
  let s := bindSwitch s im
  let used := ((old.map (·.clusterMap)).getD []) ++ im.clusterMap
  let s := freshClusters s used true
  let goes := inRun s || adopting s
  let s := setPart s p { x with active := some n, t0 := if keep then x.t0 else s.lace.tick, runs := goes, faultTick := none }
  let s := if goes then enterRunning s else s
  switchEv (count s 0x3060 5 1) p ix id 0

/-- FALLBACK_SWITCH of a partition: the SWITCH that is due, any other for it in this tick ignored (R186). -/
def execFallbackSwitch (part : Part) (s : State) : Out :=
  let p := part.val
  match dueSym s 0x22 with
  | none => .next s
  | some (s', x) =>
    if swPart x.arg != p then .next s
    else
      let s := s'
      let dup := s.lace.timed.filter (fun y => y.type == 0x22 && swPart y.arg == p && symDue s y)
      let s := count { s with lace := { s.lace with timed := s.lace.timed.filter (fun y => !dup.contains y) } } 0x3060 8 dup.length
      if !inRun s && s.dev.mode != .ready then .next s
      else
        let ix := x.arg % 64
        let id := getO s 0x3024 (ix + 1)
        let v := ((getPart s p).faultTick).getD s.lace.tick
        let found := switchSlot s p id
        let s := match found with
          | none => switchEv (setPart s p { getPart s p with runs := false, faultTick := none }) p ix id 1
          | some (n, im) =>
            if (portCheck s im).isSome then switchEv (setPart s p { getPart s p with runs := false, faultTick := none }) p ix id 2
            else takeSwitch s p ix id n im
        let s := stopTimers s p
        let s := if s.parts.any (fun e => e.2.faultTick.isSome) then s else { s with lace := { s.lace with stopFrom := none } }
        .next (rewindSwitch s p s.lace.tick v)

/-! ## ADOPT (R194–R196, 09 R307) -/

/-- The package that held the node is fenced (R195): HALTED, its schedule channel silent. -/
def fence (s : State) (n origin : Nat) : State :=
  let s := stopSchedule s
  let s := { s with
    lace := { s.lace with fenced := true, timed := [], masks := [] }
    dev := { s.dev with armed := false, haltCause := 0 } }
  let s := startTimer (raise s 0x310c (f16 n ++ f16 origin ++ f64 s.lace.tick)) 106
  if s.dev.mode = .ready || s.dev.mode = .running || s.dev.mode = .draining then setMode s .halted 2 0 else s

/-- IDENTITY_ADOPTED: the ADOPT that is due. -/
def execIdentityAdopted (s : State) : Out :=
  match dueSym s 0x24 with
  | none => .next s
  | some (s, x) =>
    let n := x.arg % 2048
    let s := { s with fab := { s.fab with lmap := mset 0xffff s.fab.lmap n x.origin } }
    if x.origin = pnode s then .next (raise s 0x310b (f16 n ++ f16 (pnode s) ++ f64 s.lace.tick))
    else if lnode s = n then .next (fence s n x.origin)
    else .next s

/-! ## Faulted partitions (R183) -/

/-- Operations whose operands are read complete; the rest are gone. -/
def endCores (s : State) (im : Image) : State :=
  let s := im.clusterMap.foldl (fun s l => (List.range 64).foldl (fun s c =>
    ((getCore s l c).flight.filter unitsRead).foldl (fun s f => commit s l c im f) s) s) s
  { s with cores := s.cores.filter (fun e => !im.clusterMap.contains (e.1 / 64)) }

/-- FAULTED_PARTITION_STOP: from tick T + H the faulted partitions run no segment. -/
def execFaultedPartitionStop (s : State) : Out :=
  match s.lace.stopFrom with
  | none => .next s
  | some f =>
    if s.lace.tick < f then .next s
    else
      let ps := (s.parts.filter (fun e => e.2.faultTick.isSome && e.2.runs)).map (·.1)
      let s := ps.foldl (fun s p => match activeImage s p with
        | some im => endCores s im
        | none => s) s
      .next (ps.foldl (fun s p => setPart s p { getPart s p with runs := false }) s)

end Sys2Proof.Machine
end

