-- ==== Sys2Proof/Machine/Tick.lean ====
section
/-! DEFINITION. Time: the end of a tick, one engine cycle of an idle block, sleep and wake-up (04 R129, R130, R139, 05 R162, R179,
R182, 12 R418, R428, 17 R549–R553). -/
namespace Sys2Proof.Machine

/-! ## Whether a cluster has completed its segment (R182) -/

/-- Schedule cycles of the tick in which an action of the awl or the links starts. -/
def lastAction (im : Image) (l pt : Nat) : Nat :=
  let a := (im.awl.filter (fun e => aLcl e == l && aPtick e == pt)).map aStart
  let x := (im.xfer.filter (fun e => xLcl e == l && xPtick e == pt)).map xSend
  let r := (im.reduce.filter (fun e => rLcl e.1 == l)).flatMap (fun e =>
    (List.range (rNc e.1)).filterMap (fun i => let y := redAt im e.1 i; if y.1 = pt then some y.2 else none))
  (a ++ x ++ r).foldl max 0

/-- Every op word of the segment was issued or failed its CHK, and the cluster stands past its last other action. -/
def segmentDone (s : State) (l : Nat) (im : Image) (pt : Nat) : Bool :=
  (getCl s l).hold.isNone && lastAction im l pt ≤ schedCyc s l &&
    (List.range 64).all (fun c =>
      let co := getCore s l c
      (segment im l c pt).all (fun e => e.1 < co.pos || co.bad.contains e.1))

/-- Running clusters, each with its partition's period tick. -/
def liveClusters (s : State) : List (Nat × Nat × Image) :=
  s.parts.flatMap (fun e =>
    if e.2.runs && !stoppedPart s e.1 then
      match activeImage s e.1 with
      | some im => im.clusterMap.map (fun l => (l, periodTick s e.1 im, im))
      | none => []
    else [])

/-- Clusters that did not complete the tick. -/
def unfinished (s : State) : List Nat :=
  ((liveClusters s).filter (fun x => clusterGoes s x.1 && !segmentDone s x.1 x.2.2 x.2.1)).map (·.1)

/-! ## What a tick's end counts (12 R418, R428) -/

/-- Engine-cycles of a partition that ran in the tick. -/
def countPart (s : State) (p : Nat) (im : Image) : State :=
  let pt := periodTick s p im
  let s := count s (partObj p) 0x31 (1024 * getO s (partObj p) 2 * s.lace.tickLen)
  count s (partObj p) 0x32 (im.busy.getD pt 0)

/-- The use tick of the images that an active last lists. -/
def useImages (s : State) (im : Image) : State :=
  let ids := im.objects.map entryId
  { s with images := s.images.map (fun e =>
    if e.2.objs.any (fun o => ids.contains o.1) then (e.1, { e.2 with useTick := s.lace.tick }) else e) }

def countTick (s : State) : State :=
  s.parts.foldl (fun s e =>
    if e.2.runs && !stoppedPart s e.1 then
      match activeImage s e.1 with
      | some im => useImages (countPart s e.1 im) im
      | none => s
    else s) s

/-! ## Sleep (17 R549–R553) -/

/-- Hints of running partitions whose period tick is the present one. -/
def hintsNow (s : State) (kind : Nat) : List Nat :=
  s.parts.flatMap (fun e =>
    if e.2.runs then
      match activeImage s e.1 with
      | some im => (im.wake.filter (fun h => hKind h == kind && hPtick h == periodTick s e.1 im)).map hTarget
      | none => []
    else [])

/-- At phase 0 of its tick a target that is not awake is late (R553). -/
def markLate (s : State) : State :=
  let s := (hintsNow s 0).foldl (fun s l => if (getCl s l).asleep then modCl s l (fun c => { c with lateAt := s.cyc + 1 }) else s) s
  (hintsNow s 2).foldl (fun s p => if (getPort s p).asleep then modPort s p (fun x => { x with lateAt := s.cyc + 1 }) else s) s

/-- A hint of a partition's last, where its tick stands `lead` ticks before the hint's PTICK. -/
def hintAt (s : State) (p ix lead : Nat) : Option Nat :=
  match activeImage s p with
  | none => none
  | some im =>
    match im.wake[ix]? with
    | none => none
    | some h =>
      if (getPart s p).runs && (periodTick s p im + lead * (if lead = 0 then 0 else hLead h)) % max 1 im.period = hPtick h then some h
      else none

/-- A cluster falls asleep (17 R549): its scratchpad is undefined and its scoreboard clear after the wake; mask, binding and the
descriptors that this last wrote (03 R614) are kept. -/
def sleepCluster (s : State) (l : Nat) : State :=
  let s := spadForget s l
  let s := modCl s l (fun c => { c with asleep := true, waking := false, lateAt := 0, sb := [], resole := Resole.init })
  (List.range 64).foldl (fun s c => setCore s l c { CoreSt.init with descs := (getCore s l c).descs }) s

/-- SLEEP_START: a sleep hint of a cluster in its first tick. -/
def execSleepStart (part : Part) (ix : Nat) (s : State) : Out :=
  match hintAt s part ix 0 with
  | some h => if hKind h = 1 && !(getCl s (hTarget h)).asleep then .next (sleepCluster s (hTarget h)) else .next s
  | none => .next s

/-- PORT_SLEEP: a sleep hint of a port in its first tick (R550). -/
def execPortSleep (part : Part) (ix : Nat) (s : State) : Out :=
  match hintAt s part ix 0 with
  | some h => if hKind h = 3 then .next (modPort s (hTarget h) (fun x => { x with asleep := true, lateAt := 0 })) else .next s
  | none => .next s

/-- WAKE_UP_START: LEAD ticks before PTICK (R552). A port is awake from its start on, "within 1 µs" (R550). -/
def execWakeUpStart (part : Part) (ix : Nat) (s : State) : Out :=
  match hintAt s part ix 1 with
  | some h =>
    if hKind h = 0 && (getCl s (hTarget h)).asleep then .next (modCl s (hTarget h) (fun c => { c with waking := true }))
    else if hKind h = 2 then .next (modPort s (hTarget h) (fun x => { x with asleep := false }))
    else .next s
  | none => .next s

def lateWake (s : State) (kind target pt late : Nat) : State :=
  if late = 0 then s else raise (count s 0x2160 4 1) 0x210a (f8 kind ++ f16 target ++ f16 pt ++ f32 (s.cyc + 1 - late))

/-- WAKE_UP_COMPLETE: the clocks of the target are enabled; a late one is reported (R553). -/
def execWakeUpComplete (part : Part) (ix : Nat) (s : State) : Out :=
  match (activeImage s part).bind (fun im => im.wake[ix]?) with
  | none => .next s
  | some h =>
    let t := hTarget h
    if hKind h = 0 && (getCl s t).asleep && ((getCl s t).waking || (getCl s t).lateAt != 0) then
      let late := (getCl s t).lateAt
      .next (lateWake (modCl s t (fun c => { c with asleep := false, waking := false, lateAt := 0, hold := none })) 0 t (hPtick h) late)
    else if hKind h = 2 then
      let late := (getPort s t).lateAt
      .next (lateWake (modPort s t (fun x => { x with asleep := false, lateAt := 0 })) 2 t (hPtick h) late)
    else .next s

/-! ## The end of a tick (R179, R182, R183) -/

/-- The stretches with which the tick ends after the present cycle, and whether no k qualified. -/
def endsNow (s : State) : Option (Nat × Bool) :=
  let e := s.lace.phase + 1
  if !counting s || s.lace.tickLen = 0 || e < s.lace.tickLen then none
  else
    let d := e - s.lace.tickLen
    let k := if s.lace.q = 0 then 0 else d / s.lace.q
    if s.lace.q * k != d then none
    else if forcedTick s s.lace.tick then some (k, false)
    else if votesAllow s k then some (k, false)
    else if s.lace.x ≤ k then some (k, true)
    else none

/-- Mask updates of the tick reach clusters that took no MASK point in it, in ascending SEQ (R186); then they are done. -/
def settleMasks (s : State) : State :=
  let s := (sortBy seqBefore (s.lace.masks.filter (fun x => x.tick ≤ s.lace.tick))).foldl (fun s x =>
    match activeImage s (mPart x.arg) with
    | none => s
    | some im => im.clusterMap.foldl (fun s l =>
        if (getCl s l).maskTick = s.lace.tick + 1 then s else takeMask s (mPart x.arg) l im x) s) s
  { s with lace := { s.lace with masks := s.lace.masks.filter (fun x => s.lace.tick < x.tick) } }

/-- Tick `t` ends with `k` stretches and the next begins at phase 0. -/
def nextTick (s : State) (k : Nat) : State :=
  let t := s.lace.tick
  let s := settleMasks (countTick (tellP16 s))
  let s := if k = 0 then s else count (count s 0x3060 1 1) 0x3060 2 k
  let s := { s with
    lace := { s.lace with
      tick := t + 1, phase := 0, cast := 0
      ended := (t, k) :: s.lace.ended
      votes := s.lace.votes.filter (fun v => t < v.tick)
      forwarded := s.lace.forwarded.filter (fun v => t < v.tick)
      cyc0 := (s.lace.cyc0 + endPhase s k) % 2 ^ 32 }
    clusters := s.clusters.map (fun e => (e.1, { e.2 with lag := 0, hold := none, passed := none, reported := false }))
    cores := s.cores.map (fun e => (e.1, { e.2 with
      pos := 0, bad := [], reported := false
      latched := if (getCl s (e.1 / 64)).resole.window.isSome then e.2.latched else [] }))
    serving := { s.serving with points := [] }
    tickWrites := [] }
  let s := if s.lace.root = pnode s then rootValues s else s
  markLate (sendEpoch s)

/-- A bound cluster that held in no cycle of the tick and did not complete its segment is found faulty (01 R21). -/
def idleFault (s : State) (l : Nat) : State :=
  let c := getCl s l
  if c.lag = 0 && c.hold.isNone && physOf s l != 0xff then markUnhealthy s (l / 19) (physOf s l) 3 else s

/-- The tick ends: clusters that did not finish abandon their segment, those of them that never held are marked unhealthy, and the tick
is faulted where R182 says so. -/
def endTick (s : State) (k : Nat) (noK : Bool) : State :=
  let forced := forcedTick s s.lace.tick
  let un := unfinished s
  let s := un.foldl idleFault s
  let s := un.foldl (fun s l => modCl s l (fun c => { c with abandoned := true })) s
  let s := if forced then s
    else if noK then tickFault s s.lace.tick (un.headD everyCluster) 1
    else match un with
      | [] => s
      | l :: r => tickFault s s.lace.tick (r.foldl min l) 2
  nextTick s k

/-! ## One engine cycle -/

/-- One running cluster in the present cycle: its waiters are taken, or it holds (04 R129–R131). -/
def clusterCycle (s : State) (x : Nat × Nat × Image) : State :=
  let (l, pt, im) := x
  if !clusterGoes s l then s
  else
    match takeCycle s l im pt with
    | (s, true) =>
      let s := (List.range 64).foldl (fun s c => if (getCore s l c).flight = [] then s else ringStep s l c) s
      lateTransfers (startLate s l) l
    | (s, false) => count (modCl s l (fun c => { c with lag := c.lag + 1, heldTot := c.heldTot + 1 })) 0x3040 2 1

/-- The present cycle of every cluster. -/
def clusterCycles (s : State) : State := (liveClusters s).foldl clusterCycle s

/-- Results that the new cycle makes readable stand in scratchpad (03 R97, R112), and flits that ports released (08 R274). -/
def settle (s : State) : State :=
  (liveClusters s).foldl (fun s x =>
    if clusterGoes s x.1 then
      (List.range 64).foldl (fun s c => if (getCore s x.1 c).flight = [] then s else writeDue s x.1 c) s
    else s) (landAll s)

/-- The clocks move on by one engine cycle, in KEEPER by one keeper period; stalled requesters count it (09 R325), and lace flits in the
ports' pads are released (08 R276); the requester of the storage ports goes on (08 R300). -/
def advance (s : State) : State :=
  let s := count s 0x4050 5 (tagWaiters s)
  if s.dev.mode = .keeper then { s with now := s.now + keeperPeriod }
  else pumpCycle (releasePads (settle { s with now := s.now + cycleLen s, cyc := s.cyc + 1 }))

/-- One cycle passes (what an idle block does; DESIGN CHOICE, log entry 1). -/
def idle (s : State) : State :=
  if s.dev.mode = .keeper then advance s
  else
    let s := if laceRuns s then clusterCycles s else s
    match endsNow s with
    | some (k, noK) => advance (endTick s k noK)
    | none => advance (if counting s then castVotes { s with lace := { s.lace with phase := s.lace.phase + 1 } } else s)

/-- TICK_END: the cycle after which the tick ends, at the phase that the votes fix. -/
def execTickEnd (s : State) : Out :=
  let s' := if laceRuns s then clusterCycles s else s
  match endsNow s' with
  | some (k, noK) => .next (advance (endTick s' k noK))
  | none => .next s

end Sys2Proof.Machine
end

