-- ==== Sys2Proof/Machine/Power.lean ====
section
/-! DEFINITION. Power and clocks: changes of operating point, the estimator, the ramp governor, thermal and current trips (17
R541–R566). Powers are in mW. -/
namespace Sys2Proof.Machine

/-! ## Changes of operating point (R545–R548) -/

/-- Lasts that are active in some partition forbid points above their OPPOINT (04 R156). -/
def aboveActive (s : State) (b : Nat) : Bool := (activeImages s).any (fun im => decide (im.oppoint < b))

/-- A write of object 0x2200.02: FREQ is flooded, and the change begins here as at every receiver (R545, R546). -/
def wFreq (s : State) (e : Nat) : WRes :=
  let b := getO s 0x2200 1
  if !isManager s || (s.dev.mode != .ready && s.dev.mode != .running) || !laceRuns s then .error 0x0401
  else if getO s 0x2200 3 < b || aboveActive s b then .error 0x0302
  else if (e - s.lace.tick) * s.lace.tickLen * cycleLen s < 40 * usec then .error 0x0302
  else match sendTimed s 0x23 e b with
    | .error c => .error c
    | .ok s => .ok (beginChange s b)

/-- Event 0x2102 and its count (R546, R547). -/
def pointEv (s : State) (old new outcome : Nat) : State := raise (count s 0x2160 5 1) 0x2102 (f8 old ++ f8 new ++ f8 outcome)

/-- The clock switches to the locked PLL: a lower point takes its voltage now (R546 steps 3 and 4). -/
def switchPoint (s : State) (b : Nat) : State :=
  let a := s.power.opp
  let done := match s.power.change with | some c => c.point == b && c.voltsDone == 15 | none => false
  let late := decide (a < b) && !done
  let s := { s with power := { s.power with opp := b, change := if late || b < a then some ⟨b, decide (a < b), (match s.power.change with
    | some c => if a < b then c.voltsDone else 0
    | none => 0), true⟩ else none } }
  let s := if b < a then writeVolts s b else s
  pointEv s a b (if late then 1 else if getO s 0x2200 3 < b then 2 else 0)

/-- OPERATING_POINT_SWITCH: the FREQ that is due; one to a point above the OPPOINT of an active last is refused (04 R156, 05
R186). -/
def execOperatingPointSwitch (s : State) : Out :=
  match dueSym s 0x23 with
  | none => .next s
  | some (s, x) =>
    let b := x.arg % 8
    if 4 < b || aboveActive s b then .next (symEv (dropChange s) x x.tick x.rcv)
    else .next (switchPoint s b)

/-- VOLTAGE_STEP_DONE: the set point of a group is confirmed (R546, R547). -/
def execVoltageStepDone (group : Nat) (s : State) : Out :=
  match s.power.change with
  | none => .next s
  | some c =>
    let v := orBit c.voltsDone group
    .next { s with power := { s.power with change := if v = 15 && c.switched then none else some { c with voltsDone := v } } }

/-! ## Trips (R564–R566) -/

/-- THERMTRIP_N is driven, low while asserted (19 R608). -/
def setThermtrip (s : State) (on : Bool) : State :=
  if s.power.thermtrip = on then s
  else emit { s with power := { s.power with thermtrip := on } } (.pin "THERMTRIP_N" (!on))

/-- Current limit of a VDD_CORE group in A (13 R454, R541). -/
def ampLimit (s : State) : Nat := getO s 0x2180 2 * 500 / 100

def currentTrip (s : State) (rail amps : Nat) : State :=
  tripHalt (fun s => raise s 0x2109 (f8 rail ++ f16 amps ++ f16 (ampLimit s))) s 3

/-- One Current reading of a group: the third above the limit in a row is a trip, and the count starts again (log entry 67). -/
def readAmps (s : State) (g amps n : Nat) (put : Nat → Vec4 → Vec4) : State :=
  let s := setO s 0x2130 (5 + g) amps
  let k := if getO s 0x2180 2 * 500 < amps * 100 then n + 1 else 0
  let s' := { s with power := { s.power with overLim := put (if 3 ≤ k then 0 else k) s.power.overLim } }
  if 3 ≤ k then currentTrip s' g amps else s'

/-- AVSBUS_CURRENT_POLL (R542, R566). -/
def execAvsbusCurrentPoll (amps : Vec4) (s : State) : Out :=
  if s.dev.mode = .keeper then .next s
  else
    let s := readAmps s 0 amps.g0 s.power.overLim.g0 (fun k v => { v with g0 := k })
    let s := readAmps s 1 amps.g1 s.power.overLim.g1 (fun k v => { v with g1 := k })
    let s := readAmps s 2 amps.g2 s.power.overLim.g2 (fun k v => { v with g2 := k })
    .next (readAmps s 3 amps.g3 s.power.overLim.g3 (fun k v => { v with g3 := k }))

/-- OCP_N is asserted: a current-limit trip; its event names rail 0xff and reading 0xffff (log entry 67). -/
def execOcpN (s : State) : Out := if s.dev.mode = .keeper then .next s else .next (currentTrip s 0xff 0xffff)

/-- The hottest reading and its sensor, the lowest sensor among equals. -/
def hottest : List Int → Nat → Int × Nat → Int × Nat
  | [], _, b => b
  | t :: r, i, b => hottest r (i + 1) (if b.1 < t then (t, i) else b)

/-- THERMAL_SAMPLE: every reading of the 68 sensors in 0.1 °C (R564, R565). -/
def execThermalSample (temps : List Int) (s : State) : Out :=
  if s.dev.mode = .keeper then .next s
  else
    let s := (temps.zipIdx).foldl (fun s e => setO s 0x2151 (e.2 + 1) (unsigned 16 e.1)) s
    let h := hottest temps 0 (temps.headD 0, 0)
    let s := setO (setO s 0x2150 1 (unsigned 16 h.1)) 0x2150 2 h.2
    let trip := getO s 0x2180 1
    let hot := fun (s : State) => (temps.zipIdx).foldl (fun s e =>
      if 1050 < e.1 then raiseSec s 0x2107 (f8 e.2 ++ f16 (unsigned 16 e.1)) else s) s
    if Int.ofNat (10 * trip) < h.1 && !s.power.thermtrip then
      .next (tripHalt (fun s => raise (hot s) 0x2108 (f8 h.2 ++ f16 (unsigned 16 h.1) ++ f8 trip)) (setThermtrip s true) 2)
    else
      let s := hot s
      .next (if temps.all (fun t => t ≤ Int.ofNat (10 * trip) - 100) then setThermtrip s false else s)

/-! ## The estimator (R554, R555) -/

/-- Power of the activity of the last microsecond: units counted at the energy per unit in force. -/
def activityPower (s : State) : Nat := s.power.units * energyOf s.power.opp / 100000

/-- A core runs an array cycle now. -/
def arraysBusy (s : State) : Bool :=
  s.cores.any (fun e => clTime s (e.1 / 64) < e.2.arrayBusy) || s.power.units != 0 || s.power.ballast != 0

/-- Power that the AVSBus telemetry gives for the VDD_CORE groups: volts (mV) times the currents read last (A). -/
def coreTelemetry (s : State) (v : Vec4) : Nat :=
  v.g0 * getO s 0x2130 5 + v.g1 * getO s 0x2130 6 + v.g2 * getO s 0x2130 7 + v.g3 * getO s 0x2130 8

/-- The offset term: a low-pass with a time constant of 1 ms, one microsecond further. -/
def lowPass (old diff : Int) : Int := old + (diff - old) / 1000

/-- Stage of the estimator by the age of the last rest. -/
def stageOf (age : Nat) : Nat := if age ≤ 100 * msec then 0 else if age ≤ 10000 * msec then 1 else 2

/-- Age of the last rest in ms, saturating (object 0x2101.03). -/
def restAge (s : State) : Nat := min ((s.now - s.power.restAt) / msec) (2 ^ 32 - 1)

/-- Whether P_est above the limit without ballast has lasted 1 ms (R563). -/
def watchLimit (s : State) : State :=
  let limit := getO s 0x2180 4
  if limit * 1000 < s.power.pest && s.power.ballast = 0 then
    let since := if s.power.hotSince = 0 then s.now + 1 else s.power.hotSince
    let s := { s with power := { s.power with hotSince := since } }
    if since - 1 + msec ≤ s.now then raiseSec s 0x2104 (f16 (watts s.power.pest) ++ f16 limit) else s
  else { s with power := { s.power with hotSince := 0 } }

/-- ESTIMATOR_STEP: `volts` are the VDD_CORE voltages read in mV, `tele` the sum of telemetry in W. The correction of P_fixed for
temperature and set point and the share of the VDD_CORE groups are free values (log entry 68). -/
def execEstimatorStep (volts : Vec4) (tele : Nat) (s : State) : Out :=
  if s.dev.mode = .keeper then .next s
  else
    let (n, s) := fresh s
    let (m, s) := fresh s
    let s := if arraysBusy s then { s with power := { s.power with busyAt := s.now } } else s
    let s := if s.power.busyAt + 2 * usec ≤ s.now then { s with power := { s.power with restAt := s.now } } else s
    let act := Config.freeValue n + activityPower s + s.power.ballast
    let off := lowPass s.power.offset (Int.ofNat (coreTelemetry s volts) - Int.ofNat (Config.freeValue m))
    let est := (Int.ofNat act + off).toNat
    let stage := stageOf (s.now - s.power.restAt)
    let est := if stage = 2 then max est (tele * 1000) * 105 / 100 else est
    let entered := stage = 2 && s.power.stage != 2
    let s := { s with power := { s.power with offset := off, pest := est, stage := stage, units := 0 } }
    let s := watchLimit s
    .next (if entered then raise (count s 0x2160 3 1) 0x2106 (f32 (restAge s) ++ f16 (watts est)) else s)

/-! ## The governor (R556–R562) -/

/-- The goal G (R557). -/
def goalOf (s : State) : Nat :=
  if inRun s || s.dev.armed || s.power.preRamp then pEnv s none - getO s 0x2100 3 * 1000 else 0

/-- The margin M. -/
def marginM (s : State) : Nat := if s.power.stage = 2 then s.power.pest * 5 / 100 else 36000

/-- Ballast may run (R559). -/
def ballastMay (s : State) : Bool :=
  getO s 0x2100 4 == 1 && (s.dev.mode == .ready || inRun s || s.dev.mode == .halted || s.dev.mode == .alarm)

/-- The rise of power over its least value in the window. -/
def riseOf (l : List Nat) : Nat := match l with | [] => 0 | p :: r => p - r.foldl min p

/-- A rise of more than S + M within 100 µs is reported once for each such rise (R558, log entry 69). -/
def watchRamp (s : State) (before : List Nat) : State :=
  let lim := getO s 0x2100 3 * 1000 + marginM s
  if lim < riseOf s.power.recent && !(lim < riseOf before) then
    raiseSec (count s 0x2160 2 1) 0x2103 (f16 (watts (riseOf s.power.recent)) ++ f16 (watts (pEnv s none)) ++ f16 (getO s 0x2100 3))
  else s

/-- Ballast energy of a microsecond, whole joules counted in object 0x2160.01. -/
def addEnergy (s : State) : State :=
  let e := s.power.ballastNj + s.power.ballast
  let s := { s with power := { s.power with ballastNj := e % 10 ^ 9 } }
  if e < 10 ^ 9 then s else count s 0x2160 1 (e / 10 ^ 9)

/-- Ramp limits in force in mW per microsecond (R557). -/
def rampUp (s : State) : Nat := min (getO s 0x2100 1) (getO s 0x2180 3)
def rampDown (s : State) : Nat := min (getO s 0x2100 2) (getO s 0x2180 3)

/-- A triangle wave of amplitude `a` and period `p`, `t` into its run, rising from 0. -/
def triangle (a p t : Nat) : Int :=
  let q := p / 4
  let t := t % p
  if t < q then Int.ofNat (a * t / q)
  else if t < 3 * q then Int.ofNat a - Int.ofNat (a * (t - q) / q)
  else Int.ofNat (a * (t - 3 * q) / q) - Int.ofNat a

/-- What dithering adds to the ballast in stage 1 (R555): period 2 ms, amplitude min(10 W, 0.5 ms × the lower ramp limit); the wave runs
from the start of the stage (log entry 68). -/
def dither (s : State) : Int :=
  if s.power.stage = 1 then
    triangle (min 10000 (500 * min (rampUp s) (rampDown s))) (2 * msec) (s.now - s.power.restAt - 100 * msec)
  else 0

/-- GOVERNOR_STEP (R557). The capacity of ballast is a free value (log entry 68). -/
def execGovernorStep (s : State) : Out :=
  if s.dev.mode = .keeper then .next s
  else
    let (n, s) := fresh s
    let d := s.power.pest - s.power.ballast
    let goal := goalOf s
    let floor := if s.power.floor < goal then min goal (s.power.floor + rampUp s)
      else max goal (s.power.power - rampDown s)
    let cap := if ballastMay s then Config.freeValue n else 0
    let want := floor - d
    let most := min cap (getO s 0x2180 4 * 1000 - marginM s - d)
    let b := min (Int.ofNat (min want most) + dither s).toNat most
    let before := s.power.recent
    let s := { s with power := { s.power with floor := floor, ballast := b, power := d + b, recent := ((d + b) :: before).take 101 } }
    let s := watchRamp (addEnergy s) before
    .next (if ballastMay s && cap < want then
        raiseSec s 0x2105 (f16 (watts floor) ++ f16 (watts s.power.power) ++ f16 (watts cap)) else s)

/-- Object 0x2101.07: F ≥ G. -/
def goalReached (s : State) : Bool := decide (goalOf s ≤ s.power.floor)

/-- A write of object 0x2110.01 in READY: pre-ramp (R561). -/
def wPreRamp (s : State) (v : Nat) : State := { s with power := { s.power with preRamp := v == 1 } }

/-- A write of RUNNING must find the floor at P_env − S (R561). -/
def floorShort (s : State) : Bool := decide (s.power.floor < pEnv s none - getO s 0x2100 3 * 1000)

end Sys2Proof.Machine
end

