-- ==== Sys2Proof/Machine/Firmware.lean ====
section
/-! DEFINITION. The firmware image: its checks and the image check of object 0x1020 (13 R450–R452, 15 R500). -/
namespace Sys2Proof.Machine

def fwMax : Nat := 0x4000000

/-- Header, length and signature block of an image of `len` bytes (R450); reserved bytes are ignored (00 R10, log entry 73). -/
def fwHeaderOk (img : List Byte) (len : Nat) : Bool :=
  fieldB img 0 4 == 0x57464b49 && fieldB img 4 2 == 1 && fieldB img 6 2 == 128 && 1 ≤ fieldB img 14 1 && fieldB img 14 1 ≤ 16 &&
    fieldB img 16 4 == len && 128 + 16 * fieldB img 14 1 + 256 ≤ len && len ≤ fwMax && fieldB img (len - 256) 2 == 1

/-- A section entry (R450): type, offset, length. -/
def fwSects (img : List Byte) : List (Nat × Nat × Nat) :=
  (List.range (fieldB img 14 1)).map (fun i => let o := 128 + 16 * i; (fieldB img o 1, fieldB img (o + 4) 4, fieldB img (o + 8) 4))

/-- Greatest length of a section by type (R450, 18 R585). -/
def fwSectMax : Nat → Nat
  | 1 => 0x40000
  | 3 => 0x10000
  | 4 => 0x100000
  | _ => fwMax

def fwSectOk (img : List Byte) (len : Nat) (e : Nat × Nat × Nat) : Bool :=
  let (ty, off, n) := e
  1 ≤ ty && ty ≤ 4 && off % 64 == 0 && 128 + 16 * fieldB img 14 1 ≤ off && off + n ≤ len - 256 && n ≤ fwSectMax ty

def fwSectsOk (img : List Byte) (len : Nat) : Bool :=
  let l := fwSects img
  l.all (fwSectOk img len) && [1, 3].all (fun t => (l.map (·.1)).contains t) &&
    [1, 2, 3, 4].all (fun t => (l.filter (fun e => e.1 == t)).length ≤ 1)

/-- The unrevoked key hash that the image's public key matches (15 R500 step 4). -/
def fwKey (f : Fuses) (img : List Byte) (len : Nat) : Option Nat :=
  let h := sha384 (sub img (len - 152) 97)
  (List.range 4).find? (fun k => !fbit f.revoke k && f.keyHash.getD k [] == h)

/-- The signature over every byte before the block (R450). -/
def fwSigOk (img : List Byte) (len : Nat) : Bool :=
  let b := sub img (len - 256) 256
  ecdsaOk (sha384 (img.take (len - 256))) (sub b 104 97) (sub b 8 48) (sub b 56 48)

/-- Outcome of the checks of R451: 0, or the failure code of object 0x1020.05. -/
def fwCheck (f : Fuses) (img : List Byte) (len : Nat) : Nat :=
  if !fwHeaderOk img len then 1
  else if !fwSectsOk img len then 5
  else if (fwKey f img len).isNone then 3
  else if !fwSigOk img len then 2
  else if fieldB img 12 2 < f.svnMin then 4
  else 0

/-- The code of object 0x1022.01 for a failed check (15 R500 steps 3 to 6). -/
def bootCode : Nat → Nat
  | 0 => 0
  | 3 => 3
  | 2 => 4
  | 4 => 5
  | _ => 2

/-- A write of 1 to object 0x1020.03 (R452, R456). -/
def wImageCheck (s : State) (v : Nat) : WRes :=
  if s.imgCheck.isSome then .error 0x0601
  else if v != 1 then .error 0x0302
  else .ok (setO (setO { s with imgCheck := some (getO s 0x1020 1, getO s 0x1020 2) } 0x1020 4 1) 0x1020 5 0)

/-- IMAGE_CHECK_COMPLETE: the candidate is read as it stands now (R452). -/
def execImageCheckComplete (s : State) : Out :=
  match s.imgCheck with
  | none => .next s
  | some (a, len) =>
    let img := peek s a (min len fwMax)
    let c := if fwMax < len then 1 else fwCheck s.sec.shadow img len
    let st := if c = 0 then 2 else 3
    let s := setO (setO { s with imgCheck := none } 0x1020 4 st) 0x1020 5 c
    .next (raise s 0x1003 (f8 st ++ f8 c ++ f32 (fieldB img 8 4) ++ f16 (fieldB img 12 2)))

end Sys2Proof.Machine
end

