-- ==== Sys2Proof/Machine/Startup.lean ====
section
/-! DEFINITION. Power sequences, resets, secure boot, bring-up and the state command (14 R474–R475, 15 R500–R502, 17 R567–R571,
18 R575–R589). -/
namespace Sys2Proof.Machine

/-! ## Fuses and straps -/

/-- FUSE_CRC as this model lays the production fields out (15 R497; log entry 79). -/
def fuseCrc (f : Fuses) : Nat := crc32 (f.uds ++ f.keyHash.flatten ++ f8 (2 ^ f.alarmFloor - 1 + 16 * f.debugLock))

/-- Programming in progress, completed (15 R499). -/
def programmed (f : Fuses) : Option (Nat × Nat) → Fuses
  | some (1, v) => { f with svnMin := max f.svnMin v }
  | some (2, k) => { f with revoke := orBit f.revoke k }
  | _ => f

/-- Values that straps give (R575, R583). -/
def applyStraps (s : State) (p : Straps) : State :=
  let s := { s with dev := { s.dev with straps := p } }
  let s := setO (setO (setO s 0x1010 1 p.node) 0x1010 2 p.node) 0x1010 3 p.role
  let w := p.node + p.role * 2 ^ 11 + p.bootSrc * 2 ^ 14 + p.i3cAddr * 2 ^ 16
  setO (setO (setO s 0x1011 1 p.bootSrc) 0x1011 2 w) 0x1050 1 (0x50 + p.i3cAddr)

/-! ## Resets (R580–R583) -/

/-- Objects whose values the keeper keeps over a package reset (log entry 78). -/
def keptObjs : List (Nat × Nat) := [(0x1022, 1), (0x1022, 2), (0x1022, 3), (0x1022, 4), (0x2003, 3), (0x2003, 4), (0x2004, 4)]

/-- Persist values take the place of the defaults (14 R484). -/
def restorePersist (s : State) : State := s.persist.foldl (fun s e => setO s (e.1 / 256) (e.1 % 256) e.2) s

/-- Every block at its reset value but what the keeper retains (R580). -/
def coldState (s : State) : State :=
  let f := programmed s.sec.fuses s.sec.programming
  let d := s.dev
  let base : State := { State.reset with
    pending := s.pending, free := s.free, now := s.now, cyc := s.cyc, out := s.out, obj := healthObjs f
    persist := s.persist, persistLost := s.persistLost
    dev := { Device.init with
      prev := some d.mode, aonUp := d.aonUp, aonAt := d.aonAt, straps := d.straps, lands := d.lands, strapsDue := d.strapsDue
      autoDone := d.autoDone, resetN := d.resetN, perstN := d.perstN, enable := d.enable, powerGood := d.powerGood
      defects := d.defects }
    sec := { Security.init f with log := s.sec.log, condUntil := s.sec.condUntil }
    power := { Power.init with log := s.power.log, thermtrip := s.power.thermtrip }
    fab := { Fabric.init with inc := s.fab.inc, incAll := s.fab.incAll + 1, incBase := s.fab.incBase }
    clusters := s.clusters }
  let base := (List.range 304).foldl (fun s l => let e := (getCl s l).epoch + 1; setCl s l { Cluster.init with epoch := e }) base
  let base := applyStraps (setO base 0x7100 0 f.alarmFloor) d.straps
  let base := restorePersist (keptObjs.foldl (fun b k => setO b k.1 k.2 (getO s k.1 k.2)) base)
  { base with power := { base.power with opp := getO base 0x2200 3 } }

/-- FUSE_CRC is checked at every read of the fuses at reset; in KEEPER a mismatch is only logged (15 R498, R506). -/
def checkFuses (s : State) : State :=
  let f := s.sec.shadow
  if f.crc = fuseCrc f then s
  else
    let (n, s) := fresh s
    alarmIf s 3 (Config.freeValue n % 2 ^ 32)

/-- The power-down sequence ended: KEEPER is entered, the straps are sampled again, and a RESET_N that is still asserted is waited
for (R576, R581). -/
def enterKeeper (s : State) : State :=
  let s := applyStraps { s with dev := { s.dev with seq := .idle } } s.dev.lands
  if s.dev.resetN then { s with dev := { s.dev with resetWait := true, target := some .keeper } }
  else { s with dev := { s.dev with target := none } }

/-! ## Rails (17 R567–R571) -/

/-- Rails of R571 by step of R568 and of R567. -/
def downSteps : List (List Nat) := [[9], [8], [7], [6], [0, 1, 2, 3], [4, 5], [11]]
def upSteps : List (List Nat) := [[11], [4, 5], [0, 1, 2, 3], [6], [7], [8], [9]]

def enName (r : Nat) : String :=
  ["EN_CORE[0]", "EN_CORE[1]", "EN_CORE[2]", "EN_CORE[3]", "EN_SRAM", "EN_XIO", "EN_SERDES", "EN_VDD1", "EN_VDD2H", "EN_VDDQ", "",
    "EN_IO18"].getD r ""

/-- The enable output of a rail is driven. -/
def setEnable (s : State) (r : Nat) (on : Bool) : State :=
  if fbit s.dev.enable r = on then s
  else emit { s with dev := { s.dev with enable := if on then orBit s.dev.enable r else clrBit s.dev.enable r } } (.pin (enName r) on)

/-- A power log record; record 0 is the oldest held (R571; log entry 75). -/
def logPower (s : State) (rail phase cause : Nat) : State :=
  let r := f64 (ktime s) ++ f8 rail ++ f8 phase ++ f8 cause ++ List.replicate 5 0
  let l := s.power.log ++ [r]
  raise { s with power := { s.power with log := l.drop (l.length - 16) } } 0x2101 (f8 rail ++ f8 phase ++ f8 cause)

/-- The power-down sequence from a step of R568 on: rails that are up lose their enable, and a step waits for their power-good to
fall. -/
def downFrom : List (List Nat) → Nat → State → State
  | [], _, s => enterKeeper s
  | rs :: rest, k, s =>
    let up := rs.filter (fun r => fbit s.dev.enable r || fbit s.dev.powerGood r)
    let s := up.foldl (fun s r => setEnable s r false) s
    if up.any (fun r => fbit s.dev.powerGood r) then { s with dev := { s.dev with seq := .down k, stepAt := s.now } }
    else downFrom rest (k + 1) s

def goDown (s : State) (k : Nat) : State := downFrom (downSteps.drop k) k s

/-- A package reset (R580, R581): causes of object 0x2003.03. In ALARM it is ignored and logged (R582). -/
def packageReset (s : State) (cause : Nat) : State :=
  if s.dev.mode = .alarm then
    { s with sec := { s.sec with log := (alarmRec s 0xff 0 7 0 :: s.sec.log).take 16 } }
  else
    let old := devCode s.dev.mode
    let s := coldState s
    let s := setO (setO s 0x2003 3 cause) 0x2003 4 (min (getO s 0x2003 4 + 1) (2 ^ 32 - 1))
    let s := checkFuses { s with dev := { s.dev with target := some .keeper, resetEvent := some (cause, old) } }
    goDown s 0

/-- A step of R567 begins: its rails are enabled. -/
def goUp (s : State) (k : Nat) : State :=
  let s := (upSteps.getD k []).foldl (fun s r => setEnable s r true) s
  { s with dev := { s.dev with seq := .up k, stepAt := s.now } }

/-! ## Secure boot (15 R500–R503, 18 R577–R585) -/

/-- The DRAM key (15 R502). -/
def deriveDramKey (s : State) : State :=
  let (n, s) := fresh s
  let ikm := (List.range 48).map (Config.freeByte n)
  let info : List Byte := [0x49, 0x4b, 0x34, 0x20, 0x44, 0x52, 0x41, 0x4d, 0x20, 0x4b, 0x45, 0x59]
  { s with sec := { s.sec with slots := mbind s.sec.slots 0 (hkdf ikm s.sec.shadow.uds info), dramKeyLost := false } }

/-- Boot failed: its code is recorded and the package goes back to KEEPER (15 R500). -/
def bootFails (s : State) (code : Nat) : State := packageReset (setO s 0x1022 1 code) 6

/-- Steps 7 and 8 of R500 for a verified image: key, sections, thread 0 of supervisor core 0. -/
def startFirmware (s : State) (img : List Byte) (copy : Nat) : State :=
  let s := deriveDramKey s
  let sect := (fwSects img).find? (fun e => e.1 == 1)
  let code := match sect with | some (_, o, n) => sub img o n | none => []
  let s := memPut (memPut s stagingBase img) (ramAddr 320 0) code
  let s := setO (setO s 0x1022 1 0) 0x1022 5 copy
  let s := setO (setO s 0x1020 6 (fieldB img 8 4)) 0x1020 7 (fieldB img 12 2)
  let key := (fwKey s.sec.shadow img img.length).getD 0
  let s := setO { s with sec := { s.sec with bootKey := key } } 0x7020 4 key
  let h : Hart := ⟨320, 0⟩
  let s := setHart s h { getHart s h with live := true, secure := true, pc := ramAddr 320 0 }
  { s with dev := { s.dev with boot := .firmware, bootImage := img, stagingHeld := true, seq := .idle } }

/-- An image from flash: as long as its header says (log entry 73). -/
def flashImage (copy : List Byte) : List Byte := copy.take (fieldB copy 16 4)

def verify (s : State) (img : List Byte) : Nat := bootCode (fwCheck s.sec.shadow img img.length)

/-- Steps 1 to 8 of R500 as the boot ROM starts. -/
def bootRom (s : State) (b : BootIn) : State :=
  let f := s.sec.shadow
  let a := flashImage b.copyA
  let c := flashImage b.copyB
  if f.crc != fuseCrc f then bootFails s 1
  else if !b.rngOk then bootFails s 6
  else match s.dev.straps.bootSrc with
    | 0 => if verify s a = 0 then startFirmware s a 0 else bootFails s (verify s a)
    | 1 =>
      if verify s a = 0 then startFirmware s a 0
      else if verify s c = 0 then startFirmware { s with dev := { s.dev with bootB := some (verify s a) } } c 1
      else bootFails s (verify s c)
    | 2 => { s with dev := { s.dev with boot := .waitHost, seq := .idle } }
    | _ => bootFails s 2

/-- POWER_GOOD_RISE: the next step of R567 begins once every rail of this one has come. -/
def execPowerGoodRise (rail : Nat) (boot : BootIn) (s : State) : Out :=
  if !s.dev.aonUp then .next s
  else
    let s := { s with dev := { s.dev with powerGood := orBit s.dev.powerGood rail } }
    match s.dev.seq with
    | .up k =>
      if !(upSteps.getD k []).all (fun r => fbit s.dev.powerGood r) then .next s
      else if k < 6 then .next (goUp s (k + 1))
      else .next (bootRom s boot)
    | _ => .next s

/-- POWER_GOOD_TIMEOUT: 10 ms without power-good in a step of the power-up sequence. -/
def execPowerGoodTimeout (s : State) : Out :=
  match s.dev.seq with
  | .up k =>
    if s.now < s.dev.stepAt + 10 * msec then .next s
    else
      let late := (upSteps.getD k []).filter (fun r => !fbit s.dev.powerGood r)
      .next (packageReset (late.foldl (fun s r => logPower s r 1 1) s) 5)
  | _ => .next s

def mainRails : List Nat := [0, 1, 2, 3, 4, 5, 6, 7, 8, 9, 11]

/-- A rail's power-good has fallen; with every main rail's the thermal trip output is released (19 R608). -/
def pgLow (s : State) (rail : Nat) : State :=
  let s := { s with dev := { s.dev with powerGood := clrBit s.dev.powerGood rail } }
  if mainRails.any (fun r => fbit s.dev.powerGood r) then s else setThermtrip s false

/-- A main rail fails while the package runs (R569). -/
def railLoss (s : State) (rail cause : Nat) : State :=
  logPower { (pgLow s rail) with power := { (pgLow s rail).power with railLost := true } } rail 3 cause

/-- POWER_GOOD_FALL: in the power-down sequence the next step begins once every rail of this one has fallen. -/
def execPowerGoodFall (rail : Nat) (s : State) : Out :=
  if !fbit s.dev.powerGood rail then .next s
  else if s.dev.mode != .keeper && rail != 10 then .next (railLoss s rail 3)
  else
    let s := pgLow s rail
    match s.dev.seq with
    | .down k => if (downSteps.getD k []).any (fun r => fbit s.dev.powerGood r) then .next s else .next (goDown s (k + 1))
    | _ => .next s

/-- POWER_DOWN_TIMEOUT: a power-good that is still high after 20 ms is logged, and the sequence goes on. -/
def execPowerDownTimeout (s : State) : Out :=
  match s.dev.seq with
  | .down k =>
    if s.now < s.dev.stepAt + 20 * msec then .next s
    else
      let stuck := (downSteps.getD k []).filter (fun r => fbit s.dev.powerGood r)
      .next (goDown (stuck.foldl (fun s r => logPower s r 2 4) s) (k + 1))
  | _ => .next s

/-- RAIL_FAULT: power-good lost in operation (R569), or a regulator that reports itself faulty in a sequence (R568). -/
def execRailFault (rail : Nat) (regulator : Bool) (s : State) : Out :=
  if rail = 10 || !s.dev.aonUp then .next s
  else
    let cause := if regulator then 4 else 3
    match s.dev.mode, s.dev.seq with
    | .keeper, .down _ => .next (logPower s rail 2 cause)
    | .keeper, .up _ => .next (logPower s rail 1 cause)
    | .keeper, .idle => .next s
    | _, _ => .next (railLoss s rail cause)

/-- BOOT_LEN: the host wrote `image` to the window and now its length (R578). `rngOk`: the random generator serves step 7. -/
def execBootLen (len : Nat) (image : List Byte) (rngOk : Bool) (s : State) : Out :=
  if s.dev.boot != .waitHost then .next s
  else
    let img := padTo (min len fwMax) image
    let c := if fwMax < len then 2 else verify s img
    if c != 0 then .next (bootFails s c)
    else if !rngOk then .next (bootFails s 6)
    else .next (startFirmware s img 2)

/-- BOOT_TIMEOUT: 60 s of link-up without BOOT_LEN. -/
def execBootTimeout (s : State) : Out :=
  if s.dev.boot = .waitHost && s.dev.pcieUp && s.dev.linkAt + 60000 * msec ≤ s.now then .next (bootFails s 2) else .next s

/-- X-dies are out of reset: from power-up step 6 on. -/
def xdiesUp (s : State) : Bool := s.dev.mode != .keeper || s.dev.boot != .none

/-- PERST_N_DEASSERT lets the host port train (R586). -/
def execPerstNDeassert (s : State) : Out := .next { s with dev := { s.dev with perstN := true } }

/-- PCIE_LINK_UP. -/
def execPcieLinkUp (s : State) : Out :=
  if xdiesUp s && s.dev.perstN && !s.dev.pcieUp then .next { s with dev := { s.dev with pcieUp := true, linkAt := s.now } } else .next s

/-- A write of object 0x2003.05 (R586, R592). -/
def wFirmwareReady (s : State) (v : Nat) : WRes :=
  if s.dev.mode != .keeper || s.dev.target != some .standby || s.dev.boot != .firmware then .error 0x0401
  else if v != 1 then .error 0x0302
  else .ok { s with dev := { s.dev with fwReady := true } }

/-! ## VDD_AON (R576, R584) -/

/-- POWER_ON_RESET: VDD_AON power-good, with the fuses of this part. -/
def execPowerOnReset (fuses : Fuses) (s : State) : Out :=
  let (n, s) := fresh s
  let d := s.dev
  let base : State := { State.reset with
    pending := s.pending, free := s.free, now := s.now, cyc := s.cyc, out := s.out, obj := healthObjs fuses
    dev := { Device.init with aonAt := s.now, resetN := d.resetN, perstN := d.perstN, powerGood := orBit d.powerGood 10, defects := d.defects }
    sec := Security.init fuses
    fab := { Fabric.init with incBase := n * 4096 }
    clusters := s.clusters }
  let base := (List.range 304).foldl (fun s l => let e := (getCl s l).epoch + 1; setCl s l { Cluster.init with epoch := e }) base
  .next (checkFuses (setO base 0x7100 0 fuses.alarmFloor))

/-- STRAP_SAMPLE: 1 ms after VDD_AON power-good. -/
def execStrapSample (straps : Straps) (s : State) : Out :=
  if s.dev.aonUp && s.dev.strapsDue && s.dev.aonAt + msec ≤ s.now then
    .next (applyStraps { s with dev := { s.dev with lands := straps, strapsDue := false } } straps)
  else .next s

/-- VDD_AON_LOSS: the keeper domain and all that it retains is gone until the next power-on (14 R484). -/
def execVddAonLoss (s : State) : Out :=
  let d := s.dev
  .next { State.reset with
    pending := s.pending, free := s.free, now := s.now, cyc := s.cyc, out := s.out, obj := healthObjs s.sec.fuses
    dev := { Device.init with aonUp := false, resetN := d.resetN, perstN := d.perstN, powerGood := clrBit d.powerGood 10, defects := d.defects }
    sec := Security.init (programmed s.sec.fuses none)
    clusters := s.clusters }

/-! ## Bring-up from STANDBY (R587–R589) -/

/-- Step 1: a physical cluster that fails its patterns loses health. -/
def selfTest (s : State) : State :=
  s.dev.defects.foldl (fun s e =>
    let d := e.1 / 20
    let h := getO s 0x2010 (d + 1)
    if !fbit h (e.1 % 20) then s
    else
      let s := setO s 0x2010 (d + 1) (clrBit h (e.1 % 20))
      let s := setO s 0x2011 (d + 1) ((spareOf s d).getD 0x1f)
      raise (setO s 0x2004 5 (getO s 0x2004 5 + 1)) 0x2201 (f8 d ++ f8 (e.1 % 20) ++ f8 (e.2 - 1))) s

/-- Step 3 has ended for a port: it is not enabled, up, in Ethernet mode, or has failed once. -/
def portSettled (s : State) (p : Nat) : Bool :=
  let x := getPort s p
  getO s (0x5000 + p) 1 != 1 || x.state == .up || x.state == .ethernet || x.failAt != 0

/-- Step 4: the object table reads zero, image entries are in state 0, pool tiles are free. -/
def clearTables (s : State) : State :=
  if !s.dev.tablesVoid then s
  else
    let s := memClear s (getO s 0x4011 1) (64 * getO s 0x4011 2)
    { s with
      dev := { s.dev with tablesVoid := false }
      images := []
      memSt := { s.memSt with objs := [], tiles := [], migs := [], cmd := none } }

/-- The steps that follow as far as nothing is waited for; step 6 waits for STATE_CHANGE_COMPLETE. -/
def bringUp (s : State) : State :=
  if s.dev.target != some .ready || s.dev.mode != .standby then s
  else
    let s := if getO s 0x2004 1 = 2 && s.dev.dramDone && allPorts.all (portSettled s) then
        let s := setO (clearTables s) 0x2004 1 5
        if compLive s then s
        else match fwSample s with
          | some l => startBuild s 2 0 l
          | none => startBuild s 2 3 []
      else s
    if getO s 0x2004 1 = 5 && s.codec.building.isNone then setO s 0x2004 1 6 else s

/-- Step 6: READY (R587). -/
def enterReady (s : State) : State :=
  let s := setO s 0x2004 1 0
  let s := setO s 0x2004 4 (min ((s.now - s.dev.aonAt) / msec) (2 ^ 32 - 1))
  startLace (setMode { s with dev := { s.dev with target := none, stagingHeld := false } } .ready 1 0)

/-- DRAM_TRAINING_COMPLETE: training or retraining ends on all channels, or a channel fails a third time (R588). -/
def execDramTrainingComplete (fail : Option DramFail) (s : State) : Out :=
  if s.dev.mode != .standby || s.dev.target != some .ready || getO s 0x2004 1 != 2 || s.dev.dramDone then .next s
  else match fail with
    | none =>
      let s := setO (setO s 0x2004 2 96) 0x2004 3 0xffff
      .next (bringUp { s with dev := { s.dev with dramTrained := true, dramDone := true, selfRefresh := false } })
    | some d =>
      let s := setO (setO (setO s 0x2004 1 0) 0x2004 2 95) 0x2004 3 (d.channel + 256 * d.step)
      let s := portsDown { s with dev := { s.dev with target := none, selfRefresh := true } }
      .next (raise s 0x2202 (f8 d.channel ++ f8 d.step ++ f8 3))

/-- PORT_TRAINING_COMPLETE (08 R283); in bring-up the next steps follow. -/
def execPortTrainingComplete (port : Port) (res : TrainIn) (s : State) : Out := .next (bringUp (trainPort s port res))

/-- TABLE_BUILD_COMPLETE (07 R258); in bring-up READY follows. -/
def execTableBuildComplete (s : State) : Out := .next (bringUp (finishBuild s))

/-! ## The state command (14 R474) -/

/-- Event 0x3105 of a refused RUNNING (05 R168). -/
def configEv (s : State) : State :=
  raise s 0x3105 (f32 (getO s 0x3000 0) ++ f16 (getO s 0x3001 0) ++ f8 (getO s 0x3002 0) ++ f16 (getO s 0x3013 1) ++
    f32 s.lace.tickLen ++ f16 s.lace.q ++ f8 s.lace.x ++ f16 s.lace.v)

/-- The cases of R168. -/
def laceUnfit (s : State) : Bool :=
  s.lace.mode != .locked || s.lace.v = 0 || s.lace.tickLen < s.lace.v + 256 || getO s 0x3000 0 != s.lace.tickLen ||
    getO s 0x3001 0 != s.lace.q || getO s 0x3002 0 != s.lace.x

/-- The change to STANDBY begins (14 R474, R475): lasts unloaded, ports down, lace stopped; what R475 lets complete goes on. -/
def beginStandby (s : State) : State :=
  let s := stopAll (abandonLoad s)
  let s := s.rdma.qps.foldl (fun s e => qpError s e.1 0x86) s
  let s := (List.range 64).foldl (fun s i => setO s 0x3025 (i + 1) 0) s
  let s := portsDown { s with
    slots := []
    parts := []
    recovery := []
    lace := { Lace.init with nextSeq := s.lace.nextSeq }
    images := s.images.map (fun e => (e.1, if e.2.state = 2 then { e.2 with state := 4 } else e.2))
    imgCmd := match s.imgCmd with
      | some c => if c.cmd = 2 then none else some c
      | none => none }
  { s with dev := { s.dev with target := some .standby } }

/-- A write of object 0x2001: the state and 0, or an abort code. A refused RUNNING raises its event all the same (05 R168). -/
def stateCmd (s : State) (secure : Bool) (v : Nat) : State × Nat :=
  let m := s.dev.mode
  if m = .alarm && v = 2 && !secure then (s, 0x0501)
  else if m = .alarm && !secure then (s, 0x0401)
  else if s.dev.target.isSome then (s, 0x0601)
  else if v = 0 || 5 < v then (s, 0x0302)
  else if v = devCode m then (if m = .ready then { s with dev := { s.dev with armed := false } } else s, 0)
  else match m, v with
    | .keeper, 2 => (goUp { s with dev := { s.dev with target := some .standby, fwReady := false } } 0, 0)
    | .standby, 3 =>
      (setO (selfTest (setO { s with dev := { s.dev with target := some .ready, dramDone := false } } 0x2004 5 0)) 0x2004 1 2, 0)
    | .standby, 1 | .ready, 1 | .halted, 1 => (packageReset s 4, 0)
    | .ready, 2 | .halted, 2 => (beginStandby s, 0)
    | .ready, 4 =>
      if laceUnfit s then (configEv s, 0x0401)
      else if floorShort s then (s, 0x0401)
      else ({ s with dev := { s.dev with armed := true } }, 0)
    | .running, 5 => ({ s with dev := { s.dev with target := some .draining } }, 0)
    | .draining, 4 => ({ s with dev := { s.dev with target := some .running } }, 0)
    | .halted, 3 =>
      (setMode { s with parts := s.parts.map (fun e => (e.1, { e.2 with active := none, runs := false })) } .ready 1 0, 0)
    | .alarm, 2 =>
      if s.sec.condUntil.any (fun e => 1 ≤ e.1 && e.1 ≤ 4 && fbit (getO s 0x7110 1) e.1 && s.now < e.2) then (s, 0x0401)
      else (beginStandby s, 0)
    | _, _ => (s, 0x0401)

/-- STANDBY after power-up: events that KEEPER could not record (log entry 71), then READY where auto-start asked for it. -/
def standbyFromKeeper (s : State) : State :=
  let s := { s with dev := { s.dev with target := none, tablesVoid := true, dramTrained := false } }
  let b := s.dev.bootB
  let s := match b with
    | some c => raise { (setMode s .standby 1 0) with dev := { (setMode s .standby 1 0).dev with bootB := none } } 0x1007 (f8 c)
    | none => setMode s .standby 1 0
  let s := match s.dev.resetEvent with
    | some (c, old) => raise { s with dev := { s.dev with resetEvent := none } } 0x2203 (f8 c ++ f8 old ++ f32 (getO s 0x2003 4))
    | none => s
  if s.dev.nextReady then (stateCmd { s with dev := { s.dev with nextReady := false } } true 3).1 else s

/-- ALARM is left (15 R514). -/
def leaveAlarm (s : State) : State :=
  let renewed := s.sec.dramKeyLost
  let since := s.sec.alarmsSince
  let s := { s with sec := { s.sec with violations := 0, level := 0, alarmsSince := 0, hotClear := false } }
  let s := if renewed then
      let s := deriveDramKey s
      let s := setO (setO (setO s 0x8000 5 0) 0x8000 3 0) 0x8000 4 0
      { s with dev := { s.dev with tablesVoid := true }, routing := ⟨[], [], []⟩, images := [] }
    else s
  let s := setMode { s with dev := { s.dev with target := none, selfRefresh := true } } .standby 1 0
  raise s 0x7003 (f32 since ++ f8 (if renewed then 1 else 0))

/-- STATE_CHANGE_COMPLETE: the change in progress reaches its target. -/
def execStateChangeComplete (s : State) : Out :=
  match s.dev.target with
  | some .standby =>
    if s.dev.mode = .keeper then
      .next (if s.dev.boot = .firmware && s.dev.fwReady && s.dev.pcieUp then standbyFromKeeper s else s)
    else if s.memSt.cmd.isSome || s.imgCmd.isSome then .next s
    else if s.dev.mode = .alarm then .next (leaveAlarm s)
    else .next (setMode { s with dev := { s.dev with target := none, selfRefresh := true } } .standby 1 0)
  | some .ready =>
    let s := bringUp s
    .next (if getO s 0x2004 1 = 6 then enterReady s else s)
  | some .draining | some .running =>
    if laceRuns s && s.lace.phase = 0 then
      .next (setMode { s with dev := { s.dev with target := none } } (s.dev.target.getD .running) 1 0)
    else .next s
  | _ => .next s

/-- AUTO_START: the keeper writes the auto-start target once (R584). -/
def execAutoStart (s : State) : Out :=
  if !s.dev.aonUp || s.dev.autoDone || s.dev.strapsDue || s.dev.mode != .keeper || s.dev.target.isSome then .next s
  else
    let s := { s with dev := { s.dev with autoDone := true } }
    let t := getO s 0x2003 1
    if t = 2 || t = 3 then
      .next (stateCmd { s with dev := { s.dev with nextReady := t == 3 && !s.persistLost } } true 2).1
    else .next s

/-! ## RESET_N (R581, R582) -/

/-- RESET_N_ASSERT with the time it stays asserted; between 200 ns and 1 µs the spec leaves open whether it is recognised (log
entry 72). -/
def execResetNAssert (ns : Nat) (s : State) : Out :=
  if !s.dev.aonUp || ns < 200 then .next s
  else if 1000 ≤ ns then .next (packageReset { s with dev := { s.dev with resetN := true } } 2)
  else
    let (n, s) := fresh s
    .next (if Config.freeValue n % 2 = 1 then packageReset s 2 else s)

/-- RESET_N_DEASSERT: the keeper goes on (R581). -/
def execResetNDeassert (s : State) : Out :=
  let s := { s with dev := { s.dev with resetN := false } }
  if s.dev.resetWait then
    .next { (setO s 0x1010 2 s.dev.straps.node) with dev := { s.dev with resetWait := false, target := none } }
  else .next s

end Sys2Proof.Machine
end

