-- ==== Sys2Proof/Machine/Security.lean ====
section
/-! DEFINITION. The security block: detectors, fuses, key store, arming level, regions, violation window (15 R492–R515). -/
namespace Sys2Proof.Machine

/-! ## Detectors (R498, R506) -/

/-- The condition of a source holds for a time from now on. -/
def condFor (s : State) (src ns : Nat) : State :=
  { s with sec := { s.sec with condUntil := mset 0 s.sec.condUntil src (max (mget 0 s.sec.condUntil src) (s.now + 252 * ns)) } }

/-- A source whose condition is met: the alarm where its bit is set. -/
def detect (s : State) (src detail ns : Nat) : State := alarmIf (condFor s src ns) src detail

/-- VOLTAGE_GLITCH: a rail (DETAIL of R515) at `permille` of its set point for `ns`; KEEPER watches VDD_AON only. -/
def execVoltageGlitch (rail permille ns : Nat) (s : State) : Out :=
  if !s.dev.aonUp || ns < 5 || (850 ≤ permille && permille ≤ 1150) || (s.dev.mode = .keeper && rail != 6) then .next s
  else .next (detect s 1 rail ns)

/-- CLOCK_GLITCH: a period at `permille` of nominal, or the clock lost; REFCLK's loss counts, KEEPER watches KEEPER_CLK only. -/
def execClockGlitch (clk permille : Nat) (lost : Bool) (ns : Nat) (s : State) : Out :=
  let bad := permille < 750 || 1250 < permille || (lost && clk == 0)
  if !s.dev.aonUp || !bad || (s.dev.mode = .keeper && clk != 19) then .next s
  else .next (detect s 2 clk ns)

/-- DEBUG_INTRUSION: an instruction other than IDCODE and BYPASS. -/
def execDebugIntrusion (ir : TapInstr) (code ns : Nat) (s : State) : Out :=
  match ir with
  | .other => .next (if s.dev.aonUp then detect s 4 code ns else s)
  | .idcode | .bypass => .next s

/-- FUSE_READBACK: `bad` is the first fuse word that differs from the shadow. The condition then holds until a read that matches. -/
def execFuseReadback (bad : Option Nat) (s : State) : Out :=
  if !s.dev.aonUp then .next s
  else match bad with
    | none => .next { s with sec := { s.sec with condUntil := mset 0 s.sec.condUntil 3 0 } }
    | some w => .next (alarmIf { s with sec := { s.sec with condUntil := mset 0 s.sec.condUntil 3 (2 ^ 128) } } 3 w)

/-! ## The level-2 clear (R508) -/

/-- ALARM_HOT_SET_CLEAR: the zeroed tiles hold no copy any more, image objects are COLD, their image entries are in residency 1. -/
def execAlarmHotSetClear (s : State) : Out :=
  if !s.sec.hotClear then .next s
  else
    let ids := s.images.flatMap (fun e => e.2.objs.map (fun o => o.1))
    let tiles := imgTiles s
    let s := tiles.foldl (fun s t => match objAt s (t.1 * 16384) with
      | some (_, o) => putTile s o t.1 { t.2 with copy := false, dirty := false, busy := false, die := 0, tile := 0 }
      | none => s) s
    let objs := s.memSt.objs.filter (fun e => e.2.state != 0 && ids.contains e.2.id)
    let s := objs.foldl (fun s e => putObj s e.1 { e.2 with cls := 2, state := 1 }) s
    let lost := objs.filter (fun e => tiles.any (fun t => e.2.base / 16384 ≤ t.1 && t.1 < (e.2.base + e.2.length) / 16384))
    let images := s.images.map (fun e =>
      if e.2.objs.any (fun o => lost.any (fun x => x.2.id == o.1)) then (e.1, { e.2 with residency := 1 }) else e)
    .next { s with images := images, sec := { s.sec with hotClear := false } }

/-! ## Violations (R507) -/

/-- The count restarts: at a window boundary and at each write of object 0x7110. -/
def restartCount (s : State) : State := { s with sec := { s.sec with violations := 0 } }

/-- VIOLATION_WINDOW: the boundary of a window of W ms of the keeper clock. -/
def execViolationWindow (s : State) : Out :=
  let w := getO s 0x7110 3 * msec
  if !s.dev.aonUp || s.now < max s.sec.windowAt s.dev.aonAt + w then .next s
  else
    let s := restartCount s
    .next { s with sec := { s.sec with windowAt := s.dev.aonAt + (s.now - s.dev.aonAt) / max 1 w * max 1 w } }

/-! ## Fuses (R499) -/

/-- Programming of a field fuse begins. -/
def startFuses (s : State) (sub v : Nat) : State := { s with sec := { s.sec with programming := some (sub, v) } }

/-- A write of object 0x7030.01. -/
def wRaiseSvn (s : State) (v : Nat) : WRes :=
  if s.sec.programming.isSome then .error 0x0601
  else if v < s.sec.shadow.svnMin || 64 < v || getO s 0x1020 7 < v then .error 0x0302
  else .ok (startFuses s 1 v)

/-- A write of object 0x7030.02. -/
def wRevoke (s : State) (k : Nat) : WRes :=
  if s.sec.programming.isSome then .error 0x0601
  else if 3 < k || k = s.sec.bootKey then .error 0x0302
  else .ok (startFuses s 2 k)

/-- FUSES_PROGRAMMED: fuses and shadow hold the new value, event 0x7002. -/
def execFusesProgrammed (s : State) : Out :=
  match s.sec.programming with
  | none => .next s
  | some (sub, v) =>
    let f := programmed s.sec.fuses (some (sub, v))
    let s := { s with sec := { s.sec with fuses := f, shadow := programmed s.sec.shadow (some (sub, v)), programming := none } }
    .next (raise s 0x7002 (f8 sub ++ f16 v ++ f16 (if sub = 1 then f.svnMin else f.revoke)))

/-! ## Keys (R501–R504) -/

/-- An image entry in state 2 uses a slot. -/
def slotInUse (s : State) (k : Nat) : Bool := s.images.any (fun e => e.2.state == 2 && e.2.keyId == k)

/-- A write of object 0x7040.02: the value staged for a WRITE is used up by every command. -/
def wKeyCmd (s : State) (v : Nat) : WRes :=
  let k := getO s 0x7040 1
  let src := getO s 0x7040 4
  let done (l : SMap (List Byte)) : State := { s with sec := { s.sec with slots := l, keyVal := none } }
  if v = 0 || 3 < v then .error 0x0302
  else if slotInUse s k then .error 0x0601
  else match v with
    | 1 => match s.sec.keyVal with
      | some b => .ok (done (mbind s.sec.slots k b))
      | none => .error 0x0302
    | 2 =>
      if src = k then .error 0x0302
      else match if src = 0xff then some s.sec.shadow.uds else mfind s.sec.slots src with
        | none => .error 0x0302
        | some ikm => .ok (done (mbind s.sec.slots k (hkdf ikm (s.sec.salt.getD (List.replicate 48 0)) s.sec.info)))
    | _ => .ok (done (s.sec.slots.filter (fun e => e.1 != k)))

/-! ## Arming level (R513) -/

/-- A write of object 0x7100; a raise in ALARM carries out the added actions (R512). -/
def wArming (s : State) (v : Nat) : WRes :=
  let m := s.dev.mode
  if v < getO s 0x7100 0 && m != .standby && m != .ready then .error 0x0401
  else if v < s.sec.shadow.alarmFloor || 4 < v then .error 0x0302
  else
    let s := setO s 0x7100 0 v
    if m != .alarm then .ok s
    else
      let four := decide (v = 4) && decide (s.sec.level < 4)
      let s := alarmActions s v
      .ok (if four then raise (count s 0x3060 6 1) 0x3109 (f16 (pnode s) ++ f16 4 ++ f64 s.lace.tick ++ f16 s.lace.phase) else s)

/-! ## Regions (R492, R496) -/

def getRegion (s : State) (r : Nat) : Region := mget Region.init s.sec.regions r

/-- A range that RANGE_EN may apply to: within DRAM, the stacked SRAM window or the scratchpad window (06 R205). -/
def regionRange (a b : Nat) : Bool :=
  a < b && (b ≤ 0x006000000000 || (0x008000000000 ≤ a && b ≤ 0x008200000000) || (0x00c000000000 ≤ a && b ≤ 0x00c04c000000))

/-- A write of BASE (2), LIMIT (3) or the attributes (4) of the selected region. -/
def wRegion (s : State) (sub v : Nat) : WRes :=
  let r := getO s 0x7010 1
  let g := getRegion s r
  let n : Region := match sub with
    | 2 => { g with base := v }
    | 3 => { g with limit := v }
    | _ => { g with attr := v }
  if fbit g.attr 2 then .error 0x0401
  else if sub != 4 && v % 16384 != 0 then .error 0x0302
  else if r != 0 && fbit n.attr 1 && !regionRange n.base n.limit then .error 0x0302
  else .ok { s with sec := { s.sec with regions := mset Region.init s.sec.regions r n } }

end Sys2Proof.Machine
end

