-- ==== Sys2Proof/Machine/Objects.lean ====
section
/-! DEFINITION. What every object of the dictionary reads as (14 R463, R464, R483, R488 and the object tables of chapters 1 to 18):
the views of state that is kept outside the table of plain values. -/
namespace Sys2Proof.Machine

def b01 (b : Bool) : Nat := if b then 1 else 0

def maskOf (n : Nat) (f : Nat → Bool) : Nat := (List.range n).foldl (fun a i => if f i then a + 2 ^ i else a) 0

/-! ## Chapters 1, 13, 14, 15, 18 -/

/-- R476. -/
def drained (s : State) : Bool :=
  isManager s && s.dev.mode == .draining && s.serving.slots.all (fun e => e.2.eyelet.isNone && e.2.awaits.isNone)

def lockWord (s : State) (n : Nat) : Nat :=
  match mfind s.relum.locks n with
  | some l => l.first + l.last * 2 ^ 16 + l.origin * 2 ^ 32 + 2 ^ 48
  | none => 0

def viewIdentity (s : State) (i sub : Nat) : Option Nat :=
  match i, sub with
  | 0x1000, 3 => some s.sec.shadow.stepping
  | 0x1001, 0 => some (s.sec.shadow.serial % 2 ^ 48)
  | 0x1010, 4 => some (getO s i sub % 8 + 8 * b01 (laceRuns s && s.lace.root == pnode s))
  | 0x1020, 8 => some s.sec.shadow.svnMin
  | 0x1030, 6 => some (b01 s.persistLost)
  | 0x2000, 0 => some (devCode s.dev.mode)
  | 0x2002, 1 => some ((s.dev.target.map devCode).getD 0)
  | 0x2002, 2 => some (b01 s.dev.armed)
  | 0x2002, 3 => some (b01 (drained s))
  | 0x2002, 4 => some ((s.dev.prev.map devCode).getD 0)
  | 0x2002, 5 => some s.dev.haltCause
  | 0x1060, n => if n < 17 then some (lockWord s (n - 1)) else none
  | _, _ => none

def viewSecurity (s : State) (i sub : Nat) : Option Nat :=
  let g := getRegion s (getO s 0x7010 1)
  match i, sub with
  | 0x7010, 2 => some g.base
  | 0x7010, 3 => some g.limit
  | 0x7010, 4 => some g.attr
  | 0x7020, 1 => some s.sec.shadow.revoke
  | 0x7020, 2 => some s.sec.shadow.svnMin
  | 0x7020, 3 => some s.sec.shadow.alarmFloor
  | 0x7020, 4 => some s.sec.bootKey
  | 0x7040, 7 => some (maskOf 32 (fun k => (mfind s.sec.slots k).isSome))
  | 0x7110, 5 => some s.sec.violations
  | 0x7120, 0x11 => some s.sec.log.length
  | _, _ => none

/-! ## Chapters 16 and 17 -/

def faultedParts (s : State) : List (Nat × Nat) := s.parts.filterMap (fun e => e.2.faultTick.map (fun t => (e.1, t)))

def viewEvents (s : State) (i sub : Nat) : Option Nat :=
  match i, sub with
  | 0x8001, 3 => some s.events.hold.length
  | 0x8021, 1 => some (maskOf 8 (fun p => (faultedParts s).any (fun e => e.1 == p)))
  | 0x8021, 2 => some (((faultedParts s).head?.map (·.2)).getD 0)
  | _, _ => none

def viewPower (s : State) (i sub : Nat) : Option Nat :=
  match i, sub with
  | 0x2030, 0x11 => some s.power.log.length
  | 0x2101, 1 => some (watts s.power.pest)
  | 0x2101, 2 => some s.power.stage
  | 0x2101, 3 => some (restAge s)
  | 0x2101, 4 => some (watts s.power.ballast)
  | 0x2101, 5 => some (watts s.power.floor)
  | 0x2101, 6 => some (watts (pEnv s none))
  | 0x2101, 7 => some (b01 (goalReached s))
  | 0x2110, 1 => some (b01 s.power.preRamp)
  | 0x2120, n => some (watts (engineTerm s (n - 1)))
  | 0x2130, 9 => some s.dev.powerGood
  | 0x2200, 4 => some s.power.opp
  | _, _ => none

/-! ## Chapters 4 and 5 -/

def laceCode : LaceMode → Nat
  | .off => 0 | .electing => 1 | .acquiring => 2 | .locked => 3 | .holdover => 4

def viewLast (s : State) (i sub : Nat) : Option Nat :=
  match i with
  | 0x3020 => some ((getPart s (sub - 1)).active.getD 0xff)
  | 0x3021 => some (match (getSlot s (sub - 1)).image with | some im => im.lastId | none => (getSlot s (sub - 1)).lastId)
  | 0x3022 => some (slotState s (sub - 1))
  | _ => none

def viewLace (s : State) (i sub : Nat) : Option Nat :=
  let l := s.lace
  match i, sub with
  | 0x3010, 1 => some l.tick
  | 0x3010, 2 => some l.phase
  | 0x3011, 2 => some l.root
  | 0x3011, 3 => some l.standby
  | 0x3011, 4 => some l.parent
  | 0x3011, 5 => some l.alt
  | 0x3011, 6 => some l.depth
  | 0x3011, 7 => some l.pathLat
  | 0x3012, 1 => some (laceCode l.mode)
  | 0x3012, 2 => some (unsigned 16 l.phaseErr)
  | 0x3012, 3 => some (unsigned 32 l.trim)
  | 0x3013, 2 => some (if l.tickLen = 0 then 0 else horizon s)
  | 0x3013, 3 => some l.tickLen
  | 0x3013, 4 => some l.q
  | 0x3013, 5 => some l.x
  | 0x3013, 6 => some l.v
  | _, _ => none

/-! ## Chapters 6 to 9 -/

def portCode : PortState → Nat
  | .down => 0 | .training => 1 | .up => 2 | .lost => 3 | .ethernet => 4 | .disabled => 5

def viewPort (s : State) (p sub : Nat) : Option Nat :=
  let x := getPort s p
  match sub with
  | 1 => some (portCode x.state)
  | 2 => some x.cls
  | 3 => some x.const
  | 4 => some x.fwd
  | 5 => some (ceilDiv x.rtt 8)
  | 6 => some (unsigned 16 x.margin)
  | 7 => some x.peerPhys
  | 8 => some x.peerLog
  | 9 => some x.peerPort
  | 0x0a => some x.peerTag
  | 0x0b => some x.cause
  | _ => none

def viewFabric (s : State) (i sub : Nat) : Option Nat :=
  match i, sub with
  | 0x4011, 3 => some (liveObjs s)
  | 0x4030, n => some (if n ≤ 16 then freeTiles s (n - 1) else pinnedTiles s (n - 17))
  | 0x4040, 1 => some (tagsInUse s)
  | 0x4041, 2 =>
    let n := getO s 0x4041 1
    some ((mfind s.fab.pendRoutes n).getD (mget 0 s.fab.routes n))
  | 0x4042, 2 => some (mget 0xffff s.fab.lmap (getO s 0x4042 1))
  | 0x5041, 1 => some (maskOf 64 (portUp s))
  | 0x5092, n => some (mget QueuePair.init s.rdma.qps (n - 1)).state
  | 0x9061, 3 => some s.codec.state
  | _, _ => none

/-! ## Chapters 10 to 12 -/

def tenantSlots (s : State) (t : Nat) : Nat :=
  (s.serving.slots.filter (fun e => match e.2.eyelet with | some i => (getEy s i).tenant == t | none => false)).length

def viewServing (s : State) (i sub : Nat) : Option Nat :=
  let t := getO s 0x6010 1
  match i, sub with
  | 0x6000, 3 => some (s.serving.eyelets.filter (fun e => e.2.state != 0)).length
  | 0x6001, 3 => some s.serving.mirrorTick
  | 0x6010, 2 => some (getTen s t).share
  | 0x6010, 3 => some (getTen s t).vt
  | 0x6010, 4 => some (tenantSlots s t)
  | 0x6010, 5 => some (s.serving.eyelets.filter (fun e => e.2.state == 1 && e.2.tenant == t)).length
  | 0x6030, 2 => some 0x000030000000
  | 0xa060, 2 => some (getTen s (getO s 0xa060 1)).engine
  | _, _ => none

def viewQueue (s : State) (q sub : Nat) : Option Nat :=
  match sub with
  | 4 => some (getSq s q).epoch
  | 6 => some (getSq s q).consumed
  | 0x0a => some (getSq s q).tail
  | _ => none

def viewRouting (s : State) (i sub : Nat) : Option Nat :=
  if i = 0x3026 && 4 ≤ sub then
    some (match mfind s.routing.revs (sub - 4) with | some r => r.gen + 2 ^ 32 | none => 0)
  else if i = 0x3028 then
    some (match boundPlan s (sub - 1) with
      | some p => let b := activeBank s (sub - 1); bankGen s p b + b * 2 ^ 32
      | none => 0)
  else none

def viewPartition (s : State) (p sub : Nat) : Option Nat :=
  match sub with
  | 0x10 => some (partTiles s p)
  | 0x33 => some (((activeImage s p).map (fun im => im.busy.sum)).getD 0)
  | _ => none

def viewImage (s : State) (n sub : Nat) : Option Nat :=
  let x := getImg s n
  match sub with
  | 1 => some x.state
  | 2 => some x.residency
  | 3 => some x.imageId
  | 4 => some x.partition
  | 5 => some x.shards.length
  | 6 => some (x.shards.filter (·.verified)).length
  | 7 => some (x.shards.foldl (fun a e => a + e.len) 0)
  | 8 => some x.useTick
  | _ => none

/-- An object that is a view of state kept elsewhere. -/
def viewO (s : State) (i sub : Nat) : Option Nat :=
  if i < 0x2100 then viewIdentity s i sub <|> viewPower s i sub
  else if i < 0x3000 then viewPower s i sub
  else if i < 0x4000 then viewLast s i sub <|> viewLace s i sub <|> viewRouting s i sub
  else if 0x5100 ≤ i && i < 0x5140 then viewPort s (i - 0x5100) sub
  else if 0x6020 ≤ i && i < 0x6060 && !(i == 0x6030 && sub ≤ 2) then viewQueue s (i - 0x6020) sub
  else if i < 0x6000 || (0x9000 ≤ i && i < 0xa000) then viewFabric s i sub
  else if i < 0x7000 || i = 0xa060 then viewServing s i sub
  else if i < 0x8000 then viewSecurity s i sub
  else if i < 0x9000 then viewEvents s i sub
  else if i < 0xa008 then viewPartition s (i - 0xa000) sub
  else if 0xa030 ≤ i && i < 0xa050 then viewImage s (i - 0xa030) sub
  else none

/-- The value that a numeric object reads as. -/
def readN (s : State) (i sub : Nat) : Nat := (viewO s i sub).getD (getO s i sub)

/-! ## STR and DOM values -/

def ascii (t : String) : List Byte := t.toList.map (fun c => BitVec.ofNat 8 c.toNat)

/-- The persist window at the offset of object 0x1030.03 (14 R485). -/
def persistWindow (s : State) : List Byte := mrange 0 s.relum.pstage (getO s 0x1030 3) 64

def readD (s : State) (i sub size : Nat) : List Byte :=
  padTo size (match i with
    | 0x1000 => if sub = 1 then ascii "FENUELON" else ascii "FN-IK4-384-A"
    | 0x1030 => persistWindow s
    | 0x2030 => s.power.log.getD (sub - 1) []
    | 0x7050 => mget [] s.sec.signers (sub - 1)
    | 0x7120 => s.sec.log.getD (sub - 1) []
    | _ => [])

/-- The bytes that a READ of an entry returns; SUB 0x00 of an object with subindices reads as the highest one (R463). -/
def readRow (s : State) (r : ObjRow) (i sub : Nat) : List Byte :=
  if (findRow i sub).isNone then f8 r.dflt
  else match r.ty with
  | .str | .dom => readD s i sub r.size
  | _ => leBytes r.size (readN s i sub)

/-- Type codes of R462 and access codes of R464. -/
def tyCode : OTy → Nat
  | .u8 => 1 | .u16 => 2 | .u32 => 3 | .u64 => 4 | .i8 => 5 | .i16 => 6 | .i32 => 7 | .i64 => 8 | .f32 => 9 | .str => 10 | .dom => 11

def accCode : Access → Nat
  | .ro => 0 | .rw => 1 | .wo => 2 | .w1c => 3 | .rc => 4

def isData (t : OTy) : Bool := t == .str || t == .dom

/-- The 32 bytes of DESCRIBE (R464). -/
def describeRow (r : ObjRow) (i sub : Nat) : List Byte :=
  f8 (tyCode r.ty) ++ f8 (accCode r.acc) ++ f8 (b01 r.persist + 2 * b01 r.sec + 4 * b01 r.keeper) ++ f8 r.ws ++ f32 r.size ++
    f64 (rowDefault r i sub) ++ (if isData r.ty then List.replicate 16 0 else f64 (unsigned 64 r.lo) ++ f64 (unsigned 64 r.hi))

/-- The U8 RO entry at SUB 0x00 of an object with subindices (R463). -/
def subRow (i top : Nat) : ObjRow :=
  ⟨i, 1, 0, 1, .u8, 1, .ro, false, objRows.any (fun r => r.idx ≤ i && i < r.idx + r.idxN && r.keeper), false, top, 0, 255, 0⟩

/-- An entry of the dictionary: its row; the abort code where the index or the subindex does not exist (R482 steps 3 and 4). -/
def entryOf (i sub : Nat) : Except Nat ObjRow :=
  match findRow i sub with
  | some r => .ok r
  | none =>
    match topSub i with
    | none => .error 0x0101
    | some top => if sub = 0 then .ok (subRow i top) else .error 0x0102

end Sys2Proof.Machine
end

