-- ==== Sys2Proof/Machine/Writes.lean ====
section
/-! DEFINITION. Writes of objects: the order of checks (14 R482), what each object's write does, locks (R479–R481), persistence
(R484–R486). -/
namespace Sys2Proof.Machine

/-- A requester of the object engine: path, origin, world, lock key (R458, R480), and the thread behind a local mailbox. -/
structure Req where
  path : Path
  origin : Nat
  secure : Bool
  key : Nat
  hart : Option Hart
  deriving DecidableEq, Repr

/-- Origin of R458. -/
def originOf (s : State) (p : Path) (box node : Nat) : Nat :=
  match p with
  | .localPort => box * 2048 + pnode s
  | .inBand => 2 ^ 14 + box * 2048 + node
  | .hostMailbox => 2 * 2 ^ 14
  | .i3c => 3 * 2 ^ 14
  | .keeper => 2 ^ 16

/-- The requester of an access; firmware behind a local mailbox is the thread that rang it last. -/
def reqOf (s : State) (a : Acc) : Req :=
  ⟨a.path, originOf s a.path a.box a.node, a.secure, a.key,
    if a.path = .localPort then (mget Mailbox.init s.relum.boxes a.box).owner else none⟩

/-! ## What a write does -/

def okIf (c : Bool) (code : Nat) (s : State) : State × Nat := if c then (s, 0) else (s, code)

def ofW (s : State) : WRes → State × Nat
  | .ok t => (t, 0)
  | .error c => (s, c)

/-- A plain value, taken where `c` holds, else 0x0302. -/
def plain (s : State) (i sub v : Nat) (c : Bool) : State × Nat := if c then (setO s i sub v, 0) else (s, 0x0302)

def isNode (v : Nat) : Bool := v < 2048 || v == 0xffff
def only4K (v : Nat) : Bool := v % 4096 == 0

/-- A limit of R454 or 02 R52 is lowered, with event 0x1002; an R limit is 1, 2, 4, 8 or 16 (02 R75). -/
def lowerLimit (s : State) (i sub v : Nat) : State × Nat :=
  let old := getO s i sub
  if old < v || (i = 0x9020 && !(List.contains [1, 2, 4, 8, 16] v)) then (s, 0x0302)
  else if v = old then (s, 0)
  else (raise (setO s i sub v) 0x1002 (f8 sub ++ f16 old ++ f16 v), 0)

/-- A last slot holds a loaded last. -/
def anyLoaded (s : State) : Bool := s.slots.any (fun e => e.2.image.isSome)

/-- TICK_LEN + Q × X may not exceed 65,536 (05 R165). -/
def tickFits (t q x : Nat) : Bool := t + q * x ≤ 65536

/-- Objects 0x3000 to 0x3002 (05 R165, 04 R150). -/
def wTickShape (s : State) (i v : Nat) : State × Nat :=
  let t := getO s 0x3000 0
  let q := getO s 0x3001 0
  let x := getO s 0x3002 0
  match i with
  | 0x3000 => plain s i 0 v (v % 64 == 0 && tickFits v q x)
  | 0x3001 => if anyLoaded s && q < v then (s, 0x0401) else plain s i 0 v ([16, 32, 64, 128, 256].contains v && tickFits t v x)
  | _ => if anyLoaded s && x < v then (s, 0x0401) else plain s i 0 v (tickFits t q v)

/-- Object 0x3013.01 (05 R166). -/
def wVoteReach (s : State) (v : Nat) : State × Nat :=
  if !(s.lace.root = pnode s && laceRuns s) then (s, 0x0401) else plain s 0x3013 1 v (v + 256 ≤ getO s 0x3000 0)

/-- Object 0x2012.01 (01 R21). -/
def wMark (s : State) (v : Nat) : State × Nat :=
  if 20 ≤ v % 32 then (s, 0x0302) else (markUnhealthy s (v / 32) (v % 32) 4, 0)

/-- A route entry (09 R310): it waits while requests sent toward the node have no response, and takes the place of one that waits. Bits 7:6 are reserved (00 R10). -/
def wRoute (s : State) (v : Nat) : State :=
  let n := getO s 0x4041 1
  let e := field v 0 6 + field v 8 8 * 256
  if (mfind s.fab.pendRoutes n).isSome || s.fab.reqs.any (fun r => pDst r.2.pkt == n) then { s with fab := { s.fab with pendRoutes := mbind s.fab.pendRoutes n e } }
  else { s with fab := { s.fab with routes := mset 0 s.fab.routes n e } }

def wLmap (s : State) (v : Nat) : State × Nat :=
  if isNode v then ({ s with fab := { s.fab with lmap := mset 0xffff s.fab.lmap (getO s 0x4042 1) v } }, 0) else (s, 0x0302)

/-- Object 0x8000.04 (16 R530, R539): the head may not pass the tail by more than the ring. -/
def wHead (s : State) (v : Nat) (hart : Option Hart) : State × Nat :=
  let ahead := sub32 v (getO s 0x8000 3)
  if 2 ^ getO s 0x8000 2 < ahead && ahead < 2 ^ 31 then (s, 0x0302)
  else
    let s := setO s 0x8000 4 v
    let s := match hart with
      | some h => if hartKey h = meipHart s then { s with events := { s.events with meip := mset false s.events.meip (hartKey h) false } } else s
      | none => s
    (reportLoss s, 0)

/-- Object 0x8000.05 (16 R528). -/
def wEnable (s : State) (v : Nat) : State × Nat :=
  let on := v == 1 && !queueOn s
  let s := setO s 0x8000 5 v
  (if on then flushHold s else s, 0)

/-- Subindices of object 0x6020 + q (10 R334, R344, R346, R379). -/
def wQueue (s : State) (q sub v : Nat) : State × Nat :=
  let i := 0x6020 + q
  let on := getO s i 0x0c == 1
  if sub = 3 then
    let r := commitBell s q v
    (r.1, if !isManager s then 0x0401 else if r.2 then 0 else 0x0302)
  else if !isManager s then (s, 0x0401)
  else match sub with
    | 1 => if on then (s, 0x0401) else plain s i 1 v (only4K v)
    | 5 => ofW s (wFlush s q v)
    | 2 | 7 | 8 => if on then (s, 0x0401) else (setO s i sub v, 0)
    | 9 => if on then (s, 0x0401) else plain s i 9 v (isNode v)
    | _ => (setO s i sub v, 0)

/-- Object 0x5090 (08 R294–R300, R301). -/
def wPullObj (s : State) (sub v : Nat) : State × Nat :=
  let busy := s.rdma.qps.any (fun e => e.2.state != 0)
  match sub with
  | 2 => ofW s (wQp s v)
  | 5 => ofW s (wPull s v)
  | 1 | 3 | 7 => if busy then (s, 0x0401) else plain s 0x5090 sub v (only4K v)
  | 4 | 8 => if busy then (s, 0x0401) else (setO s 0x5090 sub v, 0)
  | 0x0a => (wCompHead s v, 0)
  | _ => (setO s 0x5090 sub v, 0)

/-- Object 0xA000 + p (12 R424, R430). -/
def wPartObj (s : State) (p sub v : Nat) : State × Nat :=
  if sub = 0x0d || sub = 0x0e then ofW s (wRange s p sub v)
  else if sub = 0x0f then ofW s (wShare s p v)
  else if sub = 0x34 then (setO s (partObj p) sub v, 0)
  else if partState s p = 1 then (s, 0x0401)
  else (setO s (partObj p) sub v, 0)

/-- Persist values that a partition command changes keep in the retention store (14 R484). -/
def keepPart (s : State) (p : Nat) : State :=
  let i := partObj p
  let subs := objRowsResidency.flatMap (fun r => if r.idx = 0xa000 && r.persist then (List.range r.subN).map (fun k => r.sub + k) else [])
  { s with persist := subs.foldl (fun m k => mbind m (okey i k) (getO s i k)) s.persist }

def wPartition (s : State) (v : Nat) : State × Nat :=
  match wPartCmd s v with
  | .ok t => (keepPart t (getO s 0xa008 1), 0)
  | .error c => (s, c)

/-- The effect of a write of chapters 1 to 5. -/
def wr1 (s : State) (i sub v : Nat) : State × Nat :=
  if i = 0x2012 then wMark s v
  else if i = 0x9020 then lowerLimit s i sub v
  else if i = 0x3020 then ofW s (wActive s (sub - 1) v)
  else if i = 0x3030 && sub = 3 then ofW s (wLastCmd s v)
  else if 0x3000 ≤ i && i ≤ 0x3002 then wTickShape s i v
  else if i = 0x3013 then wVoteReach s v
  else if i = 0x3014 && sub = 1 then ofW s (wStart s v)
  else if i = 0x3015 then ofW s (if sub = 1 then wSwitch s v else wSwitchTick s v)
  else if i = 0x3016 then ofW s (wHalt s v)
  else if i = 0x3017 then ofW s (if sub = 1 then wAdoptNode s v else wAdoptTick s v)
  else if i = 0x3025 then wBind s (sub - 1) v
  else if i = 0x3026 && sub = 3 then ofW s (wArm s v)
  else (setO s i sub v, 0)

/-- The effect of a write of chapters 6 to 9. -/
def wr2 (s : State) (i sub v : Nat) : State × Nat :=
  if i = 0x4001 then (if liveObjs s != 0 then (s, 0x0401) else plain s i sub v (v % 16384 == 0))
  else if i = 0x4002 then ofW s (wLastStore s (sub - 1) v)
  else if i = 0x4003 && sub = 2 then (let r := plain s i sub v (v < getO s 0x4003 3); (sweepAll r.1, r.2))
  else if i = 0x4011 then (wTablePlace s sub v, 0)
  else if i = 0x4003 && sub = 3 then plain s i sub v (getO s 0x4003 2 < v)
  else if (i = 0x4010 || i = 0x4012) && sub = 1 then plain s i sub v (only4K v)
  else if (i = 0x4010 || i = 0x4012) && sub = 3 then ofW s (wDoorbell s (i == 0x4012) v)
  else if i = 0x9061 && sub = 1 then ofW s (wTable s v)
  else if 0x5000 ≤ i && i < 0x5040 && sub = 9 then ofW s (wPortCmd s (i - 0x5000) v)
  else if i = 0x5040 then plain s i sub v (v % 64 == 0)
  else if i = 0x5080 then ofW s (wStorage s v)
  else if i = 0x5084 then plain s i sub v (v < 8 || v == 255)
  else if i = 0x5090 then wPullObj s sub v
  else if i = 0x4041 && sub = 2 then (wRoute s v, 0)
  else if i = 0x4042 && sub = 2 then wLmap s v
  else (setO s i sub v, 0)

/-- The effect of a write of chapters 10 to 12. -/
def wr3 (s : State) (i sub v : Nat) : State × Nat :=
  if i = 0x6000 && sub = 1 then plain s i sub v (only4K v)
  else if i = 0x6001 && sub = 1 then ofW s (wManager s v)
  else if i = 0x6001 && sub = 4 then plain s i sub v (isNode v)
  else if i = 0x6010 && sub = 2 then let t := getO s 0x6010 1; (setTen s t { getTen s t with share := v }, 0)
  else if i = 0x6030 && sub = 1 then (if isManager s then ofW s (wCancel s v) else (s, 0x0401))
  else if 0x6020 ≤ i && i < 0x6060 then wQueue s (i - 0x6020) sub v
  else if 0xa000 ≤ i && i < 0xa008 then wPartObj s (i - 0xa000) sub v
  else if i = 0xa008 && sub = 3 then wPartition s v
  else if i = 0xa020 && sub = 4 then ofW s (wImage s v)
  else (setO s i sub v, 0)

/-- The effect of a write of chapters 13 to 18. -/
def wr4 (s : State) (r : Req) (i sub v : Nat) : State × Nat :=
  if i = 0x1020 && sub = 3 then ofW s (wImageCheck s v)
  else if i = 0x1040 then plain s i sub v (v % 2 ^ 31 == 0)
  else if i = 0x1030 then plain s i sub v (v % 64 == 0 && v < 16384)
  else if i = 0x1070 && sub = 2 then plain s i sub v (isNode v)
  else if i = 0x2001 then stateCmd s r.secure v
  else if i = 0x2003 && sub = 2 then (packageReset s 3, 0)
  else if i = 0x2003 && sub = 5 then ofW s (wFirmwareReady s v)
  else if i = 0x2180 then lowerLimit s i sub v
  else if i = 0x2100 && sub ≤ 2 then plain s i sub v (v ≤ getO s 0x2180 3)
  else if i = 0x2110 then (wPreRamp s v, 0)
  else if i = 0x2200 && sub = 2 then ofW s (wFreq s v)
  else if i = 0x2200 && sub = 3 then plain s i sub v (s.power.opp ≤ v)
  else if i = 0x7010 && sub != 1 then ofW s (wRegion s sub v)
  else if i = 0x7030 then ofW s (if sub = 1 then wRaiseSvn s v else wRevoke s v)
  else if i = 0x7040 && sub = 2 then ofW s (wKeyCmd s v)
  else if i = 0x7040 && sub = 4 then plain s i sub v (v == 255 || (1 ≤ v && v ≤ 31))
  else if i = 0x7100 then ofW s (wArming s v)
  else if i = 0x7110 then (restartCount (setO s i sub v), 0)
  else if i = 0x8000 && sub = 1 then (if queueOn s then (s, 0x0401) else plain s i sub v (only4K v))
  else if i = 0x8000 && sub = 2 then (if queueOn s then (s, 0x0401) else (setO s i sub v, 0))
  else if i = 0x8000 && sub = 4 then wHead s v r.hart
  else if i = 0x8000 && sub = 5 then wEnable s v
  else if i = 0x8010 then plain s i sub v (v < 2048 || v == 0xffff)
  else (setO s i sub v, 0)

/-- The effect of a write of a numeric object: the state after it, and 0 or an abort code. -/
def wrAny (s : State) (r : Req) (i sub v : Nat) : State × Nat :=
  if (0x2000 ≤ i && i < 0x2013 && i != 0x2001 && i != 0x2003) || i = 0x9000 || i = 0x9020 || (0x3000 ≤ i && i < 0x4000) then wr1 s i sub v
  else if (0x4000 ≤ i && i < 0x6000) || (0x9060 ≤ i && i < 0xa000) then wr2 s i sub v
  else if (0x6000 ≤ i && i < 0x7000) || 0xa000 ≤ i then wr3 s i sub v
  else wr4 s r i sub v

/-- Whether a value lies in an entry's range. -/
def inRange (row : ObjRow) (v : Nat) : Bool :=
  let z : Int := match row.ty with
    | .i8 => signed 8 v | .i16 => signed 16 v | .i32 => signed 32 v | .i64 => signed 64 v
    | _ => Int.ofNat v
  decide (row.lo ≤ z) && decide (z ≤ row.hi)

/-- The entries whose bits above their range are fields marked reserved: 0x2012.01, 0x3015.01, 0x4040.06, 0x7010.04, 0x8012.02 and
0x9060.01. Of word 9 of a cluster set DEFINE_SET checks them itself (12 R421). -/
def highReserved (i sub : Nat) : Bool :=
  [(0x2012, 1), (0x3015, 1), (0x4040, 6), (0x7010, 4), (0x8012, 2), (0x9060, 1)].contains (i, sub)

/-- A value without the bits that its entry marks reserved: the package ignores them (00 R10). -/
def unreserved (row : ObjRow) (i sub v : Nat) : Nat :=
  if highReserved i sub && !inRange row v then v % (row.hi.toNat + 1) else v

/-- Step 10: a value outside the range gives way to a code of higher precedence only (R12, R482). -/
def wrNum (s : State) (r : Req) (row : ObjRow) (i sub v : Nat) : State × Nat :=
  let v := unreserved row i sub v
  let y := wrAny s r i sub v
  if y.2 != 0 && y.2 != 0x0302 then y
  else if inRange row v then y
  else (s, 0x0302)

/-- A write of a DOM object: fewer bytes than its size are followed by 0x00; the window keeps what lies behind them (log entry 86). -/
def wrData (s : State) (row : ObjRow) (i sub : Nat) (data : List Byte) : State :=
  let d := padTo row.size data
  match i, sub with
  | 0x1030, 4 => { s with relum := { s.relum with pstage := mputs 0 s.relum.pstage (getO s 0x1030 3) data } }
  | 0x7040, 3 => { s with sec := { s.sec with keyVal := some d } }
  | 0x7040, 5 => { s with sec := { s.sec with salt := some d } }
  | 0x7040, 6 => { s with sec := { s.sec with info := data } }
  | 0x7050, n => { s with sec := { s.sec with signers := mset [] s.sec.signers (n - 1) (if d.all (· == 0) then [] else d) } }
  | _, _ => s

/-! ## The checks (R482) -/

/-- Step 2. -/
def worldBar (r : Req) (i sub : Nat) : Bool :=
  (0xf000 ≤ i && i < 0x10000) || (!r.secure && ((0x7000 ≤ i && i < 0x8000) || (match findRow i sub with | some x => x.sec | none => false)))

/-- A held lock that covers the index and is not the requester's with its key (R480). -/
def lockBar (s : State) (r : Req) (i : Nat) : Bool :=
  s.relum.locks.any (fun e => e.2.first ≤ i && i ≤ e.2.last && !(e.2.origin == r.origin && e.2.key == r.key))

/-- The state in force permits a write of the entry (R473). -/
def stateOk (s : State) (row : ObjRow) : Bool := fbit row.ws (devCode s.dev.mode - 1)

/-- In ALARM only the secure world writes; object 0x2001 answers for itself (R473, R474). -/
def alarmBar (s : State) (r : Req) (i : Nat) : Bool := s.dev.mode == .alarm && !r.secure && i != 0x2001

/-- The persist store follows a successful write (R484). -/
def persistAfter (s : State) (row : ObjRow) (i sub : Nat) : State :=
  if row.persist then { s with persist := mbind s.persist (okey i sub) (readN s i sub) } else s

/-- Steps 3 to 10 for an entry that exists in the requester's world. `busy` stops object 0x1030.01 within an import. -/
def writeEntry (s : State) (r : Req) (cmd : State → Nat → State × Nat) (i sub : Nat) (ty : Option Nat) (data : List Byte) : State × Nat :=
  match entryOf i sub with
  | .error c => (s, c)
  | .ok row =>
    if row.acc = .ro then (s, 0x0201)
    else if ty.any (fun t => t != tyCode row.ty) then (s, 0x0301)
    else if isData row.ty && (data.length = 0 || row.size < data.length) then (s, 0x0301)
    else if !isData row.ty && data.length != row.size then (s, 0x0301)
    else if lockBar s r i then (s, 0x0402)
    else if !stateOk s row || alarmBar s r i then
      (if i = 0x2003 && sub = 2 && s.dev.mode = .alarm then packageReset s 3 else s, 0x0401)
    else
      let y := if isData row.ty then (wrData s row i sub data, 0)
        else if i = 0x1030 && sub = 1 then cmd s (leNat data)
        else wrNum s r row i sub (leNat data)
      if y.2 = 0 then (persistAfter y.1 row i sub, 0) else y

/-- Step 2, which counts as a world violation where object 0x7110.04 says so (15 R507). -/
def worldAbort (s : State) : State × Nat := (if getO s 0x7110 4 = 1 then violation s else s, 0x0501)

/-! ## Persistence (R485, R486) -/

/-- Entries of the record: persist values that a WRITE can set (log entry 85), in the dictionary's order. -/
def persistEntries (secure : Bool) : List (ObjRow × Nat × Nat) :=
  (objRows.filter (fun r => r.persist && r.acc == .rw && (secure || !r.sec))).flatMap (fun r =>
    (List.range r.idxN).flatMap (fun a => (List.range r.subN).map (fun b => (r, r.idx + a, r.sub + b))))

def persistRecord (s : State) (secure : Bool) : List Byte :=
  let es := persistEntries secure
  let body := es.flatMap (fun e => f16 e.2.1 ++ f8 e.2.2 ++ f8 (tyCode e.1.ty) ++ f64 (readN s e.2.1 e.2.2))
  f32 0x53524550 ++ f16 1 ++ f16 es.length ++ f32 (crc32 body) ++ f32 0 ++ body

/-- One entry of a record as a WRITE from the importing requester. -/
def importOne (r : Req) (s : State) (e : List Byte) : State × Nat :=
  let i := fieldB e 0 2
  let sub' := fieldB e 2 1
  let size := match findRow i sub' with | some x => x.size | none => 8
  if worldBar r i sub' then worldAbort s
  else if fieldB e 4 8 / 2 ^ (8 * size) != 0 then (s, 0x0302)
  else writeEntry s r (fun s _ => (s, 0x0601)) i sub' (some (fieldB e 3 1)) (sub e 4 size)

/-- The entries in order: the state, and the number and code of the first that fails. -/
def importAll (r : Req) : List (List Byte) → Nat → State → State × Option (Nat × Nat)
  | [], _, s => (s, none)
  | e :: rest, k, s =>
    match importOne r s e with
    | (t, 0) => importAll r rest (k + 1) t
    | (_, c) => (s, some (k, c))

/-- Object 0x1030.01. -/
def wPersist (r : Req) (s : State) (v : Nat) : State × Nat :=
  if (v = 2 || v = 3) && s.dev.mode != .standby then (s, 0x0401)
  else match v with
    | 1 =>
      let l := persistRecord s r.secure
      (setO { s with relum := { s.relum with pstage := mputs 0 [] 0 l } } 0x1030 2 l.length, 0)
    | 2 =>
      let h := mrange 0 s.relum.pstage 0 16
      let n := fieldB h 6 2
      let body := mrange 0 s.relum.pstage 16 (12 * n)
      if fieldB h 0 4 != 0x53524550 || fieldB h 4 2 != 1 || 16384 < 16 + 12 * n || fieldB h 8 4 != crc32 body then
        (s, 0x0301)
      else
        match importAll r ((List.range n).map (fun k => sub body (12 * k) 12)) 0 s with
        | (t, none) => (setO { t with persistLost := false } 0x1030 5 0, 0)
        | (_, some (k, c)) => (setO s 0x1030 5 (c + k * 65536), c)
    | 3 =>
      ((persistEntries r.secure).foldl (fun s e =>
        { setO s e.2.1 e.2.2 (rowDefault e.1 e.2.1 e.2.2) with persist := mdrop s.persist (okey e.2.1 e.2.2) }) s, 0)
    | _ => (s, 0x0302)

/-! ## A WRITE -/

/-- An access that completes with its lock's KEY moves the expiry (R480). -/
def renew (s : State) (r : Req) : State :=
  let e := s.now + getO s 0x1060 0x11 * msec
  { s with relum := { s.relum with locks := s.relum.locks.map (fun l =>
    if r.key != 0 && l.2.origin == r.origin && l.2.key == r.key then (l.1, { l.2 with expiry := e }) else l) } }

/-- A WRITE with steps 2 to 10: `ty` is the frame's TYPE. -/
def doWrite (s : State) (r : Req) (i sub : Nat) (ty : Option Nat) (data : List Byte) : State × Nat :=
  let y := if worldBar r i sub then worldAbort s else writeEntry s r (wPersist r) i sub ty data
  if y.2 = 0 then (renew y.1 r, 0) else (count y.1 0x1051 7 1, y.2)

/-! ## Paths (R472) -/

/-- The state in force serves a path. -/
def pathServed (s : State) (r : Req) : Bool :=
  match s.dev.mode, r.path with
  | _, .keeper => true
  | _, .i3c => s.dev.aonUp && getO s 0x1050 3 == 1
  | .keeper, .localPort => s.dev.boot == .firmware && r.secure
  | .keeper, _ => false
  | .standby, .inBand => false
  | _, _ => true

/-- A frame on a path that is not served: an abort on the host mailbox and the local port, else no response. -/
def notServed (s : State) (r : Req) : Out :=
  match r.path with
  | .hostMailbox | .localPort => .next (emit (count s 0x1051 7 1) (.status 0x0401))
  | _ => .next s

def servedSub : Path → Nat
  | .localPort => 1 | .inBand => 2 | .hostMailbox => 3 | .i3c => 4 | .keeper => 0

def countServed (s : State) (p : Path) : State := if p = .keeper then s else count s 0x1051 (servedSub p) 1

/-- A command that is a WRITE of one object with a value of `size` bytes or the DOM bytes given; its outcome leaves as a status. -/
def writeData (s : State) (r : Req) (i sub : Nat) (data : List Byte) : Out :=
  if !pathServed s r then notServed s r
  else
    let y := doWrite (countServed s r.path) r i sub none data
    .next (emit y.1 (.status y.2))

/-- The same for a numeric value. -/
def writeObj (a : Acc) (i sub v : Nat) (s : State) : Out :=
  let size := match findRow i sub with | some x => x.size | none => 1
  writeData s (reqOf s a) i sub (leBytes size v)

end Sys2Proof.Machine
end

