-- ==== Sys2Proof/Machine/Relum.lean ====
section
/-! DEFINITION. The object engine behind its four access paths (14 R458–R471, R478–R482): request and response frames, retries, the
checks of READ, DESCRIBE, LOCK and UNLOCK, mailboxes, in-band flits, the I3C target. -/
namespace Sys2Proof.Machine

/-! ## Frames (R460, R461) -/

abbrev Frame := List Byte

def rOp (f : Frame) : Nat := fieldB f 0 1
def rIndex (f : Frame) : Nat := fieldB f 2 2
def rSub (f : Frame) : Nat := fieldB f 4 1
def rType (f : Frame) : Nat := fieldB f 5 1
def rLen (f : Frame) : Nat := fieldB f 6 1
def rFlags (f : Frame) : Nat := fieldB f 7 1
def rRemote (f : Frame) : Bool := fbit (rFlags f) 0
def rForce (f : Frame) : Bool := fbit (rFlags f) 1
def rKey (f : Frame) : Nat := fieldB f 8 2
def frDst (f : Frame) : Nat := fieldB f 10 2
def rData (f : Frame) : List Byte := sub f 12 (rLen f)

/-- The length is 16 + LEN and the CRC holds (R465). -/
def frameGood (f : Frame) : Bool :=
  16 ≤ f.length && f.length == 16 + rLen f && fieldB f (12 + rLen f) 4 == crc32 (f.take (12 + rLen f))

/-- The frame that a buffer of 80 bytes holds. -/
def bufFrame (l : List Byte) : Frame := (padTo 80 l).take (16 + fieldB l 6 1)

def withCrc (b : List Byte) : Frame := b ++ f32 (crc32 b)

/-- The outcome of an access: abort code, TYPE and data of its response. -/
structure Answer where
  code : Nat
  ty : Nat
  data : List Byte
  deriving DecidableEq, Repr

/-- A response frame (R461); an aborted access returns LEN 0. -/
def respFrame (f : Frame) (a : Answer) : Frame :=
  let d := if a.code = 0 then a.data else []
  withCrc (f8 ((rOp f + 0x80) % 256) ++ sub f 1 4 ++ f8 a.ty ++ f8 d.length ++ [0] ++ f16 a.code ++ [0, 0] ++ d)

/-! ## The operations -/

/-- Step 1 of R482 (log entry 91). -/
def malformed (f : Frame) : Bool :=
  let op := rOp f
  !(1 ≤ op && op ≤ 5) || 4 ≤ rFlags f || 64 < rLen f || (rForce f && op != 5) || rRemote f || frDst f != 0 ||
    (rType f != 0 && 3 ≤ op) || (op == 4 && rLen f != 4) || ((op == 1 || op == 3 || op == 5) && rLen f != 0)

/-- In KEEPER only entries marked for it are read, but for secure firmware that completes the bring-up (R472). -/
def keeperBar (s : State) (row : ObjRow) (r : Req) : Bool :=
  s.dev.mode == .keeper && !row.keeper && !(r.path == .localPort && r.secure)

/-- READ, steps 2 to 8. -/
def doRead (s : State) (r : Req) (f : Frame) : State × Answer :=
  let i := rIndex f
  let sub := rSub f
  if worldBar r i sub then let y := worldAbort s; (y.1, ⟨y.2, 0, []⟩)
  else match entryOf i sub with
    | .error c => (s, ⟨c, 0, []⟩)
    | .ok row =>
      let ty := tyCode row.ty
      if row.acc = .wo then (s, ⟨0x0202, ty, []⟩)
      else if rType f != 0 && rType f != ty then (s, ⟨0x0301, ty, []⟩)
      else if keeperBar s row r then (s, ⟨0x0401, ty, []⟩)
      else (renew s r, ⟨0, ty, readRow s row i sub⟩)

/-- DESCRIBE: the world and existence checks only (R464). -/
def doDescribe (s : State) (r : Req) (f : Frame) : State × Answer :=
  let i := rIndex f
  let sub := rSub f
  if worldBar r i sub then let y := worldAbort s; (y.1, ⟨y.2, 0, []⟩)
  else match entryOf i sub with
    | .error c => (s, ⟨c, 0, []⟩)
    | .ok row => (renew s r, ⟨0, tyCode row.ty, describeRow row i sub⟩)

/-- WRITE. Its aborts are counted there. -/
def doWriteFrame (s : State) (r : Req) (f : Frame) : State × Answer :=
  let y := doWrite s r (rIndex f) (rSub f) (some (rType f)) (rData f)
  let ty := if worldBar r (rIndex f) (rSub f) then 0
    else match entryOf (rIndex f) (rSub f) with | .ok row => tyCode row.ty | .error _ => 0
  (y.1, ⟨y.2, ty, []⟩)

/-- LOCK (R479): a random key that is not 0, in the lowest free entry; like every access it renews the lock whose KEY it carries (R480). -/
def doLock (s : State) (r : Req) (f : Frame) : State × Answer :=
  let first := fieldB f 12 2
  let last := fieldB f 14 2
  if s.dev.mode = .alarm then (s, ⟨0x0401, 0, []⟩)
  else if s.relum.locks.any (fun e => e.2.first ≤ last && first ≤ e.2.last) then (s, ⟨0x0402, 0, []⟩)
  else match (List.range 16).find? (fun n => (mfind s.relum.locks n).isNone) with
    | none => (s, ⟨0x0601, 0, []⟩)
    | some n =>
      if last < first then (s, ⟨0x0302, 0, []⟩)
      else
        let (k, s) := fresh (renew s r)
        let key := Config.random k % 65535 + 1
        let l : LockEntry := ⟨first, last, r.origin, key, s.now + getO s 0x1060 0x11 * msec⟩
        ({ s with relum := { s.relum with locks := mbind s.relum.locks n l } }, ⟨0, 0, f16 key ++ f8 n⟩)

/-- UNLOCK (R481); the lock of its KEY that it does not free is renewed (R480). -/
def doUnlock (s : State) (r : Req) (f : Frame) : State × Answer :=
  if s.dev.mode = .alarm then (s, ⟨0x0401, 0, []⟩)
  else match s.relum.locks.find? (fun e => e.2.first ≤ rIndex f && rIndex f ≤ e.2.last) with
    | none => (s, ⟨0x0402, 0, []⟩)
    | some (n, l) =>
      if (l.origin == r.origin && l.key == r.key) || (r.secure && rForce f) then
        (renew { s with relum := { s.relum with locks := mdrop s.relum.locks n } } r, ⟨0, 0, []⟩)
      else (s, ⟨0x0402, 0, []⟩)

def doFrame (s : State) (r : Req) (f : Frame) : State × Answer :=
  if malformed f then (s, ⟨0x0301, 0, []⟩)
  else match rOp f with
    | 1 => doRead s r f
    | 2 => doWriteFrame s r f
    | 3 => doDescribe s r f
    | 4 => doLock s r f
    | _ => doUnlock s r f

/-! ## Serving a frame (R465, R472) -/

def keepResp (s : State) (o : Nat) (f rsp : Frame) : State :=
  { s with relum := { s.relum with kept := ⟨o, f, rsp⟩ :: s.relum.kept.filter (fun k => k.origin != o) } }

/-- Aborts are counted once; those of a WRITE are counted by it. -/
def countAbort (s : State) (f : Frame) (code : Nat) : State :=
  if code = 0 || (rOp f = 2 && !malformed f) then s else count s 0x1051 7 1

/-- A whole request on a path: dropped on CRC or length, answered from the kept response, answered by nothing or an abort where
the state does not serve the path, or executed. -/
def serveFrame (s : State) (r : Req) (f : Frame) : State × Option Frame :=
  if !frameGood f then (count s 0x1051 5 1, none)
  else if !pathServed s r then
    (match r.path with
    | .hostMailbox | .localPort =>
      let rsp := respFrame f ⟨0x0401, 0, []⟩
      (keepResp (count s 0x1051 7 1) r.origin f rsp, some rsp)
    | _ => (s, none))
  else match s.relum.kept.find? (fun k => k.origin == r.origin && k.request == f) with
    | some k => (count (countServed s r.path) 0x1051 6 1, some k.response)
    | none =>
      let y := doFrame (countServed s r.path) r f
      let rsp := respFrame f y.2
      (keepResp (countAbort y.1 f y.2.code) r.origin f rsp, some rsp)

/-! ## Requests that leave in-band (R471) -/

def getBox (s : State) (k : Nat) : Mailbox := mget Mailbox.init s.relum.boxes k
def setBox (s : State) (k : Nat) (b : Mailbox) : State :=
  { s with relum := { s.relum with boxes := mset Mailbox.init s.relum.boxes k b } }

/-- The request as it leaves for another package: REMOTE and DST belong to the local port (log entry 93). -/
def strippedFrame (f : Frame) : Frame :=
  withCrc (f.take 7 ++ f8 (rFlags f - rFlags f % 2) ++ sub f 8 2 ++ [0, 0] ++ sub f 12 (rLen f))

/-- A local-port request with REMOTE = 1 is sent to DST and not executed here. -/
def goesRemote (s : State) (r : Req) (f : Frame) : Bool :=
  r.path == .localPort && frameGood f && rRemote f && 1 ≤ rOp f && rOp f ≤ 5 && pathServed s r

def sendRemote (s : State) (k : Nat) (r : Req) (f : Frame) : State :=
  mgmtOut (setBox s k { getBox s k with busy := true, sentAt := some s.now }) (frDst f % 2048) k (b01 r.secure) (strippedFrame f)

/-- A frame that a command carries, with its response on the same path; the lock key stands in the frame. -/
def frameCmd (op : Nat) (a : Acc) (f : Frame) (s : State) : Out :=
  let r := { reqOf s a with key := rKey f }
  if rOp f != op then .next s
  else if goesRemote s r f then .next (sendRemote s a.box r f)
  else match serveFrame s r f with
    | (s, some rsp) => .next (emit s (.response a.path rsp))
    | (s, none) => .next s

/-- READ. -/
def execRelumRead (acc : Acc) (frame : List Byte) (s : State) : Out := frameCmd 1 acc frame s
/-- WRITE. -/
def execRelumWrite (acc : Acc) (frame : List Byte) (s : State) : Out := frameCmd 2 acc frame s
/-- DESCRIBE. -/
def execRelumDescribe (acc : Acc) (frame : List Byte) (s : State) : Out := frameCmd 3 acc frame s
/-- LOCK. -/
def execRelumLock (acc : Acc) (frame : List Byte) (s : State) : Out := frameCmd 4 acc frame s
/-- UNLOCK. -/
def execRelumUnlock (acc : Acc) (frame : List Byte) (s : State) : Out := frameCmd 5 acc frame s

/-- LOCK_EXPIRY: a lock whose expiry passed is freed (R481). -/
def execLockExpiry (entry : Nat) (s : State) : Out :=
  match mfind s.relum.locks entry with
  | none => .next s
  | some l =>
    if s.now < l.expiry then .next s
    else
      let s := { s with relum := { s.relum with locks := mdrop s.relum.locks entry } }
      .next (raise (count s 0x1051 9 1) 0x1006 (f8 entry ++ f16 l.first ++ f16 l.last ++ f16 l.origin ++ f64 (ktime s)))

/-! ## Mailboxes (R469, R470) -/

/-- A local mailbox of a core asks for its external interrupt. -/
def boxPending (s : State) (c : Nat) : Bool :=
  (List.range 8).any (fun k => let b := getBox s k; (b.done || b.timeout) && b.owner.any (fun h => h.core == c))

/-- The external interrupt of a core follows its sources: mailboxes and unscheduled completions (13 R444; log entry 92). -/
def settleMeip (s : State) (c : Nat) : State :=
  setCtl s c { getCtl s c with meip := boxPending s c || (getCtl s c).done != 0 }

/-- A mailbox ends a request: box 8 sends the vector of object 0x1050.04, a local one interrupts the core that rang it. -/
def ringBox (s : State) (k : Nat) : State :=
  if k = 8 then emit s (.msix (getO s 0x1050 4))
  else match (getBox s k).owner with
    | some h => settleMeip s h.core
    | none => s

def answerBox (s : State) (k : Nat) (rsp : Frame) : State :=
  ringBox (setBox s k { getBox s k with rsp := rsp, busy := false, done := true, sentAt := none }) k

/-- STATUS as it reads. -/
def boxStatus (b : Mailbox) : Nat := b01 b.busy + 2 * b01 b.done + 4 * b01 b.overrun + 8 * b01 b.timeout

/-- A mailbox submits its request; REMOTE sends it in-band (R471). -/
def submitBox (s : State) (k : Nat) (r : Req) : State :=
  let f := bufFrame (getBox s k).req
  let r := { r with key := rKey f }
  if goesRemote s r f then sendRemote s k r f
  else match serveFrame s r f with
    | (s, some rsp) => answerBox s k rsp
    | (s, none) => s

/-- A DOORBELL write of 1; while BUSY it sets OVERRUN. -/
def ringDoorbell (s : State) (k : Nat) (owner : Option Hart) (v : Nat) (r : State → Req) : State :=
  let b := getBox s k
  if v != 1 then s
  else if b.busy then setBox s k { b with overrun := true }
  else
    let s := setBox s k { b with busy := true, owner := owner, sentAt := none }
    submitBox s k (r s)

/-- REQ as written before the doorbell; while BUSY the frame in execution stays. -/
def putReq (s : State) (k : Nat) (req : List Byte) : State :=
  let b := getBox s k
  if b.busy then s else setBox s k { b with req := padTo 80 req }

/-- HOST_MAILBOX_DOORBELL. -/
def execHostMailboxDoorbell (req : List Byte) (v : Nat) (s : State) : Out :=
  .next (ringDoorbell (putReq s 8 req) 8 none v (fun s => ⟨.hostMailbox, originOf s .hostMailbox 0 0, false, 0, none⟩))

/-- A doorbell of local mailbox `k` in a world, by a thread of this package or another requester. -/
def localDoorbell (s : State) (k : Nat) (owner : Option Hart) (secure : Bool) (v : Nat) : State :=
  ringDoorbell s k owner v (fun s => ⟨.localPort, originOf s .localPort k 0, secure, 0, owner⟩)

/-- LOCAL_PORT_DOORBELL: the world of the thread that rings. -/
def execLocalPortDoorbell (hart : Hart) (box : Nat) (req : List Byte) (v : Nat) (s : State) : Out :=
  .next (localDoorbell (putReq s box req) box (some hart) (getHart s hart).secure v)

/-- W1C bits of STATUS; TIMEOUT exists in local mailboxes. -/
def clearStatus (s : State) (k v : Nat) : State :=
  let b := getBox s k
  let s := setBox s k { b with
    done := b.done && !fbit v 1, overrun := b.overrun && !fbit v 2, timeout := b.timeout && !(fbit v 3 && k != 8) }
  match b.owner with
  | some h => settleMeip s h.core
  | none => s

/-- MAILBOX_STATUS. -/
def execMailboxStatus (box v : Nat) (s : State) : Out := .next (clearStatus s box v)

/-- MAILBOX_TIMEOUT: no response within 10 ms ends a remote request (log entry 94). -/
def execMailboxTimeout (box : Nat) (s : State) : Out :=
  let b := getBox s box
  match b.sentAt with
  | none => .next s
  | some t =>
    if b.busy && t + 10 * msec ≤ s.now then
      .next (ringBox (setBox s box { b with busy := false, timeout := true, sentAt := none }) box)
    else .next s

/-! ## In-band (R471, R478) -/

def mDst (b : List Byte) : Nat := fieldB b 0 2 % 2048
def mSrc (b : List Byte) : Nat := fieldB b 2 2 % 2048
def mBox (b : List Byte) : Nat := fieldB b 5 1 % 8
def mFlags (b : List Byte) : Nat := fieldB b 6 1
def mFrame (b : List Byte) : Frame := bufFrame (sub b 16 80)

/-- A management flit of an up port, taken here or passed on by its route under the hop limit; its buffer is free again. -/
def mgmtIn (s : State) (p : Nat) (b : List Byte) (act : State → State) : State :=
  if !portUp s p then s
  else
    let s := giveCredit s p 5
    if mDst b = pnode s then act s
    else if getO s 0x4040 4 ≤ fieldB b 4 1 then s
    else rerouteMgmt s (pSet b 4 (f8 (fieldB b 4 1 + 1)))

/-- A request at its target: the frame in the flit's world, its response back to the sender. -/
def bandRequest (s : State) (b : List Byte) : State :=
  let f := mFrame b
  let r : Req := ⟨.inBand, originOf s .inBand (mBox b) (mSrc b), fbit (mFlags b) 0, rKey f, none⟩
  match serveFrame s r f with
  | (s, some rsp) => mgmtOut s (mSrc b) (mBox b) 2 rsp
  | (s, none) => s

/-- A response at the sending package. -/
def bandResponse (s : State) (b : List Byte) : State :=
  let k := mBox b
  let x := getBox s k
  if x.busy && x.sentAt.isSome then answerBox s k (mFrame b) else s

/-- A NOTIFY goes to the mailbox of object 0x1070.05 (R478). -/
def bandNotify (s : State) (b : List Byte) : State :=
  let k := getO s 0x1070 5
  ringBox (setBox s k { getBox s k with rsp := mFrame b, done := true }) k

/-- IN_BAND_REQUEST. -/
def execInBandRequest (port : Port) (flit : List Byte) (s : State) : Out :=
  .next (if fbit (mFlags flit) 1 || fbit (mFlags flit) 2 then s else mgmtIn s port flit (fun s => bandRequest s flit))

/-- IN_BAND_RESPONSE. -/
def execInBandResponse (port : Port) (flit : List Byte) (s : State) : Out :=
  .next (if fbit (mFlags flit) 1 then mgmtIn s port flit (fun s => bandResponse s flit) else s)

/-- NOTIFY. -/
def execNotifyFlit (port : Port) (flit : List Byte) (s : State) : Out :=
  .next (if fbit (mFlags flit) 2 && !fbit (mFlags flit) 1 then mgmtIn s port flit (fun s => bandNotify s flit) else s)

/-! ## The I3C target (R467, R468) -/

/-- The target answers while VDD_AON is up and object 0x1050.03 is 1. -/
def i3cOn (s : State) : Bool := s.dev.aonUp && getO s 0x1050 3 == 1

def dynAddr (s : State) : Nat := getO s 0x1050 2

def i3cCmd (s : State) (act : State → State) : Out := .next (if i3cOn s then act s else s)

/-- Bytes of a CCC as the bus carries them, the most significant first (PRESUMED, log entry 95). -/
def ccBytes (n v : Nat) : List Byte := (leBytes n v).reverse

/-- ENTDAA: a target without a dynamic address takes the one assigned to it. -/
def execEntdaa (addr : Nat) (s : State) : Out :=
  i3cCmd s (fun s => if dynAddr s = 0 then setO s 0x1050 2 addr else s)

/-- SETDASA: the address replaces the static one. -/
def execSetdasa (addr : Nat) (s : State) : Out :=
  i3cCmd s (fun s => if dynAddr s = 0 then setO s 0x1050 2 addr else s)

/-- SETNEWDA: a dynamic address changes. -/
def execSetnewda (addr : Nat) (s : State) : Out :=
  i3cCmd s (fun s => if dynAddr s = 0 then s else setO s 0x1050 2 addr)

/-- RSTDAA. -/
def execRstdaa (s : State) : Out := i3cCmd s (fun s => setO s 0x1050 2 0)

/-- ENEC: an IBI that waits may be requested (R478). -/
def execEnec (s : State) : Out :=
  i3cCmd s (fun s => { s with events := { s.events with
    ibiEnabled := true, ibiRequested := s.events.ibiCount != 0 && decide (s.events.ibiAt ≤ s.now) } })

/-- DISEC. -/
def execDisec (s : State) : Out :=
  i3cCmd s (fun s => { s with events := { s.events with ibiEnabled := false, ibiRequested := false } })

/-- The provisional ID: 0x0f3b in bits 47:33, 1 in bit 32, bits 31:0 of the serial. -/
def i3cPid (s : State) : Nat := 0x0f3b * 2 ^ 33 + 2 ^ 32 + s.sec.shadow.serial % 2 ^ 32

/-- GETPID. -/
def execGetpid (s : State) : Out := i3cCmd s (fun s => emit s (.i3c (ccBytes 6 (i3cPid s))))
/-- GETBCR. -/
def execGetbcr (s : State) : Out := i3cCmd s (fun s => emit s (.i3c [0x06]))
/-- GETDCR. -/
def execGetdcr (s : State) : Out := i3cCmd s (fun s => emit s (.i3c [0x00]))
/-- GETSTATUS. -/
def execGetstatus (s : State) : Out :=
  i3cCmd s (fun s => emit s (.i3c (ccBytes 2 (min 15 s.events.ibiCount + 32 * b01 s.relum.i3cRsp.isSome))))
/-- GETMWL. -/
def execGetmwl (s : State) : Out := i3cCmd s (fun s => emit s (.i3c (ccBytes 2 80)))
/-- GETMRL. -/
def execGetmrl (s : State) : Out := i3cCmd s (fun s => emit s (.i3c (ccBytes 2 80 ++ [4])))
/-- SETMWL: values of 80 or more leave the port unchanged. -/
def execSetmwl (n : Nat) (s : State) : Out :=
  i3cCmd s (fun s => if 80 ≤ n then s else { s with relum := { s.relum with mwl := n } })
/-- SETMRL. -/
def execSetmrl (n : Nat) (s : State) : Out :=
  i3cCmd s (fun s => if 80 ≤ n then s else { s with relum := { s.relum with mrl := n } })

/-- I3C_PRIVATE_WRITE: a request frame; a longer one than the port takes is NACKed (R467). -/
def execI3cPrivateWrite (frame : List Byte) (s : State) : Out :=
  i3cCmd s (fun s =>
    if s.relum.mwl < frame.length then emit s .i3cNack
    else
      let s := { s with relum := { s.relum with i3cRsp := none } }
      let y := serveFrame s ⟨.i3c, originOf s .i3c 0 0, false, rKey frame, none⟩ frame
      { y.1 with relum := { y.1.relum with i3cRsp := y.2 } })

/-- I3C_PRIVATE_READ. -/
def execI3cPrivateRead (s : State) : Out :=
  i3cCmd s (fun s => match s.relum.i3cRsp with
    | none => emit s .i3cNack
    | some r => if s.relum.mrl < r.length then emit s .i3cNack else emit s (.i3c r))

end Sys2Proof.Machine
end

