-- ==== Sys2Proof/Machine/Fabric.lean ====
section
/-! DEFINITION. The fabric at its ordering points and requesters (09 R303–R331): requests on memory and MMIO, leases, responses and
their fan-out, forwarding, tag timeouts, changes of route. -/
namespace Sys2Proof.Machine

/-! ## Where a packet is taken from -/

/-- A packet is taken: from the package's own list, or from an up link port whose buffer is then free again. `none` where
it is not there, or an earlier request to its line still is (R316). -/
def takePkt (s : State) (src : FabIn) (p : Pkt) : Option State :=
  match src with
  | .link q => if portUp s q then some (giveCredit s q 4) else none
  | .inside =>
    if isResp p then (if s.fab.answers.contains p then some { s with fab := { s.fab with answers := s.fab.answers.erase p } } else none)
    else match s.fab.inside.find? (fun e => sameLine p e.pkt) with
      | some e => if e.pkt = p then some { s with fab := { s.fab with inside := s.fab.inside.erase e } } else none
      | none => none

/-- The requester's C-die; 16 for one that has none. -/
def reqDie (s : State) (p : Pkt) : Nat :=
  if pSrc p = pnode s && agentOf p < 320 then agentOf p / 20 else 16

def pktWho (s : State) (p : Pkt) : Who := ⟨1, pReq p, 0xffff, 0xffff, pSecure p, reqDie s p⟩

/-! ## Welts on the way to an ordering point (01 R27, 16 R532) -/

/-- Link port by which a request came: the one named, or the one it was queued with. -/
def portOf (s : State) (src : FabIn) (p : Pkt) : Option Nat :=
  match src with
  | .link q => some q.val
  | .inside => (s.fab.inside.find? (fun e => e.pkt == p)).bind (·.port)

/-- Welt ports that a request crosses inside this package. -/
def requestWelts (s : State) (port : Option Nat) (p : Pkt) : List Nat := (targetPath s (entersAt port p) (pOff p)).2

/-- C-die whose clock an access needs (17 R551). -/
def targetDie (s : State) (a : Nat) : Option Nat :=
  match classify a with
  | .sram d _ => some d
  | .spad l _ _ => some (l / 19)
  | .ram c _ => if c < 320 then some (c / 20) else none
  | .objSpace =>
    (match objAt s a with
    | none => none
    | some _ => let t := getTile s (a / 16384); if t.copy then some t.die else none)
  | _ => none

/-! ## MMIO blocks (13 R447) -/

/-- Bytes of WRITE data with 0x00 where the mask bit is 0. -/
def maskedLine (p : Pkt) : List Byte :=
  (pData p 64).zipIdx.map (fun e => if fbit (pMask p) e.2 then e.1 else 0)

/-- Some byte of `n` at position `o` of the line is written. -/
def touches (p : Pkt) (o n : Nat) : Bool := field (pMask p) o n != 0

/-- The thread of this package that sent a packet. -/
def pktHart (s : State) (p : Pkt) : Option Hart :=
  if pSrc p = pnode s && agentOf p < 328 then some ⟨agentOf p, field (pReq p) 20 3⟩ else none

/-- Runs of written bytes of a line: position and bytes. -/
def runsF : Nat → Nat → Nat → List Byte → List (Nat × List Byte)
  | 0, _, _, _ => []
  | n + 1, i, m, l =>
    if 64 ≤ i then []
    else if fbit m i then
      let k := ((List.range (64 - i)).takeWhile (fun j => fbit m (i + j))).length
      (i, sub l i k) :: runsF n (i + max 1 k) m l
    else runsF n (i + 1) m l

def runs (p : Pkt) : List (Nat × List Byte) := runsF 65 0 (pMask p) (pData p 64)

/-- A core-control word as it reads. -/
def coreCtl (s : State) (k : Nat) : Nat := b01 (getCtl s k).run + 2 * b01 (isBound s (k / 20) (k % 20))

/-- A line of the core-control block. -/
def readCtl (s : State) (o : Nat) : List Byte :=
  (List.range 4).flatMap (fun j =>
    let k := (o - 0x03800000) / 16 + j
    if k < 320 then f64 (coreCtl s k) ++ List.replicate 8 0 else List.replicate 16 0)

def writeCtl (s : State) (p : Pkt) (o : Nat) : State :=
  (List.range 4).foldl (fun s j =>
    let k := (o - 0x03800000) / 16 + j
    if 320 ≤ k || !touches p (16 * j) 1 then s
    else if fieldB (maskedLine p) (16 * j) 1 % 2 = 1 then runCore s k else resetCore s k) s

/-- A line of the local port: REQ, RSP, STATUS of a mailbox. -/
def readBoxes (s : State) (o : Nat) : List Byte :=
  let b := getBox s (o / 512 % 8)
  let img := padTo 128 b.req ++ padTo 128 b.rsp ++ List.replicate 4 0 ++ f32 (boxStatus b)
  sub (padTo 512 img) (o % 512) 64

/-- A WRITE of the local port: REQ bytes, DOORBELL, STATUS in ascending order; the doorbell takes the packet's world. -/
def writeBoxes (s : State) (p : Pkt) (o : Nat) : State :=
  let k := o / 512 % 8
  let r := o % 512
  if r < 128 then
    let b := getBox s k
    if b.busy then s
    else
      let req := (runs p).foldl (fun l w => patch l (r + w.1) w.2) (padTo 128 b.req)
      setBox s k { b with req := req.take 80 }
  else if r = 256 then
    let s := if touches p 0 4 then localDoorbell s k (pktHart s p) (pSecure p) (fieldB (maskedLine p) 0 4) else s
    if touches p 4 4 then clearStatus s k (fieldB (maskedLine p) 4 4) else s
  else s

/-- The doorbells of a line of the serving page (10 R344). -/
def writeDoors (s : State) (p : Pkt) (o : Nat) : State :=
  (List.range 4).foldl (fun s j =>
    if touches p (16 * j) 8 then (commitBell s ((o - 0x05000000) / 16 + j) (fieldB (maskedLine p) (16 * j) 8)).1 else s) s

/-- Offsets of the serving page at which a standby takes the mirror (10 R336; log entry 49). -/
def mirrorOff (o : Nat) : Bool := o == 0x05000400 || o == 0x05000440 || o == 0x05000480 || o == 0x050004c0

/-- A mirror write at the standby: the mirror tick, a slot's state, a tenant entry or a state of a slot's history. A slot's
history never runs past the TOKEN_INDEX that came last. -/
def writeMirror (s : State) (o : Nat) (l : List Byte) : State :=
  let v := s.serving
  if o = 0x05000400 then { s with serving := { v with mirrorTick := fieldB l 0 8 } }
  else if o = 0x05000440 then
    let k := fieldB l 0 4
    let e := fieldB l 4 4
    let m := v.mslots
    let old := ((mfind m k).map (·.hist)).getD []
    let row : MSlot := ⟨e, fieldB l 8 4, old.filter (fun h => h.index ≤ fieldB l 12 4)⟩
    { s with serving := { v with mslots := if e = noToken then mdrop m k else mbind m k row } }
  else if o = 0x050004c0 then
    let k := fieldB l 0 4
    let h : Hist := ⟨fieldB l 8 8, fieldB l 4 4, fieldB l 16 4, fieldB l 20 4⟩
    let x := (mfind v.mslots k).getD ⟨noToken, 0, []⟩
    { s with serving := { v with mslots := mbind v.mslots k { x with hist := h :: x.hist.filter (fun y => y.index < h.index) } } }
  else
    let t := fieldB l 0 4
    setTen s t { getTen s t with share := fieldB l 4 4, vt := fieldB l 8 8, engine := fieldB l 16 8 }

/-- A refused request: event and count where a check refused it, STATUS 0x01. -/
def refusePkt (s : State) (p : Pkt) (reason : Nat) : State × Pkt :=
  (refuse s (pktWho s p) (pOff p) reason, failResp p 1)

/-- A READ or WRITE of an MMIO block other than local RAM. -/
def mmioOp (s : State) (p : Pkt) : State × Pkt :=
  let o := pOff p / 64 * 64 - 0x00f000000000
  let wr := pOp p == 2
  let ack := mkResp p 0x81 0 []
  let ans := fun (l : List Byte) => mkResp p 0x80 0
    (l.zipIdx.map (fun e => if pMask p = 0 || fbit (pMask p) e.2 then e.1 else 0))
  if o < 0x20000 then
    if !pSecure p then refusePkt s p 2
    else if wr then refusePkt s p 3
    else
      let (n, s) := fresh s
      (s, ans ((List.range 64).map (Config.freeByte n)))
  else if mirrorOff o && wr then (writeMirror s o (maskedLine p), ack)
  else match mmioRng o with
    | .mmio _ =>
      if o < 0x04000000 then (if wr then (writeCtl s p o, ack) else (s, ans (readCtl s o)))
      else if o < 0x05000000 then (if wr then (writeBoxes s p o, ack) else (s, ans (readBoxes s o)))
      else if o < 0x80000000 then (if wr then (writeDoors s p o, ack) else (s, ans (List.replicate 64 0)))
      else if wr then
        ((runs p).foldl (fun s w => hostPost s (pReq p) (o - 0x80000000 + w.1) w.2) s, ack)
      else refusePkt s p 1
    | _ => refusePkt s p 1

/-! ## Memory (R312, R315) -/

/-- A READ of a line of memory. -/
def readOp (s : State) (p : Pkt) : State × Pkt :=
  match readAt s (pktWho s p) (lineOf (pOff p)) 64 with
  | (s, _, _, some _) => (s, failResp p 1)
  | (s, l, _, none) => (s, mkResp p 0x80 0 l)

/-- A WRITE of the masked bytes of a line: refused whole or written whole. -/
def writeOp (s : State) (p : Pkt) : State × Pkt :=
  let a := lineOf (pOff p)
  match refusalRange s (pktWho s p) a 64 true with
  | some (x, r) => (refuse s (pktWho s p) x r, failResp p 1)
  | none => ((runs p).foldl (fun s w => putAt s (pktWho s p) (a + w.1) w.2) s, mkResp p 0x81 0 [])

/-- Atomics and leases are accepted on DRAM, stacked SRAM and object space (R312). -/
def atomicPlace (a : Nat) : Bool :=
  match classify a with
  | .dram | .sram _ _ | .objSpace => true
  | _ => false

/-- An operation on an aligned operand of `n` bytes: `f` gives the new value, if it is written, and the STATUS. -/
def operandOp (s : State) (p : Pkt) (n : Nat) (f : Nat → Option Nat × Nat) : State × Pkt :=
  let a := pOff p
  let w := pktWho s p
  if !atomicPlace a || a % n != 0 then (s, mkResp p 0x82 7 [])
  else match refusalRange s w a n true with
    | some (x, r) => (refuse s w x r, mkResp p 0x82 1 [])
    | none =>
      let (s, l, _) := getAt s w a n
      let y := f (leNat l)
      let s := match y.1 with | some v => putAt s w a (leBytes n v) | none => s
      (s, mkResp p 0x82 y.2 l)

/-- ADD to SWAP. -/
def atomicOp (s : State) (p : Pkt) : State × Pkt :=
  operandOp s p (pWidth p / 8) (fun x => (some (atomic (pOp p) (pWidth p) x (pA p)), 0))

/-- CAS. -/
def casOp (s : State) (p : Pkt) : State × Pkt :=
  operandOp s p (pWidth p / 8) (fun x => (if x = pC p then some (pA p) else none, 0))

/-! ## Leases (R327–R329) -/

def lkOwner (w : Nat) : Nat := field w 0 23
def lkHeld (w : Nat) : Bool := fbit w 23
def lkInc (w : Nat) : Nat := field w 24 16
def lkExpiry (w : Nat) : Nat := field w 40 24

/-- A lease is live at tick `n`. -/
def leaseLive (w n : Nat) : Bool :=
  let d := (lkExpiry w + 2 ^ 24 - n % 2 ^ 24) % 2 ^ 24
  lkHeld w && 1 ≤ d && d ≤ 2 ^ 23 - 1

def lockWordOf (owner inc expiry : Nat) : Nat :=
  owner % 2 ^ 23 + 2 ^ 23 + inc % 2 ^ 16 * 2 ^ 24 + expiry % 2 ^ 24 * 2 ^ 40

def leaseOwner (p : Pkt) (w : Nat) : Bool := lkOwner w == pReq p % 2 ^ 23 && lkInc w == pInc p

/-- New lock word and STATUS of a lease request at tick `n` (R329). -/
def leaseRule (p : Pkt) (n w : Nat) : Option Nat × Nat :=
  match pOp p with
  | 0x20 => if leaseLive w n then (none, 5) else (some (lockWordOf (pReq p) (pInc p) (n + pLease p)), 0)
  | 0x21 =>
    if leaseLive w n && leaseOwner p w then (some (lockWordOf (lkOwner w) (lkInc w) (n + pLease p)), 0) else (none, 6)
  | _ => if lkHeld w && leaseOwner p w then (some 0, 0) else (none, 6)

/-- A lease request; its length is checked for LEASE_ACQ and LEASE_RENEW. -/
def leaseOp (s : State) (p : Pkt) : State × Pkt :=
  if pOp p != 0x22 && (pLease p = 0 || getO s 0x4040 5 < pLease p) then (s, mkResp p 0x82 7 [])
  else
    let y := operandOp s p 8 (leaseRule p s.lace.tick)
    let st := pFlags y.2
    let s := if st = 5 || st = 6 then count y.1 0x4050 0x0b 1
      else if st = 0 && pOp p = 0x20 then count y.1 0x4050 0x0a 1 else y.1
    (s, y.2)

/-! ## A request at this package -/

/-- What a request does at its ordering point, with its response. -/
def perform (s : State) (p : Pkt) : State × Pkt :=
  let isMmio := match classify (pOff p) with
    | .mmio _ => true
    | .unmapped => mmioAt (pOff p) && mirrorOff (pOff p / 64 * 64 - 0x00f000000000)
    | _ => false
  match pOp p with
  | 1 => if isMmio then mmioOp s p else readOp s p
  | 2 => if isMmio then mmioOp s p else writeOp s p
  | 0x18 => casOp s p
  | 0x20 | 0x21 | 0x22 => leaseOp s p
  | _ => atomicOp s p

/-- STATUS with which a request is turned away before its ordering point: an alarmed or fenced package refuses (15 R511, R307), a failed
welt on its way answers 0x02 (16 R532). -/
def turnedAway (s : State) (port : Option Nat) (p : Pkt) : Option Nat :=
  if (s.dev.mode == .alarm && pSrc p != pnode s) || (s.lace.fenced && pLogical p) then some 1
  else if (requestWelts s port p).any (weltFailed s) then some 2
  else none

/-- The requests that wait behind `p` on its line with nothing else between them and combine with it (R318): at most 15 more. -/
def mates (s : State) (p : Pkt) : List InReq :=
  if !combinable s p then []
  else ((s.fab.inside.filter (fun e => sameLine p e.pkt)).takeWhile (fun e =>
    identical p e.pkt && (turnedAway s e.port e.pkt).isNone)).take 15

/-- A request at its ordering point with those that combine with it: one effect, a response for each (R318–R320). -/
def serve (s : State) (p : Pkt) : State :=
  match mates s p with
  | [] => let y := perform s p; sendResp y.1 y.2
  | m =>
    let s := count { s with fab := { s.fab with inside := m.foldl (fun l e => l.erase e) s.fab.inside } } 0x4050
      (if pOp p = 1 then 2 else 3) m.length
    let lead := m.foldl (fun k e => mergePkt k e.pkt) p
    let y := perform s lead
    (fanOut ⟨64, lead, p :: m.map (·.pkt)⟩ y.2).foldl sendResp y.1

/-- An earlier request to the line of one that comes now on port `q` waits (R316, R317). -/
def lineWaits (s : State) (q : Port) (p : Pkt) : Bool :=
  s.fab.inside.any (fun e => sameLine p e.pkt && (e.cyc < s.cyc || e.input ≤ inputOf s (some q.val) p))

/-- A packet stands at the hop limit of the router that receives it (R309). -/
def atHopLimit (s : State) (src : FabIn) (p : Pkt) : Bool := src != .inside && pHops p == getO s 0x4040 4

/-- At the hop limit a request is answered 0x02 with event 0x4012, a response discarded. -/
def hopStop (s : State) (p : Pkt) : State := if isResp p then s else sendResp (unreachable s (pDst p) 3) (failResp p 2)

/-- A request row: a packet for this package with the row's OP. One behind an earlier request to its line, or for a C-die whose clock stands
(17 R551), waits. Requests that a link hands over in one cycle come in ascending input (log entry 116). -/
def request (op : Nat) (src : FabIn) (p : Pkt) (s : State) : State :=
  if pOp p != op || pDst p != pnode s then s
  else match takePkt s src p with
    | none => s
    | some t =>
      if atHopLimit s src p then hopStop t p
      else
        let stands := (targetDie t (pOff p)).any (dieStopped t)
        match src with
        | .inside =>
          if stands then s
          else match turnedAway t (portOf s src p) p with
            | some st => sendResp t (failResp p st)
            | none => serve t p
        | .link q =>
          if stands || lineWaits t q p then queueReq t (some q.val) p
          else match turnedAway t (some q.val) p with
            | some st => sendResp t (failResp p st)
            | none => serve t p

/-- FABRIC_READ. -/
def execFabricRead (src : FabIn) (flit : List Byte) (s : State) : Out := .next (request 0x01 src flit s)
/-- FABRIC_WRITE. -/
def execFabricWrite (src : FabIn) (flit : List Byte) (s : State) : Out := .next (request 0x02 src flit s)
/-- FABRIC_ADD. -/
def execFabricAdd (src : FabIn) (flit : List Byte) (s : State) : Out := .next (request 0x10 src flit s)
/-- FABRIC_OR. -/
def execFabricOr (src : FabIn) (flit : List Byte) (s : State) : Out := .next (request 0x11 src flit s)
/-- FABRIC_AND. -/
def execFabricAnd (src : FabIn) (flit : List Byte) (s : State) : Out := .next (request 0x12 src flit s)
/-- FABRIC_MIN. -/
def execFabricMin (src : FabIn) (flit : List Byte) (s : State) : Out := .next (request 0x13 src flit s)
/-- FABRIC_MAX. -/
def execFabricMax (src : FabIn) (flit : List Byte) (s : State) : Out := .next (request 0x14 src flit s)
/-- FABRIC_MINU. -/
def execFabricMinu (src : FabIn) (flit : List Byte) (s : State) : Out := .next (request 0x15 src flit s)
/-- FABRIC_MAXU. -/
def execFabricMaxu (src : FabIn) (flit : List Byte) (s : State) : Out := .next (request 0x16 src flit s)
/-- FABRIC_SWAP. -/
def execFabricSwap (src : FabIn) (flit : List Byte) (s : State) : Out := .next (request 0x17 src flit s)
/-- FABRIC_CAS. -/
def execFabricCas (src : FabIn) (flit : List Byte) (s : State) : Out := .next (request 0x18 src flit s)
/-- FABRIC_LEASE_ACQ. -/
def execFabricLeaseAcq (src : FabIn) (flit : List Byte) (s : State) : Out := .next (request 0x20 src flit s)
/-- FABRIC_LEASE_RENEW. -/
def execFabricLeaseRenew (src : FabIn) (flit : List Byte) (s : State) : Out := .next (request 0x21 src flit s)
/-- FABRIC_LEASE_REL. -/
def execFabricLeaseRel (src : FabIn) (flit : List Byte) (s : State) : Out := .next (request 0x22 src flit s)

/-! ## Responses (R314, R320, R323, 13 R439) -/

/-- A thread that waits at a fence goes on once its WRITEs are answered (R321). -/
def settleFence (s : State) (h : Hart) : State :=
  if (getHart s h).wait == .fence && !postedOut s h then setHart s h { getHart s h with wait := .none } else s

/-- A thread's access is answered: register, FN_FSTAT, and a READ's line in the cache. -/
def answerReg (s : State) (h : Hart) (rd n off : Nat) (sgn : Bool) (p : Pkt) (status : Nat) (data : List Byte) : State :=
  let v := if pOp p = 1 then fieldB data (off % 64) n else fieldB data 0 n
  let s := setReg (setFstat s h status) h rd (extend sgn n v)
  let s := if pOp p = 1 && status = 0 then fillLine s h.core off (padTo 64 data) else s
  setHart s h { getHart s h with wait := .none }

/-- A request of this package ends with a status and data; its tag is free. -/
def deliver (s : State) (t : Nat) (q : FabReq) (status : Nat) (data : List Byte) : State :=
  let s := freeTag s t
  match q.sink with
  | .reg h rd n off sgn => answerReg s h rd n off sgn q.pkt status data
  | .posted h => settleFence (setFstat s h status) h
  | .mirror => mirrorStep s
  | .pull qp n => pullAnswer s qp n status
  | .objCmd dst => objCmdLine s dst status (padTo 64 data)
  | .host => s
  | .discard => s

/-- A response of another generation is discarded (R323). -/
def answer (s : State) (r : Pkt) : State :=
  match mfind s.fab.reqs (pTag r) with
  | none => count s 0x4050 7 1
  | some q => if pGen q.pkt = pGen r then deliver s (pTag r) q (pFlags r) (pData r 64) else count s 0x4050 7 1

/-- The group whose lead a response answers. -/
def leadGroup (s : State) (r : Pkt) : Option Group := s.fab.groups.find? (fun g => sameTag g.lead r)

/-- The group is dissolved and its members get their responses (R320). -/
def fanGroup (s : State) (g : Group) (r : Pkt) : State :=
  (fanOut g r).foldl sendResp { s with fab := { s.fab with groups := s.fab.groups.erase g } }

/-- A response at the router of a group, or at its requester. -/
def response (src : FabIn) (p : Pkt) (s : State) : State :=
  if !isResp p then s
  else if pSrc p != pnode s && (leadGroup s p).isNone then s
  else match takePkt s src p with
    | none => s
    | some t =>
      if atHopLimit s src p then hopStop t p
      else match leadGroup t p with
        | some g => fanGroup t g p
        | none => answer t p

/-- FABRIC_RESPONSE. -/
def execFabricResponse (src : FabIn) (flit : List Byte) (s : State) : Out := .next (response src flit s)

/-! ## Forwarding (R308, R309) -/

/-- Where a packet goes: a request to its target, a response to its requester. -/
def headedFor (p : Pkt) : Nat := if isResp p then pSrc p else pDst p

/-- A router passes a packet on: route, welts between the two X-dies. -/
def forwardPkt (s : State) (q : Port) (p : Pkt) : State :=
  let n := headedFor p
  let k := pSet p 19 (f8 (pHops p + 1))
  match routePort s n with
  | none => if isResp p then s else sendResp (unreachable s n (routeCause s n)) (failResp p 2)
  | some o =>
    if (crossWelt (q.val / 32) (o / 32)).any (weltFailed s) then
      (if isResp p then s else sendResp (count s 0x4050 9 1) (failResp p 2))
    else enqueueFab s o k

/-- A packet for another package; a response that this router has a group for is fanned out here. -/
def forwarded (src : FabIn) (p : Pkt) (s : State) : State :=
  match src with
  | .inside => s
  | .link q =>
    if headedFor p = pnode s then s
    else match takePkt s src p with
      | none => s
      | some t =>
        if atHopLimit s src p then hopStop t p
        else match (if isResp p then leadGroup t p else none) with
          | some g => fanGroup t g p
          | none => forwardPkt t q p

/-- FABRIC_PACKET_FORWARD. -/
def execFabricPacketForward (src : FabIn) (flit : List Byte) (s : State) : Out := .next (forwarded src flit s)

/-! ## Timeouts and changes of route (R310, R324) -/

/-- FABRIC_TAG_TIMEOUT: status 0x04, the tag is free, event 0x4011 at most once per ms. -/
def execFabricTagTimeout (tag : Nat) (s : State) : Out :=
  match mfind s.fab.reqs tag with
  | none => .next s
  | some q =>
    if s.now < q.sentAt + getO s 0x4040 3 * usec then .next s
    else
      let s := { s with fab := { s.fab with heldReqs := s.fab.heldReqs.filter (fun p => !sameTag p q.pkt) } }
      let s := raiseMs (count s 0x4050 6 1) 0x4011 0
        (f32 (pReq q.pkt) ++ f16 (pDst q.pkt) ++ f8 (pOp q.pkt) ++ f64 (pOff q.pkt) ++ f32 (inInterval s 0x4011))
      .next (deliver s tag q 4 [])

/-- A request toward a node that was sent before a pending change has no response yet. -/
def routeBusy (s : State) (n : Nat) : Bool :=
  s.fab.reqs.any (fun e => pDst e.2.pkt == n && !s.fab.heldReqs.contains e.2.pkt)

/-- ROUTE_CHANGE_EFFECT: the new entry takes effect and the waiting requests leave. -/
def execRouteChangeEffect (node : Nat) (s : State) : Out :=
  match mfind s.fab.pendRoutes node with
  | none => .next s
  | some e =>
    if routeBusy s node then .next s
    else
      let held := s.fab.heldReqs.filter (fun p => pDst p == node)
      let s := { s with fab := { s.fab with
        routes := mset 0 s.fab.routes node e
        pendRoutes := mdrop s.fab.pendRoutes node
        heldReqs := s.fab.heldReqs.filter (fun p => pDst p != node) } }
      .next (held.foldl sendReq s)

end Sys2Proof.Machine
end

