-- ==== Sys2Proof/Machine/Line.lean ====
section
/-! DEFINITION. A received line block handed to the layer of its kind (08 R268, R270, R271). -/
namespace Sys2Proof.Machine

/-- A control word goes to its rule (08 R279). -/
def ctlWord (p : Port) (eighth : Nat) (s : State) (w : Word128) : State :=
  match field w.toNat 0 8 with
  | 1 => ackPort s p (field w.toNat 16 16)
  | 2 => nakPort s p (field w.toNat 16 16)
  | 3 => creditPort s p (field w.toNat 8 8) (field w.toNat 16 16)
  | 4 => probePort s p w eighth
  | 5 => probeReplyPort s p w eighth
  | 6 => identPort s p w
  | 7 => losePort s p 7
  | _ => s

/-- A fabric flit: a response for a requester or group here, a request that joins those on their way to this package's ordering points, or a
packet on its way (09 R308, R316). -/
def fabricFlit (p : Port) (b : Pkt) (s : State) : State :=
  if isResp b && (pSrc b == pnode s || (leadGroup s b).isSome) then response (.link p) b s
  else if !isResp b && pDst b = pnode s then
    let t := giveCredit s p 4
    if atHopLimit s (.link p) b then hopStop t b else queueReq t (some p.val) b
  else forwarded (.link p) b s

/-- A management flit by its FLAGS (14 R471). -/
def mgmtFlit (p : Port) (b : List Byte) (s : State) : State :=
  mgmtIn s p b (fun s =>
    if fbit (mFlags b) 1 then bandResponse s b else if fbit (mFlags b) 2 then bandNotify s b else bandRequest s b)

/-- What a unit of the line does. -/
def passUnit (p : Port) (eighth : Nat) (u : RxUnit) (s : State) : State :=
  match u.kind with
  | 1 => schedData s p u.body u.last
  | 2 => schedHead s p u.body
  | 3 => laceFlitIn s p eighth u.frac u.replay (words u.body)
  | 4 => fabricFlit p u.body s
  | 5 => mgmtFlit p u.body s
  | 6 => (words u.body).foldl (ctlWord p eighth) s
  | 7 => trainIdent s p u.body
  | _ => s

/-- LINE_BLOCK: corrected, CRC-checked and passed on by kind. -/
def execLineBlock (port : Port) (bytes : List Byte) (eighth : Nat) (s : State) : Out :=
  match rxBlock s port bytes with
  | (s, none) => .next s
  | (s, some u) => .next (passUnit port eighth u s)

end Sys2Proof.Machine
end

