-- ==== Sys2Proof/Machine/Notify.lean ====
section
/-! DEFINITION. Events' spacing and repetition: MSI-X intervals (16 R529), IBIs (14 R478), the recovery timer (16 R533), and the
failure of a welt port (01 R26, 16 R532). -/
namespace Sys2Proof.Machine

/-- MSI_X_INTERVAL: a vector withheld within its interval is sent at the interval's end. -/
def execMsiXInterval (vec : Nat) (s : State) : Out :=
  let at' := mget 0 s.events.msixAt vec
  if s.events.msixHeld.contains vec && at' - 1 + getO s 0x8011 1 * usec ≤ s.now then
    .next (emit { s with events := { s.events with
      msixHeld := s.events.msixHeld.filter (fun v => v != vec), msixAt := mset 0 s.events.msixAt vec (s.now + 1) } } (.msix vec))
  else .next s

/-- IBI_SPACING: an IBI that waited for the spacing of object 0x1070.04 is requested. -/
def execIbiSpacing (s : State) : Out :=
  if s.events.ibiEnabled && s.events.ibiCount != 0 && s.events.ibiAt ≤ s.now then
    .next { s with events := { s.events with ibiRequested := true } }
  else .next s

/-- IBI_SERVED: the payload leaves, the count starts anew, and the next IBI waits for the spacing. -/
def execIbiServed (s : State) : Out :=
  if s.events.ibiRequested then
    let e := s.events
    let s := emit (count s 0x1051 8 1) (.ibi ([0x1f] ++ f16 e.ibiCode ++ f8 e.ibiCount))
    .next { s with events := { e with
      ibiCount := 0, ibiCode := 0, ibiRequested := false, ibiAt := s.now + getO s 0x1070 4 * usec } }
  else .next s

/-- Bits of the partitions that a timer is for: its own, else every faulted one (log entry 96). -/
def timerMask (s : State) (k : Nat) : Nat :=
  if k < 8 then 2 ^ k else s.parts.foldl (fun a e => if e.2.faultTick.isSome then a + 2 ^ e.1 else a) 0

def timerFault (s : State) (k : Nat) : Nat :=
  ((if k < 8 then (getPart s k).faultTick else s.parts.findSome? (fun e => e.2.faultTick))).getD 0

/-- RECOVERY_OVERDUE: the timer ran for object 0x8020.01 ticks; event 0x8003, and it starts again. -/
def execRecoveryOverdue (timer : Nat) (s : State) : Out :=
  let r := mget 0 s.recovery timer
  if r != 0 && r - 1 + getO s 0x8020 1 ≤ s.lace.tick then
    let s := raise (count s 0x8021 3 1) 0x8003 (f8 (timerMask s timer) ++ f64 (timerFault s timer) ++
      f64 (s.lace.tick - (r - 1)) ++ f8 (if 8 ≤ timer && timer < 72 then timer - 8 else 0xff))
    .next { s with recovery := mset 0 s.recovery timer (s.lace.tick + 1) }
  else .next s

/-- WELT_FLIT_ERROR: the first failure of a flit is retried within the welt's latency, the second one fails the port (01 R26). -/
def execWeltFlitError (welt flit : Nat) (s : State) : Out :=
  if weltFailed s welt then .next s
  else if s.weltFlits.contains (welt, flit) then
    let s := raise { s with welts := mset 0 s.welts welt 1, weltFlits := s.weltFlits.filter (fun e => e.1 != welt) } 0x8004
      (f8 (welt / 2) ++ f8 (welt % 2))
    .next (startTimer s (72 + welt))
  else .next { s with weltFlits := s.weltFlits ++ [(welt, flit)] }

end Sys2Proof.Machine
end

