-- ==== Sys2Proof/Machine/ObjRows.lean ====
section
/-! DEFINITION. The commands that are a write of one object: each names its object and value, and `writeObj` applies the checks of 14
R482 and the object's own rules. -/
namespace Sys2Proof.Machine

/-- MARK_UNHEALTHY: object 0x2012.01 (01 R21). -/
def execMarkUnhealthy (acc : Acc) (v : Nat) (s : State) : Out := writeObj acc 0x2012 1 v s

/-- LAST_LOAD: 1 to object 0x3030.03 (04 R151). -/
def execLastLoad (acc : Acc) (s : State) : Out := writeObj acc 0x3030 3 1 s

/-- LAST_UNLOAD: 2 to object 0x3030.03 (04 R152). -/
def execLastUnload (acc : Acc) (s : State) : Out := writeObj acc 0x3030 3 2 s

/-- ACTIVE_SLOT_WRITE: object 0x3020 (04 R154). -/
def execActiveSlotWrite (acc : Acc) (part : Part) (v : Nat) (s : State) : Out := writeObj acc 0x3020 (part.val + 1) v s

/-- START_TICK: object 0x3014.01 (05 R188). -/
def execStartTick (acc : Acc) (tick : Nat) (s : State) : Out := writeObj acc 0x3014 1 tick s

/-- SWITCH_COMMAND: object 0x3015.01 (05 R189). -/
def execSwitchCommand (acc : Acc) (v : Nat) (s : State) : Out := writeObj acc 0x3015 1 v s

/-- HALT_COMMAND: object 0x3016.01 (05 R197). -/
def execHaltCommand (acc : Acc) (s : State) : Out := writeObj acc 0x3016 1 1 s

/-- LOGICAL_NODE_TO_ADOPT: object 0x3017.01 (05 R193). -/
def execLogicalNodeToAdopt (acc : Acc) (n : Nat) (s : State) : Out := writeObj acc 0x3017 1 n s

/-- ADOPTION_TICK: object 0x3017.02 (05 R193). -/
def execAdoptionTick (acc : Acc) (tick : Nat) (s : State) : Out := writeObj acc 0x3017 2 tick s

/-- COMMAND_RING_DOORBELL: object 0x4010.03 or 0x4012.03 (06 R223). -/
def execCommandRingDoorbell (acc : Acc) (ring : Bool) (v : Nat) (s : State) : Out := writeObj acc (ringObj ring) 3 v s

/-- LAST_STORE_RESIZE: object 0x4002 (06 R210). -/
def execLastStoreResize (acc : Acc) (die : Fin 16) (v : Nat) (s : State) : Out := writeObj acc 0x4002 (die.val + 1) v s

/-- TABLE_BUILD_FROM_OBJECT: 1 to object 0x9061.01 (07 R258). -/
def execTableBuildFromObject (acc : Acc) (s : State) : Out := writeObj acc 0x9061 1 1 s

/-- TABLE_BUILD_FROM_SAMPLE: 2 to object 0x9061.01 (07 R258). -/
def execTableBuildFromSample (acc : Acc) (s : State) : Out := writeObj acc 0x9061 1 2 s

/-- TABLE_INVALIDATE: 3 to object 0x9061.01 (07 R259). -/
def execTableInvalidate (acc : Acc) (s : State) : Out := writeObj acc 0x9061 1 3 s

/-- TABLE_INSTALL: 4 to object 0x9061.01 (07 R261). -/
def execTableInstall (acc : Acc) (s : State) : Out := writeObj acc 0x9061 1 4 s

/-- PORT_RETRAIN: 1 to object 0x5000 + p, subindex 0x09 (08 R289). -/
def execPortRetrain (acc : Acc) (port : Port) (s : State) : Out := writeObj acc (0x5000 + port.val) 9 1 s

/-- PORT_TAKE_DOWN: 2 to object 0x5000 + p, subindex 0x09 (08 R289). -/
def execPortTakeDown (acc : Acc) (port : Port) (s : State) : Out := writeObj acc (0x5000 + port.val) 9 2 s

/-- STORAGE_MODE: object 0x5080.01 (08 R291). -/
def execStorageMode (acc : Acc) (v : Nat) (s : State) : Out := writeObj acc 0x5080 1 v s

/-- QP_MAKE_READY: command 1 to object 0x5090.02 (08 R295). -/
def execQpMakeReady (acc : Acc) (qp : Fin 64) (s : State) : Out := writeObj acc 0x5090 2 (qp.val + 256) s

/-- QP_RESET: command 2 to object 0x5090.02 (08 R295). -/
def execQpReset (acc : Acc) (qp : Fin 64) (s : State) : Out := writeObj acc 0x5090 2 (qp.val + 512) s

/-- PULL_DOORBELL: object 0x5090.05 (08 R296). -/
def execPullDoorbell (acc : Acc) (v : Nat) (s : State) : Out := writeObj acc 0x5090 5 v s

/-- ROUTE_ENTRY_WRITE: object 0x4041.02 (09 R310). -/
def execRouteEntryWrite (acc : Acc) (v : Nat) (s : State) : Out := writeObj acc 0x4041 2 v s

/-- MANAGER_RELEASE: 0 to object 0x6001.01 (10 R335). -/
def execManagerRelease (acc : Acc) (s : State) : Out := writeObj acc 0x6001 1 0 s

/-- MANAGER_ACTIVE: 1 to object 0x6001.01 (10 R335). -/
def execManagerActive (acc : Acc) (s : State) : Out := writeObj acc 0x6001 1 1 s

/-- MANAGER_STANDBY: 2 to object 0x6001.01 (10 R335). -/
def execManagerStandby (acc : Acc) (s : State) : Out := writeObj acc 0x6001 1 2 s

/-- MANAGER_TAKE_OVER: 3 to object 0x6001.01 (10 R337). -/
def execManagerTakeOver (acc : Acc) (s : State) : Out := writeObj acc 0x6001 1 3 s

/-- QUEUE_FLUSH: 1 to object 0x6020 + q, subindex 0x05 (10 R346). -/
def execQueueFlush (acc : Acc) (q : Fin 64) (s : State) : Out := writeObj acc (0x6020 + q.val) 5 1 s

/-- CANCEL_EYELET: object 0x6030.01 (10 R364). -/
def execCancelEyelet (acc : Acc) (v : Nat) (s : State) : Out := writeObj acc 0x6030 1 v s

/-- ROUTE_PLAN_BIND: object 0x3025 (11 R388). -/
def execRoutePlanBind (acc : Acc) (slot : Slot) (v : Nat) (s : State) : Out := writeObj acc 0x3025 (slot.val + 1) v s

/-- REVISION_ARM: object 0x3026.03 (11 R395). -/
def execRevisionArm (acc : Acc) (v : Nat) (s : State) : Out := writeObj acc 0x3026 3 v s

/-- OPEN: 1 to object 0xA020.04 (12 R412). -/
def execOpenImage (acc : Acc) (s : State) : Out := writeObj acc 0xa020 4 1 s

/-- SEAL: 2 to object 0xA020.04 (12 R412). -/
def execSealImage (acc : Acc) (s : State) : Out := writeObj acc 0xa020 4 2 s

/-- PIN: 4 to object 0xA020.04 (12 R412). -/
def execPinImage (acc : Acc) (s : State) : Out := writeObj acc 0xa020 4 4 s

/-- DEMOTE: 3 to object 0xA020.04 (12 R412). -/
def execDemoteImage (acc : Acc) (s : State) : Out := writeObj acc 0xa020 4 3 s

/-- EVICT: 5 to object 0xA020.04 (12 R412). -/
def execEvictImage (acc : Acc) (s : State) : Out := writeObj acc 0xa020 4 5 s

/-- CLOSE: 6 to object 0xA020.04 (12 R412). -/
def execCloseImage (acc : Acc) (s : State) : Out := writeObj acc 0xa020 4 6 s

/-- DEFINE_COUNT: 1 to object 0xA008.03 (12 R421). -/
def execDefineCount (acc : Acc) (s : State) : Out := writeObj acc 0xa008 3 1 s

/-- DEFINE_SET: 2 to object 0xA008.03 (12 R421). -/
def execDefineSet (acc : Acc) (s : State) : Out := writeObj acc 0xa008 3 2 s

/-- RELEASE: 3 to object 0xA008.03 (12 R421). -/
def execReleasePartition (acc : Acc) (s : State) : Out := writeObj acc 0xa008 3 3 s

/-- CLEAR: 4 to object 0xA008.03 (12 R421). -/
def execClearPartition (acc : Acc) (s : State) : Out := writeObj acc 0xa008 3 4 s

/-- IMAGE_CHECK: 1 to object 0x1020.03 (13 R452). -/
def execImageCheck (acc : Acc) (s : State) : Out := writeObj acc 0x1020 3 1 s

/-- STATE_COMMAND_KEEPER: object 0x2001 (14 R474). -/
def execStateCommandKeeper (acc : Acc) (s : State) : Out := writeObj acc 0x2001 0 1 s

/-- STATE_COMMAND_STANDBY: object 0x2001 (14 R474). -/
def execStateCommandStandby (acc : Acc) (s : State) : Out := writeObj acc 0x2001 0 2 s

/-- STATE_COMMAND_READY: object 0x2001 (14 R474). -/
def execStateCommandReady (acc : Acc) (s : State) : Out := writeObj acc 0x2001 0 3 s

/-- STATE_COMMAND_RUNNING: object 0x2001 (14 R474). -/
def execStateCommandRunning (acc : Acc) (s : State) : Out := writeObj acc 0x2001 0 4 s

/-- STATE_COMMAND_DRAINING: object 0x2001 (14 R474). -/
def execStateCommandDraining (acc : Acc) (s : State) : Out := writeObj acc 0x2001 0 5 s

/-- PERSIST_EXPORT: 1 to object 0x1030.01 (14 R485). -/
def execPersistExport (acc : Acc) (s : State) : Out := writeObj acc 0x1030 1 1 s

/-- PERSIST_IMPORT: 2 to object 0x1030.01 (14 R485). -/
def execPersistImport (acc : Acc) (s : State) : Out := writeObj acc 0x1030 1 2 s

/-- PERSIST_DEFAULTS: 3 to object 0x1030.01 (14 R485). -/
def execPersistDefaults (acc : Acc) (s : State) : Out := writeObj acc 0x1030 1 3 s

/-- RAISE_MINIMUM_SVN: object 0x7030.01 (15 R499). -/
def execRaiseMinimumSvn (acc : Acc) (v : Nat) (s : State) : Out := writeObj acc 0x7030 1 v s

/-- REVOKE_KEY_HASH: object 0x7030.02 (15 R499). -/
def execRevokeKeyHash (acc : Acc) (k : Nat) (s : State) : Out := writeObj acc 0x7030 2 k s

/-- KEY_WRITE: 1 to object 0x7040.02 (15 R504). -/
def execKeyWrite (acc : Acc) (s : State) : Out := writeObj acc 0x7040 2 1 s

/-- KEY_DERIVE: 2 to object 0x7040.02 (15 R504). -/
def execKeyDerive (acc : Acc) (s : State) : Out := writeObj acc 0x7040 2 2 s

/-- KEY_CLEAR: 3 to object 0x7040.02 (15 R504). -/
def execKeyClear (acc : Acc) (s : State) : Out := writeObj acc 0x7040 2 3 s

/-- ARMING_LEVEL: object 0x7100 (15 R513). -/
def execArmingLevel (acc : Acc) (v : Nat) (s : State) : Out := writeObj acc 0x7100 0 v s

/-- EVENT_QUEUE_ENABLE: object 0x8000.05 (16 R528). -/
def execEventQueueEnable (acc : Acc) (v : Nat) (s : State) : Out := writeObj acc 0x8000 5 v s

/-- FREQ_COMMAND: object 0x2200.02 (17 R545). -/
def execFreqCommand (acc : Acc) (tick : Nat) (s : State) : Out := writeObj acc 0x2200 2 tick s

/-- PRE_RAMP_START: 1 to object 0x2110.01 (17 R561). -/
def execPreRampStart (acc : Acc) (s : State) : Out := writeObj acc 0x2110 1 1 s

/-- PRE_RAMP_STOP: 0 to object 0x2110.01 (17 R561). -/
def execPreRampStop (acc : Acc) (s : State) : Out := writeObj acc 0x2110 1 0 s

/-- RESET_COMMAND: 1 to object 0x2003.02 (18 R581). -/
def execResetCommand (acc : Acc) (s : State) : Out := writeObj acc 0x2003 2 1 s

/-- FIRMWARE_READY: 1 to object 0x2003.05 (18 R586). -/
def execFirmwareReady (acc : Acc) (s : State) : Out := writeObj acc 0x2003 5 1 s

/-- COMMIT_DOORBELL: object 0x6020 + q, subindex 0x03, or the queue's word of a doorbell page, which answers nothing (10 R344). -/
def execCommitDoorbell (acc : Acc) (q : Fin 64) (v : Nat) (page : Bool) (s : State) : Out :=
  if page then .next (if s.dev.mode = .keeper then s else (commitBell s q v).1) else writeObj acc (0x6020 + q.val) 3 v s

/-- EVENT_QUEUE_HEAD: object 0x8000.04, written by a host or by a thread of this package (16 R530). -/
def execEventQueueHead (acc : Acc) (v : Nat) (hart : Option Hart) (s : State) : Out :=
  writeData s { reqOf s acc with hart := hart } 0x8000 4 (leBytes 4 v)

/-- OBJECT_WRITE_GENERIC: any object, with the bytes of the frame's data (00 R12, 14 R482). -/
def execObjectWriteGeneric (acc : Acc) (index sub : Nat) (data : List Byte) (s : State) : Out :=
  writeData s (reqOf s acc) index sub data

end Sys2Proof.Machine
end

