-- ==== Sys2Proof/Machine/Dispatch.lean ====
section
/-! DEFINITION. The dispatch of commands to their meanings, one arm per row of the opcode table. -/
namespace Sys2Proof.Machine

def exec (i : Instr) (s : State) : Host.Outcome State Fault Refusal :=
  match i with
  | .markUnhealthy acc v => Sys2Proof.Machine.execMarkUnhealthy acc v s
  | .opNop core ix w => Sys2Proof.Machine.execOpNop core ix w s
  | .setdesc core ix w => Sys2Proof.Machine.execSetdesc core ix w s
  | .matmul core ix w => Sys2Proof.Machine.execMatmul core ix w s
  | .packmm core ix w => Sys2Proof.Machine.execPackmm core ix w s
  | .requant core ix w => Sys2Proof.Machine.execRequant core ix w s
  | .rotate core ix w => Sys2Proof.Machine.execRotate core ix w s
  | .vectAdd core ix w => Sys2Proof.Machine.execVectAdd core ix w s
  | .vectSub core ix w => Sys2Proof.Machine.execVectSub core ix w s
  | .vectMul core ix w => Sys2Proof.Machine.execVectMul core ix w s
  | .vectMax core ix w => Sys2Proof.Machine.execVectMax core ix w s
  | .vectMin core ix w => Sys2Proof.Machine.execVectMin core ix w s
  | .vectExp core ix w => Sys2Proof.Machine.execVectExp core ix w s
  | .vectRecip core ix w => Sys2Proof.Machine.execVectRecip core ix w s
  | .vectRsqrt core ix w => Sys2Proof.Machine.execVectRsqrt core ix w s
  | .vectSilu core ix w => Sys2Proof.Machine.execVectSilu core ix w s
  | .vectTanh core ix w => Sys2Proof.Machine.execVectTanh core ix w s
  | .rowsum core ix w => Sys2Proof.Machine.execRowsum core ix w s
  | .rowmax core ix w => Sys2Proof.Machine.execRowmax core ix w s
  | .vectCopy core ix w => Sys2Proof.Machine.execVectCopy core ix w s
  | .operationComplete core ix => Sys2Proof.Machine.execOperationComplete core ix s
  | .resoleFlagArrival lcl => Sys2Proof.Machine.execResoleFlagArrival lcl s
  | .resoleWindowOpen lcl => Sys2Proof.Machine.execResoleWindowOpen lcl s
  | .resoleRecomputationDone lcl => Sys2Proof.Machine.execResoleRecomputationDone lcl s
  | .resoleWindowClose lcl => Sys2Proof.Machine.execResoleWindowClose lcl s
  | .lastLoad acc => Sys2Proof.Machine.execLastLoad acc s
  | .lastUnload acc => Sys2Proof.Machine.execLastUnload acc s
  | .lastLoadComplete => Sys2Proof.Machine.execLastLoadComplete s
  | .activeSlotWrite acc part v => Sys2Proof.Machine.execActiveSlotWrite acc part v s
  | .arrival core bit => Sys2Proof.Machine.execArrival core bit s
  | .transferStart part ix => Sys2Proof.Machine.execTransferStart part ix s
  | .awlDescriptorStart lcl ix => Sys2Proof.Machine.execAwlDescriptorStart lcl ix s
  | .awlDescriptorComplete lcl ix => Sys2Proof.Machine.execAwlDescriptorComplete lcl ix s
  | .reductionStart part ix => Sys2Proof.Machine.execReductionStart part ix s
  | .reductionContribution part ix => Sys2Proof.Machine.execReductionContribution part ix s
  | .maskPoint part ix => Sys2Proof.Machine.execMaskPoint part ix s
  | .admitPoint part ix => Sys2Proof.Machine.execAdmitPoint part ix s
  | .samplePoint part ix => Sys2Proof.Machine.execSamplePoint part ix s
  | .expertPoint part ix => Sys2Proof.Machine.execExpertPoint part ix s
  | .replayPoint part ix => Sys2Proof.Machine.execReplayPoint part ix s
  | .sleepStart part ix => Sys2Proof.Machine.execSleepStart part ix s
  | .portSleep part ix => Sys2Proof.Machine.execPortSleep part ix s
  | .wakeUpStart part ix => Sys2Proof.Machine.execWakeUpStart part ix s
  | .wakeUpComplete part ix => Sys2Proof.Machine.execWakeUpComplete part ix s
  | .syncSend => Sys2Proof.Machine.execSyncSend s
  | .syncSymbol port sym eighth => Sys2Proof.Machine.execSyncSymbol port sym eighth s
  | .epochSymbol port sym => Sys2Proof.Machine.execEpochSymbol port sym s
  | .rootSymbol port sym => Sys2Proof.Machine.execRootSymbol port sym s
  | .electionEnd => Sys2Proof.Machine.execElectionEnd s
  | .configSymbol port sym => Sys2Proof.Machine.execConfigSymbol port sym s
  | .voteSymbol port sym => Sys2Proof.Machine.execVoteSymbol port sym s
  | .faultSymbol port sym => Sys2Proof.Machine.execFaultSymbol port sym s
  | .haltReceived port sym => Sys2Proof.Machine.execHaltReceived port sym s
  | .startSymbol port sym => Sys2Proof.Machine.execStartSymbol port sym s
  | .switchSymbol port sym => Sys2Proof.Machine.execSwitchSymbol port sym s
  | .freqSymbol port sym => Sys2Proof.Machine.execFreqSymbol port sym s
  | .adoptSymbol port sym => Sys2Proof.Machine.execAdoptSymbol port sym s
  | .maskSymbol port sym => Sys2Proof.Machine.execMaskSymbol port sym s
  | .parentLoss => Sys2Proof.Machine.execParentLoss s
  | .holdover => Sys2Proof.Machine.execHoldover s
  | .rootTakeover => Sys2Proof.Machine.execRootTakeover s
  | .tickEnd => Sys2Proof.Machine.execTickEnd s
  | .faultedPartitionStop => Sys2Proof.Machine.execFaultedPartitionStop s
  | .runningEntry => Sys2Proof.Machine.execRunningEntry s
  | .fallbackSwitch part => Sys2Proof.Machine.execFallbackSwitch part s
  | .identityAdopted => Sys2Proof.Machine.execIdentityAdopted s
  | .startTick acc tick => Sys2Proof.Machine.execStartTick acc tick s
  | .switchCommand acc v => Sys2Proof.Machine.execSwitchCommand acc v s
  | .haltCommand acc => Sys2Proof.Machine.execHaltCommand acc s
  | .logicalNodeToAdopt acc n => Sys2Proof.Machine.execLogicalNodeToAdopt acc n s
  | .adoptionTick acc tick => Sys2Proof.Machine.execAdoptionTick acc tick s
  | .commandRingDoorbell acc ring v => Sys2Proof.Machine.execCommandRingDoorbell acc ring v s
  | .objCreate ring => Sys2Proof.Machine.execObjCreate ring s
  | .objSetclass ring => Sys2Proof.Machine.execObjSetclass ring s
  | .objRead ring => Sys2Proof.Machine.execObjRead ring s
  | .objWrite ring => Sys2Proof.Machine.execObjWrite ring s
  | .objDestroy ring => Sys2Proof.Machine.execObjDestroy ring s
  | .tileAccess t => Sys2Proof.Machine.execTileAccess t s
  | .migrationComplete tile => Sys2Proof.Machine.execMigrationComplete tile s
  | .scrub die => Sys2Proof.Machine.execScrub die s
  | .lastStoreResize acc die v => Sys2Proof.Machine.execLastStoreResize acc die v s
  | .tableBuildFromObject acc => Sys2Proof.Machine.execTableBuildFromObject acc s
  | .tableBuildFromSample acc => Sys2Proof.Machine.execTableBuildFromSample acc s
  | .tableInvalidate acc => Sys2Proof.Machine.execTableInvalidate acc s
  | .tableInstall acc => Sys2Proof.Machine.execTableInstall acc s
  | .tableBuildComplete => Sys2Proof.Machine.execTableBuildComplete s
  | .lineBlock port bytes eighth => Sys2Proof.Machine.execLineBlock port bytes eighth s
  | .scheduleHead port flit => Sys2Proof.Machine.execScheduleHead port flit s
  | .scheduleData port flit last => Sys2Proof.Machine.execScheduleData port flit last s
  | .transferRelease port => Sys2Proof.Machine.execTransferRelease port s
  | .ackWord port word => Sys2Proof.Machine.execAckWord port word s
  | .nakWord port word => Sys2Proof.Machine.execNakWord port word s
  | .creditWord port word => Sys2Proof.Machine.execCreditWord port word s
  | .probeWord port word eighth => Sys2Proof.Machine.execProbeWord port word eighth s
  | .probeReplyWord port word eighth => Sys2Proof.Machine.execProbeReplyWord port word eighth s
  | .identWord port word => Sys2Proof.Machine.execIdentWord port word s
  | .downWord port word => Sys2Proof.Machine.execDownWord port word s
  | .ackInterval port => Sys2Proof.Machine.execAckInterval port s
  | .ackTimeout port => Sys2Proof.Machine.execAckTimeout port s
  | .portTrainingStart port => Sys2Proof.Machine.execPortTrainingStart port s
  | .portTrainingComplete port res => Sys2Proof.Machine.execPortTrainingComplete port res s
  | .trainingRetry port => Sys2Proof.Machine.execTrainingRetry port s
  | .probeInterval port => Sys2Proof.Machine.execProbeInterval port s
  | .portRetrain acc port => Sys2Proof.Machine.execPortRetrain acc port s
  | .portTakeDown acc port => Sys2Proof.Machine.execPortTakeDown acc port s
  | .storageMode acc v => Sys2Proof.Machine.execStorageMode acc v s
  | .qpMakeReady acc qp => Sys2Proof.Machine.execQpMakeReady acc qp s
  | .qpReset acc qp => Sys2Proof.Machine.execQpReset acc qp s
  | .pullDoorbell acc v => Sys2Proof.Machine.execPullDoorbell acc v s
  | .pullDescriptor => Sys2Proof.Machine.execPullDescriptor s
  | .readResponse eth frame => Sys2Proof.Machine.execReadResponse eth frame s
  | .acknowledge eth frame => Sys2Proof.Machine.execAcknowledge eth frame s
  | .qpResponseTimeout qp => Sys2Proof.Machine.execQpResponseTimeout qp s
  | .pfcFrame eth frame => Sys2Proof.Machine.execPfcFrame eth frame s
  | .frameDropped eth frame => Sys2Proof.Machine.execFrameDropped eth frame s
  | .ethernetLinkChange eth up => Sys2Proof.Machine.execEthernetLinkChange eth up s
  | .fabricRead src flit => Sys2Proof.Machine.execFabricRead src flit s
  | .fabricWrite src flit => Sys2Proof.Machine.execFabricWrite src flit s
  | .fabricAdd src flit => Sys2Proof.Machine.execFabricAdd src flit s
  | .fabricOr src flit => Sys2Proof.Machine.execFabricOr src flit s
  | .fabricAnd src flit => Sys2Proof.Machine.execFabricAnd src flit s
  | .fabricMin src flit => Sys2Proof.Machine.execFabricMin src flit s
  | .fabricMax src flit => Sys2Proof.Machine.execFabricMax src flit s
  | .fabricMinu src flit => Sys2Proof.Machine.execFabricMinu src flit s
  | .fabricMaxu src flit => Sys2Proof.Machine.execFabricMaxu src flit s
  | .fabricSwap src flit => Sys2Proof.Machine.execFabricSwap src flit s
  | .fabricCas src flit => Sys2Proof.Machine.execFabricCas src flit s
  | .fabricLeaseAcq src flit => Sys2Proof.Machine.execFabricLeaseAcq src flit s
  | .fabricLeaseRenew src flit => Sys2Proof.Machine.execFabricLeaseRenew src flit s
  | .fabricLeaseRel src flit => Sys2Proof.Machine.execFabricLeaseRel src flit s
  | .fabricResponse src flit => Sys2Proof.Machine.execFabricResponse src flit s
  | .fabricPacketForward src flit => Sys2Proof.Machine.execFabricPacketForward src flit s
  | .fabricTagTimeout tag => Sys2Proof.Machine.execFabricTagTimeout tag s
  | .routeEntryWrite acc v => Sys2Proof.Machine.execRouteEntryWrite acc v s
  | .routeChangeEffect node => Sys2Proof.Machine.execRouteChangeEffect node s
  | .managerRelease acc => Sys2Proof.Machine.execManagerRelease acc s
  | .managerActive acc => Sys2Proof.Machine.execManagerActive acc s
  | .managerStandby acc => Sys2Proof.Machine.execManagerStandby acc s
  | .managerTakeOver acc => Sys2Proof.Machine.execManagerTakeOver acc s
  | .managerTakeover => Sys2Proof.Machine.execManagerTakeover s
  | .commitDoorbell acc q v page => Sys2Proof.Machine.execCommitDoorbell acc q v page s
  | .queueFlush acc q => Sys2Proof.Machine.execQueueFlush acc q s
  | .tickPass => Sys2Proof.Machine.execTickPass s
  | .cancelEyelet acc v => Sys2Proof.Machine.execCancelEyelet acc v s
  | .samplerResult => Sys2Proof.Machine.execSamplerResult s
  | .routePlanBind acc slot v => Sys2Proof.Machine.execRoutePlanBind acc slot v s
  | .round0 lcl ix => Sys2Proof.Machine.execRound0 lcl ix s
  | .dispatchRound lcl ix => Sys2Proof.Machine.execDispatchRound lcl ix s
  | .combine lcl ix => Sys2Proof.Machine.execCombine lcl ix s
  | .popularityCountAdd => Sys2Proof.Machine.execPopularityCountAdd s
  | .revisionArm acc v => Sys2Proof.Machine.execRevisionArm acc v s
  | .openImage acc => Sys2Proof.Machine.execOpenImage acc s
  | .sealImage acc => Sys2Proof.Machine.execSealImage acc s
  | .demoteImage acc => Sys2Proof.Machine.execDemoteImage acc s
  | .pinImage acc => Sys2Proof.Machine.execPinImage acc s
  | .evictImage acc => Sys2Proof.Machine.execEvictImage acc s
  | .closeImage acc => Sys2Proof.Machine.execCloseImage acc s
  | .imageCommandComplete => Sys2Proof.Machine.execImageCommandComplete s
  | .defineCount acc => Sys2Proof.Machine.execDefineCount acc s
  | .defineSet acc => Sys2Proof.Machine.execDefineSet acc s
  | .releasePartition acc => Sys2Proof.Machine.execReleasePartition acc s
  | .clearPartition acc => Sys2Proof.Machine.execClearPartition acc s
  | .controlCoreLoad hart rd addr bytes sgn => Sys2Proof.Machine.execControlCoreLoad hart rd addr bytes sgn s
  | .controlCoreStore hart addr bytes data => Sys2Proof.Machine.execControlCoreStore hart addr bytes data s
  | .amo hart op rd addr wide data => Sys2Proof.Machine.execAmo hart op rd addr wide data s
  | .fabFence hart => Sys2Proof.Machine.execFabFence hart s
  | .fabInv hart base len => Sys2Proof.Machine.execFabInv hart base len s
  | .fabCas hart rd addr wide data => Sys2Proof.Machine.execFabCas hart rd addr wide data s
  | .leaseAcq hart rd addr len => Sys2Proof.Machine.execLeaseAcq hart rd addr len s
  | .leaseRenew hart rd addr len => Sys2Proof.Machine.execLeaseRenew hart rd addr len s
  | .leaseRel hart rd addr => Sys2Proof.Machine.execLeaseRel hart rd addr s
  | .fnWorld hart v => Sys2Proof.Machine.execFnWorld hart v s
  | .fnAwlsub hart v => Sys2Proof.Machine.execFnAwlsub hart v s
  | .fnAwldone hart rd => Sys2Proof.Machine.execFnAwldone hart rd s
  | .fnFstat hart v => Sys2Proof.Machine.execFnFstat hart v s
  | .threadStart hart v => Sys2Proof.Machine.execThreadStart hart v s
  | .threadReset hart v => Sys2Proof.Machine.execThreadReset hart v s
  | .timerInterrupt hart => Sys2Proof.Machine.execTimerInterrupt hart s
  | .coreRun core secure => Sys2Proof.Machine.execCoreRun core secure s
  | .coreReset core secure => Sys2Proof.Machine.execCoreReset core secure s
  | .hostWindowWrite req secure off data => Sys2Proof.Machine.execHostWindowWrite req secure off data s
  | .imageCheck acc => Sys2Proof.Machine.execImageCheck acc s
  | .imageCheckComplete => Sys2Proof.Machine.execImageCheckComplete s
  | .relumRead acc frame => Sys2Proof.Machine.execRelumRead acc frame s
  | .relumWrite acc frame => Sys2Proof.Machine.execRelumWrite acc frame s
  | .relumDescribe acc frame => Sys2Proof.Machine.execRelumDescribe acc frame s
  | .relumLock acc frame => Sys2Proof.Machine.execRelumLock acc frame s
  | .relumUnlock acc frame => Sys2Proof.Machine.execRelumUnlock acc frame s
  | .lockExpiry entry => Sys2Proof.Machine.execLockExpiry entry s
  | .entdaa addr => Sys2Proof.Machine.execEntdaa addr s
  | .setdasa addr => Sys2Proof.Machine.execSetdasa addr s
  | .setnewda addr => Sys2Proof.Machine.execSetnewda addr s
  | .rstdaa => Sys2Proof.Machine.execRstdaa s
  | .enec => Sys2Proof.Machine.execEnec s
  | .disec => Sys2Proof.Machine.execDisec s
  | .getpid => Sys2Proof.Machine.execGetpid s
  | .getbcr => Sys2Proof.Machine.execGetbcr s
  | .getdcr => Sys2Proof.Machine.execGetdcr s
  | .getstatus => Sys2Proof.Machine.execGetstatus s
  | .getmwl => Sys2Proof.Machine.execGetmwl s
  | .getmrl => Sys2Proof.Machine.execGetmrl s
  | .setmwl n => Sys2Proof.Machine.execSetmwl n s
  | .setmrl n => Sys2Proof.Machine.execSetmrl n s
  | .i3cPrivateWrite frame => Sys2Proof.Machine.execI3cPrivateWrite frame s
  | .i3cPrivateRead => Sys2Proof.Machine.execI3cPrivateRead s
  | .hostMailboxDoorbell req v => Sys2Proof.Machine.execHostMailboxDoorbell req v s
  | .mailboxStatus box v => Sys2Proof.Machine.execMailboxStatus box v s
  | .localPortDoorbell hart box req v => Sys2Proof.Machine.execLocalPortDoorbell hart box req v s
  | .mailboxTimeout box => Sys2Proof.Machine.execMailboxTimeout box s
  | .inBandRequest port flit => Sys2Proof.Machine.execInBandRequest port flit s
  | .inBandResponse port flit => Sys2Proof.Machine.execInBandResponse port flit s
  | .notifyFlit port flit => Sys2Proof.Machine.execNotifyFlit port flit s
  | .stateCommandKeeper acc => Sys2Proof.Machine.execStateCommandKeeper acc s
  | .stateCommandStandby acc => Sys2Proof.Machine.execStateCommandStandby acc s
  | .stateCommandReady acc => Sys2Proof.Machine.execStateCommandReady acc s
  | .stateCommandRunning acc => Sys2Proof.Machine.execStateCommandRunning acc s
  | .stateCommandDraining acc => Sys2Proof.Machine.execStateCommandDraining acc s
  | .stateChangeComplete => Sys2Proof.Machine.execStateChangeComplete s
  | .persistExport acc => Sys2Proof.Machine.execPersistExport acc s
  | .persistImport acc => Sys2Proof.Machine.execPersistImport acc s
  | .persistDefaults acc => Sys2Proof.Machine.execPersistDefaults acc s
  | .raiseMinimumSvn acc v => Sys2Proof.Machine.execRaiseMinimumSvn acc v s
  | .revokeKeyHash acc k => Sys2Proof.Machine.execRevokeKeyHash acc k s
  | .fusesProgrammed => Sys2Proof.Machine.execFusesProgrammed s
  | .keyWrite acc => Sys2Proof.Machine.execKeyWrite acc s
  | .keyDerive acc => Sys2Proof.Machine.execKeyDerive acc s
  | .keyClear acc => Sys2Proof.Machine.execKeyClear acc s
  | .armingLevel acc v => Sys2Proof.Machine.execArmingLevel acc v s
  | .voltageGlitch rail permille ns => Sys2Proof.Machine.execVoltageGlitch rail permille ns s
  | .clockGlitch clk permille lost ns => Sys2Proof.Machine.execClockGlitch clk permille lost ns s
  | .debugIntrusion ir code ns => Sys2Proof.Machine.execDebugIntrusion ir code ns s
  | .fuseReadback bad => Sys2Proof.Machine.execFuseReadback bad s
  | .alarmHotSetClear => Sys2Proof.Machine.execAlarmHotSetClear s
  | .violationWindow => Sys2Proof.Machine.execViolationWindow s
  | .eventQueueHead acc v hart => Sys2Proof.Machine.execEventQueueHead acc v hart s
  | .eventQueueEnable acc v => Sys2Proof.Machine.execEventQueueEnable acc v s
  | .msiXInterval vec => Sys2Proof.Machine.execMsiXInterval vec s
  | .recoveryOverdue timer => Sys2Proof.Machine.execRecoveryOverdue timer s
  | .weltFlitError welt flit => Sys2Proof.Machine.execWeltFlitError welt flit s
  | .freqCommand acc tick => Sys2Proof.Machine.execFreqCommand acc tick s
  | .operatingPointSwitch => Sys2Proof.Machine.execOperatingPointSwitch s
  | .voltageStepDone group => Sys2Proof.Machine.execVoltageStepDone group s
  | .avsbusCurrentPoll amps => Sys2Proof.Machine.execAvsbusCurrentPoll amps s
  | .ocpN => Sys2Proof.Machine.execOcpN s
  | .estimatorStep volts tele => Sys2Proof.Machine.execEstimatorStep volts tele s
  | .governorStep => Sys2Proof.Machine.execGovernorStep s
  | .preRampStart acc => Sys2Proof.Machine.execPreRampStart acc s
  | .preRampStop acc => Sys2Proof.Machine.execPreRampStop acc s
  | .thermalSample temps => Sys2Proof.Machine.execThermalSample temps s
  | .powerGoodRise rail boot => Sys2Proof.Machine.execPowerGoodRise rail boot s
  | .powerGoodTimeout => Sys2Proof.Machine.execPowerGoodTimeout s
  | .powerGoodFall rail => Sys2Proof.Machine.execPowerGoodFall rail s
  | .powerDownTimeout => Sys2Proof.Machine.execPowerDownTimeout s
  | .railFault rail regulator => Sys2Proof.Machine.execRailFault rail regulator s
  | .powerOnReset fuses => Sys2Proof.Machine.execPowerOnReset fuses s
  | .strapSample straps => Sys2Proof.Machine.execStrapSample straps s
  | .autoStart => Sys2Proof.Machine.execAutoStart s
  | .resetNAssert ns => Sys2Proof.Machine.execResetNAssert ns s
  | .resetNDeassert => Sys2Proof.Machine.execResetNDeassert s
  | .resetCommand acc => Sys2Proof.Machine.execResetCommand acc s
  | .firmwareReady acc => Sys2Proof.Machine.execFirmwareReady acc s
  | .perstNDeassert => Sys2Proof.Machine.execPerstNDeassert s
  | .bootLen len image rngOk => Sys2Proof.Machine.execBootLen len image rngOk s
  | .bootTimeout => Sys2Proof.Machine.execBootTimeout s
  | .dramTrainingComplete fail => Sys2Proof.Machine.execDramTrainingComplete fail s
  | .objectWriteGeneric acc index sub data => Sys2Proof.Machine.execObjectWriteGeneric acc index sub data s
  | .vddAonLoss => Sys2Proof.Machine.execVddAonLoss s
  | .ibiSpacing => Sys2Proof.Machine.execIbiSpacing s
  | .ibiServed => Sys2Proof.Machine.execIbiServed s
  | .pcieLinkUp => Sys2Proof.Machine.execPcieLinkUp s
  | .blockBoundary port => Sys2Proof.Machine.execBlockBoundary port s

end Sys2Proof.Machine
end

