-- ==== Sys2Proof/WellFormed.lean ====
section
/-! DEFINITION. Well-formed commands: every operand in the range that the spec's field gives it. -/
namespace Sys2Proof

/-- A requester of 14 R458: only firmware paths can be secure. -/
def Acc.wf (a : Acc) : Bool :=
  decide (a.box < 8) && decide (a.node < 2048) && decide (a.key < 65536) &&
    (match a.path with | .hostMailbox => !a.secure | .i3c => !a.secure | _ => true)

/-- A thread of 13 R433: 8 on a cluster control core, 4 on a supervisor core. -/
def Hart.wf (h : Hart) : Bool :=
  if h.core < 320 then decide (h.thread < 8) else decide (h.core < 328) && decide (h.thread < 4)

def Straps.wf (p : Straps) : Bool :=
  decide (p.node < 2048) && decide (p.role < 8) && decide (p.bootSrc < 4) && decide (p.i3cAddr < 8)

/-- The field widths of 15 R497. -/
def Fuses.wf (f : Fuses) : Bool :=
  decide (f.uds.length = 48) && decide (f.keyHash.length = 4) && f.keyHash.all (fun h => decide (h.length = 48)) &&
  decide (f.revoke < 16) && decide (f.svnMin ≤ 64) && decide (f.alarmFloor ≤ 4) && decide (f.debugLock < 2) &&
  decide (f.crc < 2 ^ 32) && decide (f.stepping < 256) && decide (f.serial < 2 ^ 48) &&
  decide (f.health.length = 16) && f.health.all (fun h => decide (h < 2 ^ 20)) && decide (f.trims.length = 4)

def DramFail.wf (d : DramFail) : Bool := decide (d.channel < 96) && decide (1 ≤ d.step) && decide (d.step ≤ 5)

def Vec4.wf (v : Vec4) : Bool :=
  decide (v.g0 < 65536) && decide (v.g1 < 65536) && decide (v.g2 < 65536) && decide (v.g3 < 65536)


def TileReq.wf (t : TileReq) : Bool :=
  decide (t.req < 2 ^ 23) && decide (t.die < 16) && decide (t.addr < 2 ^ 48) && decide (t.len ≤ 16384) &&
    (match t.data with | some d => decide (d.length = t.len) | none => true)

def TrainIn.wf : TrainIn → Bool
  | .measured rtt n l p _ _ => decide (rtt < 2 ^ 32) && decide (n < 2048) && decide (l < 65536) && decide (p < 64)
  | .fails step cause => decide (1 ≤ step) && decide (step ≤ 5) && decide (1 ≤ cause) && decide (cause ≤ 8)

/-- A command whose operands lie in the ranges that its row and the spec's field widths give. -/
def Instr.wf : Instr → Bool
  | .markUnhealthy acc v => acc.wf && decide (v < 2 ^ 16)
  | .opNop _ ix _ => decide (ix < 65536)
  | .setdesc _ ix _ => decide (ix < 65536)
  | .matmul _ ix _ => decide (ix < 65536)
  | .packmm _ ix _ => decide (ix < 65536)
  | .requant _ ix _ => decide (ix < 65536)
  | .rotate _ ix _ => decide (ix < 65536)
  | .vectAdd _ ix _ => decide (ix < 65536)
  | .vectSub _ ix _ => decide (ix < 65536)
  | .vectMul _ ix _ => decide (ix < 65536)
  | .vectMax _ ix _ => decide (ix < 65536)
  | .vectMin _ ix _ => decide (ix < 65536)
  | .vectExp _ ix _ => decide (ix < 65536)
  | .vectRecip _ ix _ => decide (ix < 65536)
  | .vectRsqrt _ ix _ => decide (ix < 65536)
  | .vectSilu _ ix _ => decide (ix < 65536)
  | .vectTanh _ ix _ => decide (ix < 65536)
  | .rowsum _ ix _ => decide (ix < 65536)
  | .rowmax _ ix _ => decide (ix < 65536)
  | .vectCopy _ ix _ => decide (ix < 65536)
  | .operationComplete _ ix => decide (ix < 65536)
  | .resoleFlagArrival _ => true
  | .resoleWindowOpen _ => true
  | .resoleRecomputationDone _ => true
  | .resoleWindowClose _ => true
  | .lastLoad acc => acc.wf
  | .lastUnload acc => acc.wf
  | .lastLoadComplete => true
  | .activeSlotWrite acc _ v => acc.wf && decide (v < 2 ^ 8)
  | .arrival _ bit => decide (bit < 2 ^ 8)
  | .transferStart _ ix => decide (ix < 2 ^ 32)
  | .awlDescriptorStart _ ix => decide (ix < 65536)
  | .awlDescriptorComplete _ ix => decide (ix < 65536)
  | .reductionStart _ ix => decide (ix < 2 ^ 32)
  | .reductionContribution _ ix => decide (ix < 2 ^ 32)
  | .maskPoint _ ix => decide (ix < 2 ^ 32)
  | .admitPoint _ ix => decide (ix < 2 ^ 32)
  | .samplePoint _ ix => decide (ix < 2 ^ 32)
  | .expertPoint _ ix => decide (ix < 2 ^ 32)
  | .replayPoint _ ix => decide (ix < 2 ^ 32)
  | .sleepStart _ ix => decide (ix < 2 ^ 32)
  | .portSleep _ ix => decide (ix < 2 ^ 32)
  | .wakeUpStart _ ix => decide (ix < 2 ^ 32)
  | .wakeUpComplete _ ix => decide (ix < 2 ^ 32)
  | .syncSend => true
  | .syncSymbol _ _ eighth => decide (eighth < 8)
  | .epochSymbol _ _ => true
  | .rootSymbol _ _ => true
  | .electionEnd => true
  | .configSymbol _ _ => true
  | .voteSymbol _ _ => true
  | .faultSymbol _ _ => true
  | .haltReceived _ _ => true
  | .startSymbol _ _ => true
  | .switchSymbol _ _ => true
  | .freqSymbol _ _ => true
  | .adoptSymbol _ _ => true
  | .maskSymbol _ _ => true
  | .parentLoss => true
  | .holdover => true
  | .rootTakeover => true
  | .tickEnd => true
  | .faultedPartitionStop => true
  | .runningEntry => true
  | .fallbackSwitch _ => true
  | .identityAdopted => true
  | .startTick acc tick => acc.wf && decide (tick < 2 ^ 64)
  | .switchCommand acc v => acc.wf && decide (v < 2 ^ 16)
  | .haltCommand acc => acc.wf
  | .logicalNodeToAdopt acc n => acc.wf && decide (n < 2 ^ 16)
  | .adoptionTick acc tick => acc.wf && decide (tick < 2 ^ 64)
  | .commandRingDoorbell acc _ v => acc.wf && decide (v < 2 ^ 32)
  | .objCreate _ => true
  | .objSetclass _ => true
  | .objRead _ => true
  | .objWrite _ => true
  | .objDestroy _ => true
  | .tileAccess t => t.wf
  | .migrationComplete tile => decide (tile < 2 ^ 30)
  | .scrub _ => true
  | .lastStoreResize acc _ v => acc.wf && decide (v < 2 ^ 16)
  | .tableBuildFromObject acc => acc.wf
  | .tableBuildFromSample acc => acc.wf
  | .tableInvalidate acc => acc.wf
  | .tableInstall acc => acc.wf
  | .tableBuildComplete => true
  | .lineBlock _ bytes eighth => decide (bytes.length = 136) && decide (eighth < 8)
  | .scheduleHead _ flit => decide (flit.length = 128)
  | .scheduleData _ flit _ => decide (flit.length = 128)
  | .transferRelease _ => true
  | .ackWord _ _ => true
  | .nakWord _ _ => true
  | .creditWord _ _ => true
  | .probeWord _ _ eighth => decide (eighth < 8)
  | .probeReplyWord _ _ eighth => decide (eighth < 8)
  | .identWord _ _ => true
  | .downWord _ _ => true
  | .ackInterval _ => true
  | .ackTimeout _ => true
  | .portTrainingStart _ => true
  | .portTrainingComplete _ res => res.wf
  | .trainingRetry _ => true
  | .probeInterval _ => true
  | .portRetrain acc _ => acc.wf
  | .portTakeDown acc _ => acc.wf
  | .storageMode acc v => acc.wf && decide (v < 2 ^ 8)
  | .qpMakeReady acc _ => acc.wf
  | .qpReset acc _ => acc.wf
  | .pullDoorbell acc v => acc.wf && decide (v < 2 ^ 32)
  | .pullDescriptor => true
  | .readResponse _ frame => decide (frame.length ≤ 9300)
  | .acknowledge _ frame => decide (frame.length ≤ 9300)
  | .qpResponseTimeout _ => true
  | .pfcFrame _ frame => decide (frame.length ≤ 9300)
  | .frameDropped _ frame => decide (frame.length ≤ 9300)
  | .ethernetLinkChange _ _ => true
  | .fabricRead _ flit => decide (flit.length = 128)
  | .fabricWrite _ flit => decide (flit.length = 128)
  | .fabricAdd _ flit => decide (flit.length = 128)
  | .fabricOr _ flit => decide (flit.length = 128)
  | .fabricAnd _ flit => decide (flit.length = 128)
  | .fabricMin _ flit => decide (flit.length = 128)
  | .fabricMax _ flit => decide (flit.length = 128)
  | .fabricMinu _ flit => decide (flit.length = 128)
  | .fabricMaxu _ flit => decide (flit.length = 128)
  | .fabricSwap _ flit => decide (flit.length = 128)
  | .fabricCas _ flit => decide (flit.length = 128)
  | .fabricLeaseAcq _ flit => decide (flit.length = 128)
  | .fabricLeaseRenew _ flit => decide (flit.length = 128)
  | .fabricLeaseRel _ flit => decide (flit.length = 128)
  | .fabricResponse _ flit => decide (flit.length = 128)
  | .fabricPacketForward _ flit => decide (flit.length = 128)
  | .fabricTagTimeout tag => decide (tag < 2 ^ 14)
  | .routeEntryWrite acc v => acc.wf && decide (v < 2 ^ 16)
  | .routeChangeEffect node => decide (node < 2048)
  | .managerRelease acc => acc.wf
  | .managerActive acc => acc.wf
  | .managerStandby acc => acc.wf
  | .managerTakeOver acc => acc.wf
  | .managerTakeover => true
  | .commitDoorbell acc _ v _ => acc.wf && decide (v < 2 ^ 64)
  | .queueFlush acc _ => acc.wf
  | .tickPass => true
  | .cancelEyelet acc v => acc.wf && decide (v < 2 ^ 32)
  | .samplerResult => true
  | .routePlanBind acc _ v => acc.wf && decide (v < 2 ^ 64)
  | .round0 _ ix => decide (ix < 65536)
  | .dispatchRound _ ix => decide (ix < 65536)
  | .combine _ ix => decide (ix < 65536)
  | .popularityCountAdd => true
  | .revisionArm acc v => acc.wf && decide (v < 2 ^ 64)
  | .openImage acc => acc.wf
  | .sealImage acc => acc.wf
  | .demoteImage acc => acc.wf
  | .pinImage acc => acc.wf
  | .evictImage acc => acc.wf
  | .closeImage acc => acc.wf
  | .imageCommandComplete => true
  | .defineCount acc => acc.wf
  | .defineSet acc => acc.wf
  | .releasePartition acc => acc.wf
  | .clearPartition acc => acc.wf
  | .controlCoreLoad hart _ addr bytes _ => hart.wf && decide (addr < 2 ^ 64) && decide (bytes = 1 || bytes = 2 || bytes = 4 || bytes = 8)
  | .controlCoreStore hart addr bytes data => hart.wf && decide (addr < 2 ^ 64) && decide (bytes = 1 || bytes = 2 || bytes = 4 || bytes = 8) && decide (data < 2 ^ 64)
  | .amo hart _ _ addr _ data => hart.wf && decide (addr < 2 ^ 64) && decide (data < 2 ^ 64)
  | .fabFence hart => hart.wf
  | .fabInv hart base len => hart.wf && decide (base < 2 ^ 64) && decide (len < 2 ^ 64)
  | .fabCas hart _ addr _ data => hart.wf && decide (addr < 2 ^ 64) && decide (data < 2 ^ 64)
  | .leaseAcq hart _ addr len => hart.wf && decide (addr < 2 ^ 64) && decide (len < 2 ^ 64)
  | .leaseRenew hart _ addr len => hart.wf && decide (addr < 2 ^ 64) && decide (len < 2 ^ 64)
  | .leaseRel hart _ addr => hart.wf && decide (addr < 2 ^ 64)
  | .fnWorld hart v => hart.wf && decide (v < 2 ^ 64)
  | .fnAwlsub hart v => hart.wf && decide (v < 2 ^ 64)
  | .fnAwldone hart _ => hart.wf
  | .fnFstat hart v => hart.wf && decide (v < 2 ^ 64)
  | .threadStart hart v => hart.wf && decide (v < 2 ^ 64)
  | .threadReset hart v => hart.wf && decide (v < 2 ^ 64)
  | .timerInterrupt hart => hart.wf
  | .coreRun core _ => decide (core < 320)
  | .coreReset core _ => decide (core < 320)
  | .hostWindowWrite req _ off data => decide (req < 2 ^ 23) && decide (off < 2 ^ 31) && decide (data.length ≤ 64)
  | .imageCheck acc => acc.wf
  | .imageCheckComplete => true
  | .relumRead acc frame => acc.wf && decide (frame.length ≤ 271)
  | .relumWrite acc frame => acc.wf && decide (frame.length ≤ 271)
  | .relumDescribe acc frame => acc.wf && decide (frame.length ≤ 271)
  | .relumLock acc frame => acc.wf && decide (frame.length ≤ 271)
  | .relumUnlock acc frame => acc.wf && decide (frame.length ≤ 271)
  | .lockExpiry entry => decide (entry < 16)
  | .entdaa addr => decide (addr < 128)
  | .setdasa addr => decide (addr < 128)
  | .setnewda addr => decide (addr < 128)
  | .rstdaa => true
  | .enec => true
  | .disec => true
  | .getpid => true
  | .getbcr => true
  | .getdcr => true
  | .getstatus => true
  | .getmwl => true
  | .getmrl => true
  | .setmwl n => decide (n < 2 ^ 16)
  | .setmrl n => decide (n < 2 ^ 16)
  | .i3cPrivateWrite frame => decide (frame.length ≤ 271)
  | .i3cPrivateRead => true
  | .hostMailboxDoorbell req v => decide (req.length ≤ 80) && decide (v < 2 ^ 32)
  | .mailboxStatus box v => decide (box ≤ 8) && decide (v < 2 ^ 32)
  | .localPortDoorbell hart box req v => hart.wf && decide (box < 8) && decide (req.length ≤ 80) && decide (v < 2 ^ 32)
  | .mailboxTimeout box => decide (box < 8)
  | .inBandRequest _ flit => decide (flit.length = 128)
  | .inBandResponse _ flit => decide (flit.length = 128)
  | .notifyFlit _ flit => decide (flit.length = 128)
  | .stateCommandKeeper acc => acc.wf
  | .stateCommandStandby acc => acc.wf
  | .stateCommandReady acc => acc.wf
  | .stateCommandRunning acc => acc.wf
  | .stateCommandDraining acc => acc.wf
  | .stateChangeComplete => true
  | .persistExport acc => acc.wf
  | .persistImport acc => acc.wf
  | .persistDefaults acc => acc.wf
  | .raiseMinimumSvn acc v => acc.wf && decide (v < 2 ^ 16)
  | .revokeKeyHash acc k => acc.wf && decide (k < 2 ^ 8)
  | .fusesProgrammed => true
  | .keyWrite acc => acc.wf
  | .keyDerive acc => acc.wf
  | .keyClear acc => acc.wf
  | .armingLevel acc v => acc.wf && decide (v < 2 ^ 8)
  | .voltageGlitch rail permille ns => decide (rail < 7) && decide (permille < 4096) && decide (ns < 2 ^ 64)
  | .clockGlitch clk permille _ ns => decide (clk < 20) && decide (permille < 65536) && decide (ns < 2 ^ 64)
  | .debugIntrusion _ code ns => decide (code < 2 ^ 32) && decide (ns < 2 ^ 64)
  | .fuseReadback bad => bad.all (fun w => w < 2 ^ 32)
  | .alarmHotSetClear => true
  | .violationWindow => true
  | .eventQueueHead acc v hart => acc.wf && decide (v < 2 ^ 32) && hart.all Hart.wf
  | .eventQueueEnable acc v => acc.wf && decide (v < 2 ^ 8)
  | .msiXInterval vec => decide (vec < 2048)
  | .recoveryOverdue timer => decide (timer < 107)
  | .weltFlitError welt flit => decide (welt < 34) && decide (flit < 2 ^ 64)
  | .freqCommand acc tick => acc.wf && decide (tick < 2 ^ 64)
  | .operatingPointSwitch => true
  | .voltageStepDone group => decide (group < 4)
  | .avsbusCurrentPoll amps => amps.wf
  | .ocpN => true
  | .estimatorStep volts tele => volts.wf && decide (tele < 65536)
  | .governorStep => true
  | .preRampStart acc => acc.wf
  | .preRampStop acc => acc.wf
  | .thermalSample temps => decide (temps.length = 68)
  | .powerGoodRise rail _ => decide (rail < 12)
  | .powerGoodTimeout => true
  | .powerGoodFall rail => decide (rail < 12)
  | .powerDownTimeout => true
  | .railFault rail _ => decide (rail < 12)
  | .powerOnReset fuses => fuses.wf
  | .strapSample straps => straps.wf
  | .autoStart => true
  | .resetNAssert ns => decide (ns < 2 ^ 64)
  | .resetNDeassert => true
  | .resetCommand acc => acc.wf
  | .firmwareReady acc => acc.wf
  | .perstNDeassert => true
  | .bootLen len image _ => decide (len < 2 ^ 32) && decide (image.length ≤ 2 ^ 26)
  | .bootTimeout => true
  | .dramTrainingComplete fail => fail.all DramFail.wf
  | .objectWriteGeneric acc index sub data => acc.wf && decide (index < 2 ^ 16) && decide (sub < 2 ^ 8) && decide (data.length ≤ 64)
  | .vddAonLoss => true
  | .ibiSpacing => true
  | .ibiServed => true
  | .pcieLinkUp => true
  | .blockBoundary _ => true

end Sys2Proof
end

