-- ==== Sys2Proof/Certificates/Slice0/Obligations.lean ====
section
/-! DEFINITION. The statements for the provers. Each names the rules of the spec that it states; a clause that is the model's own
choice names its log entry. `Claims` holds the words that several statements share. -/
namespace Sys2Proof.Claims
open Sys2Proof.Machine

/-- An access may write `v` to the numeric entry `i.sub`: the state in force serves its path (14 R472), and steps 2 to 9 of 14 R482
and the range of step 10 let it pass. -/
def mayWrite (s : State) (a : Acc) (i sub v : Nat) : Bool :=
  let r := reqOf s a
  match findRow i sub with
  | none => false
  | some row =>
    pathServed s r && !worldBar r i sub && row.acc != .ro && !isData row.ty && !lockBar s r i && stateOk s row &&
      !alarmBar s r i && decide (v < 256 ^ row.size) && inRange row v

/-- The state in which the access has been counted as served (object 0x1051.01 to .04). -/
def served (s : State) (a : Acc) : State := countServed s a.path

/-- What a write of `i.sub` answers whose effect on the rest of the state is `t`: a persist entry is kept (14 R484), the expiry of
the requester's locks moves (R480), status 0 leaves. -/
def written (s : State) (a : Acc) (i sub : Nat) (t : State) : Out :=
  let r := reqOf s a
  let t := match findRow i sub with | some row => persistAfter t row i sub | none => t
  .next (emit (renew t r) (.status 0))

/-- A timed symbol of this package: flooded, and held for its tick as by every receiver (05 R184). -/
def announced (s : State) (ty e arg : Nat) : State :=
  let x : Timed := ⟨ty, pnode s, mget 0 s.lace.nextSeq ty % 256, e, arg, s.lace.tick⟩
  let t := originate s ty e 0 arg
  { t with lace := { t.lace with timed := t.lace.timed ++ [x] } }

end Sys2Proof.Claims

open Sys2Proof Sys2Proof.Machine Sys2Proof.Claims

/-! ## Commands that are a write of one object -/

/-- 04 R152, R154: loading, unloading and activating lasts. A load takes the selected slot, clears its route plan and reports state 1;
an unload empties the slot, or leaves one that loads as it is; a binding sets or clears the partition's active slot. -/
def Sys2Proof.Claims.LastCommandsComplete : Prop :=
  ∀ (acc : Acc) (s : State),
    let u := served s acc
    let n := getO u 0x3030 2
    (mayWrite s acc 0x3030 3 1 = true → (u.dev.mode = .ready ∨ u.dev.mode = .running) → slotActive u n = false →
      u.loading = none →
      exec (.lastLoad acc) s = written s acc 0x3030 3
        (setO (setO (setO (setSlot { u with loading := some ⟨n, getO u 0x3030 1, 1⟩ } n { SlotSt.init with loading := true })
          0x3025 (n + 1) 0) 0x3031 1 1) 0x3031 4 n)) ∧
    (mayWrite s acc 0x3030 3 2 = true → (u.dev.mode = .ready ∨ u.dev.mode = .running) → slotActive u n = false →
      exec (.lastUnload acc) s = written s acc 0x3030 3
        (if (getSlot u n).loading then u else setO (setSlot u n SlotSt.init) 0x3025 (n + 1) 0)) ∧
    ∀ (part : Part) (v : Nat), mayWrite s acc 0x3020 (part.val + 1) v = true → u.dev.mode = .ready →
      (v = 0xff → exec (.activeSlotWrite acc part v) s = written s acc 0x3020 (part.val + 1)
        (setPart u part.val { getPart u part.val with active := none })) ∧
      (∀ im, v < 64 → (getSlot u v).image = some im → im.partition = part.val → portCheck u im = none →
        exec (.activeSlotWrite acc part v) s = written s acc 0x3020 (part.val + 1)
          (setPart u part.val { getPart u part.val with active := some v }))

/-- 05 R184, R188, R189, R193, R194, R197: the commands that flood a timed symbol or a HALT. START holds the symbol and sends a MASK
set for every appliance slot held in the started partitions; SWITCH and ADOPT hold theirs; ADOPT takes the logical node. -/
def Sys2Proof.Claims.LaceCommandsComplete : Prop :=
  ∀ (acc : Acc) (s : State),
    let u := served s acc
    (∀ tick, mayWrite s acc 0x3014 1 tick = true → isManager u = true → (u.dev.mode = .ready ∨ u.dev.mode = .running) →
      laceRuns u = true → u.lace.tick + max 8 (horizon u) ≤ tick →
      exec (.startTick acc tick) s = written s acc 0x3014 1
        ((List.range 8).foldl (fun x p => if fbit (getO u 0x3014 2) p then
            (heldSlots x p).foldl (fun x i => sendMask x tick i true p) x else x) (announced u 0x21 tick (getO u 0x3014 2)))) ∧
    (∀ v, mayWrite s acc 0x3015 1 v = true → isManager u = true → u.dev.mode = .running →
      getO u 0x3024 (v % 64 + 1) ≠ 0 → laceRuns u = true → u.lace.tick + max 8 (horizon u) ≤ getO u 0x3015 2 →
      exec (.switchCommand acc v) s = written s acc 0x3015 1 (announced u 0x22 (getO u 0x3015 2) v)) ∧
    (mayWrite s acc 0x3016 1 1 = true → u.dev.mode ≠ .keeper → u.dev.mode ≠ .alarm →
      exec (.haltCommand acc) s = written s acc 0x3016 1
        (haltLocal (originate u 0x20 u.lace.tick u.lace.phase 1) (pnode u) 1 u.lace.tick u.lace.phase)) ∧
    (∀ n, mayWrite s acc 0x3017 1 n = true → mayAdopt u = true →
      (n = 0xffff ∨ (n < 2048 ∧ ∀ p < 64, portUp u p = true → (getPort u p).peerLog ≠ n)) →
      exec (.logicalNodeToAdopt acc n) s = written s acc 0x3017 1 (setO u 0x3017 1 n)) ∧
    (∀ e, mayWrite s acc 0x3017 2 e = true → mayAdopt u = true → getO u 0x3017 1 ≠ 0xffff → laceRuns u = true →
      u.lace.tick + max 8 (horizon u) ≤ e →
      exec (.adoptionTick acc e) s = written s acc 0x3017 2
        (setO (setO (announced u 0x24 e (getO u 0x3017 1)) 0x3017 2 e) 0x1010 2 (getO u 0x3017 1)))

/-- 06 R223, R210 and 07 R258, R259, R261: the doorbells of the command rings, the size of a last store, the table commands. -/
def Sys2Proof.Claims.MemoryCommandsComplete : Prop :=
  ∀ (acc : Acc) (s : State),
    let u := served s acc
    (∀ ring v, mayWrite s acc (ringObj ring) 3 v = true →
      sub32 v (ringHead u ring) ≤ 2 ^ getO u (ringObj ring) 2 →
      exec (.commandRingDoorbell acc ring v) s = written s acc (ringObj ring) 3
        { u with memSt := if ring then { u.memSt with sTail := v } else { u.memSt with nsTail := v } }) ∧
    (∀ (die : Fin 16) v, mayWrite s acc 0x4002 (die.val + 1) v = true → slotsLoaded u = false →
      storeBarred u die.val v = false →
      exec (.lastStoreResize acc die v) s = written s acc 0x4002 (die.val + 1) 
        (sweepDie (setO (freeGained u die.val v) 0x4002 (die.val + 1) v) die.val)) ∧
    (compLive u = false → u.codec.state ≠ 1 →
      (mayWrite s acc 0x9061 1 1 = true →
        exec (.tableBuildFromObject acc) s = written s acc 0x9061 1 (startBuild u 1 (sampleObj u).1 (sampleObj u).2)) ∧
      (mayWrite s acc 0x9061 1 2 = true →
        exec (.tableBuildFromSample acc) s = written s acc 0x9061 1
          (match fwSample u with | some l => startBuild u 2 0 l | none => startBuild u 2 3 [])) ∧
      (mayWrite s acc 0x9061 1 3 = true →
        exec (.tableInvalidate acc) s = written s acc 0x9061 1 { u with codec := { u.codec with state := 0 } }) ∧
      (mayWrite s acc 0x9061 1 4 = true → (stagingMap u).getD 0 0 = 0 → getO u 0x9061 5 ≤ 3 →
        ((List.range 256).drop 1).all (fun x => ((stagingMap u).drop 1).contains x) = true →
        exec (.tableInstall acc) s = written s acc 0x9061 1
          (setO { u with codec := { u.codec with state := 2, smap := stagingMap u, k := getO u 0x9061 5 } } 0x9061 4
            (tableTag (stagingMap u) (getO u 0x9061 5)))))

/-- 08 R289, R291, R295, R296 and 09 R310: port commands, storage mode, queue pair commands, the pull doorbell, a route entry. A port
command takes the port down and gives back what it held, and where it retrains the port starts over as its settings say; a route entry
that requests wait on becomes pending, in place of one that is pending already. -/
def Sys2Proof.Claims.LinkCommandsComplete : Prop :=
  ∀ (acc : Acc) (s : State),
    let u := served s acc
    (∀ port : Port,
      let x := getPort u port.val
      let down := takeBack (setPort u port.val { PortSt.init with state := .down, cause := x.cause }) port.val x false
      (inRun u && portDeclared u port.val) = false →
      (mayWrite s acc (0x5000 + port.val) 9 1 = true →
        exec (.portRetrain acc port) s = written s acc (0x5000 + port.val) 9
          (if trainOk down then tryTraining down port.val else down)) ∧
      (mayWrite s acc (0x5000 + port.val) 9 2 = true →
        exec (.portTakeDown acc port) s = written s acc (0x5000 + port.val) 9 down)) ∧
    (∀ v, mayWrite s acc 0x5080 1 v = true → (v = 1 → fbit u.dev.straps.role 1 = true) →
      exec (.storageMode acc v) s = written s acc 0x5080 1 (setO u 0x5080 1 v)) ∧
    (∀ qp : Fin 64,
      let ctx := leNat (peek u (getO u 0x5090 1 + 64 * qp.val) 64)
      mayWrite s acc 0x5090 2 (qp.val + 256) = true → (getQp u qp.val).state = 0 → ctxOk ctx = true →
      exec (.qpMakeReady acc qp) s = written s acc 0x5090 2
        (setQp u qp.val { QueuePair.init with state := 1, ctx := ctx, sendPsn := cField ctx 16 3, recvPsn := cField ctx 16 3
                                              pulls := (getQp u qp.val).pulls })) ∧
    (∀ qp : Fin 64, mayWrite s acc 0x5090 2 (qp.val + 512) = true →
      exec (.qpReset acc qp) s = written s acc 0x5090 2 (resetQp u qp.val)) ∧
    (∀ v, mayWrite s acc 0x5090 5 v = true → sub32 v (getO u 0x5090 6) ≤ 2 ^ getO u 0x5090 4 →
      exec (.pullDoorbell acc v) s = written s acc 0x5090 5 { u with rdma := { u.rdma with tail := v } }) ∧
    (∀ v, mayWrite s acc 0x4041 2 v = true →
      let n := getO u 0x4041 1
      let e := field v 0 6 + field v 8 8 * 256
      exec (.routeEntryWrite acc v) s = written s acc 0x4041 2
        (if (mfind u.fab.pendRoutes n).isSome || u.fab.reqs.any (fun r => pDst r.2.pkt == n) then
          { u with fab := { u.fab with pendRoutes := mbind u.fab.pendRoutes n e } }
        else { u with fab := { u.fab with routes := mset 0 u.fab.routes n e } }))

/-- 10 R335, R337, R344, R346, R364: the manager role, commits, flush and cancel. A commit through a doorbell page changes the same
field and answers nothing. A flush raises the epoch, and what was committed before it keeps its own. -/
def Sys2Proof.Claims.ServingCommandsComplete : Prop :=
  ∀ (acc : Acc) (s : State),
    let u := served s acc
    (mayWrite s acc 0x6001 1 0 = true →
      exec (.managerRelease acc) s = written s acc 0x6001 1 (setRole (setRole u 0 false) 1 false)) ∧
    (fbit (getO u 0x1010 3) 0 = true →
      ((u.dev.mode = .standby ∨ u.dev.mode = .ready) →
        (mayWrite s acc 0x6001 1 1 = true →
          exec (.managerActive acc) s = written s acc 0x6001 1 (setRole (setRole u 0 true) 1 false)) ∧
        (mayWrite s acc 0x6001 1 2 = true →
          exec (.managerStandby acc) s = written s acc 0x6001 1 (setRole (setRole u 0 false) 1 true))) ∧
      (mayWrite s acc 0x6001 1 3 = true → fbit (getO u 0x1010 4) 1 = true → laceRuns u = true →
        u.lace.tick + max 8 (horizon u) ≤ getO u 0x6001 2 →
        exec (.managerTakeOver acc) s = written s acc 0x6001 1
          { u with serving := { u.serving with takeover := some (getO u 0x6001 2) } })) ∧
    (∀ (q : Fin 64) v, isManager s = true → field v 32 16 = (getSq s q.val).epoch →
      sub32 v (getSq s q.val).consumed ≤ 2 ^ getO s (0x6020 + q.val) 2 →
      (s.dev.mode ≠ .keeper → exec (.commitDoorbell acc q v true) s =
        .next (setSq s q.val { getSq s q.val with commit := v % 2 ^ 32 })) ∧
      (mayWrite s acc (0x6020 + q.val) 3 v = true →
        exec (.commitDoorbell acc q v false) s = written s acc (0x6020 + q.val) 3
          (setSq u q.val { getSq u q.val with commit := v % 2 ^ 32 }))) ∧
    (∀ q : Fin 64, mayWrite s acc (0x6020 + q.val) 5 1 = true → isManager u = true →
      exec (.queueFlush acc q) s = written s acc (0x6020 + q.val) 5
        (setSq u q.val (getSq u q.val).flush)) ∧
    (∀ x : SubQ, x.flush.epoch = (x.epoch + 1) % 65536 ∧ x.flush.commit = x.commit ∧ x.flush.consumed = x.consumed ∧
      (x.marks = [] → x.commit ≠ x.consumed → x.flush.itemEpoch = x.epoch)) ∧
    (∀ v, mayWrite s acc 0x6030 1 v = true → isManager u = true → (getEy u v).state ≠ 0 →
      exec (.cancelEyelet acc v) s = written s acc 0x6030 1
        { u with serving := { u.serving with cancels := u.serving.cancels ++ [v] } })

/-- 11 R388, R395: binding a route plan to a slot, or unbinding it, and arming a revision of a partition's plan. -/
def Sys2Proof.Claims.RoutingCommandsComplete : Prop :=
  ∀ (acc : Acc) (s : State),
    let u := served s acc
    (∀ (slot : Slot) v im, mayWrite s acc 0x3025 (slot.val + 1) v = true → (u.dev.mode = .ready ∨ u.dev.mode = .running) →
      slotActive u slot.val = false → (getSlot u slot.val).image = some im →
      (v = 0 → exec (.routePlanBind acc slot v) s = written s acc 0x3025 (slot.val + 1) (setO u 0x3025 (slot.val + 1) 0)) ∧
      (v ≠ 0 → bindCheck u slot.val v im = none → exec (.routePlanBind acc slot v) s = written s acc 0x3025 (slot.val + 1)
        (setO { u with routing := { u.routing with banks := mset 0 u.routing.banks slot.val 0 } } 0x3025 (slot.val + 1) v))) ∧
    (∀ e slot im pl,
      let p := getO u 0x3026 1
      mayWrite s acc 0x3026 3 e = true → (u.dev.mode = .ready ∨ u.dev.mode = .running) → (getPart u p).active = some slot →
      activeImage u p = some im → (im.lacePts.any (fun x => ptType x == 4)) = true → boundPlan u slot = some pl →
      u.lace.tick + horizon u ≤ e → bankGen u pl (1 - activeBank u slot) = getO u 0x3026 2 →
      bankOk u pl (sitesOf u pl) (1 - activeBank u slot) = true →
      exec (.revisionArm acc e) s = written s acc 0x3026 3
        { u with routing := { u.routing with revs := mbind u.routing.revs p ⟨getO u 0x3026 2, e, im.lastId⟩ } })

/-- 12 R412 to R417: an image command in a state that permits it takes its effect on the selected entry, and its reason, its detail
and the entry's next state stand for IMAGE_COMMAND_COMPLETE. DEMOTE, EVICT and CLOSE need that no loaded last lists an object of the
entry. -/
def Sys2Proof.Claims.ImageCommandsComplete : Prop :=
  ∀ (acc : Acc) (s : State),
    let u := served s acc
    let i := getO u 0xa020 2
    let e := getImg u i
    let ends := fun (c : Nat) (x : ImgRes) => written s acc 0xa020 4
      (setO { x.1 with imgCmd := some ⟨i, c, x.2.1, x.2.2.1, x.2.2.2⟩ } 0xa020 5 1)
    (u.dev.mode = .ready ∨ u.dev.mode = .running) → u.imgCmd = none →
    (mayWrite s acc 0xa020 4 1 = true → (e.state = 0 ∨ e.state = 5) → exec (.openImage acc) s = ends 1 (openImg u i)) ∧
    (mayWrite s acc 0xa020 4 2 = true → (e.state = 1 ∨ e.state = 4) → exec (.sealImage acc) s = ends 2 (sealImg u i)) ∧
    (mayWrite s acc 0xa020 4 3 = true → e.state = 3 → e.residency = 2 → listedObj u e (some 1) = none →
      exec (.demoteImage acc) s = ends 3 (demoteImg u i, 0, 0, 3)) ∧
    (mayWrite s acc 0xa020 4 4 = true → e.state = 3 → e.residency = 1 →
      exec (.pinImage acc) s = ends 4 ((pinImg u i).1, if (pinImg u i).2 then (0, 0, 3) else (0x0b, 0x83, 3))) ∧
    (mayWrite s acc 0xa020 4 5 = true → (e.state = 1 ∨ e.state = 3 ∨ e.state = 4) → listedObj u e none = none →
      exec (.evictImage acc) s = ends 5 (evictImg u i, 0, 0, 5)) ∧
    (mayWrite s acc 0xa020 4 6 = true → e.state ≠ 2 → listedObj u e none = none →
      exec (.closeImage acc) s = ends 6 (setImg (destroyImage u e) i ImgEnt.init, 0, 0, 0))

/-- 12 R421 to R424: the partition commands. A DEFINE needs room for its direct regions and free clusters; RELEASE empties the
cluster words; CLEAR empties range and share. The changed persist values are kept. -/
def Sys2Proof.Claims.PartitionCommandsComplete : Prop :=
  ∀ (acc : Acc) (s : State),
    let u := served s acc
    let p := getO u 0xa008 1
    let done := fun (t : State) => written s acc 0xa008 3 (keepPart t p)
    (u.dev.mode = .standby ∨ u.dev.mode = .ready) →
    (∀ rs, mayWrite s acc 0xa008 3 1 = true → partState u p ≠ 1 → getO u 0xa008 2 ≤ (clusterOrder u p).length →
      placeRegions u p = some rs →
      exec (.defineCount acc) s =
        done (defined u p 1 (sortBy (fun a b => a ≤ b) ((clusterOrder u p).take (getO u 0xa008 2))) rs)) ∧
    (∀ rs, mayWrite s acc 0xa008 3 2 = true → partState u p ≠ 1 → setFit u p = true → placeRegions u p = some rs →
      exec (.defineSet acc) s = done (defined u p 2 (namedClusters u p) rs)) ∧
    (mayWrite s acc 0xa008 3 3 = true → partState u p = 1 → lastOf u p = false →
      exec (.releasePartition acc) s = done (released u p)) ∧
    (mayWrite s acc 0xa008 3 4 = true → partState u p = 2 → (u.memSt.objs.any (fun e => e.2.partition == p)) = false →
      exec (.clearPartition acc) s = done (cleared u p))

/-- 14 R474, R475, 18 R581, R586, R587 and 13 R452: the writes of object 0x2001 from the states that take them, the package reset by
command outside ALARM, firmware ready, and the image check. Clauses of KEEPER, STANDBY, HALTED and ALARM stand beside those of the
running states; a write of the state in force changes nothing but clears an armed RUNNING in READY. -/
def Sys2Proof.Claims.StateCommandsComplete : Prop :=
  ∀ (acc : Acc) (s : State),
    let u := served s acc
    let m := u.dev.mode
    let ready := setMode { u with parts := u.parts.map (fun e => (e.1, { e.2 with active := none, runs := false })) } .ready 1 0
    let trains := setO (selfTest (setO { u with dev := { u.dev with target := some .ready, dramDone := false } } 0x2004 5 0)) 0x2004 1 2
    let up := goUp { u with dev := { u.dev with target := some .standby, fwReady := false } } 0
    (u.dev.target = none → (m = .alarm → acc.secure = true) →
      (mayWrite s acc 0x2001 0 1 = true →
        (m = .keeper → exec (.stateCommandKeeper acc) s = written s acc 0x2001 0 u) ∧
        (m = .standby ∨ m = .ready ∨ m = .halted →
          exec (.stateCommandKeeper acc) s = written s acc 0x2001 0 (packageReset u 4))) ∧
      (mayWrite s acc 0x2001 0 2 = true →
        (m = .keeper → exec (.stateCommandStandby acc) s = written s acc 0x2001 0 up) ∧
        (m = .standby → exec (.stateCommandStandby acc) s = written s acc 0x2001 0 u) ∧
        (m = .ready ∨ m = .halted → exec (.stateCommandStandby acc) s = written s acc 0x2001 0 (beginStandby u)) ∧
        (m = .alarm → (∀ e ∈ u.sec.condUntil, 1 ≤ e.1 → e.1 ≤ 4 → fbit (getO u 0x7110 1) e.1 = true → e.2 ≤ u.now) →
          exec (.stateCommandStandby acc) s = written s acc 0x2001 0 (beginStandby u))) ∧
      (mayWrite s acc 0x2001 0 3 = true →
        (m = .standby → exec (.stateCommandReady acc) s = written s acc 0x2001 0 trains) ∧
        (m = .ready → exec (.stateCommandReady acc) s = written s acc 0x2001 0 { u with dev := { u.dev with armed := false } }) ∧
        (m = .halted → exec (.stateCommandReady acc) s = written s acc 0x2001 0 ready)) ∧
      (mayWrite s acc 0x2001 0 4 = true →
        (m = .ready → laceUnfit u = false → floorShort u = false →
          exec (.stateCommandRunning acc) s = written s acc 0x2001 0 { u with dev := { u.dev with armed := true } }) ∧
        (m = .running → exec (.stateCommandRunning acc) s = written s acc 0x2001 0 u) ∧
        (m = .draining → exec (.stateCommandRunning acc) s = written s acc 0x2001 0 { u with dev := { u.dev with target := some .running } })) ∧
      (mayWrite s acc 0x2001 0 5 = true →
        (m = .running → exec (.stateCommandDraining acc) s = written s acc 0x2001 0 { u with dev := { u.dev with target := some .draining } }) ∧
        (m = .draining → exec (.stateCommandDraining acc) s = written s acc 0x2001 0 u))) ∧
    (mayWrite s acc 0x2003 2 1 = true → exec (.resetCommand acc) s = written s acc 0x2003 2 (packageReset u 3)) ∧
    (mayWrite s acc 0x2003 5 1 = true → m = .keeper → u.dev.target = some .standby → u.dev.boot = .firmware →
      exec (.firmwareReady acc) s = written s acc 0x2003 5 { u with dev := { u.dev with fwReady := true } }) ∧
    (mayWrite s acc 0x1020 3 1 = true → (m = .ready ∨ m = .running) → u.imgCheck = none →
      exec (.imageCheck acc) s = written s acc 0x1020 3
        (setO (setO { u with imgCheck := some (getO u 0x1020 1, getO u 0x1020 2) } 0x1020 4 1) 0x1020 5 0))

/-- 01 R21, 15 R499, R501, R504, R512, R513: the secure commands. Programming a fuse begins; a key slot takes the staged value, a derived
one, or is cleared; the arming level changes, and in ALARM the added actions are carried out. -/
def Sys2Proof.Claims.SecurityCommandsComplete : Prop :=
  ∀ (acc : Acc) (s : State),
    let u := served s acc
    let k := getO u 0x7040 1
    let keys := fun (l : SMap (List Byte)) => written s acc 0x7040 2 { u with sec := { u.sec with slots := l, keyVal := none } }
    (∀ v, mayWrite s acc 0x2012 1 v = true → v % 32 < 20 →
      exec (.markUnhealthy acc v) s = written s acc 0x2012 1 (markUnhealthy u (v / 32) (v % 32) 4)) ∧
    (u.sec.programming = none →
      (∀ v, mayWrite s acc 0x7030 1 v = true → u.sec.shadow.svnMin ≤ v → v ≤ getO u 0x1020 7 →
        exec (.raiseMinimumSvn acc v) s = written s acc 0x7030 1 { u with sec := { u.sec with programming := some (1, v) } }) ∧
      (∀ h, mayWrite s acc 0x7030 2 h = true → h ≠ u.sec.bootKey →
        exec (.revokeKeyHash acc h) s = written s acc 0x7030 2 { u with sec := { u.sec with programming := some (2, h) } })) ∧
    (slotInUse u k = false →
      (∀ b, mayWrite s acc 0x7040 2 1 = true → u.sec.keyVal = some b →
        exec (.keyWrite acc) s = keys (mbind u.sec.slots k b)) ∧
      (∀ ikm, mayWrite s acc 0x7040 2 2 = true → getO u 0x7040 4 ≠ k →
        (if getO u 0x7040 4 = 0xff then some u.sec.shadow.uds else mfind u.sec.slots (getO u 0x7040 4)) = some ikm →
        exec (.keyDerive acc) s = keys (mbind u.sec.slots k (hkdf ikm (u.sec.salt.getD (List.replicate 48 0)) u.sec.info))) ∧
      (mayWrite s acc 0x7040 2 3 = true → exec (.keyClear acc) s = keys (u.sec.slots.filter (fun e => e.1 != k)))) ∧
    (∀ v, mayWrite s acc 0x7100 0 v = true → u.sec.shadow.alarmFloor ≤ v →
      (getO u 0x7100 0 ≤ v ∨ u.dev.mode = .standby ∨ u.dev.mode = .ready) →
      (u.dev.mode ≠ .alarm → exec (.armingLevel acc v) s = written s acc 0x7100 0 (setO u 0x7100 0 v)) ∧
      (u.dev.mode = .alarm →
        let t := alarmActions (setO u 0x7100 0 v) v
        exec (.armingLevel acc v) s = written s acc 0x7100 0
          (if v = 4 ∧ u.sec.level < 4 then
            raise (count t 0x3060 6 1) 0x3109 (f16 (pnode t) ++ f16 4 ++ f64 t.lace.tick ++ f16 t.lace.phase) else t)))

/-- 16 R528, R530, R539, 17 R545, R561 and 14 R485, R486: the event queue's head and enable, the operating point command, the pre-ramp,
and the persist commands. A FREQ is flooded and the change begins here as at every receiver. -/
def Sys2Proof.Claims.QueuePowerPersistComplete : Prop :=
  ∀ (acc : Acc) (s : State),
    let u := served s acc
    let r := reqOf s acc
    (∀ v (hart : Option Hart), mayWrite s acc 0x8000 4 v = true →
      (sub32 v (getO u 0x8000 3) ≤ 2 ^ getO u 0x8000 2 ∨ 2 ^ 31 ≤ sub32 v (getO u 0x8000 3)) →
      exec (.eventQueueHead acc v hart) s = written s acc 0x8000 4
        (reportLoss (match hart with
          | some h => if hartKey h = meipHart (setO u 0x8000 4 v) then
              { setO u 0x8000 4 v with events := { u.events with meip := mset false u.events.meip (hartKey h) false } }
            else setO u 0x8000 4 v
          | none => setO u 0x8000 4 v))) ∧
    (∀ v, mayWrite s acc 0x8000 5 v = true →
      exec (.eventQueueEnable acc v) s = written s acc 0x8000 5
        (if v = 1 ∧ queueOn u = false then flushHold (setO u 0x8000 5 v) else setO u 0x8000 5 v)) ∧
    (∀ e, mayWrite s acc 0x2200 2 e = true → isManager u = true → (u.dev.mode = .ready ∨ u.dev.mode = .running) →
      laceRuns u = true → getO u 0x2200 1 ≤ getO u 0x2200 3 → aboveActive u (getO u 0x2200 1) = false →
      40 * usec ≤ (e - u.lace.tick) * u.lace.tickLen * cycleLen u → u.lace.tick + max 16 (horizon u) ≤ e →
      exec (.freqCommand acc e) s = written s acc 0x2200 2 (beginChange (announced u 0x23 e (getO u 0x2200 1)) (getO u 0x2200 1))) ∧
    (mayWrite s acc 0x2110 1 1 = true →
      exec (.preRampStart acc) s = written s acc 0x2110 1 { u with power := { u.power with preRamp := true } }) ∧
    (mayWrite s acc 0x2110 1 0 = true →
      exec (.preRampStop acc) s = written s acc 0x2110 1 { u with power := { u.power with preRamp := false } }) ∧
    (mayWrite s acc 0x1030 1 1 = true →
      exec (.persistExport acc) s = written s acc 0x1030 1
        (setO { u with relum := { u.relum with pstage := mputs 0 [] 0 (persistRecord u r.secure) } } 0x1030 2
          (persistRecord u r.secure).length)) ∧
    (∀ t, mayWrite s acc 0x1030 1 2 = true → u.dev.mode = .standby →
      let h := mrange 0 u.relum.pstage 0 16
      let n := fieldB h 6 2
      let body := mrange 0 u.relum.pstage 16 (12 * n)
      fieldB h 0 4 = 0x53524550 → fieldB h 4 2 = 1 → 16 + 12 * n ≤ 16384 → fieldB h 8 4 = crc32 body → fieldB h 12 4 = 0 →
      importAll r ((List.range n).map (fun k => sub body (12 * k) 12)) 0 u = (t, none) →
      exec (.persistImport acc) s = written s acc 0x1030 1 (setO { t with persistLost := false } 0x1030 5 0)) ∧
    (mayWrite s acc 0x1030 1 3 = true → u.dev.mode = .standby →
      exec (.persistDefaults acc) s = written s acc 0x1030 1
        ((persistEntries r.secure).foldl (fun x e =>
          { setO x e.2.1 e.2.2 (rowDefault e.1 e.2.1 e.2.2) with persist := mdrop x.persist (okey e.2.1 e.2.2) }) u))

/-- 14 R482, R484 and 00 R10, R12: a WRITE of a numeric entry whose checks pass and whose object's rule accepts the value takes that
object's effect, and answers success; a DOM entry takes its bytes. Every command that is a write of one object is this write. Bits that
an entry marks reserved are ignored: the write is that of the value without them. -/
def Obligations.WriteAccepted : Prop :=
  (∀ (acc : Acc) (i sub v : Nat) (s t : State) (row : ObjRow), findRow i sub = some row → mayWrite s acc i sub v = true →
    ¬ (i = 0x1030 ∧ sub = 1) → wrAny (served s acc) (reqOf s acc) i sub v = (t, 0) →
    exec (.objectWriteGeneric acc i sub (leBytes row.size v)) s = written s acc i sub t ∧
      writeObj acc i sub v s = written s acc i sub t) ∧
  (∀ (acc : Acc) (i sub v : Nat) (s : State) (row : ObjRow), findRow i sub = some row → highReserved i sub = true → v < 256 ^ row.size →
    let w := v % (row.hi.toNat + 1)
    exec (.objectWriteGeneric acc i sub (leBytes row.size v)) s = exec (.objectWriteGeneric acc i sub (leBytes row.size w)) s ∧
      writeObj acc i sub v s = writeObj acc i sub w s) ∧
  (∀ (acc : Acc) (i sub : Nat) (data : List Byte) (s : State) (row : ObjRow), findRow i sub = some row → row.acc ≠ .ro →
    isData row.ty = true → 0 < data.length → data.length ≤ row.size → pathServed s (reqOf s acc) = true →
    worldBar (reqOf s acc) i sub = false → lockBar s (reqOf s acc) i = false → stateOk s row = true →
    alarmBar s (reqOf s acc) i = false →
    exec (.objectWriteGeneric acc i sub data) s = written s acc i sub (wrData (served s acc) row i sub data))

/-- 00 R12, 14 R482: the checks of a write in their order. On a served path the first check that fails names the abort code, and the
state is as before but for the counters of objects 0x1051 (a write from the wrong world may also count as a world violation, 15
R507; a reset command in ALARM is logged, 18 R582). -/
def Obligations.WriteAborts : Prop :=
  ∀ (acc : Acc) (i sub : Nat) (data : List Byte) (s : State),
    let r := reqOf s acc
    let u := served s acc
    let aborts := fun (t : State) (code : Nat) => exec (.objectWriteGeneric acc i sub data) s =
      .next (emit (count t 0x1051 7 1) (.status code))
    pathServed s r = true →
    (worldBar r i sub = true → getO u 0x7110 4 ≠ 1 → aborts u 0x0501) ∧
    (worldBar r i sub = false →
      (findRow i sub = none → topSub i = none → aborts u 0x0101) ∧
      (∀ top, findRow i sub = none → topSub i = some top → aborts u (if sub = 0 then 0x0201 else 0x0102)) ∧
      (∀ row, findRow i sub = some row →
        (row.acc = .ro → aborts u 0x0201) ∧
        (row.acc ≠ .ro →
          (isData row.ty = false → data.length ≠ row.size → aborts u 0x0301) ∧
          (isData row.ty = true → (data = [] ∨ row.size < data.length) → aborts u 0x0301) ∧
          ((if isData row.ty then 0 < data.length ∧ data.length ≤ row.size else data.length = row.size) →
            (lockBar s r i = true → aborts u 0x0402) ∧
            (lockBar s r i = false → (stateOk s row = false ∨ alarmBar s r i = true) →
              ¬ (i = 0x2003 ∧ sub = 2 ∧ s.dev.mode = .alarm) → aborts u 0x0401)))))

/-! ## Cores, clusters and the schedule -/

namespace Sys2Proof.Claims
open Sys2Proof.Machine

/-- The op word at stream position `ix` of a core is the one that its sequencer comes to in this cycle (03 R107): the word's partition
runs, its image `im` stands at period tick `pt`, the word is listed there with this schedule cycle as its ISSUE, and nothing after it was
issued. -/
def stands (s : State) (core : CoreRef) (ix : Nat) (im : Image) (pt : Nat) : Prop :=
  ∃ p w0, partOf s core.lcl.val = some (p, im) ∧ pt = periodTick s p im ∧
    (segment im core.lcl.val core.core.val pt).find? (fun e => e.1 == ix) = some (ix, w0) ∧
    clusterGoes s core.lcl.val = true ∧ wIssue w0 = schedCyc s core.lcl.val ∧ (getCore s core.lcl.val core.core.val).pos ≤ ix

/-- The cluster's waiters of the cycle are taken, rings read on, results that are due are readable (04 R129, 03 R92, R110). -/
def operandsReady (s : State) (core : CoreRef) (im : Image) (pt : Nat) : State :=
  commitDue (ringStep (takeCycle s core.lcl.val im pt).1 core.lcl.val core.core.val) core.lcl.val core.core.val im

/-- An op word issues: it stands there with a right CHK, its cycle's bits are set and its resources are free (03 R107, R109). -/
def issues (s : State) (core : CoreRef) (ix : Nat) (w : Word128) (im : Image) (pt : Nat) : Prop :=
  stands s core ix im pt ∧ chkOk w = true ∧ (takeCycle s core.lcl.val im pt).2 = true ∧
    resourceFree (operandsReady s core im pt) core.lcl.val core.core.val w
      (getCore (operandsReady s core im pt) core.lcl.val core.core.val).descs = true

/-- The state in which the word leaves the sequencer: its WAIT bit is clear and the stream stands behind it. -/
def sequenced (s : State) (core : CoreRef) (ix : Nat) (w : Word128) (im : Image) (pt : Nat) : State :=
  let l := core.lcl.val
  let c := core.core.val
  let u := operandsReady s core im pt
  let u := if wWaitEn w then sbSet u l c (wWaitBit w) false else u
  setCore u l c { getCore u l c with pos := ix + 1 }

end Sys2Proof.Claims

/-- 03 R86, R88, R107, R109: NOP and SETDESC issue. NOP changes nothing but the issue counter; SETDESC writes the descriptor that it names
with the word's bits 119:33. A word that stands there with a wrong CHK is not executed: the stream goes on behind it and event
0x3201 is raised. -/
def Sys2Proof.Claims.NopAndSetdescComplete : Prop :=
  ∀ (core : CoreRef) (ix : Nat) (w : Word128) (s : State) (im : Image) (pt : Nat),
    let l := core.lcl.val
    let c := core.core.val
    let t := count (sequenced s core ix w im pt) 0x9041 1 1
    (issues s core ix w im pt →
      (wOpc w = 0 → exec (.opNop core ix w) s = .next t) ∧
      (wOpc w = 1 → exec (.setdesc core ix w) s =
        .next (setCore t l c { getCore t l c with descs := mbind (getCore t l c).descs (field w.toNat 29 4) (descOf w) }))) ∧
    (stands s core ix im pt → chkOk w = false →
      exec (.opNop core ix w) s = .next (badWord s l c ix w) ∧ exec (.setdesc core ix w) s = .next (badWord s l c ix w) ∧
        exec (.matmul core ix w) s = .next (badWord s l c ix w))

/-- 03 R89, R93 to R104, R107, R110: every operation of the op-word table issues where its word carries its opcode (and its function
number), and what it does from there is the issue of an operation: it takes its resources for its occupancy and an entry in flight with
the latched descriptors, the rows whose slot-mask bit is set and the time at which its results are readable. -/
def Sys2Proof.Claims.OperationsComplete : Prop :=
  ∀ (core : CoreRef) (ix : Nat) (w : Word128) (s : State) (im : Image) (pt : Nat), issues s core ix w im pt →
    let runs := fun (i : Instr) => exec i s =
      .next (issueOp (sequenced s core ix w im pt) core.lcl.val core.core.val im pt ix w)
    (wOpc w = 2 → runs (.matmul core ix w)) ∧ (wOpc w = 3 → runs (.packmm core ix w)) ∧
    (wOpc w = 4 → runs (.requant core ix w)) ∧ (wOpc w = 5 → runs (.rotate core ix w)) ∧
    (wOpc w = 6 →
      (vectFn w = 0 → runs (.vectAdd core ix w)) ∧ (vectFn w = 1 → runs (.vectSub core ix w)) ∧
      (vectFn w = 2 → runs (.vectMul core ix w)) ∧ (vectFn w = 3 → runs (.vectMax core ix w)) ∧
      (vectFn w = 4 → runs (.vectMin core ix w)) ∧ (vectFn w = 5 → runs (.vectExp core ix w)) ∧
      (vectFn w = 6 → runs (.vectRecip core ix w)) ∧ (vectFn w = 7 → runs (.vectRsqrt core ix w)) ∧
      (vectFn w = 8 → runs (.vectSilu core ix w)) ∧ (vectFn w = 9 → runs (.vectTanh core ix w)) ∧
      (vectFn w = 10 → runs (.rowsum core ix w)) ∧ (vectFn w = 11 → runs (.rowmax core ix w)) ∧
      (vectFn w = 12 → runs (.vectCopy core ix w)))

/-- 03 R117, R614: an operation that uses a descriptor that no SETDESC wrote since the last loss of it does not execute: it takes its
resources, and event 0x3202 is raised once per core and tick, or counted as withheld. One whose descriptors are all written counts as
issued, and as many activity units as its work has. -/
def Obligations.IssueOfAnOperation : Prop :=
  ∀ (s : State) (l c pt ix : Nat) (im : Image) (w : Word128),
    let descs := (getCore s l c).descs
    let bare := count (occupy s l c w descs) 0x9041 5 1
    (∀ d, (opUses w).find? (fun d => (mfind descs d).isNone) = some d →
      issueOp s l c im pt ix w =
        if (getCore bare l c).reported then suppress bare 0x3202
        else raise (setCore bare l c { getCore bare l c with reported := true }) 0x3202
          (f16 l ++ f8 c ++ f64 bare.lace.tick ++ f32 ix ++ f8 d)) ∧
    ((opUses w).all (fun d => (mfind descs d).isSome) = true →
      ∃ (u : State) (f : InFlight), issueOp s l c im pt ix w = setCore u l c { getCore u l c with
          flight := (getCore u l c).flight ++ [f],
          latched := if isConsumer im l c ix then mbind (getCore u l c).latched ix f else (getCore u l c).latched } ∧
        f.ix = ix ∧ f.w = w ∧ f.descs = descs ∧ u.power.units = s.power.units + opUnits w descs ∧
        f.due = f.issued + opLat w descs)

/-- 02 R69 to R74 and 03 R96, R110: an operation whose latency has passed and whose reads are done completes; the flags on their way reach the resole unit in their
order; a resole window opens in its cycle, its recomputation ends after its cost, and it closes with its undone rows reported. -/
def Sys2Proof.Claims.CompletionAndResoleComplete : Prop :=
  ∀ (core : CoreRef) (ix : Nat) (s : State) (p : Nat) (im : Image),
    let l := core.lcl.val
    let c := core.core.val
    let r := (getCl s l).resole
    exec (.resoleFlagArrival core.lcl) s =
      .next (setResole s l { r with transit := [], flags := sortBy flagBefore (r.flags ++ r.transit) }) ∧
    (partOf s l = some (p, im) →
      (∀ f, (getCore s l c).flight.find? (fun f => f.ix == ix) = some f → f.due ≤ clTime s l → unitsRead f = true →
        exec (.operationComplete core ix) s = .next (commit s l c im f)) ∧
      (∀ w u q, windowHere im l (periodTick s p im) (schedCyc s l) = some w →
        atCycle s l (periodTick s p im) (schedCyc s l) = (u, some q) → (getCl u l).resole.window = none →
        exec (.resoleWindowOpen core.lcl) s = .next (openWindow u l im w)) ∧
      (clusterGoes s l = true →
        (∀ f lev at', r.work = some (f, lev, at') → at' ≤ clTime s l →
          exec (.resoleRecomputationDone core.lcl) s = .next (endWork s l p im)) ∧
        (∀ w b close, r.window = some (w, b, close) → close ≤ clTime s l →
          exec (.resoleWindowClose core.lcl) s = .next (closeWindow (match r.work with
            | some (_, _, e) => if e ≤ clTime s l then endWork s l p im else s
            | none => s) l im))))

/-- 04 R129, R131, 05 R182, 17 R553: at a point of its schedule that a cluster stands at, a clear bit among the waiters of that cycle
begins a hold and nothing of the cycle happens, as in a cluster that is not awake yet (log entry 108); where every bit is set the hold
ends and the cycle's actions take place, found once for the cycle. A cluster that stands elsewhere, or that does not run, takes nothing. -/
def Obligations.WaitersGateTheCycle : Prop :=
  ∀ (s : State) (l pt c p : Nat) (im : Image), partOf s l = some (p, im) →
    let now := (s.lace.tick, schedCyc s l)
    let ws := waiters s im l pt (schedCyc s l)
    ((clusterGoes s l && decide (periodTick s p im = pt) && decide (schedCyc s l = c)) = false → atCycle s l pt c = (s, none)) ∧
    (clusterGoes s l = true → periodTick s p im = pt → schedCyc s l = c →
      ((getCl s l).passed = some now → atCycle s l pt c = (s, some (p, im))) ∧
      ((getCl s l).passed ≠ some now → (getCl s l).asleep = true → atCycle s l pt c = (beginHold s l 0xff 0xff pt, none)) ∧
      ((getCl s l).passed ≠ some now → (getCl s l).asleep = false →
        (∀ w, ws.find? (fun w => !sbGet s l w.1 w.2) = some w → atCycle s l pt c = (beginHold s l w.1 w.2 pt, none)) ∧
        (ws.all (fun w => sbGet s l w.1 w.2) = true →
          atCycle s l pt c = (setCl s l { getCl s l with hold := none, passed := some now }, some (p, im)))))

/-- 04 R126, R129, R133, R135, 06 R237 to R243: an arrival sets its bit, and the last clear one ends the hold; a transfer starts at its
SEND, an awl descriptor at its START, a reduction at its START and its contributions in list order, each where its waiters are set
(`atCycle`, of the statement above); a transfer or descriptor whose port or channel is occupied starts when it is free; a descriptor
completes at its cycle, a reduction when its time has passed. -/
def Sys2Proof.Claims.ScheduledActionsComplete : Prop :=
  ∀ (s u : State) (q : Nat × Image),
    (∀ (core : CoreRef) bit,
      let t := Sys2Proof.Machine.arrive s core.lcl.val core.core.val bit
      exec (.arrival core bit) s = .next (match partOf t core.lcl.val with
        | some (p, im) => if (getCl t core.lcl.val).hold.isSome then (takeCycle t core.lcl.val im (periodTick t p im)).1 else t
        | none => t)) ∧
    (∀ (part : Part) ix im e, activeImage s part.val = some im → im.xfer[ix]? = some e → (getPart s part.val).runs = true →
      xferBegun s (xPort e) ix = false → atCycle s (xLcl e) (xPtick e) (xSend e) = (u, some q) →
      exec (.transferStart part ix) s = .next (startTransfer (commitDue
        (if xWaitEn e then sbSet u (xLcl e) (xCore e) (xWaitBit e) false else u) (xLcl e) (xCore e) im) ix e)) ∧
    (∀ (lcl : Lcl),
      (∀ ix p im e, ix ≠ 0xffff → partOf s lcl.val = some (p, im) → im.awl[ix]? = some e → aLcl e = lcl.val →
        routeOf s p ix = none → awlBegun s lcl.val ix = false →
        atCycle s lcl.val (aPtick e) (aStart e) = (u, some q) →
        let v := (List.range 64).foldl (fun x c => commitDue x lcl.val c im)
          (if aWaitEn e then sbSet u lcl.val (aCore e) (aWaitBit e) false else u)
        exec (.awlDescriptorStart lcl ix) s = .next (startLate (scheduleAwl v lcl.val ix e
          (awlRow v lcl.val e (some (match (getPart v p).active with | some n => (getSlot v n).pinned | none => []))) none) lcl.val)) ∧
      (∀ e owner r, (getAwl s lcl.val).queue = (e, owner) :: r → clusterRuns s lcl.val = false → s.dev.mode ≠ .keeper →
        s.dev.mode ≠ .standby →
        let v := setAwl s lcl.val { getAwl s lcl.val with queue := r }
        exec (.awlDescriptorStart lcl 0xffff) s =
          .next (refillQueue (startAwl v lcl.val 0xffff 0xffff e owner (awlRow v lcl.val e none)) lcl.val)) ∧
      (∀ ix f, (getAwl s lcl.val).flight.find? (fun f => f.ix == ix && decide (f.due ≤ s.cyc)) = some f →
        exec (.awlDescriptorComplete lcl ix) s = .next (completeAwl s lcl.val f))) ∧
    (∀ (part : Part) ix im h ws, activeImage s part.val = some im → im.reduce[ix]? = some (h, ws) →
      ((getPart s part.val).runs = true → (∀ r ∈ (getAwl s (rLcl h)).reds, r.ix ≠ ix) →
        atCycle s (rLcl h) (rPtick h) (rStart h) = (u, some q) →
        exec (.reductionStart part ix) s = .next (setAwl u (rLcl h) { getAwl u (rLcl h) with
          reds := (getAwl u (rLcl h)).reds ++
            [⟨ix, 0, List.replicate (rElem h) 0, clTime u (rLcl h) + 16 + rNc h * (rElem h / 32)⟩] })) ∧
      (∀ r, (getAwl s (rLcl h)).reds.find? (fun r => r.ix == ix) = some r →
        (rNc h ≤ r.next → clusterGoes s (rLcl h) = true → r.doneAt ≤ clTime s (rLcl h) →
          exec (.reductionContribution part ix) s = .next (finishRed s (rLcl h) h r)) ∧
        (r.next < rNc h → atCycle s (rLcl h) (redAt im h r.next).1 (redAt im h r.next).2 = (u, some q) →
          let a := field (ws.getD r.next 0) 0 16
          let n := p16RowBytes (rElem h / 32)
          let v := (ecc (sbSet u (rLcl h) (rCore h) (contribBit (h, ws) r.next) false) 0xffff (spadAddr (rLcl h) (rCore h) a) n).1
          let x := p16Row (spadGet v (rLcl h) (rCore h) a n) (rElem h)
          exec (.reductionContribution part ix) s = .next (setRed (badP16 v 1 r.ix (rLcl h) 0xff 0xff x.2) (rLcl h) { r with
            next := r.next + 1, row := List.zipWith f32Add r.row x.1 }))))

/-- 04 R137, R141, R142, 10 R352 to R355, R367, R377, 11 R396: what each kind of lace point does where its partition stands at it. A MASK
point works in every named cluster; ADMIT, SAMPLE and REPLAY act once in the tick on the active manager (`pointGo`), ADMIT with one
free value for the bytes of a record that has no request; an EXPERT point takes the armed revision from its tick on, or drops it
after a switch. -/
def Sys2Proof.Claims.LacePointsComplete : Prop :=
  ∀ (part : Part) (ix : Nat) (s u : State) (l g : Nat) (im : Image),
    (∀ e, activeImage s part.val = some im → im.lacePts[ix]? = some e → ptType e = 1 →
      exec (.maskPoint part ix) s = .next (im.clusterMap.foldl (fun x l =>
        if !ptNames e l then x
        else match atCycle x l (ptPtick e) (ptCycle e) with
          | (x, some (p, _)) => if p = part.val then maskCluster x p l im else x
          | (x, none) => x) s)) ∧
    (pointGo s part.val ix 2 = (u, some (l, im, g)) → (sampleEnt u part.val g).valid = true →
      exec (.admitPoint part ix) s = .next ((List.range im.slotsPer).foldl (fun x i =>
        feedSlot l (sampleEnt u part.val g) part.val (g * im.slotsPer + i) i (fresh u).1 x) (fresh u).2)) ∧
    (pointGo s part.val ix 3 = (u, some (l, im, g)) → (sampleEnt u part.val g).valid = true →
      let e := sampleEnt u part.val g
      let x := ((List.range im.slotsPer).map (fun i => slotKey part.val (g * im.slotsPer + i))).foldl (meetSlot e.depth) (u, [])
      let late := x.1.serving.samplerBusy - x.1.cyc
      let v := if late = 0 then x.1
        else raise (count x.1 0x6070 0x0a 1) 0x6005 (f8 g ++ f8 part.val ++ f64 x.1.lace.tick ++ f32 late)
      let fin := max v.cyc v.serving.samplerBusy + samplerTime im.slotsPer e.vocab
      exec (.samplePoint part ix) s = .next { v with serving := { v.serving with
        samplerBusy := fin,
        jobs := if x.2 = [] then v.serving.jobs else v.serving.jobs ++ [⟨part.val, g, v.lace.tick, fin, x.2⟩] } }) ∧
    (pointGo s part.val ix 7 = (u, some (l, im, g)) →
      exec (.replayPoint part ix) s = .next { u with serving := { u.serving with slots := u.serving.slots.map (fun y =>
        if y.1 / 65536 = part.val && y.1 % 65536 / max 1 im.slotsPer = g && y.2.replay ≤ u.lace.tick then
          (y.1, { y.2 with replay := 0 }) else y) } }) ∧
    (∀ e slot rv, activeImage s part.val = some im → (getPart s part.val).active = some slot →
      mfind s.routing.revs part.val = some rv → im.lacePts[ix]? = some e → ptType e = 4 → (getPart s part.val).runs = true →
      periodTick s part.val im = ptPtick e → s.lace.phase = ptCycle e → rv.tick ≤ s.lace.tick →
      let v := { s with routing := { s.routing with revs := mdrop s.routing.revs part.val } }
      exec (.expertPoint part ix) s = .next (
        if im.lastId ≠ rv.lastId then raise (count v 0x3070 7 1) 0x3303 (f8 part.val ++ f32 rv.gen)
        else
          let b := 1 - activeBank v slot
          let v := { v with routing := { v.routing with banks := mset 0 v.routing.banks slot b } }
          raise (count v 0x3070 6 1) 0x3302 (f8 part.val ++ f32 rv.gen ++ f8 b)))

/-- 17 R549 to R553: the hints of a last. A cluster falls asleep with its scratchpad undefined and its scoreboard clear and keeps its
mask; a port falls asleep; a wake-up starts LEAD ticks before its PTICK and completes, reported where it is late. -/
def Sys2Proof.Claims.SleepAndWakeComplete : Prop :=
  ∀ (part : Part) (ix h : Nat) (s : State),
    let t := hTarget h
    (hintAt s part.val ix 0 = some h →
      (hKind h = 1 → (getCl s t).asleep = false →
        exec (.sleepStart part ix) s = .next (sleepCluster s t)) ∧
      (hKind h = 3 →
        exec (.portSleep part ix) s = .next (modPort s t (fun x => { x with asleep := true, lateAt := 0 })))) ∧
    (hintAt s part.val ix 1 = some h →
      (hKind h = 0 → (getCl s t).asleep = true →
        exec (.wakeUpStart part ix) s = .next (modCl s t (fun c => { c with waking := true }))) ∧
      (hKind h = 2 →
        exec (.wakeUpStart part ix) s = .next (modPort s t (fun x => { x with asleep := false })))) ∧
    (∀ im, activeImage s part.val = some im → im.wake[ix]? = some h →
      (hKind h = 0 → (getCl s t).asleep = true → ((getCl s t).waking = true ∨ (getCl s t).lateAt ≠ 0) →
        exec (.wakeUpComplete part ix) s = .next (lateWake
          (modCl s t (fun c => { c with asleep := false, waking := false, lateAt := 0, hold := none })) 0 t (hPtick h) (getCl s t).lateAt)) ∧
      (hKind h = 2 →
        exec (.wakeUpComplete part ix) s = .next (lateWake
          (modPort s t (fun x => { x with asleep := false, lateAt := 0 })) 2 t (hPtick h) (getPort s t).lateAt)))

/-! ## Lace and the tick domain -/

namespace Sys2Proof.Claims
open Sys2Proof.Machine

/-- A symbol of type `ty` arrives as it should: on a trained port, with that type and a right CHK (05 R172, R174). -/
def arrives (s : State) (port : Port) (ty : Nat) (w : Word128) : Prop :=
  portUp s port.val = true ∧ yType w = ty ∧ chkOk w = true

/-- The state after a flooded symbol was noted and forwarded on every other trained port (05 R174). -/
def forwardedOn (s : State) (port : Port) (w : Word128) : State :=
  flood { s with lace := { s.lace with seen := s.lace.seen ++ [symKey w] } } w (some port.val)

/-- A timed symbol that is held for its tick (05 R184, R185): not late, in a package whose counter runs and that is not HALTED or in
ALARM. -/
def holdsFor (s : State) (w : Word128) : Prop :=
  laceRuns s = true ∧ s.dev.mode ≠ .halted ∧ s.dev.mode ≠ .alarm ∧ isLate s (yType w) (fullTick s (yTick w)) (yArg w) = false

end Sys2Proof.Claims

/-- 05 R174: a lace symbol on a port that is not trained, or of another type, changes nothing; one whose CHK fails is dropped and counted
in object 0x3060.09; a flooded symbol that was seen before is neither forwarded nor carried out again. -/
def Obligations.LaceSymbolGate : Prop :=
  ∀ (port : Port) (sym : Word128) (e : Nat) (s : State),
    let rows : List (Nat × Instr) := [(0x01, .syncSymbol port sym e), (0x02, .epochSymbol port sym), (0x03, .rootSymbol port sym),
      (0x04, .configSymbol port sym), (0x10, .voteSymbol port sym), (0x11, .faultSymbol port sym), (0x20, .haltReceived port sym),
      (0x21, .startSymbol port sym), (0x22, .switchSymbol port sym), (0x23, .freqSymbol port sym), (0x24, .adoptSymbol port sym),
      (0x30, .maskSymbol port sym)]
    ∀ r ∈ rows,
      ((portUp s port.val = false ∨ yType sym ≠ r.1) → exec r.2 s = .next s) ∧
      (portUp s port.val = true → yType sym = r.1 → chkOk sym = false → exec r.2 s = .next (count s 0x3060 9 1)) ∧
      (arrives s port r.1 sym → 0x10 ≤ r.1 → (∃ x ∈ s.lace.seen, sameSym (symKey sym) x = true) → exec r.2 s = .next s)

/-- 05 R167, R169 to R171, R175, R177 and 16 R521: the symbols of the tree. A SYNC from the parent renews the interval and steers the
phase; EPOCH is compared with the own count or, while acquiring, gives the upper bits of the tick; CONFIG from the parent sets the
values in force; ROOT is ranked, and forwarded where it outranks, in a first election and in one that follows a takeover (log entry
113). -/
def Sys2Proof.Claims.TreeSymbolsComplete : Prop :=
  ∀ (port : Port) (sym : Word128) (s : State),
    (∀ e, arrives s port 1 sym → s.lace.mode ≠ .off → s.lace.mode ≠ .electing → s.lace.root ≠ pnode s → port.val = s.lace.parent →
      let u := if yOrigin sym = s.lace.root then { s with lace := { s.lace with rootSyncAt := s.cyc } } else s
      exec (.syncSymbol port sym e) s =
        .next (steerBy { u with lace := { u.lace with lastSyncAt := u.cyc } } port.val sym e (u.cyc - u.lace.lastSyncAt))) ∧
    (arrives s port 2 sym → port.val = s.lace.parent →
      (s.lace.mode = .acquiring → exec (.epochSymbol port sym) s = .next { s with lace := { s.lace with
        tick := yArg sym % 2 ^ 32 * 2 ^ 32 + s.lace.tick % 2 ^ 32 } }) ∧
      (laceRuns s = true → s.lace.root ≠ pnode s →
        let theirs := yArg sym % 2 ^ 32 * 2 ^ 32 + yTick sym
        exec (.epochSymbol port sym) s = .next (
          if tickAgo s (getPort s port.val).const = theirs then s
          else
            let v := raise (count s 0x8021 5 1) 0x8002 (f64 s.lace.tick ++ f64 theirs ++ f8 port.val)
            tickFault v v.lace.tick everyCluster 1))) ∧
    (arrives s port 4 sym → port.val = s.lace.parent → s.lace.root ≠ pnode s →
      exec (.configSymbol port sym) s = .next { s with lace := { s.lace with
        tickLen := yArg sym % 2 ^ 17, q := yPhase sym, x := field (yArg sym) 17 6, v := field (yArg sym) 23 16 } }) ∧
    (arrives s port 3 sym → s.lace.mode ≠ .off → yOrigin sym ≠ pnode s →
      let a : RootArr := ⟨port.val, yArg sym % 256, yOrigin sym, field (yArg sym) 8 24 + (getPort s port.val).const, field (yArg sym) 32 4 + 1⟩
      let fwd := mkSym 3 (ySeq sym) a.node 0 0 (rootArg a.prio a.lat a.hops)
      (laceRuns s = false →
        let u := noteRank { s with lace := { s.lace with arrivals := s.lace.arrivals ++ [a] } } (a.prio, a.node)
        exec (.rootSymbol port sym) s = .next (
          if (match s.lace.best with | none => true | some b => outranks (a.prio, a.node) b) then flood u fwd (some port.val) else u)) ∧
      (laceRuns s = true → a.node ≠ s.lace.root → (a.node = s.lace.standby ∨ s.lace.mode = .holdover) →
        exec (.rootSymbol port sym) s = .next (flood (newRoot s a) fwd (some port.val))) ∧
      (laceRuns s = true → a.node ≠ s.lace.root → a.node ≠ s.lace.standby → s.lace.mode = .locked → s.lace.reelect = true →
        let u := noteRank { s with lace := { s.lace with arrivals := s.lace.arrivals ++ [a] } } (a.prio, a.node)
        exec (.rootSymbol port sym) s = .next (
          if (match s.lace.best with | none => true | some b => outranks (a.prio, a.node) b) then flood u fwd (some port.val) else u)) ∧
      (laceRuns s = true → a.node = s.lace.root →
        exec (.rootSymbol port sym) s = .next (takeParent { s with lace := { s.lace with arrivals := s.lace.arrivals ++ [a] } } a.node)))

/-- 05 R174, R178, R181, R183 to R189, R194, R198 and 17 R546: a flooded symbol that was not seen before goes out on every other trained
port and has its effect: a FAULT marks its tick, a HALT halts, an ADOPT also records the adopter at its ports, a timed symbol is held
for its tick, a FREQ starts the change of operating point; a VOTE is recorded for its tick and forwarded unless a forwarded one
covers it. -/
def Sys2Proof.Claims.FloodedSymbolsComplete : Prop :=
  ∀ (port : Port) (sym : Word128) (s : State), (∀ x ∈ s.lace.seen, sameSym (symKey sym) x = false) →
    let u := forwardedOn s port sym
    let e := fullTick u (yTick sym)
    let held := { u with lace := { u.lace with timed := u.lace.timed ++ [{ symKey sym with tick := e, rcv := u.lace.tick }] } }
    (arrives s port 0x11 sym → laceRuns u = true → exec (.faultSymbol port sym) s = .next (markFault u e)) ∧
    (arrives s port 0x20 sym → exec (.haltReceived port sym) s =
      .next (haltLocal u (yOrigin sym) (yArg sym % 65536) e (yPhase sym))) ∧
    (arrives s port 0x21 sym → holdsFor u sym → exec (.startSymbol port sym) s = .next held) ∧
    (arrives s port 0x22 sym → holdsFor u sym → exec (.switchSymbol port sym) s = .next held) ∧
    (arrives s port 0x23 sym → holdsFor u sym → exec (.freqSymbol port sym) s = .next (beginChange held (yArg sym % 8))) ∧
    (arrives s port 0x24 sym →
      let v := recordAdopter u (yOrigin sym) (yArg sym % 2048)
      holdsFor v sym → exec (.adoptSymbol port sym) s = .next { v with lace := { v.lace with
        timed := v.lace.timed ++ [{ symKey sym with tick := fullTick v (yTick sym), rcv := v.lace.tick }] } }) ∧
    (arrives s port 0x30 sym → holdsFor u sym → exec (.maskSymbol port sym) s = .next { u with lace := { u.lace with
      masks := u.lace.masks ++ [{ symKey sym with tick := e, rcv := u.lace.tick }] } }) ∧
    (arrives s port 0x10 sym →
      let t := fullTick s (yTick sym)
      let v : Vote := ⟨t, yArg sym % 64, yPhase sym⟩
      let w := { s with lace := { s.lace with seen := s.lace.seen ++ [symKey sym] } }
      exec (.voteSymbol port sym) s = .next (recordVote
        (if s.lace.forwarded.any (fun u => u.tick == t && v.quanta ≤ u.quanta && u.cast ≤ v.cast) then w
         else flood { w with lace := { w.lace with forwarded := w.lace.forwarded ++ [v] } } sym (some port.val))
        (symKey sym) t v.cast v.quanta))

/-- 05 R169 to R171, R173, R176, R177: what lace does by its clock. An election ends with this package as the root, or acquiring from its
parent; a locked package sends SYNC to its children; the loss of the parent takes the alternate one; the loss of the root begins a
holdover, in which the standby root takes over at a tick boundary, and the election that this begins names the next standby root, or
another root (log entry 113). -/
def Sys2Proof.Claims.LaceTimersComplete : Prop :=
  ∀ (s : State),
    (s.lace.mode = .electing → s.lace.betterAt + msec ≤ s.now →
      (∀ b, s.lace.best = some b →
        let u := { s with lace := { s.lace with root := b.2, standby := (s.lace.second.map (·.2)).getD 0xffff, reelect := false } }
        (b.2 = pnode u → exec .electionEnd s = .next (lockedEv (rootValues (becomeRoot u)))) ∧
        (b.2 ≠ pnode u → (takeParent u b.2).lace.parent ≠ 0xff → (takeParent u b.2).lace.depth ≤ 8 →
          let v := takeParent u b.2
          exec .electionEnd s = .next { v with lace := { v.lace with
            mode := .acquiring, goodSyncs := 0, aligned := false, lastSyncAt := v.cyc, rootSyncAt := v.cyc } }))) ∧
    (∀ b, laceRuns s = true → s.lace.reelect = true → s.lace.betterAt + msec ≤ s.now → s.lace.best = some b →
      let u := { s with lace := { s.lace with standby := (s.lace.second.map (·.2)).getD 0xffff, reelect := false } }
      (b.2 = s.lace.root → exec .electionEnd s = .next u) ∧
      (b.2 ≠ s.lace.root → b.2 = pnode u → exec .electionEnd s = .next (rootEv (becomeRoot (setO u 0x3013 1 u.lace.v)) s.lace.root)) ∧
      (b.2 ≠ s.lace.root → b.2 ≠ pnode u → exec .electionEnd s = .next (depthCheck (rootEv (takeParent { u with lace := { u.lace with
        root := b.2, goodSyncs := 0, lastSyncAt := u.cyc, rootSyncAt := u.cyc } } b.2) s.lace.root)))) ∧
    (s.lace.mode = .locked → s.lace.syncSentAt + 512 ≤ s.cyc →
      let n := mget 0 s.lace.nextSeq 1
      exec .syncSend s = .next (toChildren { s with lace := { s.lace with syncSentAt := s.cyc, nextSeq := mset 0 s.lace.nextSeq 1 (n + 1) } }
        (mkSym 1 n s.lace.root s.lace.tick s.lace.phase (s.lace.pathLat % 2 ^ 24 + s.lace.depth % 16 * 2 ^ 24)))) ∧
    ((laceRuns s = true ∨ s.lace.mode = .acquiring) → s.lace.parent ≠ 0xff → s.lace.lastSyncAt + 4096 ≤ s.cyc → s.lace.alt ≠ 0xff →
      let u := match (rootPorts s s.lace.root).find? (fun a => a.port == s.lace.alt) with
        | some a => { s with lace := { s.lace with depth := a.hops, pathLat := a.lat } }
        | none => s
      let next := ((rootPorts s s.lace.root).find? (fun a => a.port != s.lace.alt && a.port != s.lace.parent)).map (·.port)
      exec .parentLoss s = .next (depthCheck (raise { u with lace := { u.lace with
        parent := s.lace.alt, alt := next.getD 0xff, lastSyncAt := u.cyc, goodSyncs := 0 } } 0x3103
          (f8 s.lace.parent ++ f8 s.lace.alt ++ f64 u.lace.tick)))) ∧
    (s.lace.mode = .locked → s.lace.root ≠ pnode s → s.lace.rootSyncAt + 8192 ≤ s.cyc →
      exec .holdover s = .next (raise (count { s with lace := { s.lace with mode := .holdover, goodSyncs := 0 } } 0x3060 7 1) 0x310d
        (f64 s.lace.tick ++ f16 (unsigned 16 s.lace.phaseErr)))) ∧
    (s.lace.mode = .holdover → s.lace.standby = pnode s → s.lace.phase = 0 →
      let u := { s with lace := { s.lace with
        standby := 0xffff, best := some (ownRank s), second := none, arrivals := [], reelect := true, betterAt := s.now } }
      let v := rootEv (becomeRoot (setO u 0x3013 1 s.lace.v)) s.lace.root
      exec .rootTakeover s = .next (originate v 3 0 0 (rootArg (getO u 0x3011 1) 0 0)))

/-- 05 R179, R182, R183: a tick ends after the cycle whose phase the votes fix, with the clusters' cycle taken first; from tick T + H the
faulted partitions run no segment. What `endTick` does beside it is the next statement's. -/
def Sys2Proof.Claims.TickEndComplete : Prop :=
  ∀ (s : State),
    let u := if laceRuns s then clusterCycles s else s
    (∀ k noK, endsNow u = some (k, noK) → exec .tickEnd s = .next (advance (endTick u k noK))) ∧
    (∀ f, s.lace.stopFrom = some f → f ≤ s.lace.tick →
      let ps := (s.parts.filter (fun e => e.2.faultTick.isSome && e.2.runs)).map (·.1)
      let v := ps.foldl (fun x p => match activeImage x p with | some im => endCores x im | none => x) s
      exec .faultedPartitionStop s = .next (ps.foldl (fun x p => setPart x p { getPart x p with runs := false }) v))

/-- 05 R179: a tick that R183 does not force ends at a phase P_k = TICK_LEN + Q × k at which every vote for it with c ≤ P_k − V asks for
no more than k stretches, or, where some such vote asks for more, at k = X or above. -/
def Obligations.TickEndsWhereVotesAllow : Prop :=
  ∀ (s : State) (k : Nat) (noK : Bool), endsNow s = some (k, noK) → forcedTick s s.lace.tick = false → 0 < s.lace.q →
    s.lace.phase + 1 = endPhase s k ∧
    (noK = false → ∀ v ∈ s.lace.votes, v.tick = s.lace.tick → v.cast + s.lace.v ≤ endPhase s k → v.quanta ≤ k) ∧
    (noK = true → s.lace.x ≤ k ∧ ∃ v ∈ s.lace.votes, v.tick = s.lace.tick ∧ v.cast + s.lace.v ≤ endPhase s k ∧ k < v.quanta)

/-- 05 R186, R188 to R191, R194 to R196, 04 R155, 16 R535: the timed symbols that are due at phase 0, each once. A START starts the
partitions that it names and that do not run; a SWITCH is taken, or ends the partition's run where its last is not loaded or its
ports fail, and rewinds the partition's requests; an ADOPT enters the adopter into the logical map, and fences the package that held
the node. -/
def Sys2Proof.Claims.TimedSymbolsComplete : Prop :=
  ∀ (s u : State) (x : Timed),
    (dueSym s 0x21 = some (u, x) →
      let ps := (List.range 8).filter (fun p => fbit x.arg p && (activeImage u p).isSome && !(getPart u p).runs)
      ps ≠ [] → ((u.dev.mode = .ready ∧ u.dev.armed = true) ∨ u.dev.mode = .running) →
      exec .runningEntry s = .next (ps.foldl startPart (enterRunning u))) ∧
    (∀ part : Part, dueSym s 0x22 = some (u, x) → swPart x.arg = part.val →
      let p := part.val
      let dup := u.lace.timed.filter (fun y => y.type == 0x22 && swPart y.arg == p && symDue u y)
      let v := count { u with lace := { u.lace with timed := u.lace.timed.filter (fun y => !dup.contains y) } } 0x3060 8 dup.length
      (inRun v = true ∨ v.dev.mode = .ready) →
      let id := getO v 0x3024 (x.arg % 64 + 1)
      let ended := fun (outcome : Nat) =>
        switchEv (setPart v p { getPart v p with runs := false, faultTick := none }) p (x.arg % 64) id outcome
      let w := stopTimers (match switchSlot v p id with
        | none => ended 1
        | some (n, im) => if (portCheck v im).isSome then ended 2 else takeSwitch v p (x.arg % 64) id n im) p
      let w := if w.parts.any (fun e => e.2.faultTick.isSome) then w else { w with lace := { w.lace with stopFrom := none } }
      exec (.fallbackSwitch part) s = .next (rewindSwitch w p w.lace.tick (((getPart v p).faultTick).getD v.lace.tick))) ∧
    (dueSym s 0x24 = some (u, x) →
      let n := x.arg % 2048
      let v := { u with fab := { u.fab with lmap := mset 0xffff u.fab.lmap n x.origin } }
      exec .identityAdopted s = .next (
        if x.origin = pnode v then raise v 0x310b (f16 n ++ f16 (pnode v) ++ f64 v.lace.tick)
        else if lnode v = n then fence v n x.origin else v))

/-- 05 R198, R199, 16 R536, 17 R560, R572, 14 R474: a HALT of any origin stops every schedule: no cluster holds or issues, no partition
runs, the schedule channel of every port is empty, timed symbols and armed commands are gone, and READY, RUNNING and DRAINING become
HALTED with its cause; other states stay. -/
def Obligations.HaltStopsEverySchedule : Prop :=
  ∀ (s : State) (origin cause tick phase : Nat),
    let t := haltLocal s origin cause tick phase
    t.lace.timed = [] ∧ t.lace.masks = [] ∧ t.dev.armed = false ∧ t.cores = [] ∧
      (∀ e ∈ t.parts, e.2.runs = false ∧ e.2.faultTick = none) ∧
      (∀ e ∈ t.clusters, e.2.hold = none ∧ e.2.sb = []) ∧
      (∀ e ∈ t.ports, e.2.sched = [] ∧ e.2.tx = [] ∧ e.2.late = [] ∧ e.2.rx = []) ∧
      t.dev.mode = (if s.dev.mode = .ready ∨ s.dev.mode = .running ∨ s.dev.mode = .draining then .halted else s.dev.mode) ∧
      ((s.dev.mode = .ready ∨ s.dev.mode = .running ∨ s.dev.mode = .draining) → t.dev.haltCause = cause)

/-! ## Objects, tiles and lasts -/

namespace Sys2Proof.Claims
open Sys2Proof.Machine

/-- The command at the head of a ring may execute, and its OP is `op` (06 R223). -/
def headIs (s : State) (ring : Bool) (op : Nat) : Prop :=
  headReady s ring = true ∧ fieldB (headEntry s ring) 0 1 = op

/-- The object that the head entry of a ring names: found, with a legal entry, and open to the ring's world (06 R219, R226). -/
def names (s : State) (ring : Bool) (bad : ObjEnt → Bool) (k : Nat) (o : ObjEnt) : Prop :=
  objById s (fieldB (headEntry s ring) 8 8) = some (k, o) ∧ namedStatus s ring (headEntry s ring) bad = none

/-- A command of a ring that runs on (06 R223). -/
def ringCmd (ring : Bool) : ObjCmd := ⟨if ring then 1 else 0, 0, 0, 0⟩

/-- The checks of CREATE on the head entry (06 R218, R226). -/
def headCreateStatus (s : State) (ring : Bool) : Nat :=
  let e := headEntry s ring
  let a := fieldB e 32 8
  createStatus s (fieldB e 8 8) (fieldB e 16 8) (fieldB e 24 8) (field a 0 8) (field a 8 8) (field a 16 8) (field a 24 8)
    (field a 32 9) ring (entryBad e || field a 41 23 != 0)

end Sys2Proof.Claims

/-- 06 R218, R223, R225, R226: CREATE at the head of a ring completes with the first failing check, or makes the object in the lowest free
entry with zero contents: of class COLD or HOT it completes at once, to class PINNED its tiles migrate first. A head entry whose OP is
reserved completes with 0x86 (0x80 where it names no object) whichever row executes it. -/
def Sys2Proof.Claims.ObjectCreationCompletes : Prop :=
  ∀ (s : State) (ring : Bool),
    let e := headEntry s ring
    let a := fieldB e 32 8
    let made := createObj s (fieldB e 8 8) (fieldB e 16 8) (fieldB e 24 8) (field a 8 8) (field a 16 8) (field a 24 8) (field a 32 9)
    (headIs s ring 1 →
      (headCreateStatus s ring ≠ 1 → exec (.objCreate ring) s = .next (finishCmd s ring (headCreateStatus s ring))) ∧
      (headCreateStatus s ring = 1 → field a 0 8 ≠ 0 → exec (.objCreate ring) s =
        .next (finishCmd (putObj made.1 made.2.1 { made.2.2 with cls := field a 0 8 }) ring 1)) ∧
      (headCreateStatus s ring = 1 → field a 0 8 = 0 → ∃ u, u = startClass made.1 made.2.1 made.2.2 0 (field a 8 8) ∧
        exec (.objCreate ring) s = .next { u with memSt := { u.memSt with cmd := some (ringCmd ring) } })) ∧
    (headReady s ring = true → (fieldB e 0 1 = 0 ∨ 5 < fieldB e 0 1) → ∀ st, st = (if fieldB e 8 8 = 0 then 0x80 else 0x86) →
      exec (.objCreate ring) s = .next (finishCmd s ring st) ∧ exec (.objDestroy ring) s = .next (finishCmd s ring st))

/-- 06 R225, R226, R230: SETCLASS of a named object. A listed object or one that an image entry holds refuses with 0x84, one that does not
fit the pool of its die with 0x83; class HOT takes effect at once; PINNED and COLD end at once where no tile moves, else when the last
migration ends. DESTROY of a named object frees its copies and its DRAM home, and its entry. -/
def Sys2Proof.Claims.ClassAndDestroyComplete : Prop :=
  ∀ (s : State) (ring : Bool) (k : Nat) (o : ObjEnt),
    let a := fieldB (headEntry s ring) 16 8
    let cls := field a 0 8
    let die := field a 8 8
    let held := breaksListing s o.id cls die || imageHolds s o.id
    let u := startClass s k o cls die
    let moves := u.memSt.migs.any (fun m => m.forClass && (tilesOf o).contains m.tile)
    (headIs s ring 2 → names s ring (fun _ => 2 < cls || 15 < die || a / 65536 != 0) k o →
      (held = true → exec (.objSetclass ring) s = .next (finishCmd s ring 0x84)) ∧
      (held = false → cls = 0 → pinFits s o die = false → exec (.objSetclass ring) s = .next (finishCmd s ring 0x83)) ∧
      (held = false → cls = 1 →
        exec (.objSetclass ring) s = .next (finishCmd (putObj (cancelMigs s o) k { o with cls := 1, homeDie := die }) ring 1)) ∧
      (held = false → cls = 2 ∨ cls = 0 ∧ pinFits s o die = true →
        (moves = true → exec (.objSetclass ring) s = .next { u with memSt := { u.memSt with cmd := some (ringCmd ring) } }) ∧
        (moves = false → exec (.objSetclass ring) s =
          .next (finishCmd (putObj u k { o with cls := cls, homeDie := die, state := 1 }) ring 1)))) ∧
    (headIs s ring 5 → names s ring (fun _ => false) k o →
      (listings s o.id ≠ [] ∨ imageHolds s o.id = true → exec (.objDestroy ring) s = .next (finishCmd s ring 0x84)) ∧
      (listings s o.id = [] → imageHolds s o.id = false →
        exec (.objDestroy ring) s = .next (finishCmd (destroyObj s k o) ring 1)))

/-- 06 R225, R226: READ moves bytes of the object to the memory operand and WRITE bytes of the operand to the object, in ascending units
of 256 bytes until one is refused; with a fabric operand the command runs on over the responses of its lines, one unit at a time,
and ends with the first failing line's status or, at its length, with 1. -/
def Sys2Proof.Claims.ObjectReadWriteComplete : Prop :=
  ∀ (s : State) (ring : Bool) (k : Nat) (o : ObjEnt),
    let e := headEntry s ring
    let m := fieldB e 32 8
    let units := fun (out : Bool) => moveUnits (cmdWho ring) o out (fieldB e 24 8 / 256) (fieldB e 16 8) m s
    let open' := isFabAddr m = true → faWorld m = true → ring = true
    let begun := { s with memSt := { s.memSt with cmd := some (ringCmd ring) } }
    (s.memSt.cmd = none → names s ring (copyBad e) k o → open' →
      (headIs s ring 3 →
        (isFabAddr m = false → exec (.objRead ring) s = .next (finishCmd (units true).1 ring (units true).2)) ∧
        (isFabAddr m = true → exec (.objRead ring) s = .next (stepCopy begun ring true))) ∧
      (headIs s ring 4 → imageHolds s o.id = false → o.writable = true →
        (isFabAddr m = false → exec (.objWrite ring) s = .next (finishCmd (units false).1 ring (units false).2)) ∧
        (isFabAddr m = true → exec (.objWrite ring) s = .next (stepCopy begun ring false)))) ∧
    (∀ c, s.memSt.cmd = some c → cmdsRun s = true → c.ring = (if ring then 1 else 0) → c.lines = 0 →
      (fieldB e 0 1 = 3 →
        (c.fail ≠ 0 → exec (.objRead ring) s = .next (finishCmd s ring c.fail)) ∧
        (c.fail = 0 → fieldB e 24 8 ≤ c.pos → exec (.objRead ring) s = .next (finishCmd s ring 1)) ∧
        (c.fail = 0 → c.pos < fieldB e 24 8 → objById s (fieldB e 8 8) = some (k, o) → exec (.objRead ring) s =
          .next (issueUnit o (cmdWho ring) true (fieldB e 16 8 + c.pos) (m + c.pos) 4
            { s with memSt := { s.memSt with cmd := some { c with pos := c.pos + 256 } } }))) ∧
      (fieldB e 0 1 = 4 → c.fail = 0 → fieldB e 24 8 ≤ c.pos → exec (.objWrite ring) s = .next (finishCmd s ring 1)))

/-- 06 R223, R226: a command that ends sets its STATUS byte in the entry, moves the ring's head by one, counts once, and leaves no
command running; where its entry asks for it, event 0x4006 says so. -/
def Obligations.ObjectCommandEnd : Prop :=
  ∀ (s : State) (ring : Bool) (status : Nat),
    let e := headEntry s ring
    let u := setO (pkgPut s (ringSlot s ring + 1) (f8 status)) (ringObj ring) 4 ((ringHead s ring + 1) % 2 ^ 32)
    let v := count { u with memSt := { u.memSt with cmd := none } } 0x4020 (if status = 1 then 5 else 6) 1
    (finishCmd s ring status).memSt.cmd = none ∧ (finishCmd s ring status).memSt.objs = s.memSt.objs ∧
      (finishCmd s ring status).memSt.tiles = s.memSt.tiles ∧
    (fbit (fieldB e 2 1) 0 = false → finishCmd s ring status = v) ∧
    (fbit (fieldB e 2 1) 0 = true → finishCmd s ring status =
      raise v 0x4006 (f8 (if ring then 1 else 0) ++ sub e 4 4 ++ f8 (fieldB e 0 1) ++ f8 status ++ sub e 8 8))

/-- 06 R215, R222, R229, R231: an access in object space at its tile controller reads or writes there; a tile whose copy completed stands
in its pool tile, or in its DRAM home, and the last one of a class change ends it; a write to a tile under a class change has it copied
again, and its third abort ends the change with 0x89; scrubbing takes the next tile of a die. -/
def Sys2Proof.Claims.TilesComplete : Prop :=
  ∀ (s : State),
    (∀ (t : TileReq), classify t.addr = .objSpace →
      (∀ l, t.data = some l → exec (.tileAccess t) s = .next (writeAt s (tileWho t) t.addr l).1) ∧
      (t.data = none → exec (.tileAccess t) s =
        .next (emit (readAt s (tileWho t) t.addr t.len).1 (.data (readAt s (tileWho t) t.addr t.len).2.1)))) ∧
    (∀ (tile : Nat) m k o, s.memSt.migs.find? (fun m => m.tile == tile) = some m → objAt s (tile * 16384) = some (k, o) →
      s.dev.mode ≠ .keeper → s.dev.mode ≠ .alarm →
      let u := { s with memSt := { s.memSt with migs := s.memSt.migs.filter (fun m => m.tile != tile) } }
      let v := match m.dest with | some (d, n) => placeCopy u o tile d n | none => dropCopy u o tile
      let ended := v.memSt.objs.find? (fun e => e.2.state == 2 && !classMigs v e.2)
      (m.forClass = false ∨ ended = none → exec (.migrationComplete tile) s = .next v) ∧
      (m.forClass = true → ∀ k' o', ended = some (k', o') → exec (.migrationComplete tile) s = .next (endClass v k' o' false))) ∧
    (∀ (tile : Nat) m k o, s.memSt.migs.find? (fun m => m.tile == tile) = some m → m.forClass = true →
      let u := count s 0x4020 4 1
      let rest := s.memSt.migs.filter (fun m => m.tile != tile)
      (m.aborts < 2 → abortMig s k o tile =
        { u with memSt := { u.memSt with migs := rest ++ [{ m with aborts := m.aborts + 1 }] } }) ∧
      (2 ≤ m.aborts → abortMig s k o tile = endClass
        (putTile { u with memSt := { u.memSt with migs := rest } } o tile { getTile u tile with busy := false }) k o true)) ∧
    (∀ (die : Fin 16), s.dev.mode ≠ .keeper → s.now < s.memSt.scrubTime + getO s 0x4003 5 * msec → mget 0 s.memSt.scrubAt die < 28672 →
      exec (.scrub die) s = .next (ecc { s with memSt := { s.memSt with
        scrubAt := mset 0 s.memSt.scrubAt die (mget 0 s.memSt.scrubAt die + 1) } } 0xffff
        (sramTile die (mget 0 s.memSt.scrubAt die)) 16384).1)

/-- 04 R151, R153: a load ends with the first check that fails: the slot is empty, 0x3031 holds the reason and its detail, event 0x3002 is
raised. With none failing and a dram binding, the slot holds the image, 0x3031.01 is 2, event 0x3001 is raised. -/
def Sys2Proof.Claims.LastLoadCompletes : Prop :=
  ∀ (s : State) (l : Loading), s.loading = some l →
    let v := (readAt s Who.pkg l.addr 128).1
    let src := readLast v l.addr (lnode v)
    let im := parseImage src (lnode v)
    (∀ r d, loadChecks v l src im = some (r, d) → exec .lastLoadComplete s = .next (refuseLoad v l im.lastId r d)) ∧
    (loadChecks v l src im = none →
      (∀ die, bindLoad v im = .error die → exec .lastLoadComplete s = .next (refuseLoad v l im.lastId 8 die)) ∧
      (∀ u, bindLoad v im = .ok u → ∃ x : SlotSt,
        x.loading = false ∧ x.lastId = im.lastId ∧ x.image = some { im with maxUnits := maxUnitsOf im (walk im), busy := busyOf im (walk im) } ∧
        exec .lastLoadComplete s = .next (raise (count (setO (setSlot { u with loading := none } l.slot x) 0x3031 1 2) 0x3040 4 1) 0x3001
          (f8 l.slot ++ f64 im.lastId ++ f8 im.partition))))

/-! ## Kopitre links and the codec -/

namespace Sys2Proof.Claims
open Sys2Proof.Machine

/-- A built table as 07 R257 makes it, or none: symbol 0 is the run, the rest is a permutation of 1 to 255. -/
def tableFits : Table → Prop
  | none => True
  | some (m, k) => m.length = 256 ∧ k ≤ 3 ∧ m.head? = some 0 ∧ m.Perm (List.range 256)

/-- The receiver takes this block from the line as `b`, counted good or bad: its port is up, or in training, before and after the count
(08 R268, R269). -/
def takes (s : State) (p : Nat) (bytes b : List Byte) (good : Bool) (t : State) (st : PortState) : Prop :=
  (getPort s p).state = st ∧ (rsDecode (padTo 136 bytes)).1 = b ∧ good = decide (fieldB b 130 4 = crc32 (b.take 130)) ∧
    t = trackBlock s p good (rsDecode (padTo 136 bytes)).2 ∧ (getPort t p).state = st

/-- The unit that a block's link word spells (08 R270). -/
def unitOf (b : List Byte) : RxUnit :=
  let w := fieldB b 128 2
  ⟨w % 8, fbit w 3, fbit w 4, field w 5 3, b.take 128⟩

/-- The port is up and no flit that R278 sends before management and fabric flits waits. -/
def nothingWaits (x : PortSt) : Prop :=
  x.state = .up ∧ x.replayQ = [] ∧ x.lace = [] ∧ x.ctrl = [] ∧ (x.asleep = true ∨ x.sched = [])

end Sys2Proof.Claims

/-- 07 R251: the codec is lossless but for mode 5, whatever follows the frame in its stream, and a frame's length is told by its
bytes (R247); the encoder used no table or the decoder's own. -/
def Obligations.CodecIsLossless : Prop :=
  ∀ (on : Bool) (e t : Table) (g rest : List Byte), g.length = 264 → tableFits t → (e = none ∨ e = t) →
    let f := encodeGroup on e g
    frameLen (f.1 ++ rest) = f.1.length ∧
    (f.2 ≠ 5 → decodeFrame t (f.1 ++ rest) = some g) ∧
    (f.2 = 5 → decodeFrame t (f.1 ++ rest) = some (g.take 224 ++ List.replicate 32 0 ++ g.drop 256))

/-- 08 R267, R268: a block as the sender makes it passes its check, and the code corrects any single erroneous byte of it. -/
def Obligations.LineCodeCorrectsOneByte : Prop :=
  ∀ (f : Flit) (replay : Bool),
    let b := mkBlock f replay
    b.length = 136 ∧ rsDecode b = (b, false) ∧ fieldB b 130 4 = crc32 (b.take 130) ∧ b.take 128 = padTo 128 f.body ∧
    (∀ (i : Nat) (e : Byte), i < 136 → e ≠ 0 → rsDecode (b.set i (b.getD i 0 ^^^ e)) = (b, true))

/-- 07 R257: the table that a sample builds has symbol 0 for a run and a permutation of 1 to 255 for the rest; a sample without a
non-zero code builds none. -/
def Obligations.BuiltTableIsAPermutation : Prop :=
  ∀ (sample : List Byte),
    (∀ m k, buildTable sample = some (m, k) → tableFits (some (m, k))) ∧
    (buildTable sample = none ↔ ∀ b ∈ sample, b = 0)

/-- 07 R258, R261: a build completes with its result in force, its tag in 0x9061.04 and a count, or failed with its reason and no valid
table; event 0x9013 says which. Where the package comes up, its next
steps follow (18 R587). -/
def Sys2Proof.Claims.TableBuildCompletes : Prop :=
  ∀ (s : State) (src fail k : Nat) (m : List Nat), s.codec.building = some (src :: fail :: k :: m) →
    let u := setO { s with codec := { s.codec with building := none } } 0x9061 6 fail
    (fail = 0 → exec .tableBuildComplete s = .next (bringUp (raise (count (setO (setStaging { u with codec := { u.codec with
      state := 2, smap := m, k := k } } m k) 0x9061 4 (tableTag m k)) 0x9063 8 1) 0x9013
        (f8 2 ++ f16 (tableTag m k) ++ f8 k ++ f8 src ++ f8 0)))) ∧
    (fail ≠ 0 → exec .tableBuildComplete s = .next (bringUp (raise { u with codec := { u.codec with state := 3 } } 0x9013
      (f8 3 ++ f16 (getO u 0x9061 4) ++ f8 0 ++ f8 src ++ f8 fail))))

/-- 08 R268, R270, R280 to R283: a bad sequenced block of an up port asks once for a replay; a good one is passed on, and a sequenced
one moves the receiver's sequence number, every 64th with an ACK. While the receiver discards, every flit is dropped up to the first
sequenced one with REPLAY (after a bad replayed flit, up to one that comes a round trip after its NAK: log entry 110). In training a good
unsequenced flit is passed on once the port has lock. A port that is down, disabled, lost or an Ethernet port takes none. -/
def Sys2Proof.Claims.LineBlockCompletes : Prop :=
  ∀ (port : Port) (bytes b : List Byte) (eighth : Nat) (s t : State) (good : Bool),
    let p := port.val
    let run := exec (.lineBlock port bytes eighth) s
    let x := getPort t p
    let u := unitOf b
    let sequenced := 1 ≤ u.kind ∧ u.kind ≤ 5
    let y := { x with rxSeq := (x.rxSeq + 1) % 65536, discarding := false, nakAt := 0, sinceAck := x.sinceAck + 1 }
    let z := { y with sinceAck := 0, ctrl := x.ctrl ++ [ctlAck x.rxSeq], ackSentAt := t.cyc }
    let drops := x.discarding = true ∧ ¬ (u.replay = true ∧ (x.nakAt = 0 ∨ x.nakAt - 1 + ceilDiv x.rtt 8 ≤ t.cyc))
    (takes s p bytes b good t .up →
      (good = false → sequenced → ¬ drops → run = .next (setPort t p { x with
        discarding := true, nakAt := if u.replay then t.cyc + 1 else 0, ctrl := x.ctrl ++ [ctlNak x.rxSeq] })) ∧
      (good = false → ¬ sequenced ∨ drops → run = .next t) ∧
      (good = true → ¬ sequenced → x.discarding = false → run = .next (passUnit port eighth u t)) ∧
      (good = true → ¬ sequenced → x.discarding = true → run = .next t) ∧
      (good = true → sequenced → drops → run = .next t) ∧
      (good = true → sequenced → ¬ drops →
        (x.sinceAck + 1 < 64 → run = .next (passUnit port eighth u (setPort t p y))) ∧
        (64 ≤ x.sinceAck + 1 → run = .next (passUnit port eighth u (setPort t p z))))) ∧
    (takes s p bytes b good t .training →
      (good = true → x.lock = true → ¬ sequenced → run = .next (passUnit port eighth u t)) ∧
      (good = false ∨ x.lock = false ∨ sequenced → run = .next t)) ∧
    ((getPort s p).state = .down ∨ (getPort s p).state = .disabled ∨ (getPort s p).state = .lost ∨ (getPort s p).state = .ethernet →
      run = .next s)

/-- 08 R277, R280, R281, R284, R286, R287, R290: the control words at an up port. ACK frees what it covers; NAK marks the flits to send
again from the one that it names, and the fourth for one flit loses the port; CREDIT returns credit; PROBE is echoed; PROBE_REPLY is a
round trip; IDENT names the peer; DOWN loses the port. In training a PROBE is echoed too, and up to 1,024 round trips are kept, step 5
following the last. -/
def Sys2Proof.Claims.ControlWordsComplete : Prop :=
  (∀ (port : Port) (w : Word128) (eighth : Nat) (s : State), (getPort s port.val).state = .training →
    let x := getPort s port.val
    let l := roundTrip s w eighth :: x.rtts
    exec (.probeWord port w eighth) s =
      .next (sendCtl s port.val (ctlReply (field w.toNat 32 32) (field w.toNat 64 8) (8 * s.cyc + eighth))) ∧
    (x.probeOut = true → x.rtts.length < 1024 → exec (.probeReplyWord port w eighth) s = .next (setPort s port.val { x with
      probeOut := false, rtts := l, trainStep := if l.length = 1024 then 5 else x.trainStep }))) ∧
  ∀ (port : Port) (w : Word128) (eighth : Nat) (s : State), (getPort s port.val).state = .up →
    let p := port.val
    let x := getPort s p
    let seq := field w.toNat 16 16
    exec (.ackWord port w) s = .next (setPort s p { x with
      replay := x.replay.filter (fun k => !seqLe k.seq seq), replayQ := x.replayQ.filter (fun k => !seqLe k.seq seq),
      ackAt := s.cyc, lastAck := 65536 + seq }) ∧
    (∀ k, x.replay.find? (fun k => k.seq == seq) = some k →
      (3 ≤ k.naks → exec (.nakWord port w) s = .next (losePort (count s (0x5100 + p) 0x12 1) p 2)) ∧
      (k.naks < 3 →
        let rpl := x.replay.map (fun e => if e.seq = seq then { e with naks := e.naks + 1 } else e)
        exec (.nakWord port w) s = .next (modPort (count s (0x5100 + p) 0x12 1) p
          (fun x => { x with replay := rpl, replayQ := rpl.filter (fun e => seqLe seq e.seq) })))) ∧
    (field w.toNat 8 8 = 4 → exec (.creditWord port w) s = .next (setPort s p { x with fabCredit := min 512 (x.fabCredit + seq) })) ∧
    (field w.toNat 8 8 = 5 → exec (.creditWord port w) s = .next (setPort s p { x with mgmtCredit := min 64 (x.mgmtCredit + seq) })) ∧
    exec (.probeWord port w eighth) s =
      .next (sendCtl s p (ctlReply (field w.toNat 32 32) (field w.toNat 64 8) (8 * s.cyc + eighth))) ∧
    exec (.probeReplyWord port w eighth) s = .next (measure s p
      ((8 * s.cyc + eighth + 2 ^ 35 - (8 * field w.toNat 32 32 + field w.toNat 64 8) - field w.toNat 72 24 + 2 ^ 35) % 2 ^ 35)) ∧
    exec (.identWord port w) s = .next (setPort s p { x with
      peerPhys := seq, peerLog := field w.toNat 32 16,
      peerPort := field w.toNat 48 8, peerTag := if fbit w.toNat 80 then 65536 + field w.toNat 64 16 else 0 }) ∧
    (field w.toNat 0 8 = 7 → exec (.downWord port w) s = .next (losePort s p 7))

/-- 08 R272 to R275: a head flit opens a transfer, and one for a cluster that does not run or past the scratchpad is marked and reported;
a data flit goes into the transfer under way, and one without is discarded; a transfer that is due has landed (a compressed one is decoded
to its place then: log entry 109) and its bit is set, the port's oldest first; one that was discarded sets none. -/
def Obligations.TransfersComplete : Prop :=
  ∀ (port : Port) (flit : List Byte) (last : Bool) (s : State), (getPort s port.val).state = .up →
    let p := port.val
    let x := getPort s p
    let h := leNat (flit.take 32)
    let runs := clusterRuns s (hLcl h) && physOf s (hLcl h) != 0xff
    let fits := hAddr h + hLen h ≤ 0x10000
    let rcv := fun (bad : Bool) => modPort s p (fun x => { x with rx := x.rx ++ [⟨h, [], false, 0, hLcl h, bad, [], 0, false⟩] })
    (runs = true → fits → exec (.scheduleHead port flit) s = .next (rcv false)) ∧
    (runs = false → exec (.scheduleHead port flit) s = .next (discardEv (rcv true) p h 1)) ∧
    (runs = true → ¬ fits → exec (.scheduleHead port flit) s = .next (discardEv (rcv true) p h 2)) ∧
    (x.rx.find? (fun r => !r.complete) = none → exec (.scheduleData port flit last) s = .next (discardEv s p 0 3)) ∧
    (∀ r, x.rx.find? (fun r => !r.complete) = some r →
      let t := setPort s p { x with rx := addData flit last (laceCycle s) x.rx }
      let late := last && !r.discard && cycAfter (laceCycle s) (releaseAt t p r.head)
      (late = false → exec (.scheduleData port flit last) s = .next t) ∧
      (late = true → exec (.scheduleData port flit last) s = .next (lateEv t p r.head (laceCycle s)))) ∧
    (∀ r rest, (getPort (landPort s p) p).rx = r :: rest → r.complete = true → r.lost = false → rxDue (landPort s p) p r = true →
      let t := modPort (landPort s p) p (fun x => { x with rx := rest })
      (r.discard = true → exec (.transferRelease port) s = .next t) ∧
      (r.discard = false → exec (.transferRelease port) s = .next (Sys2Proof.Machine.arrive
        (if fbit (hFlags r.head) 0 then putGroups t p r else t) (hLcl r.head) (hCore r.head) (hBit r.head))))

/-- 08 R280, R286, R287: an ACK at the latest 256 cycles after a flit; a port whose sequenced flits wait 4 round trips for one is lost;
a PROBE every 100 us. -/
def Sys2Proof.Claims.PortTimersComplete : Prop :=
  ∀ (port : Port) (s : State), (getPort s port.val).state = .up →
    let p := port.val
    let x := getPort s p
    (0 < x.sinceAck → x.ackSentAt + 256 ≤ s.cyc → exec (.ackInterval port) s = .next (setPort s p { x with
      sinceAck := 0, ackSentAt := s.cyc, ctrl := x.ctrl ++ [ctlAck ((x.rxSeq + 65535) % 65536)] })) ∧
    (x.replay ≠ [] → x.ackAt + 4 * ceilDiv x.rtt 8 ≤ s.cyc → exec (.ackTimeout port) s = .next (losePort s p 3)) ∧
    (x.probeAt + 100 * usec ≤ s.now → exec (.probeInterval port) s = .next (sendCtl (setPort s p { x with probeAt := s.now }) p ctlProbe))

/-- 08 R283 to R285, R301: an enabled port that is down trains, again 100 ms after a failure, and one that is not enabled is disabled;
training fails at the handshake, at a round trip over 1,600 cycles, where no class holds or the two sides' requests differ, each with its
step and cause in event 0x5002; else the port is up in the least class whose constant covers the larger latency and 16 cycles. The peer
and the round trip are those of the IDENT and the 1,024 PROBEs that came on the line, else those reported (log entry 111). Where the package comes up, its next
steps follow (18 R587). -/
def Obligations.TrainingCompletes : Prop :=
  ∀ (port : Port) (s : State),
    let p := port.val
    let x := getPort s p
    let off : PortSt := { PortSt.init with state := .disabled, cause := x.cause }
    let due := x.state = .down ∧ x.failAt ≠ 0 ∧ x.failAt - 1 + 100 * msec ≤ s.now
    (trainOk s = true → x.state = .down ∧ x.failAt = 0 ∨ x.state = .disabled →
      (getO s (0x5000 + p) 1 = 1 → exec (.portTrainingStart port) s = .next (beginTraining s p)) ∧
      (getO s (0x5000 + p) 1 ≠ 1 → exec (.portTrainingStart port) s = .next (setPort s p off))) ∧
    (trainOk s = true → due →
      (getO s (0x5000 + p) 1 = 1 → exec (.trainingRetry port) s = .next (beginTraining s p)) ∧
      (getO s (0x5000 + p) 1 ≠ 1 → exec (.trainingRetry port) s = .next (setPort s p off))) ∧
    (x.state = .training →
      (∀ step cause, exec (.portTrainingComplete port (.fails step cause)) s = .next (bringUp (trainFails s p step cause))) ∧
      (∀ rtt' node' logical' pp' kopitre agrees,
        let run := exec (.portTrainingComplete port (.measured rtt' node' logical' pp' kopitre agrees)) s
        let node := if x.identIn then x.peerPhys else node'
        let logical := if x.identIn then x.peerLog else logical'
        let pp := if x.identIn then x.peerPort else pp'
        let rtt := if x.rtts.length = 1024 then median x.rtts else rtt'
        let fwd := halfUp (rtt + x.asymAt)
        let cls := fixClass x fwd (halfUp (rtt - x.asymAt))
        let peer := kopitre = true ∧ node ≠ pnode s
        (¬ peer → run = .next (bringUp (trainFails s p 3 5))) ∧
        (peer → 1600 * 8 < rtt → run = .next (bringUp (trainFails s p 4 6))) ∧
        (peer → rtt ≤ 1600 * 8 → cls = none → run = .next (bringUp (trainFails s p 5 7))) ∧
        (peer → rtt ≤ 1600 * 8 → cls.isSome = true → agrees = false → run = .next (bringUp (trainFails s p 5 8))) ∧
        (peer → rtt ≤ 1600 * 8 → agrees = true → ∀ k, cls = some k → ∃ y : PortSt,
          run = .next (bringUp (raise (setPort s p y) 0x5001
            (f8 p ++ f8 k ++ f16 (classConst x k) ++ f32 fwd ++ f16 node ++ f16 logical ++ f8 pp))) ∧
          y.state = .up ∧ y.cls = k ∧ y.const = classConst x k ∧ y.fwd = fwd ∧ y.rtt = rtt ∧ y.peerPhys = node ∧
          y.peerLog = logical ∧ y.peerPort = pp ∧ y.margin = (classConst x k : Int) - 16 - (ceilDiv fwd 8 : Nat))))

/-- 08 R278, 09 R311: at a block boundary the first kind with a flit waiting leaves: a flit to be sent again, a lace flit, a control flit,
schedule data (of a lace or control flit at most one among 8 where schedule data waits), then management and fabric flits by turn; else idle.
R283, R284, R288: a port in training sends its IDENT from step 3 on, replies to PROBEs and one PROBE after another in step 4; a lost port
sends DOWN for 1 us. The scrambler's bits follow from block to block (R268). -/
def Sys2Proof.Claims.BlockBoundaryCompletes : Prop :=
  ∀ (port : Port) (s : State),
    let p := port.val
    let x := (getPort s p).slotsBegun s.cyc
    let run := exec (.blockBoundary port) s
    let sched := x.asleep = false ∧ x.sched ≠ []
    let u := (fresh s).2
    let frac := leaveFrac (fresh s).1
    let ctrl := sendLine u p { x with ctrl := x.ctrl.drop 8 }
      ⟨6, false, 0, padTo 128 (wordBytes ((x.ctrl.take 8).map (stampCtl u frac)))⟩ false
    (x.state = .training →
      (x.trainStep < 3 → run = .next s) ∧
      (3 ≤ x.trainStep → x.ctrl ≠ [] → run = .next ctrl) ∧
      (x.trainStep = 4 → x.ctrl = [] → x.probeOut = false → x.recent.contains 7 = true → run = .next (sendLine u p { x with
        probeOut := true, ctrl := [] } ⟨6, false, 0, padTo 128 (wordBytes [stampCtl u frac ctlProbe])⟩ false)) ∧
      (3 ≤ x.trainStep → x.ctrl = [] → x.trainStep ≠ 4 ∨ x.probeOut = true ∨ x.recent.contains 7 = false →
        run = .next (sendLine s p x ⟨7, false, 0, padTo 128 (wordBytes [ctlIdent s p])⟩ false))) ∧
    (x.state = .lost → s.now < x.downUntil →
      run = .next (sendLine s p x ⟨6, false, 0, leBytes 16 (ctlDown x.cause).toNat⟩ false)) ∧
    (∀ k r, x.state = .up → x.replayQ = k :: r →
      run = .next (sendLine (count s (0x5100 + p) 0x13 1) p { x with replayQ := r } k.flit true)) ∧
    (x.state = .up → x.replayQ = [] →
      (x.lace ≠ [] → ¬ sched ∨ x.recent.contains 3 = false →
        let l := pickSyms 8 false (sortBy (fun a b => symRank (symType a) ≤ symRank (symType b)) x.lace)
        run = .next (sendSeq u p { x with lace := l.2 } ⟨3, false, frac, padTo 128 (wordBytes (l.1.map (stampSync u)))⟩)) ∧
      (x.lace = [] → x.ctrl ≠ [] → ¬ sched ∨ x.recent.contains 6 = false →
        run = .next ctrl) ∧
      (∀ f r, x.asleep = false → x.sched = f :: r → (x.lace = [] ∨ x.recent.contains 3 = true) →
        (x.ctrl = [] ∨ x.recent.contains 6 = true) → run = .next (sendSeq s p { x with sched := r } f))) ∧
    (nothingWaits x →
      (∀ m r, x.mgmt = m :: r → x.mgmtCredit ≠ 0 → pickFab x = none ∨ x.turn = 0 → run = .next (sendSeq s p { x with
        mgmt := r, mgmtCredit := x.mgmtCredit - 1, turn := 8 } m)) ∧
      (∀ f, pickFab x = some f → x.mgmt = [] ∨ x.mgmtCredit = 0 ∨ x.turn ≠ 0 → run = .next (sendSeq s p { x with
        fab := x.fab.erase f, fabCredit := x.fabCredit - 1, turn := x.turn - 1 } f)) ∧
      (x.mgmt = [] ∨ x.mgmtCredit = 0 → pickFab x = none → run = .next (sendLine s p x ⟨0, false, 0, []⟩ false)))

/-! ## Ethernet and pulls -/

namespace Sys2Proof.Claims
open Sys2Proof.Machine

/-- A packet comes in order for a queue pair whose oldest request waits for it: the PSN, the opcode and the length are right (08 R297). -/
def inOrder (s : State) (q op psn : Nat) (l : List Byte) (d : Pull) (r : RdReq) (rest : List RdReq) : Prop :=
  let x := getQp s q
  x.pulls.head? = some d ∧ x.reqs = r :: rest ∧ psn = x.recvPsn ∧ op = respOpcode r (cMtu x.ctx) ∧
    l.length = min (cMtu x.ctx) (r.bytes - r.got)

/-- The state of a queue pair after a packet in order. -/
def taken (s : State) (q n : Nat) (r : RdReq) (rest : List RdReq) : State :=
  let x := getQp s q
  let again := fun (e : RdReq) => { e with sentAt := s.now }
  setQp (count s 0x5091 1 n) q { x with
    reqs := if r.bytes ≤ r.got + n then rest.map again else { r with got := r.got + n, sentAt := s.now } :: rest
    recvPsn := (x.recvPsn + 1) % 2 ^ 24, tries := 0 }

/-- A request for this package reaches its ordering point: its queue gives it, the router that receives it is not at the hop limit, its
C-die's clock runs, no earlier request to its line waits, the package neither alarms nor is fenced against it, and no welt on its way has
failed (09 R307, R309, R316, 15 R511, 16 R532, 17 R551). -/
def reaches (s : State) (src : FabIn) (p : Pkt) (t : State) : Prop :=
  pDst p = pnode s ∧ takePkt s src p = some t ∧ atHopLimit s src p = false ∧ (targetDie t (pOff p)).any (dieStopped t) = false ∧
    (∀ q, src = .link q → lineWaits t q p = false) ∧
    (t.dev.mode = .alarm → pSrc p = pnode t) ∧ (t.lace.fenced = true → pLogical p = false) ∧
    (requestWelts t (portOf s src p) p).any (weltFailed t) = false

/-- It is performed alone: no request waits with it that combines (09 R318). -/
def performs (s : State) (src : FabIn) (p : Pkt) (t : State) : Prop := reaches s src p t ∧ mates t p = []

/-- The command of a request that may combine, by its OP. -/
def combiningRow (src : FabIn) (p : Pkt) : Instr :=
  match pOp p with
  | 0x10 => .fabricAdd src p
  | 0x11 => .fabricOr src p
  | 0x12 => .fabricAnd src p
  | 0x13 => .fabricMin src p
  | 0x14 => .fabricMax src p
  | 0x15 => .fabricMinu src p
  | 0x16 => .fabricMaxu src p
  | _ => .fabricRead src p

/-- A request whose operand lies in memory that takes atomics, aligned, in one place and open to the requester (09 R312, R315). -/
def operandOk (s : State) (p : Pkt) (n : Nat) : Prop :=
  atomicPlace (pOff p) = true ∧ pOff p % n = 0 ∧ refusalRange s (pktWho s p) (pOff p) n true = none

/-- The answer of an atomic operation that finds the bytes `l` in state `u`: the new value written, the old one returned. -/
def swapped (s : State) (p : Pkt) (n : Nat) (new : Nat → Nat) : Out :=
  let x := getAt s (pktWho s p) (pOff p) n
  .next (sendResp (putAt x.1 (pktWho s p) (pOff p) (leBytes n (new (leNat x.2.1)))) (mkResp p 0x82 0 x.2.1))

/-- A lease operation that finds the lock word `l`: what it writes, if anything, and its STATUS. -/
def leaseAnswer (s : State) (p : Pkt) (new : Option Nat) (status : Nat) (ctr : Option Nat) : State :=
  let x := getAt s (pktWho s p) (pOff p) 8
  let t := match new with | some v => putAt x.1 (pktWho s p) (pOff p) (leBytes 8 v) | none => x.1
  sendResp (match ctr with | some c => count t 0x4050 c 1 | none => t) (mkResp p 0x82 status x.2.1)

/-- The lock word that a lease request finds. -/
def lockAt (s : State) (p : Pkt) : Nat := leNat (getAt s (pktWho s p) (pOff p) 8).2.1

end Sys2Proof.Claims

/-- 08 R296 to R298, R300: the requester takes the next descriptor of the pull ring in a state that runs commands: a bad field completes it with
0x85, a queue pair that is not ready with 0x80, else it joins its queue pair and READ requests go as the bounds admit them. -/
def Sys2Proof.Claims.PullDescriptorCompletes : Prop :=
  ∀ (s : State), cmdsRun s = true → getO s 0x5090 6 ≠ s.rdma.tail →
    let h := getO s 0x5090 6
    let d := leNat (peek s (getO s 0x5090 3 + 32 * (h % 2 ^ getO s 0x5090 4)) 32)
    let t := setO s 0x5090 6 ((h + 1) % 2 ^ 32)
    let x := getQp t (field d 0 6)
    (pullBad d = true → exec .pullDescriptor s = .next (complete t d 0x85 0)) ∧
    (pullBad d = false → x.state ≠ 1 → exec .pullDescriptor s = .next (complete t d 0x80 0)) ∧
    (pullBad d = false → x.state = 1 →
      exec .pullDescriptor s = .next (pumpAll (setQp t (field d 0 6) { x with pulls := x.pulls ++ [⟨d, 0, 0, 0, 0⟩] })))

/-- 08 R293, R295, R297, R299: a response in order is written to its place and what it completes completes, and one out of order has no
effect; a refused destination ends the descriptor with 0x84; a wrong ICRC is counted; a NAK of a PSN sequence error asks again, every other
NAK, an RNR NAK too, is an error of the queue pair. -/
def Sys2Proof.Claims.ResponsesComplete : Prop :=
  ∀ (eth : Fin 4) (f : List Byte) (s : State) (q op psn : Nat) (ce good : Bool) (body : List Byte),
    ethUp s eth = true → parseFrame s eth f = .packet q op psn ce good body →
    let v := if ce then sendCnp s q else s
    let l := if op = 0x0e then body else body.drop 4
    let n := l.length
    (good = false → op ≠ 0x11 → exec (.readResponse eth f) s = .next (count s 0x5091 3 1)) ∧
    (good = false → op = 0x11 → exec (.acknowledge eth f) s = .next (count s 0x5091 3 1)) ∧
    (good = true → op ≠ 0x11 → ∀ d r rest, inOrder v q op psn l d r rest →
      let u := deposit (taken v q n r rest) q d (r.offset + r.got) l
      (u.2 = true → exec (.readResponse eth f) s = .next (pumpAll (finishPull u.1 q 0x84))) ∧
      (u.2 = false → dFabric d.desc = true → exec (.readResponse eth f) s = .next (pumpAll u.1)) ∧
      (u.2 = false → dFabric d.desc = false → exec (.readResponse eth f) s = .next (pumpAll (arrived u.1 q n)))) ∧
    (good = true → op ≠ 0x11 → (∀ d r rest, ¬ inOrder v q op psn l d r rest) → exec (.readResponse eth f) s = .next v) ∧
    (good = true → op = 0x11 →
      let k := beAt body 0 1 % 128
      (k = 0x60 → exec (.acknowledge eth f) s = .next (resend v q)) ∧
      (k = 0x62 → exec (.acknowledge eth f) s = .next (qpError v q 0x81)) ∧
      (k / 32 = 1 ∨ (k / 32 = 3 ∧ k ≠ 0x60 ∧ k ≠ 0x62) → exec (.acknowledge eth f) s = .next (qpError v q 0x82)) ∧
      (k / 32 = 0 ∨ k / 32 = 2 → exec (.acknowledge eth f) s = .next v))

/-- 08 R292, R293, R299, R302: a queue pair whose oldest request waits its TIMEOUT asks again; a PFC frame of the priority in
force, that of the port's last training, pauses the port; every other frame is counted; a change of PCS lock raises event 0x5010. -/
def Sys2Proof.Claims.EthernetRowsComplete : Prop :=
  ∀ (s : State),
    (∀ (qp : Fin 64) r rest, (getQp s qp).state = 1 → (getQp s qp).reqs = r :: rest → r.sentAt + cTimeout (getQp s qp).ctx * usec ≤ s.now →
      exec (.qpResponseTimeout qp) s = .next (resend s qp)) ∧
    (∀ (eth : Fin 4) f, ethUp s eth = true →
      (∀ en times, parseFrame s eth f = .pfc en times →
        let k := ethPfc s eth
        (k < 8 → fbit en k = true → exec (.pfcFrame eth f) s = .next (pumpAll (modPort s (60 + eth)
          (fun x => { x with pfcUntil := s.now + ceilDiv (times.getD k 0 * 32256) 100 })))) ∧
        (8 ≤ k ∨ fbit en k = false → exec (.pfcFrame eth f) s = .next s)) ∧
      (parseFrame s eth f = .dropped → exec (.frameDropped eth f) s = .next (count s 0x5091 6 1))) ∧
    (∀ (eth : Fin 4) (up : Bool), (getPort s (60 + eth)).state = .ethernet → (getPort s (60 + eth)).lock ≠ up →
      exec (.ethernetLinkChange eth up) s = .next (pumpAll (raise (setPort s (60 + eth) { getPort s (60 + eth) with lock := up }) 0x5010
        (f8 (60 + eth) ++ f8 (if up then 1 else 0)))))

/-! ## The fabric -/

/-- 09 R312 to R316: a READ of memory answers the line, a WRITE writes the bytes whose mask bits are set, whole or not at all; a request of
either on MMIO is what the block does with it. A refused one is counted and answered with STATUS 0x01. -/
def Sys2Proof.Claims.FabricReadWriteComplete : Prop :=
  ∀ (src : FabIn) (p : Pkt) (s t : State), performs s src p t →
    let a := lineOf (pOff p)
    let mem := match classify (pOff p) with
      | .mmio _ => false
      | .unmapped => !(mmioAt (pOff p) && mirrorOff (pOff p / 64 * 64 - 0x00f000000000))
      | _ => true
    let who := pktWho t p
    let rd := readAt t who a 64
    (pOp p = 1 →
      (mem = true → rd.2.2.2 = none → exec (.fabricRead src p) s = .next (sendResp rd.1 (mkResp p 0x80 0 rd.2.1))) ∧
      (mem = true → rd.2.2.2 ≠ none → exec (.fabricRead src p) s = .next (sendResp rd.1 (failResp p 1))) ∧
      (mem = false → exec (.fabricRead src p) s = .next (sendResp (mmioOp t p).1 (mmioOp t p).2))) ∧
    (pOp p = 2 →
      (mem = true → refusalRange t who a 64 true = none → exec (.fabricWrite src p) s =
        .next (sendResp ((runs p).foldl (fun s w => putAt s who (a + w.1) w.2) t) (mkResp p 0x81 0 []))) ∧
      (mem = true → ∀ x r, refusalRange t who a 64 true = some (x, r) → exec (.fabricWrite src p) s =
        .next (sendResp (refuse t who x r) (failResp p 1))) ∧
      (mem = false → exec (.fabricWrite src p) s = .next (sendResp (mmioOp t p).1 (mmioOp t p).2)))

/-- 09 R312: every atomic writes its result at its ordering point and returns the old value: ADD modulo the width, OR, AND, the signed and
unsigned extremes, SWAP, and CAS where the operand equals its comparand (else it writes nothing). -/
def Sys2Proof.Claims.FabricAtomicsComplete : Prop :=
  ∀ (src : FabIn) (p : Pkt) (s t : State), performs s src p t →
    let w := pWidth p
    let n := w / 8
    let a := pA p
    let out := swapped t p n
    operandOk t p n →
    (pOp p = 0x10 → exec (.fabricAdd src p) s = out (fun x => (x + a) % 2 ^ w)) ∧
    (pOp p = 0x11 → exec (.fabricOr src p) s = out (fun x => x ||| a)) ∧
    (pOp p = 0x12 → exec (.fabricAnd src p) s = out (fun x => x &&& a)) ∧
    (pOp p = 0x13 → exec (.fabricMin src p) s = out (fun x => if signed w a < signed w x then a else x)) ∧
    (pOp p = 0x14 → exec (.fabricMax src p) s = out (fun x => if signed w x < signed w a then a else x)) ∧
    (pOp p = 0x15 → exec (.fabricMinu src p) s = out (fun x => min x a)) ∧
    (pOp p = 0x16 → exec (.fabricMaxu src p) s = out (fun x => max x a)) ∧
    (pOp p = 0x17 → exec (.fabricSwap src p) s = out (fun _ => a)) ∧
    (pOp p = 0x18 →
      (leNat (getAt t (pktWho t p) (pOff p) n).2.1 = pC p → exec (.fabricCas src p) s = out (fun _ => a)) ∧
      (leNat (getAt t (pktWho t p) (pOff p) n).2.1 ≠ pC p → exec (.fabricCas src p) s =
        .next (sendResp (getAt t (pktWho t p) (pOff p) n).1 (mkResp p 0x82 0 (getAt t (pktWho t p) (pOff p) n).2.1))))

/-- 09 R327 to R329: LEASE_ACQ takes a lock whose lease is not live and is answered 0x05 on a live one; LEASE_RENEW of the live owner, same
incarnation, moves its expiry, LEASE_REL of the owner that holds it writes 0, else both answer 0x06; a length of 0 or over the limit
answers 0x07. The refusals and the takes are counted. -/
def Obligations.LeasesComplete : Prop :=
  ∀ (src : FabIn) (p : Pkt) (s t : State), performs s src p t →
    let now := t.lace.tick
    let w := lockAt t p
    let mine := lkOwner w = pReq p % 2 ^ 23 ∧ lkInc w = pInc p
    let len := pLease p ≠ 0 ∧ pLease p ≤ getO t 0x4040 5
    let word := fun (o i : Nat) => some (lockWordOf o i (now + pLease p))
    (¬ len → (pOp p = 0x20 → exec (.fabricLeaseAcq src p) s = .next (sendResp t (mkResp p 0x82 7 []))) ∧
      (pOp p = 0x21 → exec (.fabricLeaseRenew src p) s = .next (sendResp t (mkResp p 0x82 7 [])))) ∧
    (operandOk t p 8 →
      (pOp p = 0x20 → len →
        (leaseLive w now = true → exec (.fabricLeaseAcq src p) s = .next (leaseAnswer t p none 5 (some 0x0b))) ∧
        (leaseLive w now = false → exec (.fabricLeaseAcq src p) s = .next (leaseAnswer t p (word (pReq p) (pInc p)) 0 (some 0x0a)))) ∧
      (pOp p = 0x21 → len →
        (leaseLive w now = true → mine → exec (.fabricLeaseRenew src p) s = .next (leaseAnswer t p (word (lkOwner w) (lkInc w)) 0 none)) ∧
        (leaseLive w now = false ∨ ¬ mine → exec (.fabricLeaseRenew src p) s = .next (leaseAnswer t p none 6 (some 0x0b)))) ∧
      (pOp p = 0x22 →
        (lkHeld w = true → mine → exec (.fabricLeaseRel src p) s = .next (leaseAnswer t p (some 0) 0 none)) ∧
        (lkHeld w = false ∨ ¬ mine → exec (.fabricLeaseRel src p) s = .next (leaseAnswer t p none 6 (some 0x0b)))))

/-- 09 R319, R320: what a combined group does at its ordering point is what its members would do one after the other. -/
def Obligations.CombiningIsSequential : Prop :=
  ∀ (op w x a : Nat) (as : List Nat), 0x10 ≤ op → op ≤ 0x16 → w = 32 ∨ w = 64 → x < 2 ^ w → a < 2 ^ w → (∀ b ∈ as, b < 2 ^ w) →
    atomic op w x (as.foldl (mergeOp op w) a) = (a :: as).foldl (atomic op w) x

/-- 09 R320: the response of a group gives member i the value that members 0 to i - 1 leave, and every member of a READ group the line;
each gets the group's STATUS. -/
def Obligations.FanOutOfAGroup : Prop :=
  ∀ (g : Group) (r : Pkt) (i : Nat) (m : Pkt), g.members[i]? = some m →
    let w := pWidth g.lead
    let x := (g.members.take i).foldl (fun x k => atomic (pOp k) w x (pA k)) (fieldB r 32 (w / 8))
    (fanOut g r).length = g.members.length ∧
    ((∀ k ∈ g.members, pOp k = 1) → (fanOut g r)[i]? = some (mkResp m 0x80 (pFlags r) (pData r 64))) ∧
    ((∀ k ∈ g.members, pOp k ≠ 1) → (fanOut g r)[i]? = some (mkResp m 0x82 (pFlags r) (if pFlags r = 0 then leBytes (w / 8) x else [])))

/-- 09 R308, R310, R314, R320, R323, R324: a response at its requester ends the request of its tag and generation, frees the tag and does what
its requester waits for; a stale one is counted; a group's response fans out. A packet on its way takes a hop toward its route; at the
limit a request answers 0x02 with event 0x4012 and a response is discarded. A request that meets others waiting at its ordering point that
combine with it is performed once for all of them, and each gets its response (R318 to R320). A request without a response in time ends with 0x04; a change of route waits for the old
requests to end, then those held leave. -/
def Obligations.FabricRoutingComplete : Prop :=
  ∀ (p : Pkt) (s t : State),
    (∀ src, isResp p = true → takePkt s src p = some t → atHopLimit s src p = false → pSrc p = pnode s ∨ (leadGroup s p).isSome = true →
      (∀ g, leadGroup t p = some g → exec (.fabricResponse src p) s = .next (fanGroup t g p)) ∧
      (leadGroup t p = none →
        (∀ q, mfind t.fab.reqs (pTag p) = some q → pGen q.pkt = pGen p →
          exec (.fabricResponse src p) s = .next (deliver t (pTag p) q (pFlags p) (pData p 64))) ∧
        (mfind t.fab.reqs (pTag p) = none → exec (.fabricResponse src p) s = .next (count t 0x4050 7 1)))) ∧
    (∀ (q : Port), headedFor p ≠ pnode s → takePkt s (.link q) p = some t →
      (pHops p ≠ getO s 0x4040 4 → (if isResp p then leadGroup t p else none) = none → ∀ o, routePort t (headedFor p) = some o →
        (o / 32 = q.val / 32 ∨ [32, 33].any (weltFailed t) = false) →
        exec (.fabricPacketForward (.link q) p) s = .next (enqueueFab t o (pSet p 19 (f8 (pHops p + 1))))) ∧
      (pHops p = getO s 0x4040 4 → exec (.fabricPacketForward (.link q) p) s =
        .next (if isResp p then t else sendResp (unreachable t (pDst p) 3) (failResp p 2)))) ∧
    (∀ (q : Port), pDst p = pnode s → takePkt s (.link q) p = some t → pHops p = getO s 0x4040 4 → combinable t p = true → isResp p = false →
      exec (combiningRow (.link q) p) s = .next (sendResp (unreachable t (pDst p) 3) (failResp p 2))) ∧
    (∀ src, reaches s src p t → mates t p ≠ [] →
      let m := mates t p
      let u := { t with fab := { t.fab with inside := m.foldl (fun l e => l.erase e) t.fab.inside } }
      let y := perform (count u 0x4050 (if pOp p = 1 then 2 else 3) m.length) (m.foldl (fun k e => mergePkt k e.pkt) p)
      exec (combiningRow src p) s = .next ((fanOut ⟨64, m.foldl (fun k e => mergePkt k e.pkt) p, p :: m.map (·.pkt)⟩ y.2).foldl sendResp y.1)) ∧
    (∀ tag q, mfind s.fab.reqs tag = some q → q.sentAt + getO s 0x4040 3 * usec ≤ s.now →
      let u := { s with fab := { s.fab with heldReqs := s.fab.heldReqs.filter (fun p => !sameTag p q.pkt) } }
      exec (.fabricTagTimeout tag) s = .next (deliver (raiseMs (count u 0x4050 6 1) 0x4011 0
        (f32 (pReq q.pkt) ++ f16 (pDst q.pkt) ++ f8 (pOp q.pkt) ++ f64 (pOff q.pkt) ++ f32 (inInterval u 0x4011)))
        tag q 4 [])) ∧
    (∀ node e, mfind s.fab.pendRoutes node = some e → routeBusy s node = false →
      exec (.routeChangeEffect node) s = .next ((s.fab.heldReqs.filter (fun p => pDst p == node)).foldl sendReq
        { s with fab := { s.fab with
          routes := mset 0 s.fab.routes node e
          pendRoutes := mdrop s.fab.pendRoutes node
          heldReqs := s.fab.heldReqs.filter (fun p => pDst p != node) } }))

/-! ## Control cores -/

namespace Sys2Proof.Claims
open Sys2Proof.Machine

/-- A thread issues and is in machine mode: a vendor register answers it (13 R435, R442). -/
def csrOk (s : State) (h : Hart) : Prop := Sys2Proof.Machine.issues s h = true ∧ (getHart s h).user = false

/-- A range of the core's own local RAM, or a fabric address, for the forms of an access (13 R437). -/
def ownAt (s : State) (h : Hart) (a n o : Nat) : Prop :=
  Sys2Proof.Machine.issues s h = true ∧ a % n = 0 ∧ effective s h a = .own o

def fabricAt (s : State) (h : Hart) (a n f : Nat) : Prop :=
  Sys2Proof.Machine.issues s h = true ∧ a % n = 0 ∧ effective s h a = .fabric f

end Sys2Proof.Claims

/-- 13 R437, R439, R441: a load of the core's own local RAM reads it; one of a cached line reads the cache; any other sends a READ of its
line (of its bytes, on MMIO) and the thread waits. A load that is not aligned, or outside the address ranges, takes the exception of
R436 and sends nothing; so do stores and atomics. -/
def Sys2Proof.Claims.LoadsComplete : Prop :=
  ∀ (h : Hart) (rd : Fin 32) (a n : Nat) (sgn : Bool) (s : State),
    let run := exec (.controlCoreLoad h rd a n sgn) s
    (∀ o, ownAt s h a n o →
      let r := readAt s (ownWho s h) (ramAddr h.core o) n
      run = .next (setReg r.1 h rd (extend sgn n (leNat r.2.1)))) ∧
    (∀ f, fabricAt s h a n f →
      (∀ l, cacheable f = true → mfind (getCtl s h.core).cache (lineOf f) = some l →
        run = .next (setReg s h rd (extend sgn n (fieldB l (f % 64) n)))) ∧
      (cacheable f = false ∨ mfind (getCtl s h.core).cache (lineOf f) = none →
        ∀ t, issue s (getHart s h).secure (lineOf f) 1 0 h.core h.thread 0 (if mmioAt f then byteMask (f % 64) n else 0) []
          (.reg h rd n f sgn) = (t, none) → run = .next (waitFor t s h))) ∧
    (Sys2Proof.Machine.issues s h = true →
      (a % n ≠ 0 → run = .next (takeTrap s h 4 a)) ∧
      (a % n = 0 → effective s h a = .fault → run = .next (takeTrap s h 5 a)))

/-- 13 R437, R439, R441, 09 R322: a store to the core's own local RAM writes it; one to a fabric address that leads to a node updates the
cached line and leaves as a WRITE of its bytes, which the thread does not wait for but at the bound of 16 or without a tag; one that
leads to none leaves its STATUS. -/
def Sys2Proof.Claims.StoresComplete : Prop :=
  ∀ (h : Hart) (a n v : Nat) (s : State),
    let run := exec (.controlCoreStore h a n v) s
    let d := leBytes n v
    (∀ o, ownAt s h a n o → run = .next (writeAt s (ownWho s h) (ramAddr h.core o) d).1) ∧
    (∀ f, fabricAt s h a n f →
      let u := patchLine s h.core f d
      (∀ st, fabRoute s (getHart s h).secure (lineOf f) = .done st → run = .next (setFstat (issueDone s st) h st)) ∧
      (∀ k logical, fabRoute s (getHart s h).secure (lineOf f) = .node k logical → writeRoom u h.core = false →
        let p := reqPkt u (lineOf f) 2 0 h.core h.thread 0 (byteMask (f % 64) n) (padTo 64 (List.replicate (f % 64) 0 ++ d)) k logical
        run = .next (setHart (stall u (.posted h) p) h { getHart u h with wait := .writes })) ∧
      (∀ k logical, fabRoute s (getHart s h).secure (lineOf f) = .node k logical → writeRoom u h.core = true →
        let p := reqPkt u (lineOf f) 2 0 h.core h.thread 0 (byteMask (f % 64) n) (padTo 64 (List.replicate (f % 64) 0 ++ d)) k logical
        let t := sendOrStall u (.posted h) p
        t.fab.stalled.length ≤ u.fab.stalled.length → run = .next t)) ∧
    (Sys2Proof.Machine.issues s h = true →
      (a % n ≠ 0 → run = .next (takeTrap s h 6 a)) ∧
      (a % n = 0 → effective s h a = .fault → run = .next (takeTrap s h 7 a)))

/-- 13 R438, R440: an atomic instruction on the core's own local RAM returns the old value and writes the new one; LR takes a reservation of
its 8-byte word, SC stores only under it and ends it. On a fabric address it is a request that the thread waits for; XOR, LR and SC
fault there. -/
def Sys2Proof.Claims.AtomicsOfACore : Prop :=
  ∀ (h : Hart) (op : AmoOp) (rd : Fin 32) (a : Nat) (wide : Bool) (v : Nat) (s : State),
    let n := if wide then 8 else 4
    let run := exec (.amo h op rd a wide v) s
    (∀ o, ownAt s h a n o →
      let m := ramAddr h.core o
      let r := readAt s (ownWho s h) m n
      let x := leNat r.2.1
      let mark := fun (u : State) (b : Option Nat) => setHart u h { getHart u h with resv := b }
      let word := m / 8 * 8
      (op = .lr → ∀ u, u = setReg r.1 h rd (extend true n x) → run = .next (mark u (some word))) ∧
      (op = .sc → (getHart s h).resv = some word →
        run = .next (setReg (writeAt (mark s none) (ownWho (mark s none) h) m (leBytes n v)).1 h rd 0)) ∧
      (op = .sc → (getHart s h).resv ≠ some word → run = .next (setReg (mark s none) h rd 1)) ∧
      (op ≠ .lr → op ≠ .sc → r.2.2.2 = none → run = .next (setReg
        (writeAt r.1 (ownWho s h) m (leBytes n (amoResult op (8 * n) x (v % 2 ^ (8 * n))))).1 h rd (extend true n x)))) ∧
    (∀ f, fabricAt s h a n f →
      (∀ c, amoCode op = some c → ∀ t, issue s (getHart s h).secure f c (if wide then 1 else 0) h.core h.thread 0 0 (leBytes n v)
        (.reg h rd n 0 true) = (t, none) → run = .next (waitFor t s h)) ∧
      (op = .xor ∨ op = .sc → run = .next (takeTrap s h 7 a)) ∧ (op = .lr → run = .next (takeTrap s h 5 a)))

/-- 13 R440, 09 R321, R322: FAB_CAS and the lease instructions send their request and the thread waits; on the core's own local RAM they
fault. FAB_FENCE stops a thread whose WRITEs are out; FAB_INV takes the lines of its range, or every remote line, out of the cache. -/
def Sys2Proof.Claims.VendorInstructionsComplete : Prop :=
  ∀ (h : Hart) (rd : Fin 32) (a len v : Nat) (s : State),
    let reg := fun (n : Nat) (sgn : Bool) => Sink.reg h rd n 0 sgn
    let sec := (getHart s h).secure
    (∀ f t (wide : Bool), fabricAt s h a (if wide then 8 else 4) f →
      issue s sec f 0x18 (if wide then 1 else 0) h.core h.thread 0 0
        (padTo 8 (leBytes (if wide then 8 else 4) v) ++ leBytes (if wide then 8 else 4) (getHart s h).fcmp)
        (reg (if wide then 8 else 4) true) = (t, none) →
      exec (.fabCas h rd a wide v) s = .next (waitFor t s h)) ∧
    (∀ f t, fabricAt s h a 8 f →
      (issue s sec f 0x20 1 h.core h.thread (min len (2 ^ 32 - 1)) 0 [] (reg 8 false) = (t, none) →
        exec (.leaseAcq h rd a len) s = .next (waitFor t s h)) ∧
      (issue s sec f 0x21 1 h.core h.thread (min len (2 ^ 32 - 1)) 0 [] (reg 8 false) = (t, none) →
        exec (.leaseRenew h rd a len) s = .next (waitFor t s h)) ∧
      (issue s sec f 0x22 1 h.core h.thread 0 0 [] (reg 8 false) = (t, none) →
        exec (.leaseRel h rd a) s = .next (waitFor t s h))) ∧
    (∀ o, ownAt s h a 8 o →
      exec (.leaseAcq h rd a len) s = .next (takeTrap s h 7 a) ∧ exec (.leaseRenew h rd a len) s = .next (takeTrap s h 7 a) ∧
      exec (.leaseRel h rd a) s = .next (takeTrap s h 7 a) ∧ exec (.fabCas h rd a true v) s = .next (takeTrap s h 7 a)) ∧
    (Sys2Proof.Machine.issues s h = true →
      (postedOut s h = true → exec (.fabFence h) s = .next (setHart s h { getHart s h with wait := .fence })) ∧
      (postedOut s h = false → exec (.fabFence h) s = .next s) ∧
      (exec (.fabInv h a 0) s = .next (setCtl s h.core { getCtl s h.core with
        cache := (getCtl s h.core).cache.filter (fun e => isLocal s e.1) })) ∧
      (∀ f, len ≠ 0 → effective s h a = .fabric f → exec (.fabInv h a len) s = .next (setCtl s h.core { getCtl s h.core with
        cache := (getCtl s h.core).cache.filter (fun e => noWorld f + len ≤ noWorld e.1 || noWorld e.1 + 64 ≤ noWorld f) })))

/-- 13 R442 to R445, 06 R243: the vendor registers, in M mode (in U mode an access is illegal): FN_WORLD lowers the world and never raises
it; FN_AWLSUB queues a descriptor, or refuses it with its completion, or the thread waits for room, and is illegal on a supervisor
core; FN_AWLDONE reads and clears; FN_FSTAT clears STICKY by 1; FN_THCTL starts parked threads and parks others. -/
def Sys2Proof.Claims.VendorRegistersComplete : Prop :=
  ∀ (h : Hart) (rd : Fin 32) (v : Nat) (s : State),
    let x := getHart s h
    let k := getCtl s h.core
    (csrOk s h →
      (v % 2 = 0 → exec (.fnWorld h v) s = .next (setHart s h { x with secure := false })) ∧
      (v % 2 = 1 → exec (.fnWorld h v) s = .next (raise s 0x1004 (f16 h.core ++ f8 h.thread))) ∧
      (320 ≤ h.core → exec (.fnAwlsub h v) s = .next (takeTrap s h 2 0)) ∧
      (∀ l, h.core < 320 → clusterOf s h.core = some l →
        let bs := ramDesc s h.core (v % 65536)
        let e := leNat bs
        (badUnscheduled s l e bs = true → exec (.fnAwlsub h v) s = .next (refuseDesc s h.core l e)) ∧
        (badUnscheduled s l e bs = false → 64 ≤ (getAwl s l).queue.length →
          exec (.fnAwlsub h v) s = .next (setHart s h { x with wait := .awlQueue e })) ∧
        (badUnscheduled s l e bs = false → (getAwl s l).queue.length < 64 → exec (.fnAwlsub h v) s =
          .next (setAwl s l { getAwl s l with queue := (getAwl s l).queue ++ [(e, h.core)] }))) ∧
      (∀ mail, mail = s.relum.boxes.any (fun e => e.1 < 8 && (e.2.done || e.2.timeout) && e.2.owner.any (fun h' => h'.core == h.core)) →
        exec (.fnAwldone h rd) s =
          .next (setReg (setCtl s h.core { k with done := 0, poisoned := 0, meip := mail }) h rd (k.done + k.poisoned * 2 ^ 32))) ∧
      exec (.fnFstat h v) s = .next (setHart s h { x with fstat := v % 256, sticky := x.sticky && !fbit v 8 }) ∧
      exec (.threadStart h v) s = .next ((List.range (threadsOf h.core)).foldl (fun s t => startThread s h v t) s) ∧
      exec (.threadReset h v) s = .next ((List.range (threadsOf h.core)).foldl
        (fun s t => if fbit v (8 + t) && t != h.thread then resetThread s h.core t else s) s)) ∧
    (Sys2Proof.Machine.issues s h = true → x.user = true →
      ∀ i ∈ [Instr.fnWorld h v, .fnAwlsub h v, .fnAwldone h rd, .fnFstat h v, .threadStart h v, .threadReset h v],
        exec i s = .next (takeTrap s h 2 0))

/-- 13 R435, R436, R445, R448, R449: the timer of a thread that is due is pending and ends its WFI; RUN releases a bound core, whose thread
0 starts; a reset parks every thread and empties the core's caches; a host write in its window goes out, or without a PCIe link is
counted and reported. -/
def Obligations.CoreControlCompletes : Prop :=
  ∀ (s : State) (secure : Bool),
    (∀ (h : Hart), (getHart s h).mtimecmp ≤ ktime s → exec (.timerInterrupt h) s = .next (setHart s h { getHart s h with
      mtip := true, wait := if (getHart s h).wait = .wfi then .none else (getHart s h).wait })) ∧
    (∀ c, isBound s (c / 20) (c % 20) = true → (getCtl s c).run = false →
      let u := setCtl s c { getCtl s c with run := true }
      exec (.coreRun c secure) s = .next (setHart u ⟨c, 0⟩ { getHart u ⟨c, 0⟩ with live := true, pc := ramAddr c 0 })) ∧
    (∀ c, exec (.coreReset c secure) s =
      .next (setCtl ((List.range (threadsOf c)).foldl (fun s t => resetThread s c t) s) c CtlCore.init)) ∧
    (∀ req off data,
      (s.dev.pcieUp = true → exec (.hostWindowWrite req secure off data) s = .next (emit s (.hostWrite (getO s 0x1040 1 + off) data))) ∧
      (s.dev.pcieUp = false → exec (.hostWindowWrite req secure off data) s = .next (raiseMs (count s 0x1040 2 1) 0x1005 0
        (leBytes 3 req ++ f32 off ++ f32 (inInterval s 0x1005)))))

/-! ## Relum -/

namespace Sys2Proof.Claims
open Sys2Proof.Machine

/-- The requester of a frame: its lock key stands in the frame. -/
def asker (s : State) (a : Acc) (f : Frame) : Req := { reqOf s a with key := rKey f }

/-- A whole, good, well-formed request with its row's OP, for this package, on a path that the state serves, and no repeat of the
requester's last one (14 R465, R472, R482 step 1). -/
def asked (s : State) (a : Acc) (op : Nat) (f : Frame) : Prop :=
  rOp f = op ∧ goesRemote s (asker s a f) f = false ∧ frameGood f = true ∧ pathServed s (asker s a f) = true ∧
    s.relum.kept.find? (fun k => k.origin == (asker s a f).origin && k.request == f) = none ∧ malformed f = false

/-- The request is answered: an abort is counted, the response is kept for a retry, and it leaves on its path. -/
def answered (s : State) (a : Acc) (f : Frame) (t : State) (y : Answer) : Out :=
  let rsp := respFrame f y
  .next (emit (keepResp (countAbort t f y.code) (asker s a f).origin f rsp) (.response a.path rsp))

/-- The entry that a frame names exists in the requester's world (14 R482 steps 2 and 3). -/
def sees (s : State) (a : Acc) (f : Frame) (row : ObjRow) : Prop :=
  worldBar (asker s a f) (rIndex f) (rSub f) = false ∧ entryOf (rIndex f) (rSub f) = .ok row

end Sys2Proof.Claims

/-- 14 R460 to R465, R479 to R482: READ answers an entry's value in its type, WRITE what the write gives, DESCRIBE the entry's description;
LOCK takes a range that nothing locks, with a key of the model's free random value (log entry 21); UNLOCK frees a lock of its holder, or
by force of the secure world. Each renews the lock whose KEY it carries. -/
def Obligations.RelumRequestsComplete : Prop :=
  ∀ (a : Acc) (f : Frame) (s : State) (row : ObjRow),
    let r := asker s a f
    let t := countServed s a.path
    let i := rIndex f
    let j := rSub f
    let fst' := fieldB f 12 2
    let lst := fieldB f 14 2
    let mine := fun (l : LockEntry) => l.origin = r.origin ∧ l.key = r.key ∨ r.secure = true ∧ rForce f = true
    (asked s a 1 f → sees s a f row → row.acc ≠ .wo → rType f = 0 ∨ rType f = tyCode row.ty → keeperBar t row r = false →
      exec (.relumRead a f) s = answered s a f (renew t r) ⟨0, tyCode row.ty, readRow t row i j⟩) ∧
    (asked s a 2 f → sees s a f row → ∀ u c, doWrite t r i j (some (rType f)) (rData f) = (u, c) →
      exec (.relumWrite a f) s = answered s a f u ⟨c, tyCode row.ty, []⟩) ∧
    (asked s a 3 f → sees s a f row →
      exec (.relumDescribe a f) s = answered s a f (renew t r) ⟨0, tyCode row.ty, describeRow row i j⟩) ∧
    (asked s a 4 f → t.dev.mode ≠ .alarm → t.relum.locks.any (fun e => e.2.first ≤ lst && fst' ≤ e.2.last) = false → fst' ≤ lst →
      ∀ n, (List.range 16).find? (fun n => (mfind t.relum.locks n).isNone) = some n →
        let u := (fresh (renew t r)).2
        let key := Config.random (fresh t).1 % 65535 + 1
        let l : LockEntry := ⟨fst', lst, r.origin, key, u.now + getO u 0x1060 0x11 * msec⟩
        exec (.relumLock a f) s = answered s a f { u with relum := { u.relum with locks := mbind u.relum.locks n l } }
          ⟨0, 0, f16 key ++ f8 n⟩) ∧
    (asked s a 5 f → t.dev.mode ≠ .alarm → ∀ n l, t.relum.locks.find? (fun e => e.2.first ≤ i && i ≤ e.2.last) = some (n, l) →
      (mine l → exec (.relumUnlock a f) s =
        answered s a f (renew { t with relum := { t.relum with locks := mdrop t.relum.locks n } } r) ⟨0, 0, []⟩) ∧
      (¬ mine l → exec (.relumUnlock a f) s = answered s a f t ⟨0x0402, 0, []⟩))

/-- 14 R465, R472: a frame of the wrong length or CRC is counted and gets no answer; a repeat of the requester's last request gets the kept
response and is not executed again; the host mailbox and the local port get abort 0x0401 where their state does not serve them. -/
def Obligations.FramesAreServedOnce : Prop :=
  ∀ (s : State) (r : Req) (f : Frame),
    (frameGood f = false → serveFrame s r f = (count s 0x1051 5 1, none)) ∧
    (frameGood f = true → pathServed s r = false →
      (r.path = .hostMailbox ∨ r.path = .localPort →
        serveFrame s r f = (keepResp (count s 0x1051 7 1) r.origin f (respFrame f ⟨0x0401, 0, []⟩), some (respFrame f ⟨0x0401, 0, []⟩))) ∧
      (r.path = .i3c ∨ r.path = .inBand → serveFrame s r f = (s, none))) ∧
    (frameGood f = true → pathServed s r = true → s.relum.kept.find? (fun k => k.origin == r.origin && k.request == f) = none →
      ∃ t rsp, serveFrame s r f = (t, some rsp) ∧
        ∀ u : State, u.relum.kept = t.relum.kept → pathServed u r = true →
          serveFrame u r f = (count (countServed u r.path) 0x1051 6 1, some rsp))

/-- 14 R481: a lock whose expiry has passed is freed, counted, and reported by event 0x1006. -/
def Sys2Proof.Claims.LockExpiryCompletes : Prop :=
  ∀ (s : State) (n : Nat) (l : LockEntry), mfind s.relum.locks n = some l → l.expiry ≤ s.now →
    let t := { s with relum := { s.relum with locks := mdrop s.relum.locks n } }
    exec (.lockExpiry n) s =
      .next (raise (count t 0x1051 9 1) 0x1006 (f8 n ++ f16 l.first ++ f16 l.last ++ f16 l.origin ++ f64 (ktime t)))

/-- 14 R467, R468: the I3C target answers its CCCs while VDD_AON is up and object 0x1050.03 is 1, else it answers none. -/
def Sys2Proof.Claims.I3cCommandsComplete : Prop :=
  ∀ (s : State) (addr n : Nat),
    let dyn := getO s 0x1050 2
    let answers := fun (i : Instr) (l : List Byte) => exec i s = .next (emit s (.i3c l))
    (s.dev.aonUp = true → getO s 0x1050 3 = 1 →
      (dyn = 0 → exec (.entdaa addr) s = .next (setO s 0x1050 2 addr) ∧ exec (.setdasa addr) s = .next (setO s 0x1050 2 addr)) ∧
      (dyn ≠ 0 → exec (.setnewda addr) s = .next (setO s 0x1050 2 addr)) ∧
      exec .rstdaa s = .next (setO s 0x1050 2 0) ∧
      exec .enec s = .next { s with events := { s.events with
        ibiEnabled := true, ibiRequested := s.events.ibiCount != 0 && decide (s.events.ibiAt ≤ s.now) } } ∧
      exec .disec s = .next { s with events := { s.events with ibiEnabled := false, ibiRequested := false } } ∧
      answers .getpid (leBytes 6 (0x0f3b * 2 ^ 33 + 2 ^ 32 + s.sec.shadow.serial % 2 ^ 32)).reverse ∧
      answers .getbcr [0x06] ∧ answers .getdcr [0x00] ∧
      answers .getstatus (leBytes 2 (min 15 s.events.ibiCount + 32 * b01 s.relum.i3cRsp.isSome)).reverse ∧
      answers .getmwl [0, 80] ∧ answers .getmrl [0, 80, 4] ∧
      (n < 80 → exec (.setmwl n) s = .next { s with relum := { s.relum with mwl := n } } ∧
        exec (.setmrl n) s = .next { s with relum := { s.relum with mrl := n } }) ∧
      (80 ≤ n → exec (.setmwl n) s = .next s ∧ exec (.setmrl n) s = .next s)) ∧
    (s.dev.aonUp = false ∨ getO s 0x1050 3 ≠ 1 →
      ∀ i ∈ [Instr.entdaa addr, .setdasa addr, .setnewda addr, .rstdaa, .enec, .disec, .getpid, .getbcr, .getdcr, .getstatus, .getmwl,
        .getmrl, .setmwl n, .setmrl n, .i3cPrivateWrite [], .i3cPrivateRead], exec i s = .next s)

/-- 14 R465, R467: a private write is served as a frame and its response, if any, waits for the private read, which takes it off no queue; a
transfer over the length in force is not acknowledged. -/
def Sys2Proof.Claims.I3cTransfersComplete : Prop :=
  ∀ (s : State) (f : Frame), i3cOn s = true →
    let r : Req := ⟨.i3c, originOf s .i3c 0 0, false, rKey f, none⟩
    let y := serveFrame { s with relum := { s.relum with i3cRsp := none } } r f
    (f.length ≤ s.relum.mwl → exec (.i3cPrivateWrite f) s = .next { y.1 with relum := { y.1.relum with i3cRsp := y.2 } }) ∧
    (s.relum.mwl < f.length → exec (.i3cPrivateWrite f) s = .next (emit s .i3cNack)) ∧
    (∀ rsp, s.relum.i3cRsp = some rsp →
      (rsp.length ≤ s.relum.mrl → exec .i3cPrivateRead s = .next (emit s (.i3c rsp))) ∧
      (s.relum.mrl < rsp.length → exec .i3cPrivateRead s = .next (emit s .i3cNack))) ∧
    (s.relum.i3cRsp = none → exec .i3cPrivateRead s = .next (emit s .i3cNack))

/-- 14 R469 to R471: a doorbell of 1 on a mailbox that is free submits its request: a local one with REMOTE leaves for its target, any other is
served and answered in RSP; one on a busy mailbox is an overrun. Bits of STATUS clear by 1; a remote request without a response in
10 ms ends with TIMEOUT. -/
def Sys2Proof.Claims.MailboxesComplete : Prop :=
  ∀ (h : Hart) (k v : Nat) (req : List Byte) (s : State),
    let ring := fun (k : Nat) (own : Option Hart) (r : State → Req) (run : Out) =>
      let b := getBox s k
      let u := setBox s k { b with req := padTo 80 req }
      let w := setBox u k { getBox u k with busy := true, owner := own, sentAt := none }
      let f := bufFrame (getBox w k).req
      let q := { r w with key := rKey f }
      (b.busy = true → run = .next (setBox s k { b with overrun := true })) ∧
      (b.busy = false → (getBox u k).busy = false →
        (goesRemote w q f = true → run = .next (sendRemote w k q f)) ∧
        (goesRemote w q f = false →
          (∀ t rsp, serveFrame w q f = (t, some rsp) → run = .next (answerBox t k rsp)) ∧
          (∀ t, serveFrame w q f = (t, none) → run = .next t)))
    ring 8 none (fun w => ⟨.hostMailbox, originOf w .hostMailbox 0 0, false, 0, none⟩) (exec (.hostMailboxDoorbell req 1) s) ∧
    ring k (some h) (fun w => ⟨.localPort, originOf w .localPort k 0, (getHart s h).secure, 0, some h⟩)
      (exec (.localPortDoorbell h k req 1) s) ∧
    (let b := getBox s k
     let u := setBox s k { b with
      done := b.done && !fbit v 1, overrun := b.overrun && !fbit v 2, timeout := b.timeout && !(fbit v 3 && k != 8) }
     (b.owner = none → exec (.mailboxStatus k v) s = .next u) ∧
     (∀ o, b.owner = some o → exec (.mailboxStatus k v) s = .next (settleMeip u o.core)) ∧
     (∀ t, b.sentAt = some t → b.busy = true → t + 10 * msec ≤ s.now → exec (.mailboxTimeout k) s =
      .next (ringBox (setBox s k { b with busy := false, timeout := true, sentAt := none }) k)))

/-- 14 R471, R478: a management flit frees its buffer; at its target a request is served in its world and the response goes back, a response
ends the request of its mailbox, a NOTIFY fills the mailbox of object 0x1070.05; elsewhere the flit takes a hop, up to the limit. -/
def Sys2Proof.Claims.InBandCompletes : Prop :=
  ∀ (p : Port) (b : List Byte) (s : State), portUp s p = true →
    let t := giveCredit s p 5
    let rows := [(Instr.inBandRequest p b, decide (fbit (mFlags b) 1 = false ∧ fbit (mFlags b) 2 = false)),
      (.inBandResponse p b, fbit (mFlags b) 1), (.notifyFlit p b, decide (fbit (mFlags b) 2 = true ∧ fbit (mFlags b) 1 = false))]
    (∀ i, (i, true) ∈ rows →
      (mDst b ≠ pnode t → getO t 0x4040 4 ≤ fieldB b 4 1 → exec i s = .next t) ∧
      (mDst b ≠ pnode t → fieldB b 4 1 < getO t 0x4040 4 → exec i s = .next (rerouteMgmt t (pSet b 4 (f8 (fieldB b 4 1 + 1)))))) ∧
    (mDst b = pnode t →
      (fbit (mFlags b) 1 = false → fbit (mFlags b) 2 = false →
        let q : Req := ⟨.inBand, originOf t .inBand (mBox b) (mSrc b), fbit (mFlags b) 0, rKey (mFrame b), none⟩
        (∀ u rsp, serveFrame t q (mFrame b) = (u, some rsp) → exec (.inBandRequest p b) s = .next (mgmtOut u (mSrc b) (mBox b) 2 rsp)) ∧
        (∀ u, serveFrame t q (mFrame b) = (u, none) → exec (.inBandRequest p b) s = .next u)) ∧
      (fbit (mFlags b) 1 = true → (getBox t (mBox b)).busy = true → (getBox t (mBox b)).sentAt.isSome = true →
        exec (.inBandResponse p b) s = .next (answerBox t (mBox b) (mFrame b))) ∧
      (fbit (mFlags b) 1 = false → fbit (mFlags b) 2 = true →
        let k := getO t 0x1070 5
        exec (.notifyFlit p b) s = .next (ringBox (setBox t k { getBox t k with rsp := mFrame b, done := true }) k)))

/-! ## Serving and routing -/

namespace Sys2Proof.Claims
open Sys2Proof.Machine

/-- A queued request that could take a slot now: its tenant has a share and a slot is free for it (10 R359). -/
def couldEnter (s : State) (x : Nat × Eyelet) : Prop :=
  x ∈ s.serving.eyelets ∧ x.2.state = 1 ∧ (getTen s x.2.tenant).share ≠ 0 ∧ (freeSlotFor s x.2).isSome = true

/-- A route step of a kind comes to the start of its descriptor, its waiters set, `t` being the state in which it acts (11 R382, R389). -/
def routed (s : State) (l ix : Nat) (want : Site → Bool) (t : State) (im : Image) (pl : Plan) (x : Site) (e slot g : Nat) : Prop :=
  ∃ p u q, partOf s l = some (p, im) ∧ im.awl[ix]? = some e ∧ routeOf s p ix = some (slot, pl, x) ∧ aLcl e = l ∧ want x = true ∧
    awlBegun s l ix = false ∧
    atCycle s l (aPtick e) (aStart e) = (u, some q) ∧ g = groupOf im l (aPtick e) ∧
    t = commitDue (if aWaitEn e then sbSet u l (aCore e) (aWaitBit e) false else u) l (aCore e) im

end Sys2Proof.Claims

/-- 10 R351: at phase 0 of a tick, its pass on the active manager: results, cancels, arrivals, checks, ends, charges and, but while draining, admissions,
in this order; then the next points see its outcome. It is made once in a tick. -/
def Sys2Proof.Claims.TickPassCompletes : Prop :=
  ∀ (s : State),
    let u := applyResults (drainHeld s)
    let v := u.serving.cancels.foldl (fun s i => cancelReq s i 6) { u with serving := { u.serving with cancels := [] } }
    let w := chargeAll (endReqs (checkDeads (consume (getO v 0x6011 1) v)))
    (isManager s = true → inRun s = true → laceRuns s = true → s.lace.phase = 0 → s.serving.passTick ≤ s.lace.tick →
      (w.dev.mode ≠ .draining → exec .tickPass s = .next (endPass (admitAll (getO w 0x6011 2) w) s)) ∧
      (w.dev.mode = .draining → exec .tickPass s = .next (endPass w s))) ∧
    (s.lace.phase ≠ 0 ∨ s.lace.tick < s.serving.passTick → exec .tickPass s = .next s)

/-- 10 R359: admission takes, of the requests that could take a slot, one that none of the others ranks before: by class, then slack or the
tenant's virtual time, then priority, then commit order. -/
def Obligations.AdmissionTakesTheBest : Prop :=
  ∀ (s : State),
    (∀ i a, bestReq s = some (i, a) → ∃ e, couldEnter s (i, e) ∧ freeSlotFor s e = some a ∧
      ∀ y, couldEnter s y → keyBelow (admitKey s y.2) (admitKey s e) = false) ∧
    (bestReq s = none ↔ ∀ y, ¬ couldEnter s y)

/-- 10 R362 to R367, R337, 02 R613: a sampling job that is due gives the result of its next slot, its blocks without a value counted at once,
and ends with its last. At phase 0 of tick E the standby is the active manager: it takes what the mirror gave it, and requests that hold a slot go back. -/
def Sys2Proof.Claims.SamplerAndTakeoverComplete : Prop :=
  ∀ (s : State),
    (∀ j r k ks, s.serving.jobs = j :: r → j.slots = k :: ks → j.endAt ≤ s.cyc →
      let u := badP16 (sampleSlot s j k).1 2 j.tick 0xffff j.group j.partition (sampleSlot s j k).2
      (ks ≠ [] → exec .samplerResult s = .next { u with serving := { u.serving with jobs := { j with slots := ks } :: r } }) ∧
      (ks = [] → exec .samplerResult s = .next { u with serving := { u.serving with jobs := r } })) ∧
    (∀ e, s.serving.takeover = some e → laceRuns s = true → s.lace.tick = e → s.lace.phase = 0 →
      let u := restoreMirror (setRole (setRole { s with serving := { s.serving with takeover := none } } 0 true) 1 false)
      let held := u.serving.eyelets.filter (fun y => y.2.state == 2 && y.2.key.isSome)
      ∃ v, v = held.foldl (fun s y => match y.2.key with | some k => goBack s k y.1 y.2.tokenIndex false 0 | none => s) u ∧
        exec .managerTakeover s = .next (raise v 0x6006 (f64 e ++ f64 s.serving.mirrorTick ++ f32 held.length)))

/-- 11 R389 to R393: at the start of its descriptor round 0 selects every row's experts by the gate's scores and places them, a later round
places the choices that were carried, and COMBINE sums each row's experts by weight and counts the blocks without a value (02 R613); each starts its step with the writes it makes. -/
def Sys2Proof.Claims.RouteStepsComplete : Prop :=
  ∀ (lcl : Lcl) (ix : Nat) (s t : State) (im : Image) (pl : Plan) (x : Site) (e slot g : Nat),
    let l := lcl.val
    (routed s l ix (fun x => x.kind == 0 && x.round == 0) t im pl x e slot g →
      let bank := activeBank t slot
      let rows := (List.range x.m).map (selectRow t im x (aCore e) g bank)
      let recs := rows.flatMap (·.1)
      let bad := (rows.filter (·.2)).length
      let nulls := ((List.range x.m).filter (rowOn t im x g)).foldl (fun n m =>
        n + (((rows.getD m ([], false)).1).filter (fun c => c.state == 3)).length) 0
      ∀ u, u = addAll (count t 0x3070 5 nulls) pl x 0 ((recs.filter (fun c => c.state == open')).map (·.expert)) →
        (bad = 0 → exec (.round0 lcl ix) s = .next (runRound u im pl x e ix g bank recs)) ∧
        (bad ≠ 0 → exec (.round0 lcl ix) s = .next (runRound
          (raise (count u 0x3070 8 bad) 0x3304 (f16 x.lcl ++ f16 x.id ++ f8 bad)) im pl x e ix g bank recs))) ∧
    (routed s l ix (fun x => x.kind == 0 && x.round != 0) t im pl x e slot g →
      let recs := readRec t x (aCore e)
      exec (.dispatchRound lcl ix) s = .next (runRound t im pl x e ix g (recs.headD ⟨0, 0, 0, 3, 0⟩).bank recs)) ∧
    (routed s l ix (fun x => x.kind == 1) t im pl x e slot g →
      let rows := ((List.range x.m).filter (rowOn t im x g)).map (fun m => (m, combineRow t x (aCore e) (readRec t x (aCore e)) m))
      let bad := rows.foldl (fun n r => n + r.2.2) 0
      let v := stepEcc t x (aCore e) ix (combineReads x (rows.map (·.1)) (readRec t x (aCore e)))
      let u := startStep v ix e (rows.flatMap (fun r =>
        cellsAt x.lcl (aCore e) (x.out + 32 * r.1 * x.outStride) (r.2.1.flatMap (leBytes 4))))
      exec (.combine lcl ix) s = .next (badP16 u 3 ix x.lcl 0xff 0xff bad))

/-- 11 R400: the oldest popularity count of a step is added to its word, modulo 2^32, where an object stands there. -/
def Sys2Proof.Claims.PopularityCountsComplete : Prop :=
  ∀ (s : State) (a n tick : Nat) (r : List (Nat × Nat × Nat)), s.routing.adds = (a, n, tick) :: r →
    let u := { s with routing := { s.routing with adds := r } }
    let x := getAt u Who.pkg a 4
    ((objAt u a).isSome = true →
      exec .popularityCountAdd s = .next (putAt x.1 Who.pkg a (f32 ((leNat x.2.1 + n) % 2 ^ 32)))) ∧
    ((objAt u a).isNone = true → exec .popularityCountAdd s = .next u)

/-- 11 R391, R392: round 0 settles every open choice: it takes a row, is carried to a later round where one follows, or is dropped; every other
entry stays as it was, and no expert takes more rows of a share than it has. -/
def Obligations.RoundSettlesEveryChoice : Prop :=
  ∀ (s : State) (im : Image) (pl : Plan) (x : Site) (g : Nat) (recs : List RRec), recs.length = x.m * x.topk →
    let st := placeAll s im pl x g 0 recs
    st.recs.length = recs.length ∧
    (∀ (i : Nat) (c : RRec), recs[i]? = some c →
      (c.state ≠ 4 → st.recs[i]? = some c) ∧
      (c.state = 4 → ∃ d : RRec, st.recs[i]? = some d ∧ d.expert = c.expert ∧ d.weight = c.weight ∧ d.bank = c.bank ∧
        (d.state = 0 ∨ d.state = 1 ∧ 1 < x.nrounds ∨ d.state = 2 ∧ x.nrounds ≤ 1))) ∧
    (∀ b, (∀ c ∈ recs, c.bank = b) → x.pref ≤ 16 → ∀ e q, q < 16 → mget 0 st.taken (e * 16 + q) ≤ (shareAt s pl b x e q).rows)

/-! ## Device state, images, security, events, power, start-up -/

namespace Sys2Proof.Claims
open Sys2Proof.Machine

/-- No change of the package's state holds up the change to STANDBY (14 R475). -/
def settled (s : State) : Prop := s.memSt.cmd = none ∧ s.imgCmd = none

/-- What a sample of the thermal sensors puts into objects 0x2150 and 0x2151 (17 R564). -/
def sampled (s : State) (temps : List Int) : State :=
  let u := (temps.zipIdx).foldl (fun s e => setO s 0x2151 (e.2 + 1) (unsigned 16 e.1)) s
  let h := hottest temps 0 (temps.headD 0, 0)
  setO (setO u 0x2150 1 (unsigned 16 h.1)) 0x2150 2 h.2

/-- Event 0x2107 for every sensor above 105 degrees. -/
def hotEvents (temps : List Int) (s : State) : State :=
  (temps.zipIdx).foldl (fun s e => if 1050 < e.1 then raiseSec s 0x2107 (f8 e.2 ++ f16 (unsigned 16 e.1)) else s) s

end Sys2Proof.Claims

/-- 14 R474, R475, 18 R587: a change of state completes: STANDBY after power-up once the firmware is ready and the link is up, from READY or
HALTED once the object and image commands have ended, from ALARM by leaving it; READY at step 6; DRAINING and RUNNING at phase 0. -/
def Sys2Proof.Claims.StateChangesComplete : Prop :=
  ∀ (s : State),
    let run := exec .stateChangeComplete s
    let at' := fun (m : DevState) => setMode { s with dev := { s.dev with target := none } } m 1 0
    (s.dev.target = some .standby → s.dev.mode = .keeper → s.dev.boot = .firmware → s.dev.fwReady = true → s.dev.pcieUp = true →
      run = .next (standbyFromKeeper s)) ∧
    (s.dev.target = some .standby → settled s →
      (s.dev.mode = .alarm → run = .next (leaveAlarm s)) ∧
      (s.dev.mode ≠ .keeper → s.dev.mode ≠ .alarm →
        run = .next (setMode { s with dev := { s.dev with target := none, selfRefresh := true } } .standby 1 0))) ∧
    (s.dev.target = some .ready →
      (getO (bringUp s) 0x2004 1 = 6 → run = .next (enterReady (bringUp s))) ∧
      (getO (bringUp s) 0x2004 1 ≠ 6 → run = .next (bringUp s))) ∧
    (laceRuns s = true → s.lace.phase = 0 →
      (s.dev.target = some .draining → run = .next (at' .draining)) ∧ (s.dev.target = some .running → run = .next (at' .running)))

/-- 12 R412, R413, 13 R452: an image command and an image check end with their outcome in their objects, and event 0xA001 or 0x1003. -/
def Sys2Proof.Claims.ImageChecksComplete : Prop :=
  ∀ (s : State),
    (∀ c, s.imgCmd = some c →
      let e := getImg s c.entry
      let u := if e.state = 2 then setImg s c.entry { e with state := c.final } else s
      let st := if c.reason = 0 then 2 else 3
      exec .imageCommandComplete s = .next (raise
        (setO (setO (setO { u with imgCmd := none } 0xa020 5 st) 0xa020 6 c.reason) 0xa020 7 c.detail) 0xa001
        (f8 c.entry ++ f8 c.cmd ++ f8 st ++ f8 c.reason ++ f32 c.detail))) ∧
    (∀ a len, s.imgCheck = some (a, len) →
      let img := peek s a (min len fwMax)
      let c := if fwMax < len then 1 else fwCheck s.sec.shadow img len
      let st := if c = 0 then 2 else 3
      exec .imageCheckComplete s = .next (raise (setO (setO { s with imgCheck := none } 0x1020 4 st) 0x1020 5 c) 0x1003
        (f8 st ++ f8 c ++ f32 (fieldB img 8 4) ++ f16 (fieldB img 12 2))))

/-- 15 R498, R499, R506: what a detector sees is held for its time and raises the alarm where its source is enabled: a rail outside 85 to 115 %
of its set point for 5 ns, a clock outside 75 to 125 %, an instruction of the TAP, a fuse word that differs. Fuses that are programmed
hold in the shadow too. -/
def Sys2Proof.Claims.DetectorsComplete : Prop :=
  ∀ (s : State), s.dev.aonUp = true →
    (∀ rail pm ns, 5 ≤ ns → pm < 850 ∨ 1150 < pm → (s.dev.mode = .keeper → rail = 6) →
      exec (.voltageGlitch rail pm ns) s = .next (alarmIf (condFor s 1 ns) 1 rail)) ∧
    (∀ clk pm (lost : Bool) ns, pm < 750 ∨ 1250 < pm ∨ lost = true ∧ clk = 0 → (s.dev.mode = .keeper → clk = 19) →
      exec (.clockGlitch clk pm lost ns) s = .next (alarmIf (condFor s 2 ns) 2 clk)) ∧
    (∀ code ns, exec (.debugIntrusion .other code ns) s = .next (alarmIf (condFor s 4 ns) 4 code) ∧
      exec (.debugIntrusion .idcode code ns) s = .next s ∧ exec (.debugIntrusion .bypass code ns) s = .next s) ∧
    (∀ w, exec (.fuseReadback (some w)) s =
      .next (alarmIf { s with sec := { s.sec with condUntil := mset 0 s.sec.condUntil 3 (2 ^ 128) } } 3 w)) ∧
    exec (.fuseReadback none) s = .next { s with sec := { s.sec with condUntil := mset 0 s.sec.condUntil 3 0 } } ∧
    (∀ k v, s.sec.programming = some (k, v) →
      let f := programmed s.sec.fuses (some (k, v))
      let t := { s with sec := { s.sec with fuses := f, shadow := programmed s.sec.shadow (some (k, v)), programming := none } }
      exec .fusesProgrammed s = .next (raise t 0x7002 (f8 k ++ f16 v ++ f16 (if k = 1 then f.svnMin else f.revoke)))) ∧
    (let w := getO s 0x7110 3 * msec
     max s.sec.windowAt s.dev.aonAt + w ≤ s.now → exec .violationWindow s = .next { s with sec := { s.sec with
      violations := 0, windowAt := s.dev.aonAt + (s.now - s.dev.aonAt) / max 1 w * max 1 w } })

/-- 15 R508: after the level-2 clear no tile of an image object holds a copy, the objects are COLD, and an image entry that lost one has residency 1. -/
def Sys2Proof.Claims.HotClearCompletes : Prop :=
  ∀ (s : State),
    let ids := s.images.flatMap (fun e => e.2.objs.map (fun o => o.1))
    let u := (imgTiles s).foldl (fun s t => match objAt s (t.1 * 16384) with
      | some (_, o) => putTile s o t.1 { t.2 with copy := false, dirty := false, busy := false, die := 0, tile := 0 }
      | none => s) s
    let objs := u.memSt.objs.filter (fun e => e.2.state != 0 && ids.contains e.2.id)
    let v := objs.foldl (fun s e => putObj s e.1 { e.2 with cls := 2, state := 1 }) u
    let lost := objs.filter (fun e => (imgTiles s).any (fun t => e.2.base / 16384 ≤ t.1 && t.1 < (e.2.base + e.2.length) / 16384))
    (s.sec.hotClear = false → exec .alarmHotSetClear s = .next s) ∧
    (s.sec.hotClear = true → exec .alarmHotSetClear s = .next { v with
      images := v.images.map (fun e =>
        if e.2.objs.any (fun o => lost.any (fun x => x.2.id == o.1)) then (e.1, { e.2 with residency := 1 }) else e)
      sec := { v.sec with hotClear := false } })

/-- 01 R26, 14 R478, 16 R526, R532, R534: a withheld MSI-X vector leaves at its interval's end; an IBI waits for its spacing, and served it
carries the first code and the count; a recovery timer that ran out raises event 0x8003 and starts again; a flit's second failure
fails its welt port. -/
def Obligations.EventRowsComplete : Prop :=
  ∀ (s : State),
    (∀ vec, s.events.msixHeld.contains vec = true → mget 0 s.events.msixAt vec - 1 + getO s 0x8011 1 * usec ≤ s.now →
      exec (.msiXInterval vec) s = .next (emit { s with events := { s.events with
        msixHeld := s.events.msixHeld.filter (fun v => v != vec), msixAt := mset 0 s.events.msixAt vec (s.now + 1) } } (.msix vec))) ∧
    (s.events.ibiEnabled = true → s.events.ibiCount ≠ 0 → s.events.ibiAt ≤ s.now →
      exec .ibiSpacing s = .next { s with events := { s.events with ibiRequested := true } }) ∧
    (s.events.ibiRequested = true →
      let t := emit (count s 0x1051 8 1) (.ibi ([0x1f] ++ f16 s.events.ibiCode ++ f8 s.events.ibiCount))
      exec .ibiServed s = .next { t with events := { s.events with
        ibiCount := 0, ibiCode := 0, ibiRequested := false, ibiAt := s.now + getO t 0x1070 4 * usec } }) ∧
    (∀ k, mget 0 s.recovery k ≠ 0 → mget 0 s.recovery k - 1 + getO s 0x8020 1 ≤ s.lace.tick →
      let t := count s 0x8021 3 1
      let u := raise t 0x8003 (f8 (timerMask s k) ++ f64 (timerFault s k) ++ f64 (s.lace.tick - (mget 0 s.recovery k - 1)) ++
        f8 (if 8 ≤ k && k < 72 then k - 8 else 0xff))
      exec (.recoveryOverdue k) s = .next { u with recovery := mset 0 u.recovery k (u.lace.tick + 1) }) ∧
    (∀ w flit, weltFailed s w = false →
      (s.weltFlits.contains (w, flit) = false → exec (.weltFlitError w flit) s = .next { s with weltFlits := s.weltFlits ++ [(w, flit)] }) ∧
      (s.weltFlits.contains (w, flit) = true → exec (.weltFlitError w flit) s =
        .next (startTimer (raise { s with welts := mset 0 s.welts w 1, weltFlits := s.weltFlits.filter (fun e => e.1 != w) }
          0x8004 (f8 (w / 2) ++ f8 (w % 2))) (72 + w))))

/-- 17 R546, R547, R564 to R566: the operating point switches at its tick, or the change is dropped where an active last needs a lower one;
a group's voltage is confirmed; three currents over the limit in a row, OCP_N, or a temperature over the trip halt the package, with
THERMTRIP_N; a temperature over 105 degrees is reported, and THERMTRIP_N ends 10 degrees below the trip. -/
def Obligations.PowerRowsComplete : Prop :=
  ∀ (s : State),
    (∀ u x, dueSym s 0x23 = some (u, x) →
      (x.arg % 8 ≤ 4 → aboveActive u (x.arg % 8) = false → exec .operatingPointSwitch s = .next (switchPoint u (x.arg % 8))) ∧
      (4 < x.arg % 8 ∨ aboveActive u (x.arg % 8) = true → exec .operatingPointSwitch s =
        .next (symEv (dropChange u) x x.tick x.rcv))) ∧
    (∀ g c, s.power.change = some c →
      let v := orBit c.voltsDone g
      (v = 15 → c.switched = true → exec (.voltageStepDone g) s = .next { s with power := { s.power with change := none } }) ∧
      (v ≠ 15 ∨ c.switched = false → exec (.voltageStepDone g) s =
        .next { s with power := { s.power with change := some { c with voltsDone := v } } })) ∧
    (s.dev.mode ≠ .keeper →
      (∀ (a : Vec4),
        let u := readAmps s 0 a.g0 s.power.overLim.g0 (fun k v => { v with g0 := k })
        let v := readAmps u 1 a.g1 u.power.overLim.g1 (fun k v => { v with g1 := k })
        let w := readAmps v 2 a.g2 v.power.overLim.g2 (fun k v => { v with g2 := k })
        exec (.avsbusCurrentPoll a) s = .next (readAmps w 3 a.g3 w.power.overLim.g3 (fun k v => { v with g3 := k }))) ∧
      exec .ocpN s = .next (currentTrip s 0xff 0xffff) ∧
      (∀ (temps : List Int),
        let u := sampled s temps
        let h := hottest temps 0 (temps.headD 0, 0)
        let trip := getO u 0x2180 1
        let trips := Int.ofNat (10 * trip) < h.1 ∧ u.power.thermtrip = false
        (trips → exec (.thermalSample temps) s = .next (tripHalt
          (fun s => raise (hotEvents temps s) 0x2108 (f8 h.2 ++ f16 (unsigned 16 h.1) ++ f8 trip)) (setThermtrip u true) 2)) ∧
        (¬ trips → (∀ t ∈ temps, t ≤ Int.ofNat (10 * trip) - 100) →
          exec (.thermalSample temps) s = .next (setThermtrip (hotEvents temps u) false)) ∧
        (¬ trips → (∃ t ∈ temps, Int.ofNat (10 * trip) - 100 < t) → exec (.thermalSample temps) s = .next (hotEvents temps u))))

/-- 17 R554 to R563: one step of the estimator: activity, offset and stage, then the watch over the limit and the event of stage 2; the share of
the VDD_CORE groups and the correction of P_fixed are the model's free values (log entry 68). One step of the governor: the floor moves
toward its goal by its step, ballast fills it as far as the capacity, a free value too, and the power limit admit, dithered in stage 1; then
the watch over the ramp and the event of a floor that ballast cannot reach. -/
def Obligations.EstimatorAndGovernorStep : Prop :=
  ∀ (s : State) (volts : Vec4) (tele : Nat), s.dev.mode ≠ .keeper →
    let p := s.power
    let n := (fresh s).1
    let m := (fresh (fresh s).2).1
    let busy := if arraysBusy s then s.now else p.busyAt
    let rest := if busy + 2 * usec ≤ s.now then s.now else p.restAt
    let stage := stageOf (s.now - rest)
    let off := lowPass p.offset (Int.ofNat (coreTelemetry s volts) - Int.ofNat (Config.freeValue m))
    let est := (Int.ofNat (Config.freeValue n + activityPower s + p.ballast) + off).toNat
    let d := p.pest - p.ballast
    let goal := goalOf s
    let floor := if p.floor < goal then min goal (p.floor + min (getO s 0x2100 1) (getO s 0x2180 3))
      else max goal (p.power - min (getO s 0x2100 2) (getO s 0x2180 3))
    let cap := if ballastMay s then Config.freeValue n else 0
    let most := min cap (getO s 0x2180 4 * 1000 - marginM s - d)
    let fill := min (Int.ofNat (min (floor - d) most) + dither s).toNat most
    let pest := if stage = 2 then max est (tele * 1000) * 105 / 100 else est
    let u := (fresh (fresh s).2).2
    let e := watchLimit { u with power := { p with busyAt := busy, restAt := rest, offset := off, pest := pest, stage := stage, units := 0 } }
    let v := (fresh s).2
    let g := watchRamp (addEnergy { v with power := { p with floor := floor, ballast := fill, power := d + fill
                                                             recent := ((d + fill) :: p.recent).take 101 } }) p.recent
    (stage ≠ 2 ∨ p.stage = 2 → exec (.estimatorStep volts tele) s = .next e) ∧
    (stage = 2 → p.stage ≠ 2 → exec (.estimatorStep volts tele) s =
      .next (raise (count e 0x2160 3 1) 0x2106 (f32 (restAge e) ++ f16 (watts pest)))) ∧
    (ballastMay g = false ∨ floor - d ≤ cap → exec .governorStep s = .next g) ∧
    (ballastMay g = true → cap < floor - d → exec .governorStep s =
      .next (raiseSec g 0x2105 (f16 (watts floor) ++ f16 (watts (d + fill)) ++ f16 (watts cap))))

/-- 17 R567 to R571: a step of the power-up begins when every rail of the one before is good, and after the last one the package boots; one that is not
good in 10 ms resets the package; the power-down goes on as power-good falls, or after 20 ms; a rail that fails in operation is logged. -/
def Obligations.PowerSequencesComplete : Prop :=
  ∀ (s : State),
    (∀ rail boot k, s.dev.aonUp = true → s.dev.seq = .up k →
      let u := { s with dev := { s.dev with powerGood := orBit s.dev.powerGood rail } }
      let all := (upSteps.getD k []).all (fun r => fbit u.dev.powerGood r)
      (all = false → exec (.powerGoodRise rail boot) s = .next u) ∧
      (all = true → k < 6 → exec (.powerGoodRise rail boot) s = .next (goUp u (k + 1))) ∧
      (all = true → 6 ≤ k → exec (.powerGoodRise rail boot) s = .next (bootRom u boot))) ∧
    (∀ k, s.dev.seq = .up k → s.dev.stepAt + 10 * msec ≤ s.now → exec .powerGoodTimeout s = .next (packageReset
      (((upSteps.getD k []).filter (fun r => !fbit s.dev.powerGood r)).foldl (fun s r => logPower s r 1 1) s) 5)) ∧
    (∀ rail, fbit s.dev.powerGood rail = true →
      (s.dev.mode ≠ .keeper → rail ≠ 10 → exec (.powerGoodFall rail) s = .next (railLoss s rail 3)) ∧
      (s.dev.mode = .keeper → ∀ k, (pgLow s rail).dev.seq = .down k →
        ((downSteps.getD k []).any (fun r => fbit (pgLow s rail).dev.powerGood r) = true →
          exec (.powerGoodFall rail) s = .next (pgLow s rail)) ∧
        ((downSteps.getD k []).any (fun r => fbit (pgLow s rail).dev.powerGood r) = false →
          exec (.powerGoodFall rail) s = .next (goDown (pgLow s rail) (k + 1))))) ∧
    (∀ k, s.dev.seq = .down k → s.dev.stepAt + 20 * msec ≤ s.now → exec .powerDownTimeout s = .next (goDown
      (((downSteps.getD k []).filter (fun r => fbit s.dev.powerGood r)).foldl (fun s r => logPower s r 2 4) s) (k + 1))) ∧
    (∀ rail (reg : Bool), rail ≠ 10 → s.dev.aonUp = true →
      (s.dev.mode ≠ .keeper → exec (.railFault rail reg) s = .next (railLoss s rail (if reg then 4 else 3))) ∧
      (∀ k, s.dev.mode = .keeper → s.dev.seq = .down k → exec (.railFault rail reg) s = .next (logPower s rail 2 (if reg then 4 else 3))) ∧
      (∀ k, s.dev.mode = .keeper → s.dev.seq = .up k → exec (.railFault rail reg) s = .next (logPower s rail 1 (if reg then 4 else 3))))

/-- 15 R500, 18 R575 to R586: straps are sampled 1 ms after power-good; the keeper writes the auto-start target once; RESET_N of 1 us resets the package
(from 200 ns to 1 us the model's free value says whether it does, log entry 72) and its end lets the keeper go on; the host's image boots if it verifies, and 60 s without one is a failed boot. -/
def Obligations.StartupRowsComplete : Prop :=
  ∀ (s : State),
    (∀ st, s.dev.aonUp = true → s.dev.strapsDue = true → s.dev.aonAt + msec ≤ s.now →
      exec (.strapSample st) s = .next (applyStraps { s with dev := { s.dev with lands := st, strapsDue := false } } st)) ∧
    (s.dev.aonUp = true → s.dev.autoDone = false → s.dev.strapsDue = false → s.dev.mode = .keeper → s.dev.target = none →
      let u := { s with dev := { s.dev with autoDone := true } }
      let t := getO u 0x2003 1
      (t = 2 ∨ t = 3 → exec .autoStart s = .next (goUp { u with dev := { u.dev with
        nextReady := t == 3 && !u.persistLost, target := some .standby, fwReady := false } } 0)) ∧
      (t ≠ 2 → t ≠ 3 → exec .autoStart s = .next u)) ∧
    (∀ ns, s.dev.aonUp = true →
      (1000 ≤ ns → exec (.resetNAssert ns) s = .next (packageReset { s with dev := { s.dev with resetN := true } } 2)) ∧
      (200 ≤ ns → ns < 1000 → exec (.resetNAssert ns) s =
        .next (if Config.freeValue (fresh s).1 % 2 = 1 then packageReset (fresh s).2 2 else (fresh s).2)) ∧
      (ns < 200 → exec (.resetNAssert ns) s = .next s)) ∧
    (let u := { s with dev := { s.dev with resetN := false } }
     (s.dev.resetWait = false → exec .resetNDeassert s = .next u) ∧
     (s.dev.resetWait = true → exec .resetNDeassert s =
      .next { setO u 0x1010 2 u.dev.straps.node with dev := { u.dev with resetWait := false, target := none } })) ∧
    exec .perstNDeassert s = .next { s with dev := { s.dev with perstN := true } } ∧
    (xdiesUp s = true → s.dev.perstN = true → s.dev.pcieUp = false →
      exec .pcieLinkUp s = .next { s with dev := { s.dev with pcieUp := true, linkAt := s.now } }) ∧
    (∀ len image (rng : Bool), s.dev.boot = .waitHost →
      let img := padTo (min len fwMax) image
      let c := if fwMax < len then 2 else verify s img
      (c ≠ 0 → exec (.bootLen len image rng) s = .next (bootFails s c)) ∧
      (c = 0 → rng = false → exec (.bootLen len image rng) s = .next (bootFails s 6)) ∧
      (c = 0 → rng = true → exec (.bootLen len image rng) s = .next (startFirmware s img 2))) ∧
    (s.dev.boot = .waitHost → s.dev.pcieUp = true → s.dev.linkAt + 60000 * msec ≤ s.now → exec .bootTimeout s = .next (bootFails s 2)) ∧
    (s.dev.mode = .standby → s.dev.target = some .ready → getO s 0x2004 1 = 2 → s.dev.dramDone = false →
      (let u := setO (setO s 0x2004 2 96) 0x2004 3 0xffff
       exec (.dramTrainingComplete none) s =
        .next (bringUp { u with dev := { u.dev with dramTrained := true, dramDone := true, selfRefresh := false } })) ∧
      (∀ d, let u := setO (setO (setO s 0x2004 1 0) 0x2004 2 95) 0x2004 3 (d.channel + 256 * d.step)
        exec (.dramTrainingComplete (some d)) s = .next (raise (portsDown { u with dev := { u.dev with target := none, selfRefresh := true } })
          0x2202 (f8 d.channel ++ f8 d.step ++ f8 3))))

/-- 14 R484, 18 R576: with VDD_AON the keeper domain's values go: after power-on the package is in KEEPER with the fuses of the part in its shadow, no last, no
port, no lock, no persist record and empty memory; so it stands after the loss, with the fuses that were programmed. -/
def Sys2Proof.Claims.PowerOnAndLossReset : Prop :=
  ∀ (s : State) (f : Fuses), f.crc = fuseCrc f →
    (∃ t, exec (.powerOnReset f) s = .next t ∧ t.dev.mode = .keeper ∧ t.dev.aonUp = true ∧ t.dev.aonAt = s.now ∧
      t.sec.fuses = f ∧ t.sec.shadow = f ∧ getO t 0x7100 0 = f.alarmFloor ∧
      t.mem = [] ∧ t.slots = [] ∧ t.ports = [] ∧ t.persist = [] ∧ t.relum.locks = [] ∧ t.memSt.objs = [] ∧
      t.pending = s.pending ∧ t.out = s.out ∧ t.now = s.now) ∧
    (∃ t, exec .vddAonLoss s = .next t ∧ t.dev.mode = .keeper ∧ t.dev.aonUp = false ∧ t.sec.fuses = s.sec.fuses ∧
      t.mem = [] ∧ t.slots = [] ∧ t.ports = [] ∧ t.persist = [] ∧ t.relum.locks = [] ∧ t.memSt.objs = [] ∧
      t.pending = s.pending ∧ t.out = s.out ∧ t.now = s.now)

/-- 18 R580 to R582: a package reset takes the package to KEEPER, drops what every block held but what the keeper retains: the persist record, the boot and
reset objects, the alarm log; every control core's incarnation rises; in ALARM it does nothing but write its log record. -/
def Sys2Proof.Claims.PackageResetKeeps : Prop :=
  ∀ (s : State) (cause : Nat),
    (s.dev.mode = .alarm → packageReset s cause =
      { s with sec := { s.sec with log := (alarmRec s 0xff 0 7 0 :: s.sec.log).take 16 } }) ∧
    (s.dev.mode ≠ .alarm →
      let t := coldState s
      t.dev.mode = .keeper ∧ t.dev.prev = some s.dev.mode ∧ t.persist = s.persist ∧ t.sec.log = s.sec.log ∧ t.power.log = s.power.log ∧
      t.mem = [] ∧ t.slots = [] ∧ t.ports = [] ∧ t.relum.locks = [] ∧ t.memSt.objs = [] ∧ t.images = [] ∧ t.harts = State.reset.harts ∧
      t.fab.incAll = s.fab.incAll + 1 ∧ t.fab.inc = s.fab.inc ∧ t.pending = s.pending ∧ t.now = s.now)

/-! ## Completion, by family -/

/-- The writes that command lasts, lace, memory and links complete as the statements above say. -/
def Obligations.ScheduleAndLinkWritesComplete : Prop := LastCommandsComplete ∧ LaceCommandsComplete ∧ MemoryCommandsComplete ∧ LinkCommandsComplete

/-- The writes that command serving, routing, images and partitions complete as the statements above say. -/
def Obligations.ServingAndImageWritesComplete : Prop := ServingCommandsComplete ∧ RoutingCommandsComplete ∧ ImageCommandsComplete ∧ PartitionCommandsComplete

/-- The writes that command states, security, the event queue, power and persistence complete as the statements above say. -/
def Obligations.StateAndSecurityWritesComplete : Prop := StateCommandsComplete ∧ SecurityCommandsComplete ∧ QueuePowerPersistComplete

/-- Every row of the op-word table issues as the two statements above say. -/
def Obligations.OpWordsComplete : Prop := NopAndSetdescComplete ∧ OperationsComplete

/-- Completions, resole windows, arrivals, transfers, awl descriptors and reductions take place as the statements above say. -/
def Obligations.ClusterActionsComplete : Prop := CompletionAndResoleComplete ∧ ScheduledActionsComplete

/-- Lace points, sleep and wake-up take place as the statements above say. -/
def Obligations.LacePointRowsComplete : Prop := LacePointsComplete ∧ SleepAndWakeComplete

/-- Every lace symbol does what the statements above say. -/
def Obligations.LaceSymbolsComplete : Prop := TreeSymbolsComplete ∧ FloodedSymbolsComplete

/-- The lace's timers, the end of a tick and its timed symbols do what the statements above say. -/
def Obligations.LaceTimeRowsComplete : Prop := LaceTimersComplete ∧ TickEndComplete ∧ TimedSymbolsComplete

/-- The five object commands complete as the statements above say. -/
def Obligations.ObjectRingComplete : Prop := ObjectCreationCompletes ∧ ClassAndDestroyComplete ∧ ObjectReadWriteComplete

/-- Tile accesses, migrations, scrubbing, last loads and table builds complete as the statements above say. -/
def Obligations.TilesLoadsAndTablesComplete : Prop := TilesComplete ∧ LastLoadCompletes ∧ TableBuildCompletes

/-- A received block and a block boundary do what the statements above say. -/
def Obligations.LineBlocksComplete : Prop := LineBlockCompletes ∧ BlockBoundaryCompletes

/-- Control words and port timers do what the statements above say. -/
def Obligations.PortWordsAndTimersComplete : Prop := ControlWordsComplete ∧ PortTimersComplete

/-- Pull descriptors, responses and the rows of an Ethernet port do what the statements above say. -/
def Obligations.PullsAndEthernetComplete : Prop := PullDescriptorCompletes ∧ ResponsesComplete ∧ EthernetRowsComplete

/-- READ, WRITE and the atomics complete as the statements above say. -/
def Obligations.FabricRequestsComplete : Prop := FabricReadWriteComplete ∧ FabricAtomicsComplete

/-- Loads, stores and atomics of a control core complete as the statements above say. -/
def Obligations.CoreMemoryAccessComplete : Prop := LoadsComplete ∧ StoresComplete ∧ AtomicsOfACore

/-- Vendor instructions and vendor registers complete as the statements above say. -/
def Obligations.VendorAccessComplete : Prop := VendorInstructionsComplete ∧ VendorRegistersComplete

/-- Lock expiry and the rows of the I3C target do what the statements above say. -/
def Obligations.I3cAndLocksComplete : Prop := LockExpiryCompletes ∧ I3cCommandsComplete ∧ I3cTransfersComplete

/-- Mailboxes and in-band flits do what the statements above say. -/
def Obligations.MailboxesAndInBandComplete : Prop := MailboxesComplete ∧ InBandCompletes

/-- The pass of a tick, sampler results and a takeover do what the statements above say. -/
def Obligations.ServingRowsComplete : Prop := TickPassCompletes ∧ SamplerAndTakeoverComplete

/-- Route steps and popularity counts do what the statements above say. -/
def Obligations.RoutingRowsComplete : Prop := RouteStepsComplete ∧ PopularityCountsComplete

/-- State changes, image commands and image checks end as the statements above say. -/
def Obligations.StateAndImageRowsComplete : Prop := StateChangesComplete ∧ ImageChecksComplete

/-- Detectors, fuses, the violation window and the level-2 clear do what the statements above say. -/
def Obligations.SecurityRowsComplete : Prop := DetectorsComplete ∧ HotClearCompletes

/-- Power-on, the loss of VDD_AON and a package reset keep and clear what the statements above say. -/
def Obligations.ResetsKeepAndClear : Prop := PowerOnAndLossReset ∧ PackageResetKeeps

/-! ## Memory, numbers, the block as a whole -/

/-- Memory in its canonical form: what is stored is read back, every other byte reads as before, a cleared range reads zeros, a copied one as
its source did, and the form is kept. -/
def Obligations.MemoryReadsBack : Prop :=
  ∀ (s : State) (a n src : Nat) (l : List Byte), Memory.wf s.mem = true →
    let put := memPut s a l
    let clr := memClear s a n
    let cpy := memCopy s src a n
    (memGet put a l.length = l ∧ memGet clr a n = List.replicate n 0 ∧ memGet cpy a n = memGet s src n) ∧
    (∀ b k, b + k ≤ a ∨ a + l.length ≤ b → memGet put b k = memGet s b k) ∧
    (∀ b k, b + k ≤ a ∨ a + n ≤ b → memGet clr b k = memGet s b k ∧ memGet cpy b k = memGet s b k) ∧
    Memory.wf put.mem = true ∧ Memory.wf clr.mem = true ∧ Memory.wf cpy.mem = true ∧
    put = { s with mem := put.mem } ∧ clr = { s with mem := clr.mem } ∧ cpy = { s with mem := cpy.mem }

/-- 02 R43: the S8 codes below 0xff have the values m times 2 to the k, and rise strictly from zero to 114,688 (in units of 2 to the -17). -/
def Obligations.S8ValuesRise : Prop :=
  ∀ (c : Nat), c < 255 →
    (c / 8 = 0 → s8m c = c % 8 ∧ s8k c = -17) ∧ (c / 8 ≠ 0 → s8m c = 8 + c % 8 ∧ s8k c = Int.ofNat (c / 8) - 18) ∧
    s8u c = s8m c * 2 ^ (s8k c + 17).toNat ∧ 0 ≤ s8k c + 17 ∧
    s8u 0 = 0 ∧ s8u 1 = 1 ∧ s8u 0xfe = 114688 * 2 ^ 17 ∧ (∀ d, c < d → d < 255 → s8u c < s8u d)

/-- 02 R39, R40: a byte of a ternary group gives back the five weights that it was made of; the byte values from 0xf3 on give five zeros. -/
def Obligations.TernaryWeightsDecode : Prop :=
  (∀ t0 t1 t2 t3 t4, t0 < 3 → t1 < 3 → t2 < 3 → t3 < 3 → t4 < 3 →
    t16Dec (t0 + 3 * t1 + 9 * t2 + 27 * t3 + 81 * t4) = [t0, t1, t2, t3, t4].map (fun t => Int.ofNat t - 1)) ∧
  (∀ v, 0xf3 ≤ v → t16Dec v = [0, 0, 0, 0, 0])

/-- 02 R58, R59: whatever it is given, the requantiser makes no code -128, with A16 output no code -32,768, and one code for each element;
an operand byte 0x80 is the code -128. -/
def Obligations.RequantiserRange : Prop :=
  ∀ (clip : Nat) (xs : List Nat),
    (∀ v ∈ (requantA8 clip xs).codes, v ≠ -128 ∧ -127 ≤ v ∧ v ≤ 127) ∧
    (∀ v ∈ (requantA16 xs).codes, v ≠ -32768 ∧ -32767 ≤ v ∧ v ≤ 32767) ∧
    (requantA8 clip xs).codes.length = xs.length ∧ (requantA16 xs).codes.length = xs.length ∧
    (∀ (b : List Byte) (i : Nat), b[i]? = some 0x80 → (i8Block b)[i]? = some (-128))

/-- The frame of the port rows that neither lose a port nor send a packet on another (08 R277, R280, R284, R286, R290): nothing changes but the ports, and no port
but their own. -/
def Obligations.PortRowsFrame : Prop :=
  ∀ (p : Port) (w : Word128) (eighth : Nat) (s t : State),
    ∀ i ∈ [Instr.ackWord p w, .creditWord p w, .probeWord p w eighth, .identWord p w, .ackInterval p, .probeInterval p],
      exec i s = .next t →
        t = { s with ports := t.ports } ∧ (mapWf PortSt.init s.ports = true → ∀ q, q ≠ p.val → getPort t q = getPort s q)

/-- The frame of an accepted write whose effect is the entry's new value (14 R482 to R484): nothing changes but the object written, the served
count of its path, its persist record, the expiry of the writer's locks, and the status that leaves. -/
def Obligations.WriteFrame : Prop :=
  ∀ (a : Acc) (i sub v : Nat) (s t : State), mayWrite s a i sub v = true → ¬ (i = 0x1030 ∧ sub = 1) → i ≠ 0x1051 → sub < 256 →
    wrAny (served s a) (reqOf s a) i sub v = (setO (served s a) i sub v, 0) → writeObj a i sub v s = .next t →
    t = { s with obj := t.obj, persist := t.persist, relum := { s.relum with locks := t.relum.locks }, out := s.out ++ [.status 0] } ∧
    t.relum.locks.map (fun l => (l.1, l.2.first, l.2.last, l.2.origin, l.2.key)) =
      s.relum.locks.map (fun l => (l.1, l.2.first, l.2.last, l.2.origin, l.2.key)) ∧
    (s.obj.Pairwise (fun x y => x.1 < y.1) → getO t i sub = v ∧
      ∀ j k, k < 256 → (j, k) ≠ (i, sub) → j ≠ 0x1051 → getO t j k = getO s j k)

/-- 14 R483, 18 R576: the state after power-on: KEEPER, every object at its default (the health of the
clusters from fuses), nothing loaded, locked, bound or stored, every port and
cluster at its initial state, no command waiting. The values that the spec does not give are the model's, log entries 2 and 10. -/
def Obligations.ResetState : Prop :=
  let s := State.reset
  s.dev.mode = .keeper ∧ s.dev.target = none ∧ s.pending = [] ∧ s.out = [] ∧ s.mem = [] ∧ Memory.wf s.mem = true ∧
  (∀ i sub, i ≠ 0x2010 → sub < 256 → getO s i sub = defaultOf i sub) ∧
  (∀ d, d < 16 → getO s 0x2010 (d + 1) = s.sec.fuses.health.getD d 0) ∧ (∀ p, (getPort s p).state = .down) ∧ (∀ n, (getSlot s n).image = none) ∧
  (∀ l, (getCl s l).hold = none) ∧ s.relum.locks = [] ∧ s.memSt.objs = [] ∧ s.fab.reqs = [] ∧ s.serving.eyelets = [] ∧
  s.images = [] ∧ s.loading = none ∧ s.sec.slots = []

/-- A step takes the command at the front of the queue and runs it with the queue's rest; on an empty queue it lets time pass (the model's choice, log
entry 1). -/
def Obligations.StepRunsTheFrontCommand : Prop :=
  ∀ (c : Instr) (r : List Instr) (s : State),
    step { s with pending := c :: r } = exec c { s with pending := r } ∧ (s.pending = [] → step s = .next (idle s))

/-- Every command has an effect in every state: none ends in a fault or a refusal. -/
def Obligations.EveryCommandCompletes : Prop :=
  ∀ (c : Instr) (s : State), ∃ t, exec c s = .next t

/-- Whatever the command, a step keeps memory in its canonical form: addresses rise and no listed byte is one that an unlisted address reads as. -/
def Obligations.StepKeepsMemoryCanonical : Prop :=
  ∀ (s t : State), Memory.wf s.mem = true → step s = .next t → Memory.wf t.mem = true
end

