-- ==== Sys2Proof/Laws/Maps.lean ====
section
/-! SUPPORT. Sparse maps and bytes: reading after writing, canonical form, little-endian numbers. -/
namespace Sys2Proof.Machine

variable {α : Type} [DecidableEq α]

theorem mget_below {d : α} : ∀ {m : SMap α} {i : Nat}, mapWf d m = true → (∀ e ∈ m, i < e.1) → mget d m i = d
  | [], _, _, _ => rfl
  | (k, v) :: r, i, _, h => by
    have := h (k, v) (by simp)
    simp only [mget]
    rw [if_neg (by simp at this; omega), if_pos (by simpa using this)]

/-- Every key of a canonical map lies above its head's. -/
theorem mapWf_above {d : α} : ∀ {m : SMap α} {k : Nat} {v : α}, mapWf d ((k, v) :: m) = true → ∀ e ∈ m, k < e.1
  | [], _, _, _ => by simp
  | (k', v') :: r, k, v, h => by
    intro e he
    simp [mapWf] at h
    have hk : k < k' := h.2.1
    rcases List.mem_cons.1 he with rfl | he
    · exact hk
    · have := mapWf_above (m := r) (k := k') (v := v') (d := d) (by simp [mapWf]; exact h.2.2) e he
      omega

theorem mapWf_tail {d : α} {m : SMap α} {k : Nat} {v : α} (h : mapWf d ((k, v) :: m) = true) : mapWf d m = true := by
  simp [mapWf] at h; exact h.2.2

/-- A write keeps the canonical form. -/
theorem mapWf_mset {d : α} (i : Nat) (v : α) : ∀ {m : SMap α}, mapWf d m = true → mapWf d (mset d m i v) = true
  | [], _ => by by_cases h : v = d <;> simp [mset, h, mapWf]
  | (k, w) :: r, h => by
    have ht := mapWf_tail h
    have ih := mapWf_mset i v ht
    have ha := mapWf_above h
    have hw : w ≠ d := by simp [mapWf] at h; exact h.1
    simp only [mset]
    split
    · split
      · exact h
      · next h1 h2 => simp [mapWf] at h ⊢; exact ⟨h2, h1, h⟩
    · split
      · split
        · exact ht
        · next h2 =>
          simp [mapWf] at h ⊢; exact ⟨h2, h.2⟩
      · next h1 h2 =>
        simp only [mapWf, Bool.and_eq_true, bne_iff_ne, ne_eq]
        refine ⟨hw, ?_, ih⟩
        cases hr : mset d r i v with
        | nil => rfl
        | cons e m' =>
          have hm : ∀ (m : SMap α), (∀ e ∈ m, k < e.1) → k < i → ∀ e ∈ mset d m i v, k < e.1 := by
            intro m
            induction m with
            | nil => intro _ hi e; by_cases h : v = d <;> simp [mset, h]; rintro rfl; exact hi
            | cons f m ih =>
              intro hf hi e he
              obtain ⟨fk, fv⟩ := f
              have hfk := hf (fk, fv) (by simp)
              have hfm := fun e he => hf e (List.mem_cons_of_mem _ he)
              simp only [mset] at he
              split at he
              · split at he
                · exact hf e he
                · rcases List.mem_cons.1 he with rfl | he
                  · exact hi
                  · exact hf e he
              · split at he
                · split at he
                  · exact hfm e he
                  · rcases List.mem_cons.1 he with rfl | he
                    · exact hfk
                    · exact hfm e he
                · rcases List.mem_cons.1 he with rfl | he
                  · exact hfk
                  · exact ih hfm hi e he
          have := hm r ha (by omega) e (by rw [hr]; simp)
          simpa using this

/-- Reading back what was written. -/
@[simp] theorem mget_mset_same {d : α} (i : Nat) (v : α) : ∀ {m : SMap α}, mapWf d m = true → mget d (mset d m i v) i = v
  | [], _ => by by_cases h : v = d <;> simp [mset, mget, h]
  | (k, w) :: r, h => by
    have ih := mget_mset_same i v (mapWf_tail h)
    have ha := mapWf_above h
    simp only [mset]
    split
    · next h1 =>
      split
      · next h2 => simp only [mget]; rw [if_neg (by omega), if_pos h1, h2]
      · simp [mget]
    · split
      · next h1 h2 =>
        subst h2
        split
        · next h3 => rw [mget_below (mapWf_tail h) ha, h3]
        · simp [mget]
      · next h1 h2 =>
        simp only [mget]
        rw [if_neg (by omega), if_neg h1]; exact ih

/-- A write leaves every other entry alone. -/
@[simp] theorem mget_mset_ne {d : α} {i j : Nat} (v : α) (hne : j ≠ i) :
    ∀ {m : SMap α}, mapWf d m = true → mget d (mset d m i v) j = mget d m j
  | [], _ => by by_cases h : v = d <;> simp [mset, mget, h]; intro; omega
  | (k, w) :: r, h => by
    have ih := mget_mset_ne v hne (mapWf_tail h)
    have ha := mapWf_above h
    simp only [mset]
    split
    · next h1 =>
      split
      · rfl
      · simp only [mget]
        rw [if_neg (fun h => hne h.symm)]
        by_cases hj : j < i
        · rw [if_pos hj, if_neg (by omega), if_pos (by omega)]
        · rw [if_neg hj]
    · split
      · next h1 h2 =>
        subst h2
        split
        · simp only [mget]
          rw [if_neg (fun h => hne h.symm)]
          by_cases hj : j < i
          · rw [if_pos hj]; exact mget_below (mapWf_tail h) (fun e he => by have := ha e he; omega)
          · rw [if_neg hj]
        · have : i ≠ j := fun h => hne h.symm
          simp only [mget, if_neg this]
      · simp only [mget]
        split
        · rfl
        · split
          · rfl
          · exact ih

theorem mapWf_mputs {d : α} : ∀ (l : List α) {m : SMap α} (a : Nat), mapWf d m = true → mapWf d (mputs d m a l) = true
  | [], _, _, h => h
  | v :: r, _, a, h => mapWf_mputs r (a + 1) (mapWf_mset a v h)

theorem mapWf_filter {d : α} (p : Nat × α → Bool) : ∀ {m : SMap α}, mapWf d m = true → mapWf d (m.filter p) = true
  | [], _ => rfl
  | (k, w) :: r, h => by
    have ih := mapWf_filter p (mapWf_tail h)
    have ha := mapWf_above h
    have hw : w ≠ d := by simp [mapWf] at h; exact h.1
    by_cases hp : p (k, w)
    · rw [List.filter_cons_of_pos hp]
      simp only [mapWf, Bool.and_eq_true, bne_iff_ne, ne_eq]
      refine ⟨hw, ?_, ih⟩
      cases hr : r.filter p with
      | nil => rfl
      | cons e m' =>
        have : e ∈ r := (List.mem_filter.1 (by rw [hr]; simp : e ∈ r.filter p)).1
        simpa using ha e this
    · rw [List.filter_cons_of_neg hp]; exact ih

@[simp] theorem leBytes_length : ∀ n v, (leBytes n v).length = n
  | 0, _ => rfl
  | n + 1, v => by simp [leBytes, leBytes_length n]

theorem leNat_leBytes : ∀ n v, leNat (leBytes n v) = v % 256 ^ n
  | 0, v => by simp [leBytes, leNat, Nat.mod_one]
  | n + 1, v => by
    have h : (256 : Nat) ^ (n + 1) = 256 * 256 ^ n := by rw [Nat.pow_add_one, Nat.mul_comm]
    rw [leBytes, leNat, leNat_leBytes n, BitVec.toNat_ofNat, h, Nat.mod_mul (x := v) (a := 256) (b := 256 ^ n)]

/-- A value of `n` bytes comes back from its bytes. -/
theorem leNat_leBytes_of_lt {n v : Nat} (h : v < 256 ^ n) : leNat (leBytes n v) = v := by
  rw [leNat_leBytes, Nat.mod_eq_of_lt h]

theorem leNat_lt : ∀ l : List Byte, leNat l < 256 ^ l.length
  | [] => by simp [leNat]
  | b :: r => by
    have := leNat_lt r
    have hb := b.isLt
    simp only [leNat, List.length_cons, Nat.pow_succ]
    omega

theorem leBytes_leNat : ∀ l : List Byte, leBytes l.length (leNat l) = l
  | [] => rfl
  | b :: r => by
    have hb := b.isLt
    simp only [List.length_cons, leBytes, leNat]
    rw [show (b.toNat + 256 * leNat r) / 256 = leNat r by omega, leBytes_leNat r]
    congr 1
    apply BitVec.eq_of_toNat_eq
    simp
    omega

@[simp] theorem onNat_eq {β : Type} (f : Nat → β) (n : Nat) : onNat f n = f n := by cases n <;> rfl

section Order
variable {β : Type} (le : β → β → Bool)

@[simp] theorem sortBy_nil : sortBy le [] = [] := rfl
@[simp] theorem sortBy_cons (x : β) (l : List β) : sortBy le (x :: l) = insertBy le x (sortBy le l) := rfl
@[simp] theorem insertBy_nil (x : β) : insertBy le x [] = [x] := rfl

theorem insertBy_perm (x : β) : ∀ l : List β, (insertBy le x l).Perm (x :: l)
  | [] => .refl _
  | y :: r => by
    simp only [insertBy]
    split
    · exact .refl _
    · exact ((insertBy_perm x r).cons y).trans (.swap x y r)

theorem sortBy_perm : ∀ l : List β, (sortBy le l).Perm l
  | [] => .refl _
  | x :: r => (insertBy_perm le x _).trans ((sortBy_perm r).cons x)

@[simp] theorem length_sortBy (l : List β) : (sortBy le l).length = l.length := (sortBy_perm le l).length_eq
@[simp] theorem mem_sortBy {x : β} {l : List β} : x ∈ sortBy le l ↔ x ∈ l := (sortBy_perm le l).mem_iff

/-- Under a total and transitive order the sorted list rises. -/
theorem sortBy_pairwise (total : ∀ a b, le a b = true ∨ le b a = true) (trans : ∀ a b c, le a b = true → le b c = true → le a c = true) :
    ∀ l : List β, (sortBy le l).Pairwise (fun a b => le a b = true)
  | [] => .nil
  | x :: r => by
    have ih := sortBy_pairwise total trans r
    have ins : ∀ l : List β, l.Pairwise (fun a b => le a b = true) → (insertBy le x l).Pairwise (fun a b => le a b = true) := by
      intro l
      induction l with
      | nil => intro _; simp
      | cons y s ihs =>
        intro h
        rw [List.pairwise_cons] at h
        simp only [insertBy]
        split
        · rename_i hxy
          refine List.pairwise_cons.2 ⟨?_, List.pairwise_cons.2 h⟩
          intro z hz
          rcases List.mem_cons.1 hz with rfl | hz
          · exact hxy
          · exact trans _ _ _ hxy (h.1 z hz)
        · rename_i hxy
          refine List.pairwise_cons.2 ⟨?_, ihs h.2⟩
          intro z hz
          rcases List.mem_cons.1 ((insertBy_perm le x s).mem_iff.1 hz) with rfl | hz
          · exact (total _ _).resolve_left hxy
          · exact h.1 z hz
    exact ins _ ih

end Order

end Sys2Proof.Machine
end

