-- ==== Sys2Proof/Laws/Memory.lean ====
section
/-! SUPPORT. Every operation over memory keeps its canonical form, and the memory of the state after reset has it. -/
namespace Sys2Proof.Machine

theorem wf_foldl_mset (f : Host.Cell → Nat) : ∀ (cells m : List Host.Cell), Memory.wf m = true →
    Memory.wf (cells.foldl (fun m e => mset 0 m (f e) e.2) m) = true
  | [], _, h => h
  | e :: cells, _, h => wf_foldl_mset f cells _ (mapWf_mset (f e) e.2 h)

theorem memPut_wf {s : State} (a : Nat) (l : List Byte) (h : Memory.wf s.mem = true) : Memory.wf (memPut s a l).mem = true :=
  mapWf_mputs l a h

theorem memClear_wf {s : State} (a n : Nat) (h : Memory.wf s.mem = true) : Memory.wf (memClear s a n).mem = true :=
  mapWf_filter _ h

theorem memCopy_wf {s : State} (src dst n : Nat) (h : Memory.wf s.mem = true) : Memory.wf (memCopy s src dst n).mem = true :=
  wf_foldl_mset _ _ _ (memClear_wf dst n h)

theorem reset_mem_wf : Memory.wf State.reset.mem = true := rfl

/-- One byte that was stored reads back, and every other byte reads as before. -/
theorem memPut_byte {s : State} (a b : Nat) (v : Byte) (h : Memory.wf s.mem = true) :
    mget 0 (memPut s a [v]).mem b = if b = a then v else mget 0 s.mem b := by
  change mget 0 (mset 0 s.mem a v) b = _
  by_cases e : b = a
  · rw [if_pos e, e]; exact mget_mset_same a v h
  · rw [if_neg e]; exact mget_mset_ne v e h

end Sys2Proof.Machine
end

