-- ==== Sys2Proof/Laws/State.lean ====
section
/-! SUPPORT. What each named update of the state leaves as it was, field by field. -/
namespace Sys2Proof.Machine

@[simp] theorem setO_pending (s : State) (i sub v : Nat) : (setO s i sub v).pending = s.pending := rfl
@[simp] theorem setO_free (s : State) (i sub v : Nat) : (setO s i sub v).free = s.free := rfl
@[simp] theorem setO_now (s : State) (i sub v : Nat) : (setO s i sub v).now = s.now := rfl
@[simp] theorem setO_cyc (s : State) (i sub v : Nat) : (setO s i sub v).cyc = s.cyc := rfl
@[simp] theorem setO_out (s : State) (i sub v : Nat) : (setO s i sub v).out = s.out := rfl
@[simp] theorem setO_mem (s : State) (i sub v : Nat) : (setO s i sub v).mem = s.mem := rfl
@[simp] theorem setO_spad (s : State) (i sub v : Nat) : (setO s i sub v).spad = s.spad := rfl
@[simp] theorem setO_spadLog (s : State) (i sub v : Nat) : (setO s i sub v).spadLog = s.spadLog := rfl
@[simp] theorem setO_tickWrites (s : State) (i sub v : Nat) : (setO s i sub v).tickWrites = s.tickWrites := rfl
@[simp] theorem setO_p16Bad (s : State) (i sub v : Nat) : (setO s i sub v).p16Bad = s.p16Bad := rfl
@[simp] theorem setO_obj (s : State) (i sub v : Nat) : (setO s i sub v).obj = mset (defaultOf i sub) s.obj (okey i sub) v := rfl
@[simp] theorem setO_persist (s : State) (i sub v : Nat) : (setO s i sub v).persist = s.persist := rfl
@[simp] theorem setO_persistLost (s : State) (i sub v : Nat) : (setO s i sub v).persistLost = s.persistLost := rfl
@[simp] theorem setO_dev (s : State) (i sub v : Nat) : (setO s i sub v).dev = s.dev := rfl
@[simp] theorem setO_events (s : State) (i sub v : Nat) : (setO s i sub v).events = s.events := rfl
@[simp] theorem setO_recovery (s : State) (i sub v : Nat) : (setO s i sub v).recovery = s.recovery := rfl
@[simp] theorem setO_relum (s : State) (i sub v : Nat) : (setO s i sub v).relum = s.relum := rfl
@[simp] theorem setO_sec (s : State) (i sub v : Nat) : (setO s i sub v).sec = s.sec := rfl
@[simp] theorem setO_power (s : State) (i sub v : Nat) : (setO s i sub v).power = s.power := rfl
@[simp] theorem setO_lace (s : State) (i sub v : Nat) : (setO s i sub v).lace = s.lace := rfl
@[simp] theorem setO_slots (s : State) (i sub v : Nat) : (setO s i sub v).slots = s.slots := rfl
@[simp] theorem setO_loading (s : State) (i sub v : Nat) : (setO s i sub v).loading = s.loading := rfl
@[simp] theorem setO_parts (s : State) (i sub v : Nat) : (setO s i sub v).parts = s.parts := rfl
@[simp] theorem setO_clusters (s : State) (i sub v : Nat) : (setO s i sub v).clusters = s.clusters := rfl
@[simp] theorem setO_cores (s : State) (i sub v : Nat) : (setO s i sub v).cores = s.cores := rfl
@[simp] theorem setO_welts (s : State) (i sub v : Nat) : (setO s i sub v).welts = s.welts := rfl
@[simp] theorem setO_weltFlits (s : State) (i sub v : Nat) : (setO s i sub v).weltFlits = s.weltFlits := rfl
@[simp] theorem setO_memSt (s : State) (i sub v : Nat) : (setO s i sub v).memSt = s.memSt := rfl
@[simp] theorem setO_awls (s : State) (i sub v : Nat) : (setO s i sub v).awls = s.awls := rfl
@[simp] theorem setO_codec (s : State) (i sub v : Nat) : (setO s i sub v).codec = s.codec := rfl
@[simp] theorem setO_ports (s : State) (i sub v : Nat) : (setO s i sub v).ports = s.ports := rfl
@[simp] theorem setO_rdma (s : State) (i sub v : Nat) : (setO s i sub v).rdma = s.rdma := rfl
@[simp] theorem setO_fab (s : State) (i sub v : Nat) : (setO s i sub v).fab = s.fab := rfl
@[simp] theorem setO_serving (s : State) (i sub v : Nat) : (setO s i sub v).serving = s.serving := rfl
@[simp] theorem setO_routing (s : State) (i sub v : Nat) : (setO s i sub v).routing = s.routing := rfl
@[simp] theorem setO_images (s : State) (i sub v : Nat) : (setO s i sub v).images = s.images := rfl
@[simp] theorem setO_imgCmd (s : State) (i sub v : Nat) : (setO s i sub v).imgCmd = s.imgCmd := rfl
@[simp] theorem setO_imgCheck (s : State) (i sub v : Nat) : (setO s i sub v).imgCheck = s.imgCheck := rfl
@[simp] theorem setO_harts (s : State) (i sub v : Nat) : (setO s i sub v).harts = s.harts := rfl
@[simp] theorem setO_ctl (s : State) (i sub v : Nat) : (setO s i sub v).ctl = s.ctl := rfl

@[simp] theorem emit_pending (s : State) (m : OutMsg) : (emit s m).pending = s.pending := rfl
@[simp] theorem emit_free (s : State) (m : OutMsg) : (emit s m).free = s.free := rfl
@[simp] theorem emit_now (s : State) (m : OutMsg) : (emit s m).now = s.now := rfl
@[simp] theorem emit_cyc (s : State) (m : OutMsg) : (emit s m).cyc = s.cyc := rfl
@[simp] theorem emit_out (s : State) (m : OutMsg) : (emit s m).out = s.out ++ [m] := rfl
@[simp] theorem emit_mem (s : State) (m : OutMsg) : (emit s m).mem = s.mem := rfl
@[simp] theorem emit_spad (s : State) (m : OutMsg) : (emit s m).spad = s.spad := rfl
@[simp] theorem emit_spadLog (s : State) (m : OutMsg) : (emit s m).spadLog = s.spadLog := rfl
@[simp] theorem emit_tickWrites (s : State) (m : OutMsg) : (emit s m).tickWrites = s.tickWrites := rfl
@[simp] theorem emit_p16Bad (s : State) (m : OutMsg) : (emit s m).p16Bad = s.p16Bad := rfl
@[simp] theorem emit_obj (s : State) (m : OutMsg) : (emit s m).obj = s.obj := rfl
@[simp] theorem emit_persist (s : State) (m : OutMsg) : (emit s m).persist = s.persist := rfl
@[simp] theorem emit_persistLost (s : State) (m : OutMsg) : (emit s m).persistLost = s.persistLost := rfl
@[simp] theorem emit_dev (s : State) (m : OutMsg) : (emit s m).dev = s.dev := rfl
@[simp] theorem emit_events (s : State) (m : OutMsg) : (emit s m).events = s.events := rfl
@[simp] theorem emit_recovery (s : State) (m : OutMsg) : (emit s m).recovery = s.recovery := rfl
@[simp] theorem emit_relum (s : State) (m : OutMsg) : (emit s m).relum = s.relum := rfl
@[simp] theorem emit_sec (s : State) (m : OutMsg) : (emit s m).sec = s.sec := rfl
@[simp] theorem emit_power (s : State) (m : OutMsg) : (emit s m).power = s.power := rfl
@[simp] theorem emit_lace (s : State) (m : OutMsg) : (emit s m).lace = s.lace := rfl
@[simp] theorem emit_slots (s : State) (m : OutMsg) : (emit s m).slots = s.slots := rfl
@[simp] theorem emit_loading (s : State) (m : OutMsg) : (emit s m).loading = s.loading := rfl
@[simp] theorem emit_parts (s : State) (m : OutMsg) : (emit s m).parts = s.parts := rfl
@[simp] theorem emit_clusters (s : State) (m : OutMsg) : (emit s m).clusters = s.clusters := rfl
@[simp] theorem emit_cores (s : State) (m : OutMsg) : (emit s m).cores = s.cores := rfl
@[simp] theorem emit_welts (s : State) (m : OutMsg) : (emit s m).welts = s.welts := rfl
@[simp] theorem emit_weltFlits (s : State) (m : OutMsg) : (emit s m).weltFlits = s.weltFlits := rfl
@[simp] theorem emit_memSt (s : State) (m : OutMsg) : (emit s m).memSt = s.memSt := rfl
@[simp] theorem emit_awls (s : State) (m : OutMsg) : (emit s m).awls = s.awls := rfl
@[simp] theorem emit_codec (s : State) (m : OutMsg) : (emit s m).codec = s.codec := rfl
@[simp] theorem emit_ports (s : State) (m : OutMsg) : (emit s m).ports = s.ports := rfl
@[simp] theorem emit_rdma (s : State) (m : OutMsg) : (emit s m).rdma = s.rdma := rfl
@[simp] theorem emit_fab (s : State) (m : OutMsg) : (emit s m).fab = s.fab := rfl
@[simp] theorem emit_serving (s : State) (m : OutMsg) : (emit s m).serving = s.serving := rfl
@[simp] theorem emit_routing (s : State) (m : OutMsg) : (emit s m).routing = s.routing := rfl
@[simp] theorem emit_images (s : State) (m : OutMsg) : (emit s m).images = s.images := rfl
@[simp] theorem emit_imgCmd (s : State) (m : OutMsg) : (emit s m).imgCmd = s.imgCmd := rfl
@[simp] theorem emit_imgCheck (s : State) (m : OutMsg) : (emit s m).imgCheck = s.imgCheck := rfl
@[simp] theorem emit_harts (s : State) (m : OutMsg) : (emit s m).harts = s.harts := rfl
@[simp] theorem emit_ctl (s : State) (m : OutMsg) : (emit s m).ctl = s.ctl := rfl

@[simp] theorem count_pending (s : State) (i sub n : Nat) : (count s i sub n).pending = s.pending := rfl
@[simp] theorem count_free (s : State) (i sub n : Nat) : (count s i sub n).free = s.free := rfl
@[simp] theorem count_now (s : State) (i sub n : Nat) : (count s i sub n).now = s.now := rfl
@[simp] theorem count_cyc (s : State) (i sub n : Nat) : (count s i sub n).cyc = s.cyc := rfl
@[simp] theorem count_out (s : State) (i sub n : Nat) : (count s i sub n).out = s.out := rfl
@[simp] theorem count_mem (s : State) (i sub n : Nat) : (count s i sub n).mem = s.mem := rfl
@[simp] theorem count_spad (s : State) (i sub n : Nat) : (count s i sub n).spad = s.spad := rfl
@[simp] theorem count_spadLog (s : State) (i sub n : Nat) : (count s i sub n).spadLog = s.spadLog := rfl
@[simp] theorem count_tickWrites (s : State) (i sub n : Nat) : (count s i sub n).tickWrites = s.tickWrites := rfl
@[simp] theorem count_p16Bad (s : State) (i sub n : Nat) : (count s i sub n).p16Bad = s.p16Bad := rfl
@[simp] theorem count_obj (s : State) (i sub n : Nat) : (count s i sub n).obj = (setO s i sub (min (getO s i sub + n) (2 ^ 64 - 1))).obj := rfl
@[simp] theorem count_persist (s : State) (i sub n : Nat) : (count s i sub n).persist = s.persist := rfl
@[simp] theorem count_persistLost (s : State) (i sub n : Nat) : (count s i sub n).persistLost = s.persistLost := rfl
@[simp] theorem count_dev (s : State) (i sub n : Nat) : (count s i sub n).dev = s.dev := rfl
@[simp] theorem count_events (s : State) (i sub n : Nat) : (count s i sub n).events = s.events := rfl
@[simp] theorem count_recovery (s : State) (i sub n : Nat) : (count s i sub n).recovery = s.recovery := rfl
@[simp] theorem count_relum (s : State) (i sub n : Nat) : (count s i sub n).relum = s.relum := rfl
@[simp] theorem count_sec (s : State) (i sub n : Nat) : (count s i sub n).sec = s.sec := rfl
@[simp] theorem count_power (s : State) (i sub n : Nat) : (count s i sub n).power = s.power := rfl
@[simp] theorem count_lace (s : State) (i sub n : Nat) : (count s i sub n).lace = s.lace := rfl
@[simp] theorem count_slots (s : State) (i sub n : Nat) : (count s i sub n).slots = s.slots := rfl
@[simp] theorem count_loading (s : State) (i sub n : Nat) : (count s i sub n).loading = s.loading := rfl
@[simp] theorem count_parts (s : State) (i sub n : Nat) : (count s i sub n).parts = s.parts := rfl
@[simp] theorem count_clusters (s : State) (i sub n : Nat) : (count s i sub n).clusters = s.clusters := rfl
@[simp] theorem count_cores (s : State) (i sub n : Nat) : (count s i sub n).cores = s.cores := rfl
@[simp] theorem count_welts (s : State) (i sub n : Nat) : (count s i sub n).welts = s.welts := rfl
@[simp] theorem count_weltFlits (s : State) (i sub n : Nat) : (count s i sub n).weltFlits = s.weltFlits := rfl
@[simp] theorem count_memSt (s : State) (i sub n : Nat) : (count s i sub n).memSt = s.memSt := rfl
@[simp] theorem count_awls (s : State) (i sub n : Nat) : (count s i sub n).awls = s.awls := rfl
@[simp] theorem count_codec (s : State) (i sub n : Nat) : (count s i sub n).codec = s.codec := rfl
@[simp] theorem count_ports (s : State) (i sub n : Nat) : (count s i sub n).ports = s.ports := rfl
@[simp] theorem count_rdma (s : State) (i sub n : Nat) : (count s i sub n).rdma = s.rdma := rfl
@[simp] theorem count_fab (s : State) (i sub n : Nat) : (count s i sub n).fab = s.fab := rfl
@[simp] theorem count_serving (s : State) (i sub n : Nat) : (count s i sub n).serving = s.serving := rfl
@[simp] theorem count_routing (s : State) (i sub n : Nat) : (count s i sub n).routing = s.routing := rfl
@[simp] theorem count_images (s : State) (i sub n : Nat) : (count s i sub n).images = s.images := rfl
@[simp] theorem count_imgCmd (s : State) (i sub n : Nat) : (count s i sub n).imgCmd = s.imgCmd := rfl
@[simp] theorem count_imgCheck (s : State) (i sub n : Nat) : (count s i sub n).imgCheck = s.imgCheck := rfl
@[simp] theorem count_harts (s : State) (i sub n : Nat) : (count s i sub n).harts = s.harts := rfl
@[simp] theorem count_ctl (s : State) (i sub n : Nat) : (count s i sub n).ctl = s.ctl := rfl

@[simp] theorem memPut_pending (s : State) (a : Nat) (l : List Byte) : (memPut s a l).pending = s.pending := rfl
@[simp] theorem memPut_free (s : State) (a : Nat) (l : List Byte) : (memPut s a l).free = s.free := rfl
@[simp] theorem memPut_now (s : State) (a : Nat) (l : List Byte) : (memPut s a l).now = s.now := rfl
@[simp] theorem memPut_cyc (s : State) (a : Nat) (l : List Byte) : (memPut s a l).cyc = s.cyc := rfl
@[simp] theorem memPut_out (s : State) (a : Nat) (l : List Byte) : (memPut s a l).out = s.out := rfl
@[simp] theorem memPut_mem (s : State) (a : Nat) (l : List Byte) : (memPut s a l).mem = mputs 0 s.mem a l := rfl
@[simp] theorem memPut_spad (s : State) (a : Nat) (l : List Byte) : (memPut s a l).spad = s.spad := rfl
@[simp] theorem memPut_spadLog (s : State) (a : Nat) (l : List Byte) : (memPut s a l).spadLog = s.spadLog := rfl
@[simp] theorem memPut_tickWrites (s : State) (a : Nat) (l : List Byte) : (memPut s a l).tickWrites = s.tickWrites := rfl
@[simp] theorem memPut_p16Bad (s : State) (a : Nat) (l : List Byte) : (memPut s a l).p16Bad = s.p16Bad := rfl
@[simp] theorem memPut_obj (s : State) (a : Nat) (l : List Byte) : (memPut s a l).obj = s.obj := rfl
@[simp] theorem memPut_persist (s : State) (a : Nat) (l : List Byte) : (memPut s a l).persist = s.persist := rfl
@[simp] theorem memPut_persistLost (s : State) (a : Nat) (l : List Byte) : (memPut s a l).persistLost = s.persistLost := rfl
@[simp] theorem memPut_dev (s : State) (a : Nat) (l : List Byte) : (memPut s a l).dev = s.dev := rfl
@[simp] theorem memPut_events (s : State) (a : Nat) (l : List Byte) : (memPut s a l).events = s.events := rfl
@[simp] theorem memPut_recovery (s : State) (a : Nat) (l : List Byte) : (memPut s a l).recovery = s.recovery := rfl
@[simp] theorem memPut_relum (s : State) (a : Nat) (l : List Byte) : (memPut s a l).relum = s.relum := rfl
@[simp] theorem memPut_sec (s : State) (a : Nat) (l : List Byte) : (memPut s a l).sec = s.sec := rfl
@[simp] theorem memPut_power (s : State) (a : Nat) (l : List Byte) : (memPut s a l).power = s.power := rfl
@[simp] theorem memPut_lace (s : State) (a : Nat) (l : List Byte) : (memPut s a l).lace = s.lace := rfl
@[simp] theorem memPut_slots (s : State) (a : Nat) (l : List Byte) : (memPut s a l).slots = s.slots := rfl
@[simp] theorem memPut_loading (s : State) (a : Nat) (l : List Byte) : (memPut s a l).loading = s.loading := rfl
@[simp] theorem memPut_parts (s : State) (a : Nat) (l : List Byte) : (memPut s a l).parts = s.parts := rfl
@[simp] theorem memPut_clusters (s : State) (a : Nat) (l : List Byte) : (memPut s a l).clusters = s.clusters := rfl
@[simp] theorem memPut_cores (s : State) (a : Nat) (l : List Byte) : (memPut s a l).cores = s.cores := rfl
@[simp] theorem memPut_welts (s : State) (a : Nat) (l : List Byte) : (memPut s a l).welts = s.welts := rfl
@[simp] theorem memPut_weltFlits (s : State) (a : Nat) (l : List Byte) : (memPut s a l).weltFlits = s.weltFlits := rfl
@[simp] theorem memPut_memSt (s : State) (a : Nat) (l : List Byte) : (memPut s a l).memSt = s.memSt := rfl
@[simp] theorem memPut_awls (s : State) (a : Nat) (l : List Byte) : (memPut s a l).awls = s.awls := rfl
@[simp] theorem memPut_codec (s : State) (a : Nat) (l : List Byte) : (memPut s a l).codec = s.codec := rfl
@[simp] theorem memPut_ports (s : State) (a : Nat) (l : List Byte) : (memPut s a l).ports = s.ports := rfl
@[simp] theorem memPut_rdma (s : State) (a : Nat) (l : List Byte) : (memPut s a l).rdma = s.rdma := rfl
@[simp] theorem memPut_fab (s : State) (a : Nat) (l : List Byte) : (memPut s a l).fab = s.fab := rfl
@[simp] theorem memPut_serving (s : State) (a : Nat) (l : List Byte) : (memPut s a l).serving = s.serving := rfl
@[simp] theorem memPut_routing (s : State) (a : Nat) (l : List Byte) : (memPut s a l).routing = s.routing := rfl
@[simp] theorem memPut_images (s : State) (a : Nat) (l : List Byte) : (memPut s a l).images = s.images := rfl
@[simp] theorem memPut_imgCmd (s : State) (a : Nat) (l : List Byte) : (memPut s a l).imgCmd = s.imgCmd := rfl
@[simp] theorem memPut_imgCheck (s : State) (a : Nat) (l : List Byte) : (memPut s a l).imgCheck = s.imgCheck := rfl
@[simp] theorem memPut_harts (s : State) (a : Nat) (l : List Byte) : (memPut s a l).harts = s.harts := rfl
@[simp] theorem memPut_ctl (s : State) (a : Nat) (l : List Byte) : (memPut s a l).ctl = s.ctl := rfl

@[simp] theorem memClear_pending (s : State) (a n : Nat) : (memClear s a n).pending = s.pending := rfl
@[simp] theorem memClear_free (s : State) (a n : Nat) : (memClear s a n).free = s.free := rfl
@[simp] theorem memClear_now (s : State) (a n : Nat) : (memClear s a n).now = s.now := rfl
@[simp] theorem memClear_cyc (s : State) (a n : Nat) : (memClear s a n).cyc = s.cyc := rfl
@[simp] theorem memClear_out (s : State) (a n : Nat) : (memClear s a n).out = s.out := rfl
@[simp] theorem memClear_mem (s : State) (a n : Nat) : (memClear s a n).mem = s.mem.filter (fun e => e.1 < a || a + n ≤ e.1) := rfl
@[simp] theorem memClear_spad (s : State) (a n : Nat) : (memClear s a n).spad = s.spad := rfl
@[simp] theorem memClear_spadLog (s : State) (a n : Nat) : (memClear s a n).spadLog = s.spadLog := rfl
@[simp] theorem memClear_tickWrites (s : State) (a n : Nat) : (memClear s a n).tickWrites = s.tickWrites := rfl
@[simp] theorem memClear_p16Bad (s : State) (a n : Nat) : (memClear s a n).p16Bad = s.p16Bad := rfl
@[simp] theorem memClear_obj (s : State) (a n : Nat) : (memClear s a n).obj = s.obj := rfl
@[simp] theorem memClear_persist (s : State) (a n : Nat) : (memClear s a n).persist = s.persist := rfl
@[simp] theorem memClear_persistLost (s : State) (a n : Nat) : (memClear s a n).persistLost = s.persistLost := rfl
@[simp] theorem memClear_dev (s : State) (a n : Nat) : (memClear s a n).dev = s.dev := rfl
@[simp] theorem memClear_events (s : State) (a n : Nat) : (memClear s a n).events = s.events := rfl
@[simp] theorem memClear_recovery (s : State) (a n : Nat) : (memClear s a n).recovery = s.recovery := rfl
@[simp] theorem memClear_relum (s : State) (a n : Nat) : (memClear s a n).relum = s.relum := rfl
@[simp] theorem memClear_sec (s : State) (a n : Nat) : (memClear s a n).sec = s.sec := rfl
@[simp] theorem memClear_power (s : State) (a n : Nat) : (memClear s a n).power = s.power := rfl
@[simp] theorem memClear_lace (s : State) (a n : Nat) : (memClear s a n).lace = s.lace := rfl
@[simp] theorem memClear_slots (s : State) (a n : Nat) : (memClear s a n).slots = s.slots := rfl
@[simp] theorem memClear_loading (s : State) (a n : Nat) : (memClear s a n).loading = s.loading := rfl
@[simp] theorem memClear_parts (s : State) (a n : Nat) : (memClear s a n).parts = s.parts := rfl
@[simp] theorem memClear_clusters (s : State) (a n : Nat) : (memClear s a n).clusters = s.clusters := rfl
@[simp] theorem memClear_cores (s : State) (a n : Nat) : (memClear s a n).cores = s.cores := rfl
@[simp] theorem memClear_welts (s : State) (a n : Nat) : (memClear s a n).welts = s.welts := rfl
@[simp] theorem memClear_weltFlits (s : State) (a n : Nat) : (memClear s a n).weltFlits = s.weltFlits := rfl
@[simp] theorem memClear_memSt (s : State) (a n : Nat) : (memClear s a n).memSt = s.memSt := rfl
@[simp] theorem memClear_awls (s : State) (a n : Nat) : (memClear s a n).awls = s.awls := rfl
@[simp] theorem memClear_codec (s : State) (a n : Nat) : (memClear s a n).codec = s.codec := rfl
@[simp] theorem memClear_ports (s : State) (a n : Nat) : (memClear s a n).ports = s.ports := rfl
@[simp] theorem memClear_rdma (s : State) (a n : Nat) : (memClear s a n).rdma = s.rdma := rfl
@[simp] theorem memClear_fab (s : State) (a n : Nat) : (memClear s a n).fab = s.fab := rfl
@[simp] theorem memClear_serving (s : State) (a n : Nat) : (memClear s a n).serving = s.serving := rfl
@[simp] theorem memClear_routing (s : State) (a n : Nat) : (memClear s a n).routing = s.routing := rfl
@[simp] theorem memClear_images (s : State) (a n : Nat) : (memClear s a n).images = s.images := rfl
@[simp] theorem memClear_imgCmd (s : State) (a n : Nat) : (memClear s a n).imgCmd = s.imgCmd := rfl
@[simp] theorem memClear_imgCheck (s : State) (a n : Nat) : (memClear s a n).imgCheck = s.imgCheck := rfl
@[simp] theorem memClear_harts (s : State) (a n : Nat) : (memClear s a n).harts = s.harts := rfl
@[simp] theorem memClear_ctl (s : State) (a n : Nat) : (memClear s a n).ctl = s.ctl := rfl

@[simp] theorem setPort_pending (s : State) (p : Nat) (x : PortSt) : (setPort s p x).pending = s.pending := rfl
@[simp] theorem setPort_free (s : State) (p : Nat) (x : PortSt) : (setPort s p x).free = s.free := rfl
@[simp] theorem setPort_now (s : State) (p : Nat) (x : PortSt) : (setPort s p x).now = s.now := rfl
@[simp] theorem setPort_cyc (s : State) (p : Nat) (x : PortSt) : (setPort s p x).cyc = s.cyc := rfl
@[simp] theorem setPort_out (s : State) (p : Nat) (x : PortSt) : (setPort s p x).out = s.out := rfl
@[simp] theorem setPort_mem (s : State) (p : Nat) (x : PortSt) : (setPort s p x).mem = s.mem := rfl
@[simp] theorem setPort_spad (s : State) (p : Nat) (x : PortSt) : (setPort s p x).spad = s.spad := rfl
@[simp] theorem setPort_spadLog (s : State) (p : Nat) (x : PortSt) : (setPort s p x).spadLog = s.spadLog := rfl
@[simp] theorem setPort_tickWrites (s : State) (p : Nat) (x : PortSt) : (setPort s p x).tickWrites = s.tickWrites := rfl
@[simp] theorem setPort_p16Bad (s : State) (p : Nat) (x : PortSt) : (setPort s p x).p16Bad = s.p16Bad := rfl
@[simp] theorem setPort_obj (s : State) (p : Nat) (x : PortSt) : (setPort s p x).obj = s.obj := rfl
@[simp] theorem setPort_persist (s : State) (p : Nat) (x : PortSt) : (setPort s p x).persist = s.persist := rfl
@[simp] theorem setPort_persistLost (s : State) (p : Nat) (x : PortSt) : (setPort s p x).persistLost = s.persistLost := rfl
@[simp] theorem setPort_dev (s : State) (p : Nat) (x : PortSt) : (setPort s p x).dev = s.dev := rfl
@[simp] theorem setPort_events (s : State) (p : Nat) (x : PortSt) : (setPort s p x).events = s.events := rfl
@[simp] theorem setPort_recovery (s : State) (p : Nat) (x : PortSt) : (setPort s p x).recovery = s.recovery := rfl
@[simp] theorem setPort_relum (s : State) (p : Nat) (x : PortSt) : (setPort s p x).relum = s.relum := rfl
@[simp] theorem setPort_sec (s : State) (p : Nat) (x : PortSt) : (setPort s p x).sec = s.sec := rfl
@[simp] theorem setPort_power (s : State) (p : Nat) (x : PortSt) : (setPort s p x).power = s.power := rfl
@[simp] theorem setPort_lace (s : State) (p : Nat) (x : PortSt) : (setPort s p x).lace = s.lace := rfl
@[simp] theorem setPort_slots (s : State) (p : Nat) (x : PortSt) : (setPort s p x).slots = s.slots := rfl
@[simp] theorem setPort_loading (s : State) (p : Nat) (x : PortSt) : (setPort s p x).loading = s.loading := rfl
@[simp] theorem setPort_parts (s : State) (p : Nat) (x : PortSt) : (setPort s p x).parts = s.parts := rfl
@[simp] theorem setPort_clusters (s : State) (p : Nat) (x : PortSt) : (setPort s p x).clusters = s.clusters := rfl
@[simp] theorem setPort_cores (s : State) (p : Nat) (x : PortSt) : (setPort s p x).cores = s.cores := rfl
@[simp] theorem setPort_welts (s : State) (p : Nat) (x : PortSt) : (setPort s p x).welts = s.welts := rfl
@[simp] theorem setPort_weltFlits (s : State) (p : Nat) (x : PortSt) : (setPort s p x).weltFlits = s.weltFlits := rfl
@[simp] theorem setPort_memSt (s : State) (p : Nat) (x : PortSt) : (setPort s p x).memSt = s.memSt := rfl
@[simp] theorem setPort_awls (s : State) (p : Nat) (x : PortSt) : (setPort s p x).awls = s.awls := rfl
@[simp] theorem setPort_codec (s : State) (p : Nat) (x : PortSt) : (setPort s p x).codec = s.codec := rfl
@[simp] theorem setPort_ports (s : State) (p : Nat) (x : PortSt) : (setPort s p x).ports = mset PortSt.init s.ports p x := rfl
@[simp] theorem setPort_rdma (s : State) (p : Nat) (x : PortSt) : (setPort s p x).rdma = s.rdma := rfl
@[simp] theorem setPort_fab (s : State) (p : Nat) (x : PortSt) : (setPort s p x).fab = s.fab := rfl
@[simp] theorem setPort_serving (s : State) (p : Nat) (x : PortSt) : (setPort s p x).serving = s.serving := rfl
@[simp] theorem setPort_routing (s : State) (p : Nat) (x : PortSt) : (setPort s p x).routing = s.routing := rfl
@[simp] theorem setPort_images (s : State) (p : Nat) (x : PortSt) : (setPort s p x).images = s.images := rfl
@[simp] theorem setPort_imgCmd (s : State) (p : Nat) (x : PortSt) : (setPort s p x).imgCmd = s.imgCmd := rfl
@[simp] theorem setPort_imgCheck (s : State) (p : Nat) (x : PortSt) : (setPort s p x).imgCheck = s.imgCheck := rfl
@[simp] theorem setPort_harts (s : State) (p : Nat) (x : PortSt) : (setPort s p x).harts = s.harts := rfl
@[simp] theorem setPort_ctl (s : State) (p : Nat) (x : PortSt) : (setPort s p x).ctl = s.ctl := rfl

@[simp] theorem modPort_pending (s : State) (p : Nat) (f : PortSt → PortSt) : (modPort s p f).pending = s.pending := rfl
@[simp] theorem modPort_free (s : State) (p : Nat) (f : PortSt → PortSt) : (modPort s p f).free = s.free := rfl
@[simp] theorem modPort_now (s : State) (p : Nat) (f : PortSt → PortSt) : (modPort s p f).now = s.now := rfl
@[simp] theorem modPort_cyc (s : State) (p : Nat) (f : PortSt → PortSt) : (modPort s p f).cyc = s.cyc := rfl
@[simp] theorem modPort_out (s : State) (p : Nat) (f : PortSt → PortSt) : (modPort s p f).out = s.out := rfl
@[simp] theorem modPort_mem (s : State) (p : Nat) (f : PortSt → PortSt) : (modPort s p f).mem = s.mem := rfl
@[simp] theorem modPort_spad (s : State) (p : Nat) (f : PortSt → PortSt) : (modPort s p f).spad = s.spad := rfl
@[simp] theorem modPort_spadLog (s : State) (p : Nat) (f : PortSt → PortSt) : (modPort s p f).spadLog = s.spadLog := rfl
@[simp] theorem modPort_tickWrites (s : State) (p : Nat) (f : PortSt → PortSt) : (modPort s p f).tickWrites = s.tickWrites := rfl
@[simp] theorem modPort_p16Bad (s : State) (p : Nat) (f : PortSt → PortSt) : (modPort s p f).p16Bad = s.p16Bad := rfl
@[simp] theorem modPort_obj (s : State) (p : Nat) (f : PortSt → PortSt) : (modPort s p f).obj = s.obj := rfl
@[simp] theorem modPort_persist (s : State) (p : Nat) (f : PortSt → PortSt) : (modPort s p f).persist = s.persist := rfl
@[simp] theorem modPort_persistLost (s : State) (p : Nat) (f : PortSt → PortSt) : (modPort s p f).persistLost = s.persistLost := rfl
@[simp] theorem modPort_dev (s : State) (p : Nat) (f : PortSt → PortSt) : (modPort s p f).dev = s.dev := rfl
@[simp] theorem modPort_events (s : State) (p : Nat) (f : PortSt → PortSt) : (modPort s p f).events = s.events := rfl
@[simp] theorem modPort_recovery (s : State) (p : Nat) (f : PortSt → PortSt) : (modPort s p f).recovery = s.recovery := rfl
@[simp] theorem modPort_relum (s : State) (p : Nat) (f : PortSt → PortSt) : (modPort s p f).relum = s.relum := rfl
@[simp] theorem modPort_sec (s : State) (p : Nat) (f : PortSt → PortSt) : (modPort s p f).sec = s.sec := rfl
@[simp] theorem modPort_power (s : State) (p : Nat) (f : PortSt → PortSt) : (modPort s p f).power = s.power := rfl
@[simp] theorem modPort_lace (s : State) (p : Nat) (f : PortSt → PortSt) : (modPort s p f).lace = s.lace := rfl
@[simp] theorem modPort_slots (s : State) (p : Nat) (f : PortSt → PortSt) : (modPort s p f).slots = s.slots := rfl
@[simp] theorem modPort_loading (s : State) (p : Nat) (f : PortSt → PortSt) : (modPort s p f).loading = s.loading := rfl
@[simp] theorem modPort_parts (s : State) (p : Nat) (f : PortSt → PortSt) : (modPort s p f).parts = s.parts := rfl
@[simp] theorem modPort_clusters (s : State) (p : Nat) (f : PortSt → PortSt) : (modPort s p f).clusters = s.clusters := rfl
@[simp] theorem modPort_cores (s : State) (p : Nat) (f : PortSt → PortSt) : (modPort s p f).cores = s.cores := rfl
@[simp] theorem modPort_welts (s : State) (p : Nat) (f : PortSt → PortSt) : (modPort s p f).welts = s.welts := rfl
@[simp] theorem modPort_weltFlits (s : State) (p : Nat) (f : PortSt → PortSt) : (modPort s p f).weltFlits = s.weltFlits := rfl
@[simp] theorem modPort_memSt (s : State) (p : Nat) (f : PortSt → PortSt) : (modPort s p f).memSt = s.memSt := rfl
@[simp] theorem modPort_awls (s : State) (p : Nat) (f : PortSt → PortSt) : (modPort s p f).awls = s.awls := rfl
@[simp] theorem modPort_codec (s : State) (p : Nat) (f : PortSt → PortSt) : (modPort s p f).codec = s.codec := rfl
@[simp] theorem modPort_ports (s : State) (p : Nat) (f : PortSt → PortSt) : (modPort s p f).ports = mset PortSt.init s.ports p (f (getPort s p)) := rfl
@[simp] theorem modPort_rdma (s : State) (p : Nat) (f : PortSt → PortSt) : (modPort s p f).rdma = s.rdma := rfl
@[simp] theorem modPort_fab (s : State) (p : Nat) (f : PortSt → PortSt) : (modPort s p f).fab = s.fab := rfl
@[simp] theorem modPort_serving (s : State) (p : Nat) (f : PortSt → PortSt) : (modPort s p f).serving = s.serving := rfl
@[simp] theorem modPort_routing (s : State) (p : Nat) (f : PortSt → PortSt) : (modPort s p f).routing = s.routing := rfl
@[simp] theorem modPort_images (s : State) (p : Nat) (f : PortSt → PortSt) : (modPort s p f).images = s.images := rfl
@[simp] theorem modPort_imgCmd (s : State) (p : Nat) (f : PortSt → PortSt) : (modPort s p f).imgCmd = s.imgCmd := rfl
@[simp] theorem modPort_imgCheck (s : State) (p : Nat) (f : PortSt → PortSt) : (modPort s p f).imgCheck = s.imgCheck := rfl
@[simp] theorem modPort_harts (s : State) (p : Nat) (f : PortSt → PortSt) : (modPort s p f).harts = s.harts := rfl
@[simp] theorem modPort_ctl (s : State) (p : Nat) (f : PortSt → PortSt) : (modPort s p f).ctl = s.ctl := rfl

@[simp] theorem setCl_pending (s : State) (l : Nat) (x : Cluster) : (setCl s l x).pending = s.pending := rfl
@[simp] theorem setCl_free (s : State) (l : Nat) (x : Cluster) : (setCl s l x).free = s.free := rfl
@[simp] theorem setCl_now (s : State) (l : Nat) (x : Cluster) : (setCl s l x).now = s.now := rfl
@[simp] theorem setCl_cyc (s : State) (l : Nat) (x : Cluster) : (setCl s l x).cyc = s.cyc := rfl
@[simp] theorem setCl_out (s : State) (l : Nat) (x : Cluster) : (setCl s l x).out = s.out := rfl
@[simp] theorem setCl_mem (s : State) (l : Nat) (x : Cluster) : (setCl s l x).mem = s.mem := rfl
@[simp] theorem setCl_spad (s : State) (l : Nat) (x : Cluster) : (setCl s l x).spad = s.spad := rfl
@[simp] theorem setCl_spadLog (s : State) (l : Nat) (x : Cluster) : (setCl s l x).spadLog = s.spadLog := rfl
@[simp] theorem setCl_tickWrites (s : State) (l : Nat) (x : Cluster) : (setCl s l x).tickWrites = s.tickWrites := rfl
@[simp] theorem setCl_p16Bad (s : State) (l : Nat) (x : Cluster) : (setCl s l x).p16Bad = s.p16Bad := rfl
@[simp] theorem setCl_obj (s : State) (l : Nat) (x : Cluster) : (setCl s l x).obj = s.obj := rfl
@[simp] theorem setCl_persist (s : State) (l : Nat) (x : Cluster) : (setCl s l x).persist = s.persist := rfl
@[simp] theorem setCl_persistLost (s : State) (l : Nat) (x : Cluster) : (setCl s l x).persistLost = s.persistLost := rfl
@[simp] theorem setCl_dev (s : State) (l : Nat) (x : Cluster) : (setCl s l x).dev = s.dev := rfl
@[simp] theorem setCl_events (s : State) (l : Nat) (x : Cluster) : (setCl s l x).events = s.events := rfl
@[simp] theorem setCl_recovery (s : State) (l : Nat) (x : Cluster) : (setCl s l x).recovery = s.recovery := rfl
@[simp] theorem setCl_relum (s : State) (l : Nat) (x : Cluster) : (setCl s l x).relum = s.relum := rfl
@[simp] theorem setCl_sec (s : State) (l : Nat) (x : Cluster) : (setCl s l x).sec = s.sec := rfl
@[simp] theorem setCl_power (s : State) (l : Nat) (x : Cluster) : (setCl s l x).power = s.power := rfl
@[simp] theorem setCl_lace (s : State) (l : Nat) (x : Cluster) : (setCl s l x).lace = s.lace := rfl
@[simp] theorem setCl_slots (s : State) (l : Nat) (x : Cluster) : (setCl s l x).slots = s.slots := rfl
@[simp] theorem setCl_loading (s : State) (l : Nat) (x : Cluster) : (setCl s l x).loading = s.loading := rfl
@[simp] theorem setCl_parts (s : State) (l : Nat) (x : Cluster) : (setCl s l x).parts = s.parts := rfl
@[simp] theorem setCl_clusters (s : State) (l : Nat) (x : Cluster) : (setCl s l x).clusters = mset Cluster.init s.clusters l x := rfl
@[simp] theorem setCl_cores (s : State) (l : Nat) (x : Cluster) : (setCl s l x).cores = s.cores := rfl
@[simp] theorem setCl_welts (s : State) (l : Nat) (x : Cluster) : (setCl s l x).welts = s.welts := rfl
@[simp] theorem setCl_weltFlits (s : State) (l : Nat) (x : Cluster) : (setCl s l x).weltFlits = s.weltFlits := rfl
@[simp] theorem setCl_memSt (s : State) (l : Nat) (x : Cluster) : (setCl s l x).memSt = s.memSt := rfl
@[simp] theorem setCl_awls (s : State) (l : Nat) (x : Cluster) : (setCl s l x).awls = s.awls := rfl
@[simp] theorem setCl_codec (s : State) (l : Nat) (x : Cluster) : (setCl s l x).codec = s.codec := rfl
@[simp] theorem setCl_ports (s : State) (l : Nat) (x : Cluster) : (setCl s l x).ports = s.ports := rfl
@[simp] theorem setCl_rdma (s : State) (l : Nat) (x : Cluster) : (setCl s l x).rdma = s.rdma := rfl
@[simp] theorem setCl_fab (s : State) (l : Nat) (x : Cluster) : (setCl s l x).fab = s.fab := rfl
@[simp] theorem setCl_serving (s : State) (l : Nat) (x : Cluster) : (setCl s l x).serving = s.serving := rfl
@[simp] theorem setCl_routing (s : State) (l : Nat) (x : Cluster) : (setCl s l x).routing = s.routing := rfl
@[simp] theorem setCl_images (s : State) (l : Nat) (x : Cluster) : (setCl s l x).images = s.images := rfl
@[simp] theorem setCl_imgCmd (s : State) (l : Nat) (x : Cluster) : (setCl s l x).imgCmd = s.imgCmd := rfl
@[simp] theorem setCl_imgCheck (s : State) (l : Nat) (x : Cluster) : (setCl s l x).imgCheck = s.imgCheck := rfl
@[simp] theorem setCl_harts (s : State) (l : Nat) (x : Cluster) : (setCl s l x).harts = s.harts := rfl
@[simp] theorem setCl_ctl (s : State) (l : Nat) (x : Cluster) : (setCl s l x).ctl = s.ctl := rfl

@[simp] theorem setCore_pending (s : State) (l c : Nat) (x : CoreSt) : (setCore s l c x).pending = s.pending := rfl
@[simp] theorem setCore_free (s : State) (l c : Nat) (x : CoreSt) : (setCore s l c x).free = s.free := rfl
@[simp] theorem setCore_now (s : State) (l c : Nat) (x : CoreSt) : (setCore s l c x).now = s.now := rfl
@[simp] theorem setCore_cyc (s : State) (l c : Nat) (x : CoreSt) : (setCore s l c x).cyc = s.cyc := rfl
@[simp] theorem setCore_out (s : State) (l c : Nat) (x : CoreSt) : (setCore s l c x).out = s.out := rfl
@[simp] theorem setCore_mem (s : State) (l c : Nat) (x : CoreSt) : (setCore s l c x).mem = s.mem := rfl
@[simp] theorem setCore_spad (s : State) (l c : Nat) (x : CoreSt) : (setCore s l c x).spad = s.spad := rfl
@[simp] theorem setCore_spadLog (s : State) (l c : Nat) (x : CoreSt) : (setCore s l c x).spadLog = s.spadLog := rfl
@[simp] theorem setCore_tickWrites (s : State) (l c : Nat) (x : CoreSt) : (setCore s l c x).tickWrites = s.tickWrites := rfl
@[simp] theorem setCore_p16Bad (s : State) (l c : Nat) (x : CoreSt) : (setCore s l c x).p16Bad = s.p16Bad := rfl
@[simp] theorem setCore_obj (s : State) (l c : Nat) (x : CoreSt) : (setCore s l c x).obj = s.obj := rfl
@[simp] theorem setCore_persist (s : State) (l c : Nat) (x : CoreSt) : (setCore s l c x).persist = s.persist := rfl
@[simp] theorem setCore_persistLost (s : State) (l c : Nat) (x : CoreSt) : (setCore s l c x).persistLost = s.persistLost := rfl
@[simp] theorem setCore_dev (s : State) (l c : Nat) (x : CoreSt) : (setCore s l c x).dev = s.dev := rfl
@[simp] theorem setCore_events (s : State) (l c : Nat) (x : CoreSt) : (setCore s l c x).events = s.events := rfl
@[simp] theorem setCore_recovery (s : State) (l c : Nat) (x : CoreSt) : (setCore s l c x).recovery = s.recovery := rfl
@[simp] theorem setCore_relum (s : State) (l c : Nat) (x : CoreSt) : (setCore s l c x).relum = s.relum := rfl
@[simp] theorem setCore_sec (s : State) (l c : Nat) (x : CoreSt) : (setCore s l c x).sec = s.sec := rfl
@[simp] theorem setCore_power (s : State) (l c : Nat) (x : CoreSt) : (setCore s l c x).power = s.power := rfl
@[simp] theorem setCore_lace (s : State) (l c : Nat) (x : CoreSt) : (setCore s l c x).lace = s.lace := rfl
@[simp] theorem setCore_slots (s : State) (l c : Nat) (x : CoreSt) : (setCore s l c x).slots = s.slots := rfl
@[simp] theorem setCore_loading (s : State) (l c : Nat) (x : CoreSt) : (setCore s l c x).loading = s.loading := rfl
@[simp] theorem setCore_parts (s : State) (l c : Nat) (x : CoreSt) : (setCore s l c x).parts = s.parts := rfl
@[simp] theorem setCore_clusters (s : State) (l c : Nat) (x : CoreSt) : (setCore s l c x).clusters = s.clusters := rfl
@[simp] theorem setCore_cores (s : State) (l c : Nat) (x : CoreSt) : (setCore s l c x).cores = mset CoreSt.init s.cores (l * 64 + c) x := rfl
@[simp] theorem setCore_welts (s : State) (l c : Nat) (x : CoreSt) : (setCore s l c x).welts = s.welts := rfl
@[simp] theorem setCore_weltFlits (s : State) (l c : Nat) (x : CoreSt) : (setCore s l c x).weltFlits = s.weltFlits := rfl
@[simp] theorem setCore_memSt (s : State) (l c : Nat) (x : CoreSt) : (setCore s l c x).memSt = s.memSt := rfl
@[simp] theorem setCore_awls (s : State) (l c : Nat) (x : CoreSt) : (setCore s l c x).awls = s.awls := rfl
@[simp] theorem setCore_codec (s : State) (l c : Nat) (x : CoreSt) : (setCore s l c x).codec = s.codec := rfl
@[simp] theorem setCore_ports (s : State) (l c : Nat) (x : CoreSt) : (setCore s l c x).ports = s.ports := rfl
@[simp] theorem setCore_rdma (s : State) (l c : Nat) (x : CoreSt) : (setCore s l c x).rdma = s.rdma := rfl
@[simp] theorem setCore_fab (s : State) (l c : Nat) (x : CoreSt) : (setCore s l c x).fab = s.fab := rfl
@[simp] theorem setCore_serving (s : State) (l c : Nat) (x : CoreSt) : (setCore s l c x).serving = s.serving := rfl
@[simp] theorem setCore_routing (s : State) (l c : Nat) (x : CoreSt) : (setCore s l c x).routing = s.routing := rfl
@[simp] theorem setCore_images (s : State) (l c : Nat) (x : CoreSt) : (setCore s l c x).images = s.images := rfl
@[simp] theorem setCore_imgCmd (s : State) (l c : Nat) (x : CoreSt) : (setCore s l c x).imgCmd = s.imgCmd := rfl
@[simp] theorem setCore_imgCheck (s : State) (l c : Nat) (x : CoreSt) : (setCore s l c x).imgCheck = s.imgCheck := rfl
@[simp] theorem setCore_harts (s : State) (l c : Nat) (x : CoreSt) : (setCore s l c x).harts = s.harts := rfl
@[simp] theorem setCore_ctl (s : State) (l c : Nat) (x : CoreSt) : (setCore s l c x).ctl = s.ctl := rfl

@[simp] theorem setAwl_pending (s : State) (l : Nat) (x : Awl) : (setAwl s l x).pending = s.pending := rfl
@[simp] theorem setAwl_free (s : State) (l : Nat) (x : Awl) : (setAwl s l x).free = s.free := rfl
@[simp] theorem setAwl_now (s : State) (l : Nat) (x : Awl) : (setAwl s l x).now = s.now := rfl
@[simp] theorem setAwl_cyc (s : State) (l : Nat) (x : Awl) : (setAwl s l x).cyc = s.cyc := rfl
@[simp] theorem setAwl_out (s : State) (l : Nat) (x : Awl) : (setAwl s l x).out = s.out := rfl
@[simp] theorem setAwl_mem (s : State) (l : Nat) (x : Awl) : (setAwl s l x).mem = s.mem := rfl
@[simp] theorem setAwl_spad (s : State) (l : Nat) (x : Awl) : (setAwl s l x).spad = s.spad := rfl
@[simp] theorem setAwl_spadLog (s : State) (l : Nat) (x : Awl) : (setAwl s l x).spadLog = s.spadLog := rfl
@[simp] theorem setAwl_tickWrites (s : State) (l : Nat) (x : Awl) : (setAwl s l x).tickWrites = s.tickWrites := rfl
@[simp] theorem setAwl_p16Bad (s : State) (l : Nat) (x : Awl) : (setAwl s l x).p16Bad = s.p16Bad := rfl
@[simp] theorem setAwl_obj (s : State) (l : Nat) (x : Awl) : (setAwl s l x).obj = s.obj := rfl
@[simp] theorem setAwl_persist (s : State) (l : Nat) (x : Awl) : (setAwl s l x).persist = s.persist := rfl
@[simp] theorem setAwl_persistLost (s : State) (l : Nat) (x : Awl) : (setAwl s l x).persistLost = s.persistLost := rfl
@[simp] theorem setAwl_dev (s : State) (l : Nat) (x : Awl) : (setAwl s l x).dev = s.dev := rfl
@[simp] theorem setAwl_events (s : State) (l : Nat) (x : Awl) : (setAwl s l x).events = s.events := rfl
@[simp] theorem setAwl_recovery (s : State) (l : Nat) (x : Awl) : (setAwl s l x).recovery = s.recovery := rfl
@[simp] theorem setAwl_relum (s : State) (l : Nat) (x : Awl) : (setAwl s l x).relum = s.relum := rfl
@[simp] theorem setAwl_sec (s : State) (l : Nat) (x : Awl) : (setAwl s l x).sec = s.sec := rfl
@[simp] theorem setAwl_power (s : State) (l : Nat) (x : Awl) : (setAwl s l x).power = s.power := rfl
@[simp] theorem setAwl_lace (s : State) (l : Nat) (x : Awl) : (setAwl s l x).lace = s.lace := rfl
@[simp] theorem setAwl_slots (s : State) (l : Nat) (x : Awl) : (setAwl s l x).slots = s.slots := rfl
@[simp] theorem setAwl_loading (s : State) (l : Nat) (x : Awl) : (setAwl s l x).loading = s.loading := rfl
@[simp] theorem setAwl_parts (s : State) (l : Nat) (x : Awl) : (setAwl s l x).parts = s.parts := rfl
@[simp] theorem setAwl_clusters (s : State) (l : Nat) (x : Awl) : (setAwl s l x).clusters = s.clusters := rfl
@[simp] theorem setAwl_cores (s : State) (l : Nat) (x : Awl) : (setAwl s l x).cores = s.cores := rfl
@[simp] theorem setAwl_welts (s : State) (l : Nat) (x : Awl) : (setAwl s l x).welts = s.welts := rfl
@[simp] theorem setAwl_weltFlits (s : State) (l : Nat) (x : Awl) : (setAwl s l x).weltFlits = s.weltFlits := rfl
@[simp] theorem setAwl_memSt (s : State) (l : Nat) (x : Awl) : (setAwl s l x).memSt = s.memSt := rfl
@[simp] theorem setAwl_awls (s : State) (l : Nat) (x : Awl) : (setAwl s l x).awls = mset Awl.init s.awls l x := rfl
@[simp] theorem setAwl_codec (s : State) (l : Nat) (x : Awl) : (setAwl s l x).codec = s.codec := rfl
@[simp] theorem setAwl_ports (s : State) (l : Nat) (x : Awl) : (setAwl s l x).ports = s.ports := rfl
@[simp] theorem setAwl_rdma (s : State) (l : Nat) (x : Awl) : (setAwl s l x).rdma = s.rdma := rfl
@[simp] theorem setAwl_fab (s : State) (l : Nat) (x : Awl) : (setAwl s l x).fab = s.fab := rfl
@[simp] theorem setAwl_serving (s : State) (l : Nat) (x : Awl) : (setAwl s l x).serving = s.serving := rfl
@[simp] theorem setAwl_routing (s : State) (l : Nat) (x : Awl) : (setAwl s l x).routing = s.routing := rfl
@[simp] theorem setAwl_images (s : State) (l : Nat) (x : Awl) : (setAwl s l x).images = s.images := rfl
@[simp] theorem setAwl_imgCmd (s : State) (l : Nat) (x : Awl) : (setAwl s l x).imgCmd = s.imgCmd := rfl
@[simp] theorem setAwl_imgCheck (s : State) (l : Nat) (x : Awl) : (setAwl s l x).imgCheck = s.imgCheck := rfl
@[simp] theorem setAwl_harts (s : State) (l : Nat) (x : Awl) : (setAwl s l x).harts = s.harts := rfl
@[simp] theorem setAwl_ctl (s : State) (l : Nat) (x : Awl) : (setAwl s l x).ctl = s.ctl := rfl

@[simp] theorem setSlot_pending (s : State) (n : Nat) (x : SlotSt) : (setSlot s n x).pending = s.pending := rfl
@[simp] theorem setSlot_free (s : State) (n : Nat) (x : SlotSt) : (setSlot s n x).free = s.free := rfl
@[simp] theorem setSlot_now (s : State) (n : Nat) (x : SlotSt) : (setSlot s n x).now = s.now := rfl
@[simp] theorem setSlot_cyc (s : State) (n : Nat) (x : SlotSt) : (setSlot s n x).cyc = s.cyc := rfl
@[simp] theorem setSlot_out (s : State) (n : Nat) (x : SlotSt) : (setSlot s n x).out = s.out := rfl
@[simp] theorem setSlot_mem (s : State) (n : Nat) (x : SlotSt) : (setSlot s n x).mem = s.mem := rfl
@[simp] theorem setSlot_spad (s : State) (n : Nat) (x : SlotSt) : (setSlot s n x).spad = s.spad := rfl
@[simp] theorem setSlot_spadLog (s : State) (n : Nat) (x : SlotSt) : (setSlot s n x).spadLog = s.spadLog := rfl
@[simp] theorem setSlot_tickWrites (s : State) (n : Nat) (x : SlotSt) : (setSlot s n x).tickWrites = s.tickWrites := rfl
@[simp] theorem setSlot_p16Bad (s : State) (n : Nat) (x : SlotSt) : (setSlot s n x).p16Bad = s.p16Bad := rfl
@[simp] theorem setSlot_obj (s : State) (n : Nat) (x : SlotSt) : (setSlot s n x).obj = s.obj := rfl
@[simp] theorem setSlot_persist (s : State) (n : Nat) (x : SlotSt) : (setSlot s n x).persist = s.persist := rfl
@[simp] theorem setSlot_persistLost (s : State) (n : Nat) (x : SlotSt) : (setSlot s n x).persistLost = s.persistLost := rfl
@[simp] theorem setSlot_dev (s : State) (n : Nat) (x : SlotSt) : (setSlot s n x).dev = s.dev := rfl
@[simp] theorem setSlot_events (s : State) (n : Nat) (x : SlotSt) : (setSlot s n x).events = s.events := rfl
@[simp] theorem setSlot_recovery (s : State) (n : Nat) (x : SlotSt) : (setSlot s n x).recovery = s.recovery := rfl
@[simp] theorem setSlot_relum (s : State) (n : Nat) (x : SlotSt) : (setSlot s n x).relum = s.relum := rfl
@[simp] theorem setSlot_sec (s : State) (n : Nat) (x : SlotSt) : (setSlot s n x).sec = s.sec := rfl
@[simp] theorem setSlot_power (s : State) (n : Nat) (x : SlotSt) : (setSlot s n x).power = s.power := rfl
@[simp] theorem setSlot_lace (s : State) (n : Nat) (x : SlotSt) : (setSlot s n x).lace = s.lace := rfl
@[simp] theorem setSlot_slots (s : State) (n : Nat) (x : SlotSt) : (setSlot s n x).slots = mset SlotSt.init s.slots n x := rfl
@[simp] theorem setSlot_loading (s : State) (n : Nat) (x : SlotSt) : (setSlot s n x).loading = s.loading := rfl
@[simp] theorem setSlot_parts (s : State) (n : Nat) (x : SlotSt) : (setSlot s n x).parts = s.parts := rfl
@[simp] theorem setSlot_clusters (s : State) (n : Nat) (x : SlotSt) : (setSlot s n x).clusters = s.clusters := rfl
@[simp] theorem setSlot_cores (s : State) (n : Nat) (x : SlotSt) : (setSlot s n x).cores = s.cores := rfl
@[simp] theorem setSlot_welts (s : State) (n : Nat) (x : SlotSt) : (setSlot s n x).welts = s.welts := rfl
@[simp] theorem setSlot_weltFlits (s : State) (n : Nat) (x : SlotSt) : (setSlot s n x).weltFlits = s.weltFlits := rfl
@[simp] theorem setSlot_memSt (s : State) (n : Nat) (x : SlotSt) : (setSlot s n x).memSt = s.memSt := rfl
@[simp] theorem setSlot_awls (s : State) (n : Nat) (x : SlotSt) : (setSlot s n x).awls = s.awls := rfl
@[simp] theorem setSlot_codec (s : State) (n : Nat) (x : SlotSt) : (setSlot s n x).codec = s.codec := rfl
@[simp] theorem setSlot_ports (s : State) (n : Nat) (x : SlotSt) : (setSlot s n x).ports = s.ports := rfl
@[simp] theorem setSlot_rdma (s : State) (n : Nat) (x : SlotSt) : (setSlot s n x).rdma = s.rdma := rfl
@[simp] theorem setSlot_fab (s : State) (n : Nat) (x : SlotSt) : (setSlot s n x).fab = s.fab := rfl
@[simp] theorem setSlot_serving (s : State) (n : Nat) (x : SlotSt) : (setSlot s n x).serving = s.serving := rfl
@[simp] theorem setSlot_routing (s : State) (n : Nat) (x : SlotSt) : (setSlot s n x).routing = s.routing := rfl
@[simp] theorem setSlot_images (s : State) (n : Nat) (x : SlotSt) : (setSlot s n x).images = s.images := rfl
@[simp] theorem setSlot_imgCmd (s : State) (n : Nat) (x : SlotSt) : (setSlot s n x).imgCmd = s.imgCmd := rfl
@[simp] theorem setSlot_imgCheck (s : State) (n : Nat) (x : SlotSt) : (setSlot s n x).imgCheck = s.imgCheck := rfl
@[simp] theorem setSlot_harts (s : State) (n : Nat) (x : SlotSt) : (setSlot s n x).harts = s.harts := rfl
@[simp] theorem setSlot_ctl (s : State) (n : Nat) (x : SlotSt) : (setSlot s n x).ctl = s.ctl := rfl

@[simp] theorem setPart_pending (s : State) (p : Nat) (x : PartRt) : (setPart s p x).pending = s.pending := rfl
@[simp] theorem setPart_free (s : State) (p : Nat) (x : PartRt) : (setPart s p x).free = s.free := rfl
@[simp] theorem setPart_now (s : State) (p : Nat) (x : PartRt) : (setPart s p x).now = s.now := rfl
@[simp] theorem setPart_cyc (s : State) (p : Nat) (x : PartRt) : (setPart s p x).cyc = s.cyc := rfl
@[simp] theorem setPart_out (s : State) (p : Nat) (x : PartRt) : (setPart s p x).out = s.out := rfl
@[simp] theorem setPart_mem (s : State) (p : Nat) (x : PartRt) : (setPart s p x).mem = s.mem := rfl
@[simp] theorem setPart_spad (s : State) (p : Nat) (x : PartRt) : (setPart s p x).spad = s.spad := rfl
@[simp] theorem setPart_spadLog (s : State) (p : Nat) (x : PartRt) : (setPart s p x).spadLog = s.spadLog := rfl
@[simp] theorem setPart_tickWrites (s : State) (p : Nat) (x : PartRt) : (setPart s p x).tickWrites = s.tickWrites := rfl
@[simp] theorem setPart_p16Bad (s : State) (p : Nat) (x : PartRt) : (setPart s p x).p16Bad = s.p16Bad := rfl
@[simp] theorem setPart_obj (s : State) (p : Nat) (x : PartRt) : (setPart s p x).obj = s.obj := rfl
@[simp] theorem setPart_persist (s : State) (p : Nat) (x : PartRt) : (setPart s p x).persist = s.persist := rfl
@[simp] theorem setPart_persistLost (s : State) (p : Nat) (x : PartRt) : (setPart s p x).persistLost = s.persistLost := rfl
@[simp] theorem setPart_dev (s : State) (p : Nat) (x : PartRt) : (setPart s p x).dev = s.dev := rfl
@[simp] theorem setPart_events (s : State) (p : Nat) (x : PartRt) : (setPart s p x).events = s.events := rfl
@[simp] theorem setPart_recovery (s : State) (p : Nat) (x : PartRt) : (setPart s p x).recovery = s.recovery := rfl
@[simp] theorem setPart_relum (s : State) (p : Nat) (x : PartRt) : (setPart s p x).relum = s.relum := rfl
@[simp] theorem setPart_sec (s : State) (p : Nat) (x : PartRt) : (setPart s p x).sec = s.sec := rfl
@[simp] theorem setPart_power (s : State) (p : Nat) (x : PartRt) : (setPart s p x).power = s.power := rfl
@[simp] theorem setPart_lace (s : State) (p : Nat) (x : PartRt) : (setPart s p x).lace = s.lace := rfl
@[simp] theorem setPart_slots (s : State) (p : Nat) (x : PartRt) : (setPart s p x).slots = s.slots := rfl
@[simp] theorem setPart_loading (s : State) (p : Nat) (x : PartRt) : (setPart s p x).loading = s.loading := rfl
@[simp] theorem setPart_parts (s : State) (p : Nat) (x : PartRt) : (setPart s p x).parts = mset PartRt.init s.parts p x := rfl
@[simp] theorem setPart_clusters (s : State) (p : Nat) (x : PartRt) : (setPart s p x).clusters = s.clusters := rfl
@[simp] theorem setPart_cores (s : State) (p : Nat) (x : PartRt) : (setPart s p x).cores = s.cores := rfl
@[simp] theorem setPart_welts (s : State) (p : Nat) (x : PartRt) : (setPart s p x).welts = s.welts := rfl
@[simp] theorem setPart_weltFlits (s : State) (p : Nat) (x : PartRt) : (setPart s p x).weltFlits = s.weltFlits := rfl
@[simp] theorem setPart_memSt (s : State) (p : Nat) (x : PartRt) : (setPart s p x).memSt = s.memSt := rfl
@[simp] theorem setPart_awls (s : State) (p : Nat) (x : PartRt) : (setPart s p x).awls = s.awls := rfl
@[simp] theorem setPart_codec (s : State) (p : Nat) (x : PartRt) : (setPart s p x).codec = s.codec := rfl
@[simp] theorem setPart_ports (s : State) (p : Nat) (x : PartRt) : (setPart s p x).ports = s.ports := rfl
@[simp] theorem setPart_rdma (s : State) (p : Nat) (x : PartRt) : (setPart s p x).rdma = s.rdma := rfl
@[simp] theorem setPart_fab (s : State) (p : Nat) (x : PartRt) : (setPart s p x).fab = s.fab := rfl
@[simp] theorem setPart_serving (s : State) (p : Nat) (x : PartRt) : (setPart s p x).serving = s.serving := rfl
@[simp] theorem setPart_routing (s : State) (p : Nat) (x : PartRt) : (setPart s p x).routing = s.routing := rfl
@[simp] theorem setPart_images (s : State) (p : Nat) (x : PartRt) : (setPart s p x).images = s.images := rfl
@[simp] theorem setPart_imgCmd (s : State) (p : Nat) (x : PartRt) : (setPart s p x).imgCmd = s.imgCmd := rfl
@[simp] theorem setPart_imgCheck (s : State) (p : Nat) (x : PartRt) : (setPart s p x).imgCheck = s.imgCheck := rfl
@[simp] theorem setPart_harts (s : State) (p : Nat) (x : PartRt) : (setPart s p x).harts = s.harts := rfl
@[simp] theorem setPart_ctl (s : State) (p : Nat) (x : PartRt) : (setPart s p x).ctl = s.ctl := rfl

@[simp] theorem setHart_pending (s : State) (h : Hart) (x : HartSt) : (setHart s h x).pending = s.pending := rfl
@[simp] theorem setHart_free (s : State) (h : Hart) (x : HartSt) : (setHart s h x).free = s.free := rfl
@[simp] theorem setHart_now (s : State) (h : Hart) (x : HartSt) : (setHart s h x).now = s.now := rfl
@[simp] theorem setHart_cyc (s : State) (h : Hart) (x : HartSt) : (setHart s h x).cyc = s.cyc := rfl
@[simp] theorem setHart_out (s : State) (h : Hart) (x : HartSt) : (setHart s h x).out = s.out := rfl
@[simp] theorem setHart_mem (s : State) (h : Hart) (x : HartSt) : (setHart s h x).mem = s.mem := rfl
@[simp] theorem setHart_spad (s : State) (h : Hart) (x : HartSt) : (setHart s h x).spad = s.spad := rfl
@[simp] theorem setHart_spadLog (s : State) (h : Hart) (x : HartSt) : (setHart s h x).spadLog = s.spadLog := rfl
@[simp] theorem setHart_tickWrites (s : State) (h : Hart) (x : HartSt) : (setHart s h x).tickWrites = s.tickWrites := rfl
@[simp] theorem setHart_p16Bad (s : State) (h : Hart) (x : HartSt) : (setHart s h x).p16Bad = s.p16Bad := rfl
@[simp] theorem setHart_obj (s : State) (h : Hart) (x : HartSt) : (setHart s h x).obj = s.obj := rfl
@[simp] theorem setHart_persist (s : State) (h : Hart) (x : HartSt) : (setHart s h x).persist = s.persist := rfl
@[simp] theorem setHart_persistLost (s : State) (h : Hart) (x : HartSt) : (setHart s h x).persistLost = s.persistLost := rfl
@[simp] theorem setHart_dev (s : State) (h : Hart) (x : HartSt) : (setHart s h x).dev = s.dev := rfl
@[simp] theorem setHart_events (s : State) (h : Hart) (x : HartSt) : (setHart s h x).events = s.events := rfl
@[simp] theorem setHart_recovery (s : State) (h : Hart) (x : HartSt) : (setHart s h x).recovery = s.recovery := rfl
@[simp] theorem setHart_relum (s : State) (h : Hart) (x : HartSt) : (setHart s h x).relum = s.relum := rfl
@[simp] theorem setHart_sec (s : State) (h : Hart) (x : HartSt) : (setHart s h x).sec = s.sec := rfl
@[simp] theorem setHart_power (s : State) (h : Hart) (x : HartSt) : (setHart s h x).power = s.power := rfl
@[simp] theorem setHart_lace (s : State) (h : Hart) (x : HartSt) : (setHart s h x).lace = s.lace := rfl
@[simp] theorem setHart_slots (s : State) (h : Hart) (x : HartSt) : (setHart s h x).slots = s.slots := rfl
@[simp] theorem setHart_loading (s : State) (h : Hart) (x : HartSt) : (setHart s h x).loading = s.loading := rfl
@[simp] theorem setHart_parts (s : State) (h : Hart) (x : HartSt) : (setHart s h x).parts = s.parts := rfl
@[simp] theorem setHart_clusters (s : State) (h : Hart) (x : HartSt) : (setHart s h x).clusters = s.clusters := rfl
@[simp] theorem setHart_cores (s : State) (h : Hart) (x : HartSt) : (setHart s h x).cores = s.cores := rfl
@[simp] theorem setHart_welts (s : State) (h : Hart) (x : HartSt) : (setHart s h x).welts = s.welts := rfl
@[simp] theorem setHart_weltFlits (s : State) (h : Hart) (x : HartSt) : (setHart s h x).weltFlits = s.weltFlits := rfl
@[simp] theorem setHart_memSt (s : State) (h : Hart) (x : HartSt) : (setHart s h x).memSt = s.memSt := rfl
@[simp] theorem setHart_awls (s : State) (h : Hart) (x : HartSt) : (setHart s h x).awls = s.awls := rfl
@[simp] theorem setHart_codec (s : State) (h : Hart) (x : HartSt) : (setHart s h x).codec = s.codec := rfl
@[simp] theorem setHart_ports (s : State) (h : Hart) (x : HartSt) : (setHart s h x).ports = s.ports := rfl
@[simp] theorem setHart_rdma (s : State) (h : Hart) (x : HartSt) : (setHart s h x).rdma = s.rdma := rfl
@[simp] theorem setHart_fab (s : State) (h : Hart) (x : HartSt) : (setHart s h x).fab = s.fab := rfl
@[simp] theorem setHart_serving (s : State) (h : Hart) (x : HartSt) : (setHart s h x).serving = s.serving := rfl
@[simp] theorem setHart_routing (s : State) (h : Hart) (x : HartSt) : (setHart s h x).routing = s.routing := rfl
@[simp] theorem setHart_images (s : State) (h : Hart) (x : HartSt) : (setHart s h x).images = s.images := rfl
@[simp] theorem setHart_imgCmd (s : State) (h : Hart) (x : HartSt) : (setHart s h x).imgCmd = s.imgCmd := rfl
@[simp] theorem setHart_imgCheck (s : State) (h : Hart) (x : HartSt) : (setHart s h x).imgCheck = s.imgCheck := rfl
@[simp] theorem setHart_harts (s : State) (h : Hart) (x : HartSt) : (setHart s h x).harts = mset HartSt.init s.harts (hartKey h) x := rfl
@[simp] theorem setHart_ctl (s : State) (h : Hart) (x : HartSt) : (setHart s h x).ctl = s.ctl := rfl

@[simp] theorem setCtl_pending (s : State) (c : Nat) (x : CtlCore) : (setCtl s c x).pending = s.pending := rfl
@[simp] theorem setCtl_free (s : State) (c : Nat) (x : CtlCore) : (setCtl s c x).free = s.free := rfl
@[simp] theorem setCtl_now (s : State) (c : Nat) (x : CtlCore) : (setCtl s c x).now = s.now := rfl
@[simp] theorem setCtl_cyc (s : State) (c : Nat) (x : CtlCore) : (setCtl s c x).cyc = s.cyc := rfl
@[simp] theorem setCtl_out (s : State) (c : Nat) (x : CtlCore) : (setCtl s c x).out = s.out := rfl
@[simp] theorem setCtl_mem (s : State) (c : Nat) (x : CtlCore) : (setCtl s c x).mem = s.mem := rfl
@[simp] theorem setCtl_spad (s : State) (c : Nat) (x : CtlCore) : (setCtl s c x).spad = s.spad := rfl
@[simp] theorem setCtl_spadLog (s : State) (c : Nat) (x : CtlCore) : (setCtl s c x).spadLog = s.spadLog := rfl
@[simp] theorem setCtl_tickWrites (s : State) (c : Nat) (x : CtlCore) : (setCtl s c x).tickWrites = s.tickWrites := rfl
@[simp] theorem setCtl_p16Bad (s : State) (c : Nat) (x : CtlCore) : (setCtl s c x).p16Bad = s.p16Bad := rfl
@[simp] theorem setCtl_obj (s : State) (c : Nat) (x : CtlCore) : (setCtl s c x).obj = s.obj := rfl
@[simp] theorem setCtl_persist (s : State) (c : Nat) (x : CtlCore) : (setCtl s c x).persist = s.persist := rfl
@[simp] theorem setCtl_persistLost (s : State) (c : Nat) (x : CtlCore) : (setCtl s c x).persistLost = s.persistLost := rfl
@[simp] theorem setCtl_dev (s : State) (c : Nat) (x : CtlCore) : (setCtl s c x).dev = s.dev := rfl
@[simp] theorem setCtl_events (s : State) (c : Nat) (x : CtlCore) : (setCtl s c x).events = s.events := rfl
@[simp] theorem setCtl_recovery (s : State) (c : Nat) (x : CtlCore) : (setCtl s c x).recovery = s.recovery := rfl
@[simp] theorem setCtl_relum (s : State) (c : Nat) (x : CtlCore) : (setCtl s c x).relum = s.relum := rfl
@[simp] theorem setCtl_sec (s : State) (c : Nat) (x : CtlCore) : (setCtl s c x).sec = s.sec := rfl
@[simp] theorem setCtl_power (s : State) (c : Nat) (x : CtlCore) : (setCtl s c x).power = s.power := rfl
@[simp] theorem setCtl_lace (s : State) (c : Nat) (x : CtlCore) : (setCtl s c x).lace = s.lace := rfl
@[simp] theorem setCtl_slots (s : State) (c : Nat) (x : CtlCore) : (setCtl s c x).slots = s.slots := rfl
@[simp] theorem setCtl_loading (s : State) (c : Nat) (x : CtlCore) : (setCtl s c x).loading = s.loading := rfl
@[simp] theorem setCtl_parts (s : State) (c : Nat) (x : CtlCore) : (setCtl s c x).parts = s.parts := rfl
@[simp] theorem setCtl_clusters (s : State) (c : Nat) (x : CtlCore) : (setCtl s c x).clusters = s.clusters := rfl
@[simp] theorem setCtl_cores (s : State) (c : Nat) (x : CtlCore) : (setCtl s c x).cores = s.cores := rfl
@[simp] theorem setCtl_welts (s : State) (c : Nat) (x : CtlCore) : (setCtl s c x).welts = s.welts := rfl
@[simp] theorem setCtl_weltFlits (s : State) (c : Nat) (x : CtlCore) : (setCtl s c x).weltFlits = s.weltFlits := rfl
@[simp] theorem setCtl_memSt (s : State) (c : Nat) (x : CtlCore) : (setCtl s c x).memSt = s.memSt := rfl
@[simp] theorem setCtl_awls (s : State) (c : Nat) (x : CtlCore) : (setCtl s c x).awls = s.awls := rfl
@[simp] theorem setCtl_codec (s : State) (c : Nat) (x : CtlCore) : (setCtl s c x).codec = s.codec := rfl
@[simp] theorem setCtl_ports (s : State) (c : Nat) (x : CtlCore) : (setCtl s c x).ports = s.ports := rfl
@[simp] theorem setCtl_rdma (s : State) (c : Nat) (x : CtlCore) : (setCtl s c x).rdma = s.rdma := rfl
@[simp] theorem setCtl_fab (s : State) (c : Nat) (x : CtlCore) : (setCtl s c x).fab = s.fab := rfl
@[simp] theorem setCtl_serving (s : State) (c : Nat) (x : CtlCore) : (setCtl s c x).serving = s.serving := rfl
@[simp] theorem setCtl_routing (s : State) (c : Nat) (x : CtlCore) : (setCtl s c x).routing = s.routing := rfl
@[simp] theorem setCtl_images (s : State) (c : Nat) (x : CtlCore) : (setCtl s c x).images = s.images := rfl
@[simp] theorem setCtl_imgCmd (s : State) (c : Nat) (x : CtlCore) : (setCtl s c x).imgCmd = s.imgCmd := rfl
@[simp] theorem setCtl_imgCheck (s : State) (c : Nat) (x : CtlCore) : (setCtl s c x).imgCheck = s.imgCheck := rfl
@[simp] theorem setCtl_harts (s : State) (c : Nat) (x : CtlCore) : (setCtl s c x).harts = s.harts := rfl
@[simp] theorem setCtl_ctl (s : State) (c : Nat) (x : CtlCore) : (setCtl s c x).ctl = mset CtlCore.init s.ctl c x := rfl

end Sys2Proof.Machine
end

