-- ==== Sys2Proof/Laws/Writes.lean ====
section
/-! SUPPORT. The write of an object (14 R482): what serving a path counts, and the one way in which a write succeeds. -/
namespace Sys2Proof.Machine

@[simp] theorem countServed_dev (s : State) (p : Path) : (countServed s p).dev = s.dev := by
  unfold countServed; split <;> rfl
@[simp] theorem countServed_relum (s : State) (p : Path) : (countServed s p).relum = s.relum := by
  unfold countServed; split <;> rfl
@[simp] theorem countServed_mem (s : State) (p : Path) : (countServed s p).mem = s.mem := by
  unfold countServed; split <;> rfl
@[simp] theorem countServed_pending (s : State) (p : Path) : (countServed s p).pending = s.pending := by
  unfold countServed; split <;> rfl

theorem lockBar_countServed (s : State) (p : Path) (r : Req) (i : Nat) : lockBar (countServed s p) r i = lockBar s r i := by
  simp [lockBar]
theorem stateOk_countServed (s : State) (p : Path) (row : ObjRow) : stateOk (countServed s p) row = stateOk s row := by
  simp [stateOk]
theorem alarmBar_countServed (s : State) (p : Path) (r : Req) (i : Nat) : alarmBar (countServed s p) r i = alarmBar s r i := by
  simp [alarmBar]

/-- A value in its entry's range has no reserved bit set. -/
theorem unreserved_of_inRange {row : ObjRow} {v : Nat} (i sub : Nat) (h : inRange row v = true) : unreserved row i sub v = v := by
  simp [unreserved, h]

/-- A write of a numeric entry that passes steps 3 to 9 and has an effect with code 0 stores what the effect gives. -/
theorem writeEntry_num {s : State} {r : Req} {cmd} {i sub v : Nat} {row : ObjRow} {t : State}
    (he : entryOf i sub = .ok row) (ha : row.acc ≠ .ro) (hd : isData row.ty = false) (hl : lockBar s r i = false)
    (hs : stateOk s row = true) (hb : alarmBar s r i = false) (hv : v < 256 ^ row.size) (hr : inRange row v = true)
    (hc : ¬ (i = 0x1030 ∧ sub = 1)) (hw : wrAny s r i sub v = (t, 0)) :
    writeEntry s r cmd i sub none (leBytes row.size v) = (persistAfter t row i sub, 0) := by
  unfold writeEntry
  simp [he, ha, hd, hl, hs, hb, leNat_leBytes_of_lt hv, wrNum, unreserved_of_inRange i sub hr, hw, hr, hc]

/-- The same for a command that is such a write. -/
theorem writeData_num {s : State} {r : Req} {i sub v : Nat} {row : ObjRow} {t : State} (hp : pathServed s r = true)
    (hw' : worldBar r i sub = false) (he : entryOf i sub = .ok row) (ha : row.acc ≠ .ro) (hd : isData row.ty = false)
    (hl : lockBar s r i = false) (hs : stateOk s row = true) (hb : alarmBar s r i = false) (hv : v < 256 ^ row.size)
    (hr : inRange row v = true) (hc : ¬ (i = 0x1030 ∧ sub = 1)) (hw : wrAny (countServed s r.path) r i sub v = (t, 0)) :
    writeData s r i sub (leBytes row.size v) = .next (emit (renew (persistAfter t row i sub) r) (.status 0)) := by
  unfold writeData doWrite
  simp [hp, hw', writeEntry_num he ha hd ((lockBar_countServed s r.path r i).trans hl)
    ((stateOk_countServed s r.path row).trans hs) ((alarmBar_countServed s r.path r i).trans hb) hv hr hc hw]

/-! ## Which write an object has -/

theorem wrAny_2012_1 (s : State) (r : Req) (v : Nat) : wrAny s r 0x2012 1 v = wMark s v := by
  simp [wrAny, wr1]
theorem wrAny_3030_3 (s : State) (r : Req) (v : Nat) : wrAny s r 0x3030 3 v = ofW s (wLastCmd s v) := by
  simp [wrAny, wr1]
theorem wrAny_3014_1 (s : State) (r : Req) (v : Nat) : wrAny s r 0x3014 1 v = ofW s (wStart s v) := by
  simp [wrAny, wr1]
theorem wrAny_3015_1 (s : State) (r : Req) (v : Nat) : wrAny s r 0x3015 1 v = ofW s (wSwitch s v) := by
  simp [wrAny, wr1]
theorem wrAny_3015_2 (s : State) (r : Req) (v : Nat) : wrAny s r 0x3015 2 v = ofW s (wSwitchTick s v) := by
  simp [wrAny, wr1]
theorem wrAny_3016_1 (s : State) (r : Req) (v : Nat) : wrAny s r 0x3016 1 v = ofW s (wHalt s v) := by
  simp [wrAny, wr1]
theorem wrAny_3017_1 (s : State) (r : Req) (v : Nat) : wrAny s r 0x3017 1 v = ofW s (wAdoptNode s v) := by
  simp [wrAny, wr1]
theorem wrAny_3017_2 (s : State) (r : Req) (v : Nat) : wrAny s r 0x3017 2 v = ofW s (wAdoptTick s v) := by
  simp [wrAny, wr1]
theorem wrAny_3026_3 (s : State) (r : Req) (v : Nat) : wrAny s r 0x3026 3 v = ofW s (wArm s v) := by
  simp [wrAny, wr1]
theorem wrAny_4010_3 (s : State) (r : Req) (v : Nat) : wrAny s r 0x4010 3 v = ofW s (wDoorbell s false v) := by
  simp [wrAny, wr2]
theorem wrAny_4012_3 (s : State) (r : Req) (v : Nat) : wrAny s r 0x4012 3 v = ofW s (wDoorbell s true v) := by
  simp [wrAny, wr2]
theorem wrAny_9061_1 (s : State) (r : Req) (v : Nat) : wrAny s r 0x9061 1 v = ofW s (wTable s v) := by
  simp [wrAny, wr2]
theorem wrAny_5080_1 (s : State) (r : Req) (v : Nat) : wrAny s r 0x5080 1 v = ofW s (wStorage s v) := by
  simp [wrAny, wr2]
theorem wrAny_4041_2 (s : State) (r : Req) (v : Nat) : wrAny s r 0x4041 2 v = (wRoute s v, 0) := by
  simp [wrAny, wr2]
theorem wrAny_6001_1 (s : State) (r : Req) (v : Nat) : wrAny s r 0x6001 1 v = ofW s (wManager s v) := by
  simp [wrAny, wr3]
theorem wrAny_a008_3 (s : State) (r : Req) (v : Nat) : wrAny s r 0xa008 3 v = wPartition s v := by
  simp [wrAny, wr3]
theorem wrAny_a020_4 (s : State) (r : Req) (v : Nat) : wrAny s r 0xa020 4 v = ofW s (wImage s v) := by
  simp [wrAny, wr3]
theorem wrAny_1020_3 (s : State) (r : Req) (v : Nat) : wrAny s r 0x1020 3 v = ofW s (wImageCheck s v) := by
  simp [wrAny, wr4]
theorem wrAny_2001_0 (s : State) (r : Req) (v : Nat) : wrAny s r 0x2001 0 v = stateCmd s r.secure v := by
  simp [wrAny, wr4]
theorem wrAny_2003_2 (s : State) (r : Req) (v : Nat) : wrAny s r 0x2003 2 v = (packageReset s 3, 0) := by
  simp [wrAny, wr4]
theorem wrAny_2003_5 (s : State) (r : Req) (v : Nat) : wrAny s r 0x2003 5 v = ofW s (wFirmwareReady s v) := by
  simp [wrAny, wr4]
theorem wrAny_2110_1 (s : State) (r : Req) (v : Nat) : wrAny s r 0x2110 1 v = (wPreRamp s v, 0) := by
  simp [wrAny, wr4]
theorem wrAny_2200_2 (s : State) (r : Req) (v : Nat) : wrAny s r 0x2200 2 v = ofW s (wFreq s v) := by
  simp [wrAny, wr4]
theorem wrAny_7030_1 (s : State) (r : Req) (v : Nat) : wrAny s r 0x7030 1 v = ofW s (wRaiseSvn s v) := by
  simp [wrAny, wr4]
theorem wrAny_7030_2 (s : State) (r : Req) (v : Nat) : wrAny s r 0x7030 2 v = ofW s (wRevoke s v) := by
  simp [wrAny, wr4]
theorem wrAny_7040_2 (s : State) (r : Req) (v : Nat) : wrAny s r 0x7040 2 v = ofW s (wKeyCmd s v) := by
  simp [wrAny, wr4]
theorem wrAny_7100_0 (s : State) (r : Req) (v : Nat) : wrAny s r 0x7100 0 v = ofW s (wArming s v) := by
  simp [wrAny, wr4]
theorem wrAny_8000_4 (s : State) (r : Req) (v : Nat) : wrAny s r 0x8000 4 v = wHead s v r.hart := by
  simp [wrAny, wr4]
theorem wrAny_8000_5 (s : State) (r : Req) (v : Nat) : wrAny s r 0x8000 5 v = wEnable s v := by
  simp [wrAny, wr4]
theorem wrAny_5090 (s : State) (r : Req) (k v : Nat) : wrAny s r 0x5090 k v = wPullObj s k v := by
  simp [wrAny, wr2]
theorem wPullObj_2 (s : State) (v : Nat) : wPullObj s 2 v = ofW s (wQp s v) := rfl
theorem wPullObj_5 (s : State) (v : Nat) : wPullObj s 5 v = ofW s (wPull s v) := rfl
theorem wrAny_6030_1 (s : State) (r : Req) (v : Nat) :
    wrAny s r 0x6030 1 v = if isManager s then ofW s (wCancel s v) else (s, 0x0401) := by
  simp [wrAny, wr3]
theorem wrAny_3020 (s : State) (r : Req) (k v : Nat) : wrAny s r 0x3020 k v = ofW s (wActive s (k - 1) v) := by
  simp [wrAny, wr1]
theorem wrAny_3025 (s : State) (r : Req) (k v : Nat) : wrAny s r 0x3025 k v = wBind s (k - 1) v := by
  simp [wrAny, wr1]
theorem wrAny_4002 (s : State) (r : Req) (k v : Nat) : wrAny s r 0x4002 k v = ofW s (wLastStore s (k - 1) v) := by
  simp [wrAny, wr2]
theorem wrAny_port (s : State) (r : Req) (p : Fin 64) (v : Nat) :
    wrAny s r (0x5000 + p.val) 9 v = ofW s (wPortCmd s p.val v) := by
  obtain ⟨p, hp⟩ := p
  have h : wrAny s r (0x5000 + p) 9 v = wr2 s (0x5000 + p) 9 v := by
    rw [wrAny, if_neg (by simp; omega), if_pos (by simp; omega)]
  rw [h, wr2]
  iterate 8 rw [if_neg (by first | omega | simp)]
  rw [if_pos (by simp; omega), Nat.add_sub_cancel_left]
theorem wrAny_queue (s : State) (r : Req) (q : Fin 64) (k v : Nat) (hk : k = 3 ∨ k = 5) :
    wrAny s r (0x6020 + q.val) k v = wQueue s q.val k v := by
  obtain ⟨q, hq⟩ := q
  have h : wrAny s r (0x6020 + q) k v = wr3 s (0x6020 + q) k v := by
    rw [wrAny, if_neg (by simp; omega), if_neg (by simp; omega), if_pos (by simp; omega)]
  rw [h, wr3]
  iterate 5 rw [if_neg (by first | omega | (simp; omega))]
  rw [if_pos (by simp; omega), Nat.add_sub_cancel_left]

end Sys2Proof.Machine
end

