-- ==== Sys2Proof/Safety.lean ====
section
/-! DEFINITION. What counts as a safe run. -/
namespace Sys2Proof

/-- Every command of the queue is well formed. -/
def queueWf (s : Machine.State) : Bool := s.pending.all Instr.wf

end Sys2Proof
end

