-- ==== Sys2Proof/Tests/Slice0.lean ====
section
/-! SUPPORT. Tests: ill-formed commands that `Instr.wf` refuses, and small checks of the model against worked examples of the spec. -/
namespace Sys2Proof.Tests
open Sys2Proof Sys2Proof.Machine
set_option Elab.async false

def acc : Acc := ⟨.localPort, 0, 0, true, 0⟩
def z (n : Nat) : List Byte := List.replicate n 0
def fuse : Fuses := Fuses.blank
def tile : TileReq := ⟨0, 0, true, 0, 1, none⟩
def badTile : TileReq := ⟨0, 16, true, 0, 1, none⟩
def badFuse : Fuses := { fuse with debugLock := 2 }

/-! ## Ill-formed commands: for each check of `Instr.wf` a term that it refuses -/

theorem test_ill_formed_0 : [
    .markUnhealthy ⟨.i3c, 0, 0, true, 0⟩ 0, .markUnhealthy acc (2 ^ 16), .opNop ⟨0, 0⟩ 65536 0, .setdesc ⟨0, 0⟩ 65536 0,
    .matmul ⟨0, 0⟩ 65536 0, .packmm ⟨0, 0⟩ 65536 0, .requant ⟨0, 0⟩ 65536 0, .rotate ⟨0, 0⟩ 65536 0, .vectAdd ⟨0, 0⟩ 65536 0,
    .vectSub ⟨0, 0⟩ 65536 0, .vectMul ⟨0, 0⟩ 65536 0, .vectMax ⟨0, 0⟩ 65536 0, .vectMin ⟨0, 0⟩ 65536 0, .vectExp ⟨0, 0⟩ 65536 0,
    .vectRecip ⟨0, 0⟩ 65536 0, .vectRsqrt ⟨0, 0⟩ 65536 0, .vectSilu ⟨0, 0⟩ 65536 0, .vectTanh ⟨0, 0⟩ 65536 0,
    .rowsum ⟨0, 0⟩ 65536 0, .rowmax ⟨0, 0⟩ 65536 0, .vectCopy ⟨0, 0⟩ 65536 0, .operationComplete ⟨0, 0⟩ 65536,
    .lastLoad ⟨.i3c, 0, 0, true, 0⟩, .lastUnload ⟨.i3c, 0, 0, true, 0⟩, .activeSlotWrite ⟨.i3c, 0, 0, true, 0⟩ 0 0,
    .activeSlotWrite acc 0 (2 ^ 8), .arrival ⟨0, 0⟩ (2 ^ 8), .transferStart 0 (2 ^ 32)].all (fun i => !Instr.wf i) = true := by decide +kernel

theorem test_ill_formed_1 : [
    .awlDescriptorStart 0 65536, .awlDescriptorComplete 0 65536, .reductionStart 0 (2 ^ 32), .reductionContribution 0 (2 ^ 32),
    .maskPoint 0 (2 ^ 32), .admitPoint 0 (2 ^ 32), .samplePoint 0 (2 ^ 32), .expertPoint 0 (2 ^ 32), .replayPoint 0 (2 ^ 32),
    .sleepStart 0 (2 ^ 32), .portSleep 0 (2 ^ 32), .wakeUpStart 0 (2 ^ 32), .wakeUpComplete 0 (2 ^ 32), .syncSymbol 0 0 8,
    .startTick ⟨.i3c, 0, 0, true, 0⟩ 0, .startTick acc (2 ^ 64), .switchCommand ⟨.i3c, 0, 0, true, 0⟩ 0,
    .switchCommand acc (2 ^ 16), .haltCommand ⟨.i3c, 0, 0, true, 0⟩, .logicalNodeToAdopt ⟨.i3c, 0, 0, true, 0⟩ 0,
    .logicalNodeToAdopt acc (2 ^ 16), .adoptionTick ⟨.i3c, 0, 0, true, 0⟩ 0, .adoptionTick acc (2 ^ 64),
    .commandRingDoorbell ⟨.i3c, 0, 0, true, 0⟩ true 0, .commandRingDoorbell acc true (2 ^ 32), .tileAccess badTile,
    .migrationComplete (2 ^ 30), .lastStoreResize ⟨.i3c, 0, 0, true, 0⟩ 0 0].all (fun i => !Instr.wf i) = true := by decide +kernel

theorem test_ill_formed_2 : [
    .lastStoreResize acc 0 (2 ^ 16), .tableBuildFromObject ⟨.i3c, 0, 0, true, 0⟩, .tableBuildFromSample ⟨.i3c, 0, 0, true, 0⟩,
    .tableInvalidate ⟨.i3c, 0, 0, true, 0⟩, .tableInstall ⟨.i3c, 0, 0, true, 0⟩, .lineBlock 0 (z (136 + 1)) 0,
    .lineBlock 0 (z 136) 8, .scheduleHead 0 (z (128 + 1)), .scheduleData 0 (z (128 + 1)) true, .probeWord 0 0 8,
    .probeReplyWord 0 0 8, .portTrainingComplete 0 (.fails 6 1), .portRetrain ⟨.i3c, 0, 0, true, 0⟩ 0,
    .portTakeDown ⟨.i3c, 0, 0, true, 0⟩ 0, .storageMode ⟨.i3c, 0, 0, true, 0⟩ 0, .storageMode acc (2 ^ 8),
    .qpMakeReady ⟨.i3c, 0, 0, true, 0⟩ 0, .qpReset ⟨.i3c, 0, 0, true, 0⟩ 0, .pullDoorbell ⟨.i3c, 0, 0, true, 0⟩ 0,
    .pullDoorbell acc (2 ^ 32), .readResponse 0 (z (9300 + 1)), .acknowledge 0 (z (9300 + 1)), .pfcFrame 0 (z (9300 + 1)),
    .frameDropped 0 (z (9300 + 1)), .fabricRead .inside (z (128 + 1)), .fabricWrite .inside (z (128 + 1)),
    .fabricAdd .inside (z (128 + 1)), .fabricOr .inside (z (128 + 1))].all (fun i => !Instr.wf i) = true := by decide +kernel

theorem test_ill_formed_3 : [
    .fabricAnd .inside (z (128 + 1)), .fabricMin .inside (z (128 + 1)), .fabricMax .inside (z (128 + 1)),
    .fabricMinu .inside (z (128 + 1)), .fabricMaxu .inside (z (128 + 1)), .fabricSwap .inside (z (128 + 1)),
    .fabricCas .inside (z (128 + 1)), .fabricLeaseAcq .inside (z (128 + 1)), .fabricLeaseRenew .inside (z (128 + 1)),
    .fabricLeaseRel .inside (z (128 + 1)), .fabricResponse .inside (z (128 + 1)), .fabricPacketForward .inside (z (128 + 1)),
    .fabricTagTimeout (2 ^ 14), .routeEntryWrite ⟨.i3c, 0, 0, true, 0⟩ 0, .routeEntryWrite acc (2 ^ 16), .routeChangeEffect 2048,
    .managerRelease ⟨.i3c, 0, 0, true, 0⟩, .managerActive ⟨.i3c, 0, 0, true, 0⟩, .managerStandby ⟨.i3c, 0, 0, true, 0⟩,
    .managerTakeOver ⟨.i3c, 0, 0, true, 0⟩, .commitDoorbell ⟨.i3c, 0, 0, true, 0⟩ 0 0 true, .commitDoorbell acc 0 (2 ^ 64) true,
    .queueFlush ⟨.i3c, 0, 0, true, 0⟩ 0, .cancelEyelet ⟨.i3c, 0, 0, true, 0⟩ 0, .cancelEyelet acc (2 ^ 32),
    .routePlanBind ⟨.i3c, 0, 0, true, 0⟩ 0 0, .routePlanBind acc 0 (2 ^ 64), .round0 0 65536].all (fun i => !Instr.wf i) = true := by decide +kernel

theorem test_ill_formed_4 : [
    .dispatchRound 0 65536, .combine 0 65536, .revisionArm ⟨.i3c, 0, 0, true, 0⟩ 0, .revisionArm acc (2 ^ 64),
    .openImage ⟨.i3c, 0, 0, true, 0⟩, .sealImage ⟨.i3c, 0, 0, true, 0⟩, .demoteImage ⟨.i3c, 0, 0, true, 0⟩,
    .pinImage ⟨.i3c, 0, 0, true, 0⟩, .evictImage ⟨.i3c, 0, 0, true, 0⟩, .closeImage ⟨.i3c, 0, 0, true, 0⟩,
    .defineCount ⟨.i3c, 0, 0, true, 0⟩, .defineSet ⟨.i3c, 0, 0, true, 0⟩, .releasePartition ⟨.i3c, 0, 0, true, 0⟩,
    .clearPartition ⟨.i3c, 0, 0, true, 0⟩, .controlCoreLoad ⟨328, 0⟩ 0 0 8 true, .controlCoreLoad ⟨0, 0⟩ 0 (2 ^ 64) 8 true,
    .controlCoreLoad ⟨0, 0⟩ 0 0 3 true, .controlCoreStore ⟨328, 0⟩ 0 8 0, .controlCoreStore ⟨0, 0⟩ (2 ^ 64) 8 0,
    .controlCoreStore ⟨0, 0⟩ 0 3 0, .controlCoreStore ⟨0, 0⟩ 0 8 (2 ^ 64), .amo ⟨328, 0⟩ .add 0 0 true 0,
    .amo ⟨0, 0⟩ .add 0 (2 ^ 64) true 0, .amo ⟨0, 0⟩ .add 0 0 true (2 ^ 64), .fabFence ⟨328, 0⟩, .fabInv ⟨328, 0⟩ 0 0,
    .fabInv ⟨0, 0⟩ (2 ^ 64) 0, .fabInv ⟨0, 0⟩ 0 (2 ^ 64)].all (fun i => !Instr.wf i) = true := by decide +kernel

theorem test_ill_formed_5 : [
    .fabCas ⟨328, 0⟩ 0 0 true 0, .fabCas ⟨0, 0⟩ 0 (2 ^ 64) true 0, .fabCas ⟨0, 0⟩ 0 0 true (2 ^ 64), .leaseAcq ⟨328, 0⟩ 0 0 0,
    .leaseAcq ⟨0, 0⟩ 0 (2 ^ 64) 0, .leaseAcq ⟨0, 0⟩ 0 0 (2 ^ 64), .leaseRenew ⟨328, 0⟩ 0 0 0, .leaseRenew ⟨0, 0⟩ 0 (2 ^ 64) 0,
    .leaseRenew ⟨0, 0⟩ 0 0 (2 ^ 64), .leaseRel ⟨328, 0⟩ 0 0, .leaseRel ⟨0, 0⟩ 0 (2 ^ 64), .fnWorld ⟨328, 0⟩ 0,
    .fnWorld ⟨0, 0⟩ (2 ^ 64), .fnAwlsub ⟨328, 0⟩ 0, .fnAwlsub ⟨0, 0⟩ (2 ^ 64), .fnAwldone ⟨328, 0⟩ 0, .fnFstat ⟨328, 0⟩ 0,
    .fnFstat ⟨0, 0⟩ (2 ^ 64), .threadStart ⟨328, 0⟩ 0, .threadStart ⟨0, 0⟩ (2 ^ 64), .threadReset ⟨328, 0⟩ 0,
    .threadReset ⟨0, 0⟩ (2 ^ 64), .timerInterrupt ⟨328, 0⟩, .coreRun 320 true, .coreReset 320 true,
    .hostWindowWrite (2 ^ 23) true 0 [], .hostWindowWrite 0 true (2 ^ 31) [], .hostWindowWrite 0 true 0 (z (64 + 1))].all (fun i => !Instr.wf i) = true := by decide +kernel

theorem test_ill_formed_6 : [
    .imageCheck ⟨.i3c, 0, 0, true, 0⟩, .relumRead ⟨.i3c, 0, 0, true, 0⟩ [], .relumRead acc (z (271 + 1)),
    .relumWrite ⟨.i3c, 0, 0, true, 0⟩ [], .relumWrite acc (z (271 + 1)), .relumDescribe ⟨.i3c, 0, 0, true, 0⟩ [],
    .relumDescribe acc (z (271 + 1)), .relumLock ⟨.i3c, 0, 0, true, 0⟩ [], .relumLock acc (z (271 + 1)),
    .relumUnlock ⟨.i3c, 0, 0, true, 0⟩ [], .relumUnlock acc (z (271 + 1)), .lockExpiry 16, .entdaa 128, .setdasa 128, .setnewda 128,
    .setmwl (2 ^ 16), .setmrl (2 ^ 16), .i3cPrivateWrite (z (271 + 1)), .hostMailboxDoorbell (z (80 + 1)) 0,
    .hostMailboxDoorbell [] (2 ^ 32), .mailboxStatus (8 + 1) 0, .mailboxStatus 0 (2 ^ 32), .localPortDoorbell ⟨328, 0⟩ 0 [] 0,
    .localPortDoorbell ⟨0, 0⟩ 8 [] 0, .localPortDoorbell ⟨0, 0⟩ 0 (z (80 + 1)) 0, .localPortDoorbell ⟨0, 0⟩ 0 [] (2 ^ 32),
    .mailboxTimeout 8, .inBandRequest 0 (z (128 + 1))].all (fun i => !Instr.wf i) = true := by decide +kernel

theorem test_ill_formed_7 : [
    .inBandResponse 0 (z (128 + 1)), .notifyFlit 0 (z (128 + 1)), .stateCommandKeeper ⟨.i3c, 0, 0, true, 0⟩,
    .stateCommandStandby ⟨.i3c, 0, 0, true, 0⟩, .stateCommandReady ⟨.i3c, 0, 0, true, 0⟩,
    .stateCommandRunning ⟨.i3c, 0, 0, true, 0⟩, .stateCommandDraining ⟨.i3c, 0, 0, true, 0⟩, .persistExport ⟨.i3c, 0, 0, true, 0⟩,
    .persistImport ⟨.i3c, 0, 0, true, 0⟩, .persistDefaults ⟨.i3c, 0, 0, true, 0⟩, .raiseMinimumSvn ⟨.i3c, 0, 0, true, 0⟩ 0,
    .raiseMinimumSvn acc (2 ^ 16), .revokeKeyHash ⟨.i3c, 0, 0, true, 0⟩ 0, .revokeKeyHash acc (2 ^ 8),
    .keyWrite ⟨.i3c, 0, 0, true, 0⟩, .keyDerive ⟨.i3c, 0, 0, true, 0⟩, .keyClear ⟨.i3c, 0, 0, true, 0⟩,
    .armingLevel ⟨.i3c, 0, 0, true, 0⟩ 0, .armingLevel acc (2 ^ 8), .voltageGlitch 7 0 0, .voltageGlitch 0 4096 0,
    .voltageGlitch 0 0 (2 ^ 64), .clockGlitch 20 0 true 0, .clockGlitch 0 65536 true 0, .clockGlitch 0 0 true (2 ^ 64),
    .debugIntrusion .other (2 ^ 32) 0, .debugIntrusion .other 0 (2 ^ 64), .fuseReadback (some (2 ^ 32))].all (fun i => !Instr.wf i) = true := by decide +kernel

theorem test_ill_formed_8 : [
    .eventQueueHead ⟨.i3c, 0, 0, true, 0⟩ 0 none, .eventQueueHead acc (2 ^ 32) none, .eventQueueHead acc 0 (some ⟨0, 8⟩),
    .eventQueueEnable ⟨.i3c, 0, 0, true, 0⟩ 0, .eventQueueEnable acc (2 ^ 8), .msiXInterval 2048, .recoveryOverdue 107,
    .weltFlitError 34 0, .weltFlitError 0 (2 ^ 64), .freqCommand ⟨.i3c, 0, 0, true, 0⟩ 0, .freqCommand acc (2 ^ 64),
    .voltageStepDone 4, .avsbusCurrentPoll ⟨65536, 0, 0, 0⟩, .estimatorStep ⟨65536, 0, 0, 0⟩ 0, .estimatorStep ⟨0, 0, 0, 0⟩ 65536,
    .preRampStart ⟨.i3c, 0, 0, true, 0⟩, .preRampStop ⟨.i3c, 0, 0, true, 0⟩, .thermalSample (List.replicate 69 0),
    .powerGoodRise 12 ⟨[], [], true⟩, .powerGoodFall 12, .railFault 12 true, .powerOnReset badFuse, .strapSample ⟨2048, 0, 0, 0⟩,
    .resetNAssert (2 ^ 64), .resetCommand ⟨.i3c, 0, 0, true, 0⟩, .firmwareReady ⟨.i3c, 0, 0, true, 0⟩, .bootLen (2 ^ 32) [] true,
    .dramTrainingComplete (some ⟨96, 1⟩)].all (fun i => !Instr.wf i) = true := by decide +kernel

theorem test_ill_formed_9 : [
    .objectWriteGeneric ⟨.i3c, 0, 0, true, 0⟩ 0 0 [], .objectWriteGeneric acc (2 ^ 16) 0 [], .objectWriteGeneric acc 0 (2 ^ 8) [],
    .objectWriteGeneric acc 0 0 (z (64 + 1))].all (fun i => !Instr.wf i) = true := by decide +kernel

theorem test_ill_formed_boot (image : List Byte) (b : Bool) (h : 2 ^ 26 < image.length) : Instr.wf (.bootLen 0 image b) = false := by
  unfold Instr.wf; rw [Bool.and_eq_false_iff]; right; simp; omega

theorem test_ill_formed_acc : ([⟨.localPort, 8, 0, true, 0⟩, ⟨.localPort, 0, 2048, true, 0⟩, ⟨.localPort, 0, 0, true, 65536⟩,
    ⟨.hostMailbox, 0, 0, true, 0⟩, ⟨.i3c, 0, 0, true, 0⟩] : List Acc).all (fun a => !a.wf) = true ∧
    ([⟨0, 8⟩, ⟨319, 8⟩, ⟨320, 4⟩, ⟨328, 0⟩] : List Hart).all (fun h => !h.wf) = true ∧
    ([⟨2048, 0, 0, 0⟩, ⟨0, 8, 0, 0⟩, ⟨0, 0, 4, 0⟩, ⟨0, 0, 0, 8⟩] : List Straps).all (fun x => !x.wf) = true := by decide +kernel

theorem test_ill_formed_fuses : fuse.wf = true ∧
    ([{ fuse with uds := z 47 }, { fuse with keyHash := [z 48] }, { fuse with keyHash := List.replicate 4 (z 47) },
      { fuse with revoke := 16 }, { fuse with svnMin := 65 }, { fuse with alarmFloor := 5 }, { fuse with debugLock := 2 },
      { fuse with crc := 2 ^ 32 }, { fuse with stepping := 256 }, { fuse with serial := 2 ^ 48 },
      { fuse with health := [0] }, { fuse with health := List.replicate 16 (2 ^ 20) }, { fuse with trims := [0] }] : List Fuses).all
      (fun x => !x.wf) = true := by decide +kernel

theorem test_ill_formed_parts : ([⟨96, 1⟩, ⟨0, 0⟩, ⟨0, 6⟩] : List DramFail).all (fun x => !x.wf) = true ∧
    ([⟨65536, 0, 0, 0⟩, ⟨0, 65536, 0, 0⟩, ⟨0, 0, 65536, 0⟩, ⟨0, 0, 0, 65536⟩] : List Vec4).all (fun x => !x.wf) = true ∧
    tile.wf = true ∧ ([{ tile with req := 2 ^ 23 }, { tile with die := 16 }, { tile with addr := 2 ^ 48 }, { tile with len := 16385 },
      { tile with data := some [] }] : List TileReq).all (fun x => !x.wf) = true ∧
    ([.measured (2 ^ 32) 0 0 0 true true, .measured 0 2048 0 0 true true, .measured 0 0 65536 0 true true,
      .measured 0 0 0 64 true true, .fails 0 1, .fails 6 1, .fails 1 0, .fails 1 9] : List TrainIn).all
      (fun x => !TrainIn.wf x) = true := by decide +kernel

/-! ## Worked examples of the spec -/

/-- 02, after R40: byte 0xb5. -/
theorem test_ternary_byte : t16Dec 0xb5 = [0, -1, 1, -1, 1] := by decide +kernel

/-- 02, after R53: block sum 736, scales 0x5a and 0x44, stored as 0x3f2c_8000. -/
theorem test_promotion : blockSum [7, -3, 0, -8] [100, -20, 55, 3] = 736 ∧ promote 0 736 0x5a 0x44 0 0 = 0x3f2c8000 := by decide +kernel

/-- 02, after R53: a lane of 2^24 takes two additions of 1.0 without a change. -/
theorem test_lane_tie : promote (promote 0x4b800000 1 0x78 0x78 0 0) 1 0x78 0x78 0 0 = 0x4b800000 := by decide +kernel

/-- 02 R57's example: 3.0, -2.625, 0.75, -1.0, 0.0634765625 and zeros. -/
def requantExample : List Nat := [0x40400000, 0xc0280000, 0x3f400000, 0xbf800000, 0x3d820000] ++ List.replicate 27 0

theorem test_requant_0 : (requantA8 0 requantExample).scale = 0x4d ∧ (requantA8 0 requantExample).clips = 0 ∧
    (requantA8 0 requantExample).codes.take 6 = [118, -103, 30, -39, 2, 0] := by decide +kernel

theorem test_requant_8 : (requantA8 8 requantExample).scale = 0x4a ∧ (requantA8 8 requantExample).clips = 2 ∧
    (requantA8 8 requantExample).codes.take 6 = [127, -127, 38, -51, 3, 0] := by decide +kernel

/-- 02 R69's example: 2 clips of 32 elements with CLIP_LIMIT 8 and SEVERE_LIMIT 64 are level 1. -/
theorem test_flag_level : ∃ rec, recClip rec = 8 ∧ recSevere rec = 64 ∧
    flagLevel rec ⟨0, 2, 32, false, 0, []⟩ = 1 ∧ flagLevel rec ⟨0, 3, 32, false, 0, []⟩ = 2 ∧
    flagLevel rec ⟨0, 0, 32, true, 0, []⟩ = 2 := ⟨8 * 2 ^ 32 + 64 * 2 ^ 48, by decide +kernel⟩

/-- 03 R95's example: M = 4, N = 64, KB = 32, W4, R = 8, A8 output. -/
def mmExample : Mm := ⟨false, 1 * 2 ^ 56, 4, 32, 8, 0, 0, false, 0, [⟨0, 0, 0, 0, 64, 16⟩]⟩
theorem test_matmul_timing : mmExample.sets = 4 ∧ mmExample.occ = 512 ∧ mmExample.lat = 537 ∧ mmExample.standard = false ∧
    mmExample.unitCycle 1 = 4 := by decide +kernel

/-- 05 R179's example: the votes of phases 41, 821 and 885 end the tick with one stretch. -/
def votesExample : State :=
  { State.reset with lace := { Lace.init with mode := .locked, tickLen := 2048, q := 64, x := 16, v := 1280,
                                              votes := [⟨0, 1, 41⟩, ⟨0, 1, 821⟩, ⟨0, 2, 885⟩] } }
theorem test_votes : votesAllow votesExample 0 = false ∧ votesAllow votesExample 1 = true := by decide +kernel

/-- 07 R250's example: codes at 0, 100 and 255. -/
def groupExample : List Byte := [0x03] ++ z 99 ++ [0xfe] ++ z 154 ++ [0x01] ++ [0x4d, 0x4c, 0x50, 0x4d, 0x48, 0x4d, 0x4d, 0x51]
theorem test_codec : encodeGroup true none groupExample =
    ([0x4d, 0x4c, 0x50, 0x4d, 0x48, 0x4d, 0x4d, 0xff, 0x08, 0x51, 0x3c, 0x0c, 0x64, 0x80, 0x9a, 0x60, 0, 0], 0) ∧
    decodeFrame none (encodeGroup true none groupExample).1 = some groupExample := by decide +kernel

/-- 08 R285's example: 312 cycles each way fix class C with a margin of 120 cycles. -/
theorem test_port_class : fixClass PortSt.init 2496 2496 = some 2 ∧ marginOf 448 2496 = 120 := by decide +kernel

/-- 09 R320's example: ADD 3 and ADD 4 combine as ADD 7 on X = 1,000. -/
theorem test_combining : mergeOp 0x10 64 3 4 = 7 ∧ atomic 0x10 64 1000 7 = 1007 ∧ atomic 0x10 64 1000 3 = 1003 := by decide +kernel

/-- 09 R329's example: a lease of owner 0x21_6807, incarnation 0x31, with expiry 1,500. -/
theorem test_lease : lkOwner (lockWordOf 0x216807 0x31 1500) = 0x216807 ∧ leaseLive (lockWordOf 0x216807 0x31 1500) 1300 = true ∧
    leaseLive (lockWordOf 0x216807 0x31 1500) 1500 = false ∧ reqId (setO State.reset 0x1010 1 7) 45 2 = 0x216807 := by
  decide +kernel

/-- 10 R359's example: the charges of SHARE 300 and 100 at PRIO 0. -/
theorem test_charge : chargeOf 300 0 = 229064922 ∧ chargeOf 100 0 = 687194767 := by decide +kernel

/-- FIPS 180-4's digest of "abc", and the check value of CRC-32. -/
theorem test_digests : beNum (sha384 [0x61, 0x62, 0x63]) =
      0xcb00753f45a35e8bb5a03d699ac65007272c32ab0eded1631a8b605a43ff5bed8086072ba1e7cc2358baeca134c825a7 ∧
    crc32 [0x31, 0x32, 0x33, 0x34, 0x35, 0x36, 0x37, 0x38, 0x39] = 0xcbf43926 := by decide +kernel

/-! ## Steps -/

def outOf : Out → List OutMsg | .next t => t.out | _ => []
def queueOf : Out → List Instr | .next t => t.pending | _ => [.tickEnd]
def standby : State := { State.reset with dev := { Device.init with mode := .standby } }

/-- The status or abort code of the last access answered. -/
def codeOf (o : Out) : Option Nat := match (outOf o).getLast? with | some (.status c) => some c | _ => none

/-- 14 R482, 00 R12: a write of a read-only entry answers abort 0x0201, one of a wrong length 0x0301, a value out of range 0x0302, a
missing subindex 0x0102, a missing object 0x0101. -/
theorem test_aborts : codeOf (exec (.objectWriteGeneric acc 0x1001 0 (z 8)) standby) = some 0x0201 ∧
    codeOf (exec (.objectWriteGeneric acc 0x5000 1 (z 2)) standby) = some 0x0301 ∧
    codeOf (exec (.objectWriteGeneric acc 0x5000 1 [2]) standby) = some 0x0302 ∧
    codeOf (exec (.objectWriteGeneric acc 0x5000 1 [1]) standby) = some 0 ∧
    codeOf (exec (.objectWriteGeneric acc 0x1001 1 (z 8)) standby) = some 0x0102 ∧
    codeOf (exec (.objectWriteGeneric acc 0xefff 0 [1]) standby) = some 0x0101 := by decide +kernel

/-- A command in front is taken off the queue; an empty queue lets one cycle or period pass. -/
theorem test_queue : queueOf (step { standby with pending := [.syncSend, .tickEnd] }) = [.tickEnd] ∧ queueOf (step State.reset) = [] := by
  decide +kernel

/-- The model's own frame for the host's questions: no row of the table gives bits. -/
theorem test_no_words : decodeTableWord 8 0 = none ∧ State.reset.withFetchWord 8 0 = State.reset := ⟨rfl, rfl⟩

end Sys2Proof.Tests
end

