-- ==== Sys2Proof/Tests/Witness.lean ====
section
/-! SUPPORT. Witnesses: for each statement's hypotheses, state and operands that meet them together, clause by clause. -/
namespace Sys2Proof.Witness
open Sys2Proof Sys2Proof.Machine Sys2Proof.Claims
set_option Elab.async false

/-- A secure firmware access on the local port, and a non-secure one of the host. -/
def fw : Acc := ⟨.localPort, 0, 0, true, 0⟩
def host : Acc := ⟨.hostMailbox, 0, 0, false, 0⟩

/-- The state after reset in another mode. -/
def inMode (m : DevState) : State := { State.reset with dev := { Device.init with mode := m } }

/-- A state with objects set. -/
def withO (s : State) (l : List (Nat × Nat × Nat)) : State := l.foldl (fun s e => setO s e.1 e.2.1 e.2.2) s

/-- A state whose lace is locked at tick 100, with the tick length and horizon of its defaults. -/
def locked (s : State) : State :=
  { s with lace := { Lace.init with mode := .locked, tick := 100, phase := 5, tickLen := 2048, q := 64, x := 16, v := 1280, root := 0 } }

/-- An image without any entry. -/
def img0 : Image :=
  { lastId := 1, baseId := 0, partition := 0, oppoint := 4, tickLen := 2048, period := 1, classO := 0, faultNode := 0, faultPorts := [], lnode := 0,
    stage := 0, clusterMap := [], portClass := [], ops := [], awl := [], xfer := [], arrive := [], lacePts := [], wake := [],
    windows := [], records := [], rotate := [], reduce := [], groups := 1, slotsPer := 1, stages := [], groupTab := [], expert := [],
    objects := [], length := 512, maxUnits := 0, busy := [] }

/-- A state in which slot 0 holds an image, and one in which it is the active slot of partition 0. -/
def loaded (s : State) (im : Image) : State := setSlot s 0 ⟨some im, im.lastId, false, [], [], []⟩
def active (s : State) (im : Image) : State := setPart (loaded s im) im.partition ⟨some 0, 0, true, none⟩
def ready : State := inMode .ready
def running : State := inMode .running
def standby : State := inMode .standby

/-! ## Commands that are a write of one object -/

theorem last_load : mayWrite ready fw 0x3030 3 1 = true ∧ (served ready fw).dev.mode = .ready ∧
    slotActive (served ready fw) (getO (served ready fw) 0x3030 2) = false ∧ (served ready fw).loading = none := by decide +kernel
theorem last_load_running : mayWrite running host 0x3030 3 1 = true ∧ (served running host).dev.mode = .running := by decide +kernel
theorem last_unload : mayWrite ready fw 0x3030 3 2 = true ∧ slotActive (served ready fw) (getO (served ready fw) 0x3030 2) = false := by
  decide +kernel
theorem active_slot_none : mayWrite ready fw 0x3020 8 0xff = true ∧ (served ready fw).dev.mode = .ready := by decide +kernel
theorem active_slot : mayWrite (loaded ready img0) fw 0x3020 1 0 = true ∧
    (getSlot (served (loaded ready img0) fw) 0).image = some img0 ∧ img0.partition = 0 ∧
    portCheck (served (loaded ready img0) fw) img0 = none := by decide +kernel

def mgrReady : State := locked (withO ready [(0x1010, 4, 1)])
def mgrRun : State := locked (withO running [(0x1010, 4, 1), (0x3024, 1, 7)])
theorem start_tick : mayWrite mgrReady fw 0x3014 1 (100 + max 8 (horizon (served mgrReady fw))) = true ∧
    isManager (served mgrReady fw) = true ∧ laceRuns (served mgrReady fw) = true ∧ (served mgrReady fw).lace.tick = 100 := by
  decide +kernel
theorem switch : mayWrite (withO mgrRun [(0x3015, 2, 200)]) fw 0x3015 1 0 = true ∧
    isManager (served mgrRun fw) = true ∧ getO (served mgrRun fw) 0x3024 1 ≠ 0 ∧ laceRuns (served mgrRun fw) = true ∧
    100 + max 8 (horizon (served mgrRun fw)) ≤ 200 := by decide +kernel
theorem halt : mayWrite running host 0x3016 1 1 = true ∧ mayWrite standby host 0x3016 1 1 = true := by decide +kernel
theorem adopt_node : mayWrite ready fw 0x3017 1 0xffff = true ∧ mayWrite ready fw 0x3017 1 2047 = true ∧ mayAdopt (served ready fw) = true ∧
    (∀ p < 64, portUp (served ready fw) p = true → (getPort (served ready fw) p).peerLog ≠ 2047) := by decide +kernel
theorem adopt_tick : mayWrite (locked (withO ready [(0x3017, 1, 3)])) fw 0x3017 2 200 = true ∧
    mayAdopt (served (locked (withO ready [(0x3017, 1, 3)])) fw) = true ∧ getO (served (withO ready [(0x3017, 1, 3)]) fw) 0x3017 1 ≠ 0xffff ∧
    100 + max 8 (horizon (served (locked (withO ready [(0x3017, 1, 3)])) fw)) ≤ 200 := by decide +kernel

theorem ring_doorbell : mayWrite ready fw (ringObj true) 3 256 = true ∧ mayWrite ready host (ringObj false) 3 1 = true ∧
    sub32 1 (ringHead (served ready host) false) ≤ 2 ^ getO (served ready host) (ringObj false) 2 := by decide +kernel
theorem store_resize : mayWrite ready fw 0x4002 16 64 = true ∧ slotsLoaded (served ready fw) = false ∧
    storeBarred (served ready fw) 15 64 = false := by decide +kernel
theorem table_commands : compLive (served ready fw) = false ∧ (served ready fw).codec.state ≠ 1 ∧ mayWrite ready fw 0x9061 1 1 = true ∧
    mayWrite ready fw 0x9061 1 2 = true ∧ mayWrite ready fw 0x9061 1 3 = true := by decide +kernel

def staged : State := withO ready ((List.range 64).map (fun j =>
  (0x9062, j + 1, 4 * j + (4 * j + 1) * 2 ^ 8 + (4 * j + 2) * 2 ^ 16 + (4 * j + 3) * 2 ^ 24)))
theorem staged_map : stagingMap (served staged fw) = List.range 256 := by decide +kernel
theorem table_install : mayWrite staged fw 0x9061 1 4 = true ∧ (stagingMap (served staged fw)).getD 0 0 = 0 ∧
    ((List.range 256).drop 1).all (fun x => ((stagingMap (served staged fw)).drop 1).contains x) = true ∧
    getO (served staged fw) 0x9061 5 ≤ 3 := by rw [staged_map]; decide +kernel

theorem port_commands : (inRun (served ready fw) && portDeclared (served ready fw) 63) = false ∧ mayWrite ready fw 0x503f 9 1 = true ∧
    mayWrite ready fw 0x503f 9 2 = true ∧ (inRun (served running fw) && portDeclared (served running fw) 0) = false ∧
    mayWrite running fw 0x5000 9 1 = true := by decide +kernel
def reader : State := { ready with dev := { ready.dev with straps := ⟨0, 2, 0, 0⟩ } }
theorem storage_mode : mayWrite reader fw 0x5080 1 1 = true ∧ fbit (served reader fw).dev.straps.role 1 = true ∧
    mayWrite ready fw 0x5080 1 0 = true := by decide +kernel

/-- A queue pair's context of 64 bytes with MTU 1, one READ, TIMEOUT 1 and an IPv6 address. -/
def ctxBytes : List Byte := leBytes 64 (2 ^ 64 + 2 ^ 65 + 2 ^ 120 + 2 ^ 160)
def qps : State := memPut (withO ready [(0x5090, 1, 0x10000)]) 0x10000 ctxBytes
theorem qp_make_ready : mayWrite qps fw 0x5090 2 256 = true ∧ (getQp (served qps fw) 0).state = 0 ∧
    ctxOk (leNat (peek (served qps fw) (getO (served qps fw) 0x5090 1 + 64 * 0) 64)) = true := by decide +kernel
theorem qp_reset : mayWrite ready fw 0x5090 2 575 = true := by decide +kernel
theorem pull_doorbell : mayWrite ready fw 0x5090 5 64 = true ∧
    sub32 64 (getO (served ready fw) 0x5090 6) ≤ 2 ^ getO (served ready fw) 0x5090 4 := by decide +kernel
theorem route_entry : mayWrite ready fw 0x4041 2 0xffff = true ∧ mayWrite standby fw 0x4041 2 0 = true := by decide +kernel

theorem manager_release : mayWrite ready fw 0x6001 1 0 = true := by decide +kernel
def mayManage (s : State) : State := locked (withO s [(0x1010, 3, 1), (0x1010, 4, 2), (0x6001, 2, 200)])
theorem manager_roles : fbit (getO (served (mayManage standby) fw) 0x1010 3) 0 = true ∧ mayWrite (mayManage standby) fw 0x6001 1 1 = true ∧
    mayWrite (mayManage ready) fw 0x6001 1 2 = true := by decide +kernel
theorem manager_take_over : mayWrite (mayManage running) fw 0x6001 1 3 = true ∧ fbit (getO (served (mayManage running) fw) 0x1010 4) 1 = true ∧
    100 + max 8 (horizon (served (mayManage running) fw)) ≤ getO (served (mayManage running) fw) 0x6001 2 := by decide +kernel
def mgr (s : State) : State := locked (withO s [(0x1010, 4, 1)])
theorem commit : isManager (mgr ready) = true ∧ field 64 32 16 = (getSq (mgr ready) 63).epoch ∧
    sub32 64 (getSq (mgr ready) 63).consumed ≤ 2 ^ getO (mgr ready) (0x6020 + 63) 2 ∧ (mgr ready).dev.mode ≠ .keeper ∧
    mayWrite (mgr ready) fw (0x6020 + 63) 3 64 = true := by decide +kernel
theorem queue_flush : mayWrite (mgr ready) fw 0x6020 5 1 = true ∧ isManager (served (mgr ready) fw) = true := by decide +kernel
def eyelets (s : State) : State := { s with serving := { s.serving with eyelets := [(5, { Eyelet.init with state := 1 })] } }
theorem cancel : mayWrite (eyelets (mgr running)) fw 0x6030 1 5 = true ∧ (getEy (served (eyelets (mgr running)) fw) 5).state ≠ 0 := by
  decide +kernel

/-! A route plan of one site with one round: its header, the two entries of the site, two banks without a share. -/

def siteBytes (kind desc : Nat) : List Byte :=
  let b := leBytes 2 0 ++ leBytes 1 kind ++ leBytes 5 0 ++ leBytes 4 desc ++ [0, 1, 0, 1] ++ leBytes 2 2 ++ leBytes 4 0 ++ leBytes 2 1 ++
    leBytes 2 32 ++ leBytes 14 0 ++ leBytes 2 264 ++ leBytes 2 0 ++ leBytes 2 260 ++ leBytes 6 0 ++ leBytes 2 1 ++ leBytes 4 16 ++ leBytes 5 0
  b ++ leBytes 1 (crc8 b)
def bankBytes (gen : Nat) : List Byte :=
  leBytes 4 gen ++ leBytes 8 0 ++ leBytes 4 (crc32 (leBytes 16 0)) ++ leBytes 16 0
def planBytes : List Byte :=
  let h := leBytes 4 0x54554f52 ++ leBytes 2 1 ++ leBytes 2 2 ++ leBytes 8 1 ++ leBytes 4 64 ++ leBytes 4 256 ++ leBytes 4 512 ++
    leBytes 4 32 ++ leBytes 4 768 ++ leBytes 24 0
  h ++ leBytes 4 (crc32 h) ++ siteBytes 0 0 ++ siteBytes 1 1 ++ leBytes 64 0 ++ bankBytes 1 ++ leBytes 224 0 ++ bankBytes 2
/-- Object 7 of object space with its DRAM home. -/
def objEnt (cls : Nat) : ObjEnt := ⟨7, 0x100000000000, 16384, cls, 0, 0, 0, 0, 1, 0x10000, 0⟩
def awlOf (start : Nat) : Nat := start * 2 ^ 16 + 2 * 2 ^ 152 + 100 * 2 ^ 256 + 512 * 2 ^ 272
def planImage : Image := { img0 with lacePts := [4 * 2 ^ 32], objects := [7 + 2 ^ 64], awl := [awlOf 0, awlOf 200] }
def planned (m : DevState) : State :=
  memPut { inMode m with memSt := { MemSt.init with objs := [(0, objEnt 0)] } } 0x10000 planBytes
def bindState : State := loaded (planned .ready) planImage
theorem route_bind : mayWrite bindState fw 0x3025 1 7 = true ∧ slotActive (served bindState fw) 0 = false ∧
    (getSlot (served bindState fw) 0).image = some planImage ∧ bindCheck (served bindState fw) 0 7 planImage = none ∧
    mayWrite bindState fw 0x3025 1 0 = true := by decide +kernel
def armState : State := locked (withO (active (planned .running) planImage) [(0x3025, 1, 7), (0x3026, 2, 2)])
theorem revision_arm : mayWrite armState fw 0x3026 3 200 = true ∧ (getPart (served armState fw) (getO (served armState fw) 0x3026 1)).active = some 0 ∧
    activeImage (served armState fw) (getO (served armState fw) 0x3026 1) = some planImage ∧
    (planImage.lacePts.any (fun x => ptType x == 4)) = true ∧ 100 + horizon (served armState fw) ≤ 200 := by decide +kernel
def armPlan : Plan := planOf (served armState fw) (objEnt 0)
theorem revision_plan : boundPlan (served armState fw) 0 = some armPlan := rfl
theorem revision_bank : bankGen (served armState fw) armPlan (1 - activeBank (served armState fw) 0) = getO (served armState fw) 0x3026 2 ∧
    bankOk (served armState fw) armPlan (sitesOf (served armState fw) armPlan) (1 - activeBank (served armState fw) 0) = true := by
  decide +kernel

def imageIn (m : DevState) (st res : Nat) : State :=
  { inMode m with images := [(0, { ImgEnt.init with state := st, residency := res })] }
theorem image_open : (served ready fw).imgCmd = none ∧ mayWrite ready fw 0xa020 4 1 = true ∧
    (getImg (served ready fw) (getO (served ready fw) 0xa020 2)).state = 0 ∧ mayWrite (imageIn .running 5 0) fw 0xa020 4 1 = true := by decide +kernel
theorem image_seal : mayWrite (imageIn .ready 1 0) fw 0xa020 4 2 = true ∧ (getImg (served (imageIn .ready 1 0) fw) 0).state = 1 ∧
    getO (served (imageIn .ready 1 0) fw) 0xa020 2 = 0 := by decide +kernel
theorem image_demote : mayWrite (imageIn .ready 3 2) fw 0xa020 4 3 = true ∧ (getImg (served (imageIn .ready 3 2) fw) 0).state = 3 ∧
    (getImg (served (imageIn .ready 3 2) fw) 0).residency = 2 ∧
    listedObj (served (imageIn .ready 3 2) fw) (getImg (served (imageIn .ready 3 2) fw) 0) (some 1) = none := by decide +kernel
theorem image_pin : mayWrite (imageIn .running 3 1) fw 0xa020 4 4 = true ∧ (getImg (served (imageIn .running 3 1) fw) 0).residency = 1 := by
  decide +kernel
theorem image_evict_close : mayWrite (imageIn .ready 4 0) fw 0xa020 4 5 = true ∧ mayWrite (imageIn .ready 4 0) fw 0xa020 4 6 = true ∧
    (getImg (served (imageIn .ready 4 0) fw) 0).state = 4 ∧
    listedObj (served (imageIn .ready 4 0) fw) (getImg (served (imageIn .ready 4 0) fw) 0) none = none := by decide +kernel

theorem define_count : mayWrite ready fw 0xa008 3 1 = true ∧ partState (served ready fw) 0 ≠ 1 ∧ getO (served ready fw) 0xa008 1 = 0 ∧
    getO (served ready fw) 0xa008 2 ≤ (clusterOrder (served ready fw) 0).length ∧ (placeRegions (served ready fw) 0).isSome = true := by
  decide +kernel
def named : State := withO standby [(0xa000, 0xc, 1)]
theorem named_clusters : namedClusters (served named fw) 0 = [288] := by decide +kernel
theorem define_set : mayWrite named fw 0xa008 3 2 = true ∧ partState (served named fw) 0 ≠ 1 ∧ setFit (served named fw) 0 = true ∧
    (placeRegions (served named fw) 0).isSome = true := by
  unfold setFit; rw [named_clusters]; decide +kernel
def defd : State := withO ready [(0xa000, 1, 1)]
theorem release : mayWrite defd fw 0xa008 3 3 = true ∧ partState (served defd fw) 0 = 1 ∧ lastOf (served defd fw) 0 = false := by
  decide +kernel
def reld : State := withO ready [(0xa000, 1, 2)]
theorem clear : mayWrite reld fw 0xa008 3 4 = true ∧ partState (served reld fw) 0 = 2 ∧
    ((served reld fw).memSt.objs.any (fun e => e.2.partition == 0)) = false := by decide +kernel

/-! ## States, security, events, power, persistence -/

def keeperFw : State := { State.reset with dev := { Device.init with boot := .firmware } }
def alarm : State := inMode .alarm
theorem state_keeper : (served ready fw).dev.target = none ∧ mayWrite ready fw 0x2001 0 1 = true ∧ mayWrite keeperFw fw 0x2001 0 1 = true ∧
    mayWrite standby fw 0x2001 0 1 = true ∧ mayWrite (inMode .halted) fw 0x2001 0 1 = true := by decide +kernel
theorem state_standby : mayWrite keeperFw fw 0x2001 0 2 = true ∧ mayWrite standby fw 0x2001 0 2 = true ∧ mayWrite ready fw 0x2001 0 2 = true ∧
    mayWrite (inMode .halted) fw 0x2001 0 2 = true ∧ mayWrite alarm fw 0x2001 0 2 = true ∧ fw.secure = true ∧
    (∀ e ∈ (served alarm fw).sec.condUntil, 1 ≤ e.1 → e.1 ≤ 4 → fbit (getO (served alarm fw) 0x7110 1) e.1 = true → e.2 ≤ (served alarm fw).now) := by
  decide +kernel
theorem state_ready : mayWrite standby fw 0x2001 0 3 = true ∧ mayWrite ready fw 0x2001 0 3 = true ∧ mayWrite (inMode .halted) fw 0x2001 0 3 = true := by
  decide +kernel
def ramped : State := { mgrReady with power := { mgrReady.power with floor := 10 ^ 7 } }
theorem state_running : mayWrite ramped fw 0x2001 0 4 = true ∧ laceUnfit (served ramped fw) = false ∧ floorShort (served ramped fw) = false ∧
    mayWrite running fw 0x2001 0 4 = true ∧ mayWrite (inMode .draining) fw 0x2001 0 4 = true := by decide +kernel
theorem state_draining : mayWrite running fw 0x2001 0 5 = true ∧ mayWrite (inMode .draining) fw 0x2001 0 5 = true := by decide +kernel
theorem reset_command : mayWrite running fw 0x2003 2 1 = true := by decide +kernel
def upKeeper : State := { keeperFw with dev := { keeperFw.dev with target := some .standby } }
theorem firmware_ready : mayWrite upKeeper fw 0x2003 5 1 = true ∧ (served upKeeper fw).dev.target = some .standby ∧
    (served upKeeper fw).dev.boot = .firmware := by decide +kernel
theorem image_check : mayWrite ready fw 0x1020 3 1 = true ∧ (served ready fw).imgCheck = none := by decide +kernel

theorem mark_unhealthy : mayWrite ready fw 0x2012 1 499 = true ∧ 499 % 32 < 20 := by decide +kernel
theorem raise_svn : mayWrite (withO ready [(0x1020, 7, 3)]) fw 0x7030 1 3 = true ∧ (served ready fw).sec.programming = none ∧
    (served ready fw).sec.shadow.svnMin ≤ 3 ∧ 3 ≤ getO (served (withO ready [(0x1020, 7, 3)]) fw) 0x1020 7 := by decide +kernel
theorem revoke : mayWrite ready fw 0x7030 2 3 = true ∧ 3 ≠ (served ready fw).sec.bootKey := by decide +kernel
def keyed : State := { ready with sec := { ready.sec with keyVal := some (List.replicate 64 1) } }
theorem key_write : mayWrite keyed fw 0x7040 2 1 = true ∧ slotInUse (served keyed fw) (getO (served keyed fw) 0x7040 1) = false ∧
    (served keyed fw).sec.keyVal = some (List.replicate 64 1) := by decide +kernel
theorem key_derive : mayWrite ready fw 0x7040 2 2 = true ∧ getO (served ready fw) 0x7040 4 ≠ getO (served ready fw) 0x7040 1 ∧
    getO (served ready fw) 0x7040 4 = 0xff := by decide +kernel
theorem key_clear : mayWrite ready fw 0x7040 2 3 = true := by decide +kernel
theorem arming : mayWrite ready fw 0x7100 0 4 = true ∧ (served ready fw).sec.shadow.alarmFloor ≤ 0 ∧ mayWrite ready fw 0x7100 0 0 = true ∧
    mayWrite alarm fw 0x7100 0 4 = true ∧ getO (served alarm fw) 0x7100 0 ≤ 4 := by decide +kernel

theorem queue_head : mayWrite ready fw 0x8000 4 0 = true ∧ mayWrite ready fw 0x8000 4 1 = true ∧
    sub32 0 (getO (served ready fw) 0x8000 3) ≤ 2 ^ getO (served ready fw) 0x8000 2 ∧
    2 ^ 31 ≤ sub32 (2 ^ 32 - 1) (getO (served ready fw) 0x8000 3) ∧ mayWrite ready fw 0x8000 4 (2 ^ 32 - 1) = true := by decide +kernel
theorem queue_enable : mayWrite ready fw 0x8000 5 1 = true ∧ mayWrite ready fw 0x8000 5 0 = true := by decide +kernel
theorem freq : mayWrite mgrReady fw 0x2200 2 400 = true ∧ getO (served mgrReady fw) 0x2200 1 ≤ getO (served mgrReady fw) 0x2200 3 ∧
    aboveActive (served mgrReady fw) (getO (served mgrReady fw) 0x2200 1) = false ∧
    40 * usec ≤ (400 - (served mgrReady fw).lace.tick) * (served mgrReady fw).lace.tickLen * cycleLen (served mgrReady fw) ∧
    (served mgrReady fw).lace.tick + max 16 (horizon (served mgrReady fw)) ≤ 400 := by decide +kernel
theorem pre_ramp : mayWrite ready fw 0x2110 1 1 = true ∧ mayWrite ready fw 0x2110 1 0 = true := by decide +kernel
theorem persist_export : mayWrite ready fw 0x1030 1 1 = true ∧ mayWrite ready host 0x1030 1 1 = true := by decide +kernel
def importState : State :=
  { standby with relum := { standby.relum with pstage := mputs 0 [] 0 (leBytes 4 0x53524550 ++ leBytes 2 1 ++ leBytes 10 0) } }
theorem persist_import : mayWrite importState fw 0x1030 1 2 = true ∧ (served importState fw).dev.mode = .standby ∧
    fieldB (mrange 0 (served importState fw).relum.pstage 0 16) 0 4 = 0x53524550 ∧
    fieldB (mrange 0 (served importState fw).relum.pstage 0 16) 4 2 = 1 ∧ fieldB (mrange 0 (served importState fw).relum.pstage 0 16) 6 2 = 0 ∧
    fieldB (mrange 0 (served importState fw).relum.pstage 0 16) 8 4 = crc32 [] ∧
    fieldB (mrange 0 (served importState fw).relum.pstage 0 16) 12 4 = 0 := by decide +kernel
theorem persist_import_all : importAll (reqOf importState fw) [] 0 (served importState fw) = (served importState fw, none) := rfl
theorem persist_defaults : mayWrite standby fw 0x1030 1 3 = true := by decide +kernel

theorem write_accepted : (findRow 0x5000 1).isSome = true ∧ mayWrite ready fw 0x5000 1 1 = true ∧
    (wrAny (served ready fw) (reqOf ready fw) 0x5000 1 1).2 = 0 := by decide +kernel
theorem write_reserved : [(0x2012, 1), (0x4040, 6), (0x9060, 1)].all (fun e => highReserved e.1 e.2 &&
    (findRow e.1 e.2).any (fun row => row.lo == 0 && decide (row.hi.toNat < 256 ^ row.size - 1))) = true := by decide +kernel
theorem write_accepted_data : (findRow 0x1030 4).any (fun row => row.acc != .ro && isData row.ty && decide (16 ≤ row.size) && stateOk standby row) = true ∧
    pathServed standby (reqOf standby fw) = true ∧ worldBar (reqOf standby fw) 0x1030 4 = false ∧
    lockBar standby (reqOf standby fw) 0x1030 = false ∧ alarmBar standby (reqOf standby fw) 0x1030 = false := by decide +kernel

def lockedObj : State := { ready with relum := { ready.relum with locks := [(0, ⟨0x5000, 0x503f, 99, 7, 10⟩)] } }
theorem write_aborts : pathServed ready (reqOf ready host) = true ∧ worldBar (reqOf ready host) 0x7040 1 = true ∧
    getO (served (withO ready [(0x7110, 4, 0)]) host) 0x7110 4 ≠ 1 ∧ worldBar (reqOf ready fw) 0xefff 0 = false ∧ findRow 0xefff 0 = none ∧ topSub 0xefff = none := by
  decide +kernel
theorem write_aborts_sub : findRow 0x5000 0 = none ∧ (topSub 0x5000).isSome = true ∧ findRow 0x5000 0xff = none := by decide +kernel
theorem write_aborts_row : (findRow 0x1001 0).any (fun r => r.acc == .ro) = true ∧
    (findRow 0x5000 1).any (fun r => r.acc != .ro && !isData r.ty && r.size == 1) = true ∧
    (findRow 0x1030 4).any (fun r => r.acc != .ro && isData r.ty) = true ∧
    lockBar lockedObj (reqOf lockedObj fw) 0x5000 = true ∧ lockBar ready (reqOf ready fw) 0x5000 = false ∧
    (findRow 0x5000 1).any (fun r => !stateOk running r) = true := by decide +kernel

/-! ## Cores, clusters and the schedule: one cluster, at cycle 5 of tick 100 -/

theorem pair_some {α β : Type} (x : α × Option β) (h : x.2.isSome = true) : ∃ u q, x = (u, some q) := by
  obtain ⟨u, o⟩ := x; cases o with | none => cases h | some q => exact ⟨u, q, rfl⟩

def chkWord (v : Nat) : Word128 := BitVec.ofNat 128 (v + crc8 (leBytes 15 v) * 2 ^ 120)
/-- An op word of cycle 5, and the same with WAIT on bit 9. -/
def opWord (opc fn : Nat) : Word128 := chkWord (opc + 5 * 16 + fn * 2 ^ 41)
def waitWord : Word128 := chkWord (5 * 16 + 2 ^ 20 + 9 * 2 ^ 21)
def lpt (ty arg : Nat) : Nat := 5 * 2 ^ 16 + ty * 2 ^ 32 + 0x1ff * 2 ^ 40 + arg * 2 ^ 49
def hint (kind target : Nat) : Nat := kind * 2 ^ 24 + target * 2 ^ 32
def awlEnt : Nat := 5 * 2 ^ 16 + 64 * 2 ^ 272 + 2 ^ 256
def runImage : Image :=
  { img0 with clusterMap := [0], ops := [(0, ([0, 1, 0, 1], [[(opWord 0 0).toNat], [(waitWord).toNat]]))], xfer := [5 * 2 ^ 16],
              awl := [awlEnt], reduce := [(5 * 2 ^ 16 + 1 * 2 ^ 56 + 32 * 2 ^ 80, [0])], windows := [5 * 2 ^ 32 + 100 * 2 ^ 48],
              lacePts := [lpt 1 0, lpt 2 0, lpt 3 0, lpt 4 0, lpt 7 0], wake := [hint 1 0, hint 3 2, hint 0 0, hint 2 2] }
/-- Without the word that waits. -/
def freeImage : Image := { runImage with ops := [(0, ([0, 1, 0, 0], [[(opWord 0 0).toNat]]))] }
def runOf (im : Image) : State :=
  memPut (sbSet (withO (active (locked running) im) [(0x3050, 1, 0), (0x1010, 4, 1), (0x6060, 1, 0x20000)]) 0 0 0 true) 0x20000
    (List.replicate 16 0 ++ [1])
def core0 : CoreRef := ⟨0, 0⟩
def cl0 (f : Cluster → Cluster) (s : State) : State := modCl s 0 f

theorem stands_word : stands (runOf freeImage) core0 0 freeImage 0 :=
  ⟨0, opWord 0 0, by decide +kernel, by decide +kernel, by decide +kernel, by decide +kernel, by decide +kernel, by decide +kernel⟩
/-- Every opcode and function number issues there; a word with a wrong CHK does not. -/
def everyOp : List Word128 :=
  [opWord 0 0, opWord 1 0, opWord 2 0, opWord 3 0, opWord 4 0, opWord 5 0] ++ (List.range 13).map (opWord 6)
theorem issues_word : everyOp.all (fun w => chkOk w && (takeCycle (runOf freeImage) 0 freeImage 0).2 &&
      resourceFree (operandsReady (runOf freeImage) core0 freeImage 0) 0 0 w
        (getCore (operandsReady (runOf freeImage) core0 freeImage 0) 0 0).descs) = true ∧
    everyOp.map wOpc = [0, 1, 2, 3, 4, 5] ++ List.replicate 13 6 ∧ (everyOp.drop 6).map vectFn = List.range 13 ∧
    chkOk (BitVec.ofNat 128 80) = false := by decide +kernel

theorem op_unwritten : (opUses (opWord 2 0)).find? (fun d => (mfind (getCore (runOf freeImage) 0 0).descs d).isNone) = some 0 := by decide +kernel
def written0 : State := setCore (runOf freeImage) 0 0 { CoreSt.init with descs := [(0, 2 * 2 ^ 56)] }
theorem op_written : (opUses (opWord 6 0)).all (fun d => (mfind (getCore written0 0 0).descs d).isSome) = true := by decide +kernel

theorem part_of : partOf (runOf freeImage) 0 = some (0, freeImage) ∧ clusterGoes (runOf freeImage) 0 = true := by decide +kernel
def flying : InFlight := ⟨0, opWord 6 0, [(0, 2 * 2 ^ 56)], 0, 0, 100, 5, 0, 0, [], 0, []⟩
def flyState : State := setCore (runOf freeImage) 0 0 { CoreSt.init with flight := [flying] }
theorem completes : (getCore flyState 0 0).flight.find? (fun f => f.ix == 0) = some flying ∧ flying.due ≤ clTime flyState 0 ∧
    unitsRead flying = true ∧ partOf flyState 0 = some (0, freeImage) := by decide +kernel
theorem window_opens : windowHere freeImage 0 (periodTick (runOf freeImage) 0 freeImage) (schedCyc (runOf freeImage) 0) = some 0 ∧
    (getCl (atCycle (runOf freeImage) 0 0 5).1 0).resole.window = none ∧ schedCyc (runOf freeImage) 0 = 5 ∧
    (atCycle (runOf freeImage) 0 0 5).2.isSome = true := by decide +kernel
def flag0 : Flag := ⟨100, 4, 0, 0, 0, 1, 0, none⟩
def resoles : State := cl0 (fun c => { c with resole := { Resole.init with window := some (0, 10, 0), work := some (flag0, 1, 0) } }) (runOf freeImage)
theorem resole_ends : (getCl resoles 0).resole.work = some (flag0, 1, 0) ∧ (getCl resoles 0).resole.window = some (0, 10, 0) ∧
    0 ≤ clTime resoles 0 ∧ clusterGoes resoles 0 = true := by decide +kernel

theorem gate_elsewhere : (clusterGoes (runOf runImage) 0 && decide (periodTick (runOf runImage) 0 runImage = 0) &&
    decide (schedCyc (runOf runImage) 0 = 6)) = false := by decide +kernel
theorem gate_passed : (getCl (cl0 (fun c => { c with passed := some (100, 5) }) (runOf runImage)) 0).passed =
    some ((runOf runImage).lace.tick, schedCyc (runOf runImage) 0) := by decide +kernel
theorem gate_holds : partOf (runOf runImage) 0 = some (0, runImage) ∧ clusterGoes (runOf runImage) 0 = true ∧
    (waiters (runOf runImage) runImage 0 0 5).find? (fun w => !sbGet (runOf runImage) 0 w.1 w.2) = some (1, 9) ∧
    (getCl (runOf runImage) 0).asleep = false ∧ (getCl (runOf runImage) 0).passed ≠ some (100, 5) := by decide +kernel
theorem gate_sleeps : let s := cl0 (fun c => { c with asleep := true, lateAt := 1 }) (runOf runImage)
    (getCl s 0).asleep = true ∧ (getCl s 0).passed ≠ some (s.lace.tick, schedCyc s 0) ∧ clusterGoes s 0 = true := by decide +kernel
theorem gate_opens : (waiters (sbSet (runOf runImage) 0 1 9 true) runImage 0 0 5).all
    (fun w => sbGet (sbSet (runOf runImage) 0 1 9 true) 0 w.1 w.2) = true := by decide +kernel

theorem transfer_starts : activeImage (runOf freeImage) 0 = some freeImage ∧ freeImage.xfer[0]? = some (5 * 2 ^ 16) ∧
    (getPart (runOf freeImage) 0).runs = true ∧ (getPort (runOf freeImage) (xPort (5 * 2 ^ 16))).tx = [] ∧ xLcl (5 * 2 ^ 16) = 0 ∧
    xPtick (5 * 2 ^ 16) = 0 ∧ xSend (5 * 2 ^ 16) = 5 := by decide +kernel
theorem point_taken : ∃ u q, atCycle (runOf freeImage) 0 0 5 = (u, some q) := pair_some _ (by decide +kernel)
theorem awl_starts : freeImage.awl[0]? = some awlEnt ∧ aLcl awlEnt = 0 ∧ aPtick awlEnt = 0 ∧ aStart awlEnt = 5 ∧
    (routeOf (runOf freeImage) 0 0).isNone = true ∧ (getAwl (runOf freeImage) 0).flight = [] := by decide +kernel
def queued : State := setAwl ready 303 { Awl.init with queue := [(awlEnt, 0)] }
theorem awl_unscheduled : (getAwl queued 303).queue = [(awlEnt, 0)] ∧ clusterRuns queued 303 = false ∧ queued.dev.mode ≠ .keeper ∧
    queued.dev.mode ≠ .standby := by decide +kernel
def inFlight0 : AwlFlight := ⟨0, awlEnt, 0, false, [], [], 100, 0⟩
theorem awl_completes : (getAwl (setAwl ready 0 { Awl.init with flight := [inFlight0] }) 0).flight.find?
    (fun f => f.ix == 0 && decide (f.due ≤ ready.cyc)) = some inFlight0 := by decide +kernel
def redHead : Nat := 5 * 2 ^ 16 + 1 * 2 ^ 56 + 32 * 2 ^ 80
theorem reduction_starts : freeImage.reduce[0]? = some (redHead, [0]) ∧ (getAwl (runOf freeImage) (rLcl redHead)).reds = [] ∧
    rPtick redHead = 0 ∧ rStart redHead = 5 := by decide +kernel
def red0 : Reduction := ⟨0, 0, [], 0⟩
def red1 : Reduction := ⟨0, 1, [], 0⟩
def redState (r : Reduction) : State := sbSet (setAwl (runOf freeImage) 0 { Awl.init with reds := [r] }) 0 0 0 true
theorem reduction_adds : (getAwl (redState red0) 0).reds.find? (fun r => r.ix == 0) = some red0 ∧ red0.next < rNc redHead ∧
    (atCycle (redState red0) 0 (redAt freeImage redHead 0).1 (redAt freeImage redHead 0).2).2.isSome = true := by decide +kernel
theorem reduction_ends : (getAwl (redState red1) 0).reds.find? (fun r => r.ix == 0) = some red1 ∧ rNc redHead ≤ red1.next ∧
    clusterGoes (redState red1) 0 = true ∧ red1.doneAt ≤ clTime (redState red1) 0 := by decide +kernel

theorem mask_point : freeImage.lacePts[0]? = some (lpt 1 0) ∧ ptType (lpt 1 0) = 1 := by decide +kernel
theorem serving_points : (pointGo (runOf freeImage) 0 1 2).2 = some (0, freeImage, 0) ∧ (pointGo (runOf freeImage) 0 2 3).2 = some (0, freeImage, 0) ∧
    (pointGo (runOf freeImage) 0 4 7).2 = some (0, freeImage, 0) ∧ (sampleEnt (pointGo (runOf freeImage) 0 1 2).1 0 0).valid = true := by decide +kernel
def armed : State := { runOf freeImage with routing := ⟨[], [(0, ⟨3, 100, 1⟩)], []⟩ }
theorem expert_point : (getPart armed 0).active = some 0 ∧ mfind armed.routing.revs 0 = some ⟨3, 100, 1⟩ ∧
    freeImage.lacePts[3]? = some (lpt 4 0) ∧ ptType (lpt 4 0) = 4 ∧ periodTick armed 0 freeImage = ptPtick (lpt 4 0) ∧
    armed.lace.phase = ptCycle (lpt 4 0) ∧ 100 ≤ armed.lace.tick ∧ freeImage.lastId = 1 := by decide +kernel

theorem sleeps : hintAt (runOf freeImage) 0 0 0 = some (hint 1 0) ∧ hKind (hint 1 0) = 1 ∧ (getCl (runOf freeImage) 0).asleep = false ∧
    hintAt (runOf freeImage) 0 1 0 = some (hint 3 2) ∧ hKind (hint 3 2) = 3 := by decide +kernel
def asleep : State := cl0 (fun c => { c with asleep := true, waking := true }) (runOf freeImage)
theorem wakes : hintAt asleep 0 2 1 = some (hint 0 0) ∧ hKind (hint 0 0) = 0 ∧ (getCl asleep 0).asleep = true ∧
    hintAt asleep 0 3 1 = some (hint 2 2) ∧ hKind (hint 2 2) = 2 ∧ freeImage.wake[2]? = some (hint 0 0) ∧ (getCl asleep 0).waking = true := by
  decide +kernel

/-! ## Lace -/

def sy (ty tick phase arg : Nat) : Word128 := mkSym ty 7 3 tick phase arg
/-- Port 0 trained, this package node 0 with root 3 behind port 0. -/
def linked (s : State) : State :=
  setPort { s with lace := { s.lace with parent := 0, root := 3 } } 0 { PortSt.init with state := .up, const := 192 }
def lk : State := linked (locked running)
def rows0 : List Nat := [1, 2, 3, 4, 0x10, 0x11, 0x20, 0x21, 0x22, 0x23, 0x24, 0x30]
theorem symbol_gate : portUp running 0 = false ∧ yType (sy 1 100 0 0) ≠ 2 ∧ rows0.all (fun ty => portUp lk 0 && yType (sy ty 100 5 0) == ty &&
    chkOk (sy ty 100 5 0) && !chkOk (sy ty 100 5 0 ^^^ 0x100)) = true := by decide +kernel
theorem symbol_seen : sameSym (symKey (sy 0x21 300 0 0)) (symKey (sy 0x21 300 0 0)) = true := by decide +kernel

theorem sync_taken : arrives lk 0 1 (sy 1 100 5 0) ∧ lk.lace.mode ≠ .off ∧ lk.lace.mode ≠ .electing ∧ lk.lace.root ≠ pnode lk ∧
    (0 : Port).val = lk.lace.parent := by unfold arrives; decide +kernel
def acquiring : State := { lk with lace := { lk.lace with mode := .acquiring } }
theorem epoch_taken : arrives acquiring 0 2 (sy 2 100 0 0) ∧ acquiring.lace.mode = .acquiring ∧ acquiring.lace.parent = 0 ∧
    arrives lk 0 2 (sy 2 100 0 0) ∧ laceRuns lk = true := by unfold arrives; decide +kernel
theorem config_taken : arrives lk 0 4 (sy 4 0 64 2048) := by unfold arrives; decide +kernel
def electing : State := { lk with lace := { lk.lace with mode := .electing } }
theorem root_ranked : arrives electing 0 3 (sy 3 0 0 0) ∧ electing.lace.mode ≠ .off ∧ yOrigin (sy 3 0 0 0) ≠ pnode electing ∧
    laceRuns electing = false := by unfold arrives; decide +kernel
theorem root_known : arrives lk 0 3 (sy 3 0 0 0) ∧ yOrigin (sy 3 0 0 0) = lk.lace.root ∧ laceRuns lk = true ∧
    arrives lk 0 3 (mkSym 3 0 9 0 0 0) ∧ yOrigin (mkSym 3 0 9 0 0 0) ≠ lk.lace.root ∧
    yOrigin (mkSym 3 0 9 0 0 0) = ({ lk with lace := { lk.lace with standby := 9 } } : State).lace.standby := by unfold arrives; decide +kernel

theorem flooded : (∀ x ∈ lk.lace.seen, sameSym (symKey (sy 0x11 100 5 0)) x = false) ∧ arrives lk 0 0x11 (sy 0x11 100 5 0) ∧
    laceRuns (forwardedOn lk 0 (sy 0x11 100 5 0)) = true ∧ arrives lk 0 0x20 (sy 0x20 100 5 0) ∧ arrives lk 0 0x10 (sy 0x10 100 5 1) := by
  unfold arrives; decide +kernel
theorem flooded_held : arrives lk 0 0x21 (sy 0x21 200 0 1) ∧ holdsFor (forwardedOn lk 0 (sy 0x21 200 0 1)) (sy 0x21 200 0 1) ∧
    arrives lk 0 0x22 (sy 0x22 200 0 0) ∧ holdsFor (forwardedOn lk 0 (sy 0x22 200 0 0)) (sy 0x22 200 0 0) := by
  unfold arrives holdsFor; decide +kernel
theorem flooded_freq : arrives lk 0 0x23 (sy 0x23 400 0 4) ∧ holdsFor (forwardedOn lk 0 (sy 0x23 400 0 4)) (sy 0x23 400 0 4) := by
  unfold arrives holdsFor; decide +kernel
theorem flooded_adopt : arrives lk 0 0x24 (sy 0x24 200 0 3) ∧
    holdsFor (recordAdopter (forwardedOn lk 0 (sy 0x24 200 0 3)) 3 3) (sy 0x24 200 0 3) := by unfold arrives holdsFor; decide +kernel
theorem flooded_mask : arrives lk 0 0x30 (sy 0x30 200 0 0) ∧ holdsFor (forwardedOn lk 0 (sy 0x30 200 0 0)) (sy 0x30 200 0 0) := by
  unfold arrives holdsFor; decide +kernel

def voted : State := { standby with now := msec, lace := { Lace.init with mode := .electing, best := some (0, 0) } }
theorem election_own : voted.lace.mode = .electing ∧ voted.lace.betterAt + msec ≤ voted.now ∧ voted.lace.best = some (0, 0) ∧ pnode voted = 0 := by
  decide +kernel
def votedFar : State :=
  { voted with lace := { voted.lace with best := some (0, 3), arrivals := [⟨0, 0, 3, 192, 1⟩] }, ports := lk.ports }
theorem election_far : votedFar.lace.best = some (0, 3) ∧ pnode votedFar ≠ 3 ∧
    (takeParent { votedFar with lace := { votedFar.lace with root := 3, standby := 0xffff } } 3).lace.parent = 0 ∧
    (takeParent { votedFar with lace := { votedFar.lace with root := 3, standby := 0xffff } } 3).lace.depth ≤ 8 := by decide +kernel
def again : State := { lk with now := msec, lace := { lk.lace with reelect := true, best := some (0, 3), second := some (1, 9) } }
theorem election_again : laceRuns again = true ∧ again.lace.reelect = true ∧ again.lace.betterAt + msec ≤ again.now ∧ (3 : Nat) = again.lace.root ∧
    pnode again ≠ 3 := by decide +kernel
def late : State := { lk with cyc := 8192, lace := { lk.lace with alt := 1 } }
theorem lace_timers : late.lace.mode = .locked ∧ late.lace.syncSentAt + 512 ≤ late.cyc ∧ late.lace.parent ≠ 0xff ∧
    late.lace.lastSyncAt + 4096 ≤ late.cyc ∧ late.lace.alt ≠ 0xff ∧ late.lace.root ≠ pnode late ∧ late.lace.rootSyncAt + 8192 ≤ late.cyc := by
  decide +kernel
def leaderless : State := { late with lace := { late.lace with mode := .holdover, standby := 0, phase := 0 } }
theorem root_takeover : leaderless.lace.mode = .holdover ∧ leaderless.lace.standby = pnode leaderless ∧ leaderless.lace.phase = 0 := by
  decide +kernel

def lastCycle : State := { lk with dev := { lk.dev with mode := .ready }, lace := { lk.lace with phase := 2047 } }
theorem tick_ends : endsNow lastCycle = some (0, false) ∧ forcedTick lastCycle lastCycle.lace.tick = false ∧ 0 < lastCycle.lace.q ∧
    endsNow (clusterCycles lastCycle) = some (0, false) := by decide +kernel
theorem tick_ends_over : endsNow { lastCycle with lace := { lastCycle.lace with phase := 3071, votes := [⟨100, 20, 0⟩] } } = some (16, true) := by
  decide +kernel
theorem faulted_stop : ({ lk with lace := { lk.lace with stopFrom := some 100 } } : State).lace.stopFrom = some 100 ∧ 100 ≤ lk.lace.tick := by
  decide +kernel

/-- At phase 0 of tick 100, with one timed symbol due. -/
def dueState (m : DevState) (x : Timed) (im : Image) (runs : Bool) : State :=
  setPart (loaded { inMode m with dev := { Device.init with mode := m, armed := true },
                                  lace := { Lace.init with mode := .locked, tick := 100, tickLen := 2048, timed := [x] } } im) 0 ⟨some 0, 0, runs, none⟩
def undue (s : State) : State := { s with lace := { s.lace with timed := [] } }
def startSym : Timed := ⟨0x21, 0, 0, 100, 1, 60⟩
theorem start_due : dueSym (dueState .ready startSym img0 false) 0x21 = some (undue (dueState .ready startSym img0 false), startSym) := by
  rfl
theorem start_parts : (List.range 8).filter (fun p => fbit startSym.arg p && (activeImage (undue (dueState .ready startSym img0 false)) p).isSome &&
    !(getPart (undue (dueState .ready startSym img0 false)) p).runs) ≠ [] ∧ (undue (dueState .ready startSym img0 false)).dev.armed = true := by
  decide +kernel
def switchSym : Timed := ⟨0x22, 0, 0, 100, 0, 60⟩
def switchImage : Image := { img0 with lacePts := [5 * 2 ^ 32] }
theorem switch_due : ∃ u, dueSym (dueState .running switchSym switchImage true) 0x22 = some (u, switchSym) ∧ inRun u = true := by
  refine ⟨undue (dueState .running switchSym switchImage true), ?_, by decide +kernel⟩
  rfl
theorem switch_part : swPart switchSym.arg = (0 : Part).val := by decide +kernel
def adoptSym : Timed := ⟨0x24, 5, 0, 100, 3, 60⟩
theorem adopt_due : dueSym (dueState .running adoptSym img0 true) 0x24 = some (undue (dueState .running adoptSym img0 true), adoptSym) := by
  rfl

/-! ## Objects, tiles and lasts -/

def entry (op flags id a b m : Nat) : List Byte :=
  leBytes 1 op ++ leBytes 1 0 ++ leBytes 1 flags ++ leBytes 5 0 ++ leBytes 8 id ++ leBytes 8 a ++ leBytes 8 b ++ leBytes 8 m ++ leBytes 24 0
/-- The secure ring at 0x3_0000 holds one entry; DRAM and pool have room. -/
def ring (m : DevState) (objs : SMap ObjEnt) (e : List Byte) : State :=
  memPut { withO (inMode m) [(0x4012, 1, 0x30000), (0x4001, 1, 0x100000), (0x4001, 2, 0x1000000), (0xa000, 0x0d, 0x100000), (0xa000, 0x0e, 0x1000000),
      (0xa000, 0x0f, 8), (0x4011, 2, 16)] with
    memSt := { MemSt.init with objs := objs, sTail := 1 } } 0x30000 e
def createRing (cls : Nat) : State := ring .ready [] (entry 1 0 7 0x100000000000 16384 cls)
theorem create_fails : headIs (ring .ready [] (entry 1 0 7 0 16384 1)) true 1 ∧ headCreateStatus (ring .ready [] (entry 1 0 7 0 16384 1)) true ≠ 1 := by
  unfold headIs; decide +kernel
theorem create_hot : headIs (createRing 1) true 1 ∧ headCreateStatus (createRing 1) true = 1 ∧
    field (fieldB (headEntry (createRing 1) true) 32 8) 0 8 ≠ 0 := by unfold headIs; decide +kernel
theorem create_pinned : headCreateStatus (createRing 0) true = 1 := by decide +kernel
theorem create_reserved : headReady (ring .running [] (entry 6 0 7 0 0 0)) true = true ∧
    5 < fieldB (headEntry (ring .running [] (entry 6 0 7 0 0 0)) true) 0 1 ∧ fieldB (headEntry (ring .running [] (entry 0 0 0 0 0 0)) true) 0 1 = 0 := by
  decide +kernel

def obj1 : ObjEnt := { objEnt 1 with flags := 2, dramHome := 0x200000 }
def named1 (op a b m : Nat) : State := ring .ready [(0, obj1)] (entry op 0 7 a b m)
theorem class_hot : headIs (named1 2 1 0 0) true 2 ∧ names (named1 2 1 0 0) true (fun _ => 2 < 1 || 15 < 0 || 1 / 65536 != 0) 0 obj1 ∧
    (breaksListing (named1 2 1 0 0) 7 1 0 || imageHolds (named1 2 1 0 0) 7) = false := by unfold headIs names; decide +kernel
theorem class_held : breaksListing (loaded (named1 2 2 0 0) { img0 with objects := [7 + 2 ^ 64] }) 7 2 0 = true := by decide +kernel
theorem class_pinned : pinFits (named1 2 0 0 0) obj1 0 = true ∧ breaksListing (named1 2 0 0 0) 7 0 0 = false ∧
    pinFits (withO (named1 2 0 0 0) [(0xa000, 0x0f, 0)]) obj1 0 = false := by decide +kernel
theorem class_cold : field (fieldB (headEntry (named1 2 2 0 0) true) 16 8) 0 8 = 2 ∧ names (named1 2 2 0 0) true (fun _ => false) 0 obj1 ∧
    ((startClass (named1 2 2 0 0) 0 obj1 2 0).memSt.migs.any (fun m => m.forClass && (tilesOf obj1).contains m.tile)) = false := by
  unfold names; decide +kernel
def copied : State := putTile (named1 2 2 0 0) obj1 (0x100000000000 / 16384) ⟨true, false, false, 0, 0, 5⟩
theorem class_cold_moves : ((startClass copied 0 obj1 2 0).memSt.migs.any (fun m => m.forClass && (tilesOf obj1).contains m.tile)) = true := by
  decide +kernel
theorem destroy : headIs (named1 5 0 0 0) true 5 ∧ names (named1 5 0 0 0) true (fun _ => false) 0 obj1 ∧ listings (named1 5 0 0 0) 7 = [] ∧
    imageHolds (named1 5 0 0 0) 7 = false := by unfold headIs names; decide +kernel
theorem destroy_held : listings (loaded (named1 5 0 0 0) { img0 with objects := [7] }) 7 ≠ [] := by decide +kernel

theorem obj_read : (named1 3 0 256 0x40000).memSt.cmd = none ∧ headIs (named1 3 0 256 0x40000) true 3 ∧
    names (named1 3 0 256 0x40000) true (copyBad (headEntry (named1 3 0 256 0x40000) true)) 0 obj1 ∧ isFabAddr 0x40000 = false ∧
    fieldB (headEntry (named1 3 0 256 0x40000) true) 32 8 = 0x40000 := by unfold headIs names; decide +kernel
def fabOp : Nat := 40 * 2 ^ 48 + 0x100000000000
theorem obj_read_fabric : isFabAddr fabOp = true ∧ (faWorld fabOp = true → true = true) ∧
    names (named1 3 0 256 fabOp) true (copyBad (headEntry (named1 3 0 256 fabOp) true)) 0 obj1 := by unfold names; decide +kernel
theorem obj_write : headIs (named1 4 16128 256 0x40000) true 4 ∧ imageHolds (named1 4 16128 256 0x40000) 7 = false ∧ obj1.writable = true ∧
    names (named1 4 16128 256 0x40000) true (copyBad (headEntry (named1 4 16128 256 0x40000) true)) 0 obj1 := by unfold headIs names; decide +kernel
def copying (op : Nat) (c : ObjCmd) : State :=
  let s := named1 op 0 256 fabOp
  { s with memSt := { s.memSt with cmd := some c } }
theorem obj_goes_on : (copying 3 ⟨1, 0, 0, 0⟩).memSt.cmd = some ⟨1, 0, 0, 0⟩ ∧ cmdsRun (copying 3 ⟨1, 0, 0, 0⟩) = true ∧
    fieldB (headEntry (copying 3 ⟨1, 0, 0, 0⟩) true) 0 1 = 3 ∧ fieldB (headEntry (copying 3 ⟨1, 0, 0, 0⟩) true) 24 8 = 256 ∧
    objById (copying 3 ⟨1, 0, 0, 0⟩) (fieldB (headEntry (copying 3 ⟨1, 0, 0, 0⟩) true) 8 8) = some (0, obj1) ∧
    fieldB (headEntry (copying 4 ⟨1, 256, 0, 0⟩) true) 0 1 = 4 := by decide +kernel

theorem tile_access : classify 0x100000000000 = .objSpace ∧ classify 0x1fffffffffff = .objSpace := by decide +kernel
def moving (ab : Nat) (fc : Bool) : State :=
  { ready with memSt := { MemSt.init with objs := [(0, { obj1 with state := 2 })], migs := [⟨0x100000000000 / 16384, some (0, 5), ab, fc⟩] } }
theorem migration : (moving 2 false).memSt.migs.find? (fun m => m.tile == 0x100000000000 / 16384) = some ⟨0x100000000000 / 16384, some (0, 5), 2, false⟩ ∧
    (objAt (moving 2 true) (0x100000000000 / 16384 * 16384)).isSome = true ∧ (moving 3 true).dev.mode ≠ .keeper ∧ (moving 3 true).dev.mode ≠ .alarm ∧
    (objAt (placeCopy { moving 2 true with memSt := { (moving 2 true).memSt with migs := [] } } obj1 (0x100000000000 / 16384) 0 5)
      0x100000000000).isSome = true := by decide +kernel
/-- A class change whose last migration ends, and one that another migration keeps going. -/
def moved (s : State) : State := placeCopy s obj1 (0x100000000000 / 16384) 0 5
def changeEnds (v : State) : Bool := (v.memSt.objs.find? (fun e => e.2.state == 2 && !classMigs v e.2)).isSome
theorem migration_ends : changeEnds (moved { moving 2 true with memSt := { (moving 2 true).memSt with migs := [] } }) = true ∧
    changeEnds (moved (moving 2 true)) = false := by decide +kernel
theorem scrub : ready.now < ready.memSt.scrubTime + getO ready 0x4003 5 * msec ∧ mget 0 ready.memSt.scrubAt 15 < 28672 := by decide +kernel

/-! ## A whole last container: one cluster without op words, a lace point of SLOT_MASK and one of SWITCH in its one period tick -/

def lastSecs : List (Nat × List Byte) :=
  [(1, leBytes 512 0), (4, leBytes 16 0), (5, f32 2 ++ leBytes 12 0 ++ f64 (2 ^ 32 + 0x1ff * 2 ^ 40) ++ f64 (5 * 2 ^ 32 + 0x1ff * 2 ^ 40)),
    (10, [1, 1] ++ f16 1 ++ leBytes 12 0 ++ leBytes 272 0)]
/-- Section table entries of sections that follow one another from an offset on. -/
def secTab : Nat → List (Nat × List Byte) → List Byte
  | _, [] => []
  | o, (t, b) :: r => f8 t ++ leBytes 3 0 ++ f32 o ++ f32 b.length ++ f32 (crc32 b) ++ secTab (o + b.length) r
def lastImg (n : Nat) : List Byte :=
  f16 n ++ [0, 4] ++ leBytes 12 0 ++ f32 1 ++ leBytes 236 0 ++ secTab 320 lastSecs ++ lastSecs.flatMap (·.2)
def lastHdr (tick : Nat) : List Byte :=
  let h := f32 0x5453414c ++ f16 1 ++ f16 128 ++ f64 3 ++ f64 0 ++ f16 1 ++ [0, 4] ++ f32 tick ++ f32 1 ++ leBytes 88 0
  h ++ f32 (crc32 h)
def lastFile (tick n : Nat) : List Byte :=
  lastHdr tick ++ (f16 n ++ leBytes 6 0 ++ f64 256 ++ f64 (lastImg n).length ++ f32 (crc32 (lastImg n)) ++ leBytes 4 0) ++ leBytes 96 0 ++ lastImg n
/-- A load into slot 2, on a node whose C-die 0 has the clusters of a mask, of a container with a tick length. -/
def loadState (health tick : Nat) : State :=
  let s := withO ready [(0xa000, 3, 1), (0x2010, 1, health)]
  { s with mem := (lastFile tick (lnode s)).zipIdx.filterMap (fun e => if e.1 = 0 then none else some (e.2, e.1)), loading := some ⟨2, 0, 1⟩ }
/-- What the checks answer, and the C-die that cannot be bound. -/
def loadTest (s : State) : Option (Nat × Nat) × Option Nat :=
  let v := (readAt s Who.pkg 0 128).1
  let src := readLast v 0 (lnode v)
  let im := parseImage src (lnode v)
  (loadChecks v ⟨2, 0, 1⟩ src im, match bindLoad v im with | .ok _ => none | .error d => some d)
theorem load_accepted : (loadState 0xfffff 2048).loading = some ⟨2, 0, 1⟩ ∧ loadTest (loadState 0xfffff 2048) = (none, none) := by decide +kernel
theorem load_unbound : (loadTest (loadState 0 2048)).1 = none ∧ (loadTest (loadState 0 2048)).2 = some 0 := by decide +kernel
theorem load_refused : (loadTest ({ ready with loading := some ⟨2, 0, 1⟩ } : State)).1 = some (1, 0) := by decide +kernel

/-! ## Links and the codec -/

theorem codec_group : (List.replicate 264 (0 : Byte)).length = 264 ∧ tableFits none ∧ (encodeGroup true none (List.replicate 264 0)).2 = 0 := by
  refine ⟨by decide +kernel, trivial, by decide +kernel⟩
/-- A scale of 0xff in block 7 with codes that no mode shortens is written in mode 5; one without the path's enable is raw. -/
def hardGroup (sc : Byte) : List Byte := (List.range 256).map (fun i => BitVec.ofNat 8 (128 + (77 * i) % 128)) ++ List.replicate 7 1 ++ [sc]
theorem codec_modes : (encodeGroup true none (hardGroup 0xff)).2 = 5 ∧ (encodeGroup false none (hardGroup 1)).2 = 6 := by decide +kernel
theorem table_fits : tableFits (some (List.range 256, 3)) :=
  ⟨by decide +kernel, by decide, by decide +kernel, List.Perm.refl _⟩
theorem built : (buildTable [1]).isSome = true ∧ buildTable [0] = none := by decide +kernel
theorem build_done : ({ ready with codec := ⟨1, [], 0, some (1 :: 0 :: 2 :: List.range 256)⟩ } : State).codec.building = some (1 :: 0 :: 2 :: List.range 256) ∧
    ({ ready with codec := ⟨1, [], 0, some [2, 3, 0]⟩ } : State).codec.building = some (2 :: 3 :: 0 :: []) := by decide +kernel

def up (f : PortSt → PortSt) : State := setPort running 0 (f { PortSt.init with state := .up, const := 192 })
def up0 : State := up id
def blk (k : Nat) : List Byte := mkBlock ⟨k, true, 0, []⟩ false
theorem block_good : takes up0 0 (blk 1) (blk 1) true (trackBlock up0 0 true false) .up ∧ (unitOf (blk 1)).kind = 1 := by
  unfold takes; decide +kernel
theorem block_plain : takes up0 0 (blk 6) (blk 6) true (trackBlock up0 0 true false) .up ∧ (unitOf (blk 6)).kind = 6 := by
  unfold takes; decide +kernel
def badBlk : List Byte := (blk 1).set 0 1 |>.set 1 1 |>.set 2 1 |>.set 3 1
theorem block_bad : ∃ t, takes up0 0 badBlk (rsDecode (padTo 136 badBlk)).1 false t .up ∧ (getPort t 0).discarding = false ∧
    (unitOf (rsDecode (padTo 136 badBlk)).1).kind = 1 :=
  ⟨trackBlock up0 0 false (rsDecode (padTo 136 badBlk)).2, by unfold takes; decide +kernel, by decide +kernel, by decide +kernel⟩
theorem block_discarding : takes (up (fun x => { x with discarding := true, sinceAck := 63 })) 0 (blk 1) (blk 1) true
      (trackBlock (up (fun x => { x with discarding := true, sinceAck := 63 })) 0 true false) .up ∧ (unitOf (blk 1)).replay = false ∧
    (unitOf (mkBlock ⟨1, true, 0, []⟩ true)).replay = true := by unfold takes; decide +kernel
/-- In training: a port that has counted 63 good blocks gains lock with the next, another has not. -/
def training (l : List Bool) : State :=
  setPort running 0 { PortSt.init with state := .training, blocks := l, lock := l.length == 63, trainStep := 2 }
theorem block_training : takes (training (List.replicate 63 true)) 0 (blk 7) (blk 7) true (trackBlock (training (List.replicate 63 true)) 0 true false)
      .training ∧ (getPort (trackBlock (training (List.replicate 63 true)) 0 true false) 0).lock = true ∧ (unitOf (blk 7)).kind = 7 ∧
    takes (training []) 0 (blk 7) (blk 7) true (trackBlock (training []) 0 true false) .training ∧
    (getPort (trackBlock (training []) 0 true false) 0).lock = false := by unfold takes; decide +kernel
theorem block_refused : (getPort running 63).state = .down := by decide +kernel

def heldFlit (n : Nat) : Kept5 := ⟨9, ⟨1, true, 0, []⟩, n⟩
theorem control_words : (getPort up0 0).state = .up ∧ (heldFlit 3).seq = 9 ∧
    (getPort (up (fun x => { x with replay := [heldFlit 3] })) 0).replay.find? (fun k => k.seq == 9) = some (heldFlit 3) ∧
    (getPort (up (fun x => { x with replay := [heldFlit 2] })) 0).replay.find? (fun k => k.seq == 9) = some (heldFlit 2) ∧
    field (BitVec.ofNat 128 (4 * 2 ^ 8 + 9 * 2 ^ 16)).toNat 8 8 = 4 ∧ field (BitVec.ofNat 128 (5 * 2 ^ 8)).toNat 8 8 = 5 ∧
    field (BitVec.ofNat 128 7).toNat 0 8 = 7 := by decide +kernel
def probing : State := setPort running 0 { PortSt.init with state := .training, probeOut := true, rtts := [4992] }
theorem control_training : (getPort probing 0).state = .training ∧ (getPort probing 0).probeOut = true ∧ (getPort probing 0).rtts.length < 1024 := by
  decide +kernel

def rxHead (len : Nat) : Nat := len * 2 ^ 48
theorem transfer_head : (getPort (setPort (runOf freeImage) 0 (getPort up0 0)) 0).state = .up ∧
    (clusterRuns (runOf freeImage) (hLcl (rxHead 0)) && physOf (runOf freeImage) (hLcl (rxHead 0)) != 0xff) = true ∧
    hAddr (rxHead 0) + hLen (rxHead 0) ≤ 0x10000 ∧ ¬ hAddr (rxHead 0 + 2 ^ 32) + hLen (rxHead 0 + 2 ^ 32) ≤ 0x10000 ∧
    clusterRuns up0 0 = false := by decide +kernel
def rx (done : Bool) (drop : Bool) : RxTransfer := ⟨rxHead 128, [], done, 0, 0, drop, [], 0, false⟩
theorem transfer_data : (getPort up0 0).rx.find? (fun r => !r.complete) = none ∧
    (getPort (up (fun x => { x with rx := [rx false false] })) 0).rx.find? (fun r => !r.complete) = some (rx false false) ∧
    (true && !(rx false true).discard && false) = false := by decide +kernel
def lateRx : State :=
  let s := up (fun x => { x with rx := [rx true false] })
  { s with lace := { s.lace with cyc0 := 10000 } }
theorem transfer_due : (getPort (landPort lateRx 0) 0).rx = [rx true false] ∧ (rx true false).complete = true ∧ (rx true false).lost = false ∧
    rxDue (landPort lateRx 0) 0 (rx true false) = true ∧
    cycAfter (laceCycle lateRx) (releaseAt lateRx 0 (rxHead 128)) = true := by decide +kernel

def clocked : State :=
  { up (fun x => { x with sinceAck := 1, replay := [heldFlit 0], rtt := 800 }) with cyc := 400, now := 100 * usec }
theorem port_timers : (getPort clocked 0).state = .up ∧ 0 < (getPort clocked 0).sinceAck ∧ (getPort clocked 0).ackSentAt + 256 ≤ clocked.cyc ∧
    (getPort clocked 0).replay ≠ [] ∧ (getPort clocked 0).ackAt + 4 * ceilDiv (getPort clocked 0).rtt 8 ≤ clocked.cyc ∧
    (getPort clocked 0).probeAt + 100 * usec ≤ clocked.now := by decide +kernel

theorem training_starts : trainOk ready = true ∧ (getPort ready 63).state = .down ∧ getO ready (0x5000 + 63) 1 = 1 ∧ (getPort ready 63).failAt = 0 ∧
    getO (withO ready [(0x5000, 1, 0)]) (0x5000 + 0) 1 ≠ 1 ∧ (getPort (setPort ready 5 { PortSt.init with state := .disabled }) 5).state = .disabled := by
  decide +kernel
def failed : State := { setPort ready 0 { PortSt.init with failAt := 1 } with now := 100 * msec }
theorem training_again : (getPort failed 0).failAt ≠ 0 ∧ (getPort failed 0).failAt - 1 + 100 * msec ≤ failed.now ∧ trainOk failed = true := by
  decide +kernel
def trains : State := setPort ready 41 { PortSt.init with state := .training }
theorem training_ends : (getPort trains 41).state = .training ∧ (true = true ∧ 1 ≠ pnode trains) ∧ 4992 ≤ 1600 * 8 ∧
    (getPort trains 41).identIn = false ∧ (getPort trains 41).rtts.length ≠ 1024 ∧
    fixClass (getPort trains 41) (halfUp (4992 + (getPort trains 41).asymAt)) (halfUp (4992 - (getPort trains 41).asymAt)) = some 2 ∧
    fixClass { getPort trains 41 with req := 1 } (halfUp (4992 + (getPort trains 41).asymAt)) (halfUp (4992 - (getPort trains 41).asymAt)) = none := by
  decide +kernel
def measured : PortSt := { PortSt.init with identIn := true, peerPhys := 9, rtts := List.replicate 1024 4992 }
theorem training_measured : measured.identIn = true ∧ measured.rtts.length = 1024 ∧ median measured.rtts = 4992 := by decide +kernel

def trainAt (step : Nat) (f : PortSt → PortSt) : PortSt :=
  (getPort (setPort running 0 (f { PortSt.init with state := .training, trainStep := step })) 0).slotsBegun 0
theorem boundary_training : (trainAt 2 id).state = .training ∧ (trainAt 2 id).trainStep < 3 ∧ 3 ≤ (trainAt 3 id).trainStep ∧ (trainAt 3 id).ctrl = [] ∧
    (trainAt 3 (fun x => { x with ctrl := [1] })).ctrl ≠ [] ∧ (trainAt 4 (fun x => { x with recent := [7] })).trainStep = 4 ∧
    (trainAt 4 (fun x => { x with recent := [7] })).probeOut = false ∧ (trainAt 4 (fun x => { x with recent := [7] })).recent.contains 7 = true := by
  decide +kernel
theorem boundary_lost : ((getPort (up (fun x => { x with state := .lost, downUntil := usec })) 0).slotsBegun 0).state = .lost ∧ running.now < usec := by
  decide +kernel
theorem boundary_replay : (getPort (up (fun x => { x with replayQ := [heldFlit 1] })) 0).replayQ = heldFlit 1 :: [] := by decide +kernel
def w1 : Word128 := BitVec.ofNat 128 1
theorem boundary_words : (getPort (up (fun x => { x with lace := [w1] })) 0).lace ≠ [] ∧ (getPort (up (fun x => { x with lace := [w1] })) 0).sched = [] ∧
    (getPort (up (fun x => { x with ctrl := [w1] })) 0).ctrl ≠ [] ∧ (getPort (up (fun x => { x with ctrl := [w1] })) 0).lace = [] := by decide +kernel
def fl (k : Nat) : Flit := ⟨k, true, 0, []⟩
theorem boundary_sched : (getPort (up (fun x => { x with lace := [w1], ctrl := [w1], sched := [fl 1], recent := [3, 6] })) 0).sched = [fl 1] ∧
    (getPort (up (fun x => { x with lace := [w1], ctrl := [w1], sched := [fl 1], recent := [3, 6] })) 0).recent.contains 3 = true ∧
    (getPort (up (fun x => { x with lace := [w1], ctrl := [w1], sched := [fl 1], recent := [3, 6] })) 0).recent.contains 6 = true := by decide +kernel
theorem boundary_turns : nothingWaits (getPort (up (fun x => { x with mgmt := [fl 5] })) 0) ∧ (getPort (up (fun x => { x with mgmt := [fl 5] })) 0).mgmtCredit ≠ 0 ∧
    pickFab (getPort (up (fun x => { x with mgmt := [fl 5] })) 0) = none ∧ nothingWaits (getPort (up (fun x => { x with fab := [fl 4] })) 0) ∧
    (pickFab (getPort (up (fun x => { x with fab := [fl 4] })) 0)).isSome = true ∧ nothingWaits (getPort up0 0) ∧
    (getPort up0 0).mgmt = [] ∧ pickFab (getPort up0 0) = none := by unfold nothingWaits; decide +kernel

/-! ## Pulls, Ethernet, fabric -/

/-- One pull descriptor at 0x5_0000: queue pair 0, 64 bytes to DRAM. -/
def pullDesc (rsv dest : Nat) : Nat := rsv * 2 ^ 6 + 64 * 2 ^ 32 + dest * 2 ^ 192
def pulls (rsv st : Nat) : State :=
  let s := memPut (withO ready [(0x5090, 3, 0x50000)]) 0x50000 (leBytes 32 (pullDesc rsv 0x60000))
  { s with rdma := { s.rdma with tail := 1, qps := [(0, { QueuePair.init with state := st })] } }
theorem pull_taken : cmdsRun (pulls 0 1) = true ∧ getO (pulls 0 1) 0x5090 6 ≠ (pulls 0 1).rdma.tail ∧
    leNat (peek (pulls 0 1) (getO (pulls 0 1) 0x5090 3 + 32 * (0 % 2 ^ getO (pulls 0 1) 0x5090 4)) 32) = pullDesc 0 0x60000 ∧
    pullBad (pullDesc 0 0x60000) = false ∧ (getQp (pulls 0 1) 0).state = 1 ∧ pullBad (pullDesc 1 0x60000) = true ∧
    (getQp (pulls 0 2) 0).state ≠ 1 := by decide +kernel

/-- Storage port 60 with PCS lock; queue pair 0 whose peer is its own address, so that its own frames are frames for it. -/
def ethCtx : Nat := 0x40 * 2 ^ 96 + 2 ^ 160 + 0x0a000001 * 2 ^ 192 + 2 ^ 120
def ethState (desc : Nat) : State :=
  let s := setPort ready 60 { PortSt.init with state := .ethernet, lock := true, eth := [0, 0x0a000001, 0, 0, 3] }
  { s with now := usec, rdma := { s.rdma with qps := [(0, { QueuePair.init with
    state := 1, ctx := ethCtx, pulls := [⟨desc, 64, 0, 0, 0⟩], reqs := [⟨0, 1, 0, 64, 0, 0⟩], recvPsn := 0 })] } }
def eth0 : State := ethState (pullDesc 0 0x60000)
def frame (op : Nat) (l : List Byte) : List Byte := roceFrame eth0 0 ethCtx (bthBytes op 0x40 0 ++ l)
def respFrame : List Byte := frame 0x10 (List.replicate 68 0)
theorem response_parsed : ethUp eth0 0 = true ∧ parseFrame eth0 0 respFrame = .packet 0 0x10 0 false true (List.replicate 68 0) ∧
    parseFrame eth0 0 (respFrame.dropLast ++ [0x55]) = .packet 0 0x10 0 false false (List.replicate 68 0) ∧
    parseFrame eth0 0 (frame 0x11 [0x60, 0, 0, 0]) = .packet 0 0x11 0 false true [0x60, 0, 0, 0] ∧
    parseFrame eth0 0 ((frame 0x11 [0x61, 0, 0, 0]).dropLast ++ [0x55]) = .packet 0 0x11 0 false false [0x61, 0, 0, 0] ∧
    [0x60, 0x62, 0x61, 0x21, 0x00, 0x1f].map (fun b => let k := beAt [b, 0, 0, 0] 0 1 % 128; (k, k / 32)) =
      [(0x60, 3), (0x62, 3), (0x61, 3), (0x21, 1), (0, 0), (0x1f, 0)] := by decide +kernel
theorem response_out_of_order : 1 ≠ (getQp eth0 0).recvPsn := by decide +kernel
def req0 : RdReq := ⟨0, 1, 0, 64, 0, 0⟩
theorem response_in_order : [pullDesc 0 0x60000, pullDesc 0 0x700000000000, pullDesc 8 (2 ^ 60 + 0x60000)].all (fun desc =>
    (getQp (ethState desc) 0).pulls.head? == some ⟨desc, 64, 0, 0, 0⟩ && (getQp (ethState desc) 0).reqs == [req0] &&
      0 == (getQp (ethState desc) 0).recvPsn && 0x10 == respOpcode req0 (cMtu (getQp (ethState desc) 0).ctx) &&
      (List.replicate 64 (0 : Byte)).length == min (cMtu (getQp (ethState desc) 0).ctx) (req0.bytes - req0.got)) = true := by decide +kernel
theorem response_deposits : (deposit (taken eth0 0 64 req0 []) 0 ⟨pullDesc 0 0x60000, 64, 0, 0, 0⟩ 0 (List.replicate 64 0)).2 = false ∧
    dFabric (pullDesc 0 0x60000) = false ∧
    (deposit (taken (ethState (pullDesc 0 0x700000000000)) 0 64 req0 []) 0 ⟨pullDesc 0 0x700000000000, 64, 0, 0, 0⟩ 0 (List.replicate 64 0)).2 = true ∧
    dFabric (pullDesc 8 (2 ^ 60 + 0x60000)) = true ∧
    (deposit (taken (ethState (pullDesc 8 (2 ^ 60 + 0x60000))) 0 64 req0 []) 0 ⟨pullDesc 8 (2 ^ 60 + 0x60000), 64, 0, 0, 0⟩ 0
      (List.replicate 64 0)).2 = false := by decide +kernel
theorem qp_timeout : (getQp eth0 0).state = 1 ∧ (getQp eth0 0).reqs = req0 :: [] ∧ req0.sentAt + cTimeout (getQp eth0 0).ctx * usec ≤ eth0.now := by
  decide +kernel
def pfc (en : Nat) : List Byte := beBytes 6 0x0180c2000001 ++ beBytes 6 0 ++ beBytes 2 0x8808 ++ beBytes 2 0x0101 ++ beBytes 2 en ++ List.replicate 16 0
theorem pfc_parsed : parseFrame eth0 0 (pfc 8) = .pfc 8 (List.replicate 8 0) ∧ ethPfc eth0 0 < 8 ∧ fbit 8 (ethPfc eth0 0) = true ∧
    fbit 0 (ethPfc eth0 0) = false ∧ parseFrame eth0 0 [] = .dropped := by decide +kernel
theorem link_change : (getPort eth0 (60 + 0)).state = .ethernet ∧ (getPort eth0 (60 + 0)).lock ≠ false := by decide +kernel

/-- A request for this package that stands inside it, with and without a live lease at its place. -/
def pkt (op fl off lease : Nat) (data : List Byte) : Pkt := mkPkt op fl 0 0 5 off 0x31 0x42000 lease 0xff data
def inside (s : State) (p : Pkt) : State := { s with fab := { s.fab with inside := [⟨p, 0, 0, none⟩] } }
/-- `performs` as a Bool, for a request that stands inside. -/
def performsB (s t : State) (p : Pkt) : Bool :=
  pDst p == pnode s && decide (takePkt s .inside p = some t) && !atHopLimit s .inside p && !(targetDie t (pOff p)).any (dieStopped t) &&
    t.dev.mode != .alarm && !t.lace.fenced && !(requestWelts t (portOf s .inside p) p).any (weltFailed t) && decide (mates t p = [])
theorem performs_of (s t : State) (p : Pkt) (h : performsB s t p = true) : performs s .inside p t := by
  simp only [performsB, Bool.and_eq_true, beq_iff_eq, decide_eq_true_eq, Bool.not_eq_true', bne_iff_ne, ne_eq] at h
  obtain ⟨⟨⟨⟨⟨⟨⟨h1, h2⟩, h3⟩, h4⟩, h5⟩, h6⟩, h7⟩, h8⟩ := h
  refine ⟨⟨h1, h2, h3, h4, ?_, ?_, ?_, h7⟩, h8⟩
  · intro q hq; cases hq
  · intro hm; exact absurd hm h5
  · intro hf; rw [h6] at hf; cases hf
def fabBase : State := locked ready
theorem fabric_performs : performs (inside fabBase (pkt 1 0 0x70000 0 [])) .inside (pkt 1 0 0x70000 0 []) fabBase ∧
    performs (inside fabBase (pkt 2 0 0x70000 0 [])) .inside (pkt 2 0 0x70000 0 []) fabBase :=
  ⟨performs_of _ _ _ (by decide +kernel), performs_of _ _ _ (by decide +kernel)⟩
theorem fabric_read : pOp (pkt 1 0 0x70000 0 []) = 1 ∧ classify (pOff (pkt 1 0 0x70000 0 [])) = .dram ∧
    (readAt fabBase (pktWho fabBase (pkt 1 0 0x70000 0 [])) (lineOf 0x70000) 64).2.2.2 = none ∧
    (readAt fabBase (pktWho fabBase (pkt 1 0 0x700000000000 0 [])) (lineOf 0x700000000000) 64).2.2.2 ≠ none ∧
    classify 0x700000000000 = .unmapped ∧ mmioAt 0x700000000000 = false := by decide +kernel
theorem fabric_mmio : performs (inside fabBase (pkt 1 0 0xf000000000 0 [])) .inside (pkt 1 0 0xf000000000 0 []) fabBase ∧
    (match classify 0xf000000000 with | .mmio _ => true | _ => false) = true :=
  ⟨performs_of _ _ _ (by decide +kernel), by decide +kernel⟩
theorem fabric_write : pOp (pkt 2 0 0x70000 0 []) = 2 ∧ refusalRange fabBase (pktWho fabBase (pkt 2 0 0x70000 0 [])) (lineOf 0x70000) 64 true = none ∧
    (refusalRange fabBase (pktWho fabBase (pkt 2 0 0x700000000000 0 [])) (lineOf 0x700000000000) 64 true).isSome = true := by decide +kernel
def atom (op : Nat) : Pkt := pkt op 1 0x70008 500 (leBytes 8 7)
theorem fabric_atomics : ([0x10, 0x11, 0x12, 0x13, 0x14, 0x15, 0x16, 0x17, 0x18, 0x20, 0x21, 0x22].all fun op =>
      pOp (atom op) == op && performsB (inside fabBase (atom op)) fabBase (atom op)) = true := by decide +kernel
/-- Two ADDs of one operand wait inside: they combine. -/
def twoAdds : State := { fabBase with fab := { fabBase.fab with inside := [⟨atom 0x10, 0, 0, none⟩, ⟨pSet (atom 0x10) 6 [9, 0], 1, 0, none⟩] } }
theorem fabric_group : (takePkt twoAdds .inside (atom 0x10)).any (fun t => decide (mates t (atom 0x10) ≠ [])) = true := by decide +kernel
theorem fabric_operand : operandOk fabBase (atom 0x10) 8 ∧ pWidth (atom 0x10) = 64 ∧ operandOk fabBase (atom 0x22) 8 ∧
    leNat (getAt fabBase (pktWho fabBase (atom 0x18)) (pOff (atom 0x18)) 8).2.1 = pC (atom 0x18) ∧
    leNat (getAt (memPut fabBase 0x70008 [9]) (pktWho fabBase (atom 0x18)) (pOff (atom 0x18)) 8).2.1 ≠ pC (atom 0x18) := by
  unfold operandOk; decide +kernel
/-- A lock word of this requester, live until tick 1,500. -/
def leased : State := memPut fabBase 0x70008 (leBytes 8 (lockWordOf 0x42000 0x31 1500))
theorem lease_live : lkOwner (lockAt leased (atom 0x21)) = pReq (atom 0x21) % 2 ^ 23 ∧ lkInc (lockAt leased (atom 0x21)) = pInc (atom 0x21) ∧
    leaseLive (lockAt leased (atom 0x21)) leased.lace.tick = true ∧ lkHeld (lockAt leased (atom 0x22)) = true ∧
    (pLease (atom 0x20) ≠ 0 ∧ pLease (atom 0x20) ≤ getO leased 0x4040 5) ∧ operandOk leased (atom 0x21) 8 := by unfold operandOk; decide +kernel
theorem lease_free : leaseLive (lockAt fabBase (atom 0x20)) fabBase.lace.tick = false ∧ lkHeld (lockAt fabBase (atom 0x22)) = false ∧
    pLease (pkt 0x20 1 0x70008 0 []) = 0 ∧ ¬ 0xffffffff ≤ getO fabBase 0x4040 5 := by decide +kernel
theorem lease_other : lkOwner (lockAt (memPut fabBase 0x70008 (leBytes 8 (lockWordOf 0x42001 0x31 1500))) (atom 0x21)) ≠ pReq (atom 0x21) % 2 ^ 23 := by
  decide +kernel
theorem combining : (0x10 ≤ 0x10 ∧ 0x16 ≤ 0x16) ∧ (2 ^ 64 - 1 < 2 ^ 64) ∧ (∀ b ∈ [1, 2 ^ 32 - 1], b < 2 ^ 32) := by decide
def grp : Group := ⟨0, pkt 0x10 1 0x70008 0 [], [pkt 0x10 1 0x70008 0 [], atom 0x10]⟩
def readGrp : Group := ⟨0, pkt 1 0 0x70008 0 [], [pkt 1 0 0x70008 0 [], pkt 1 0 0x70008 0 []]⟩
theorem fan_out : grp.members[1]? = some (atom 0x10) ∧ (∀ k ∈ grp.members, pOp k ≠ 1) ∧ (∀ k ∈ readGrp.members, pOp k = 1) := by decide +kernel

def resp : Pkt := mkResp (pkt 1 0 0x70000 0 []) 0x80 0 []
def asked : State :=
  { fabBase with fab := { fabBase.fab with answers := [resp], reqs := [(5, ⟨pkt 1 0 0x70000 0 [], .host, 0⟩)] } }
def answered : State := { asked with fab := { asked.fab with answers := [] } }
theorem response_ends : isResp resp = true ∧ takePkt asked .inside resp = some answered ∧ pSrc resp = pnode asked ∧ leadGroup answered resp = none ∧
    (mfind answered.fab.reqs (pTag resp)).isSome = true ∧ pGen resp = pGen (pkt 1 0 0x70000 0 []) ∧ mfind fabBase.fab.reqs (pTag resp) = none := by
  decide +kernel
theorem response_of_group : (leadGroup { answered with fab := { answered.fab with groups := [⟨0, pkt 1 0 0x70000 0 [], []⟩] } } resp).isSome = true := by
  decide +kernel
/-- A request for node 3 comes on port 1; the route to node 3 is port 0. -/
def far : Pkt := mkPkt 1 0 5 3 5 0x70000 0 0x42000 0 0 []
def router : State := setPort { lk with fab := { lk.fab with routes := [(3, 2 ^ 15)] } } 1 { PortSt.init with state := .up }
theorem fabric_hops : pHops (pSet (atom 0x10) 19 [8]) = getO router 0x4040 4 ∧ (takePkt router (.link 1) (pSet (atom 0x10) 19 [8])).isSome = true ∧
    pDst (atom 0x10) = pnode router ∧ combinable router (pSet (atom 0x10) 19 [8]) = true ∧ isResp (atom 0x10) = false := by decide +kernel
theorem forwards : headedFor far ≠ pnode router ∧ (takePkt router (.link 1) far).isSome = true ∧ isResp far = false ∧ pHops far ≠ getO router 0x4040 4 ∧
    routePort (giveCredit router 1 4) 3 = some 0 ∧ 0 / 32 = (1 : Port).val / 32 ∧ pHops (pSet far 19 [8]) = 8 ∧ getO router 0x4040 4 = 8 := by decide +kernel
def waited : State := { asked with now := getO asked 0x4040 3 * usec }
theorem tag_timeout : (mfind waited.fab.reqs 5).isSome = true ∧ 0 + getO waited 0x4040 3 * usec ≤ waited.now := by decide +kernel
def rerouted : State := { fabBase with fab := { fabBase.fab with pendRoutes := [(3, 2 ^ 15)] } }
theorem route_change : mfind rerouted.fab.pendRoutes 3 = some (2 ^ 15) ∧ routeBusy rerouted 3 = false := by decide +kernel

/-! ## Control cores -/

def h0 : Hart := ⟨0, 0⟩
def live (u : Bool) : HartSt := { HartSt.init with live := true, user := u }
/-- Core 0 is bound as physical cluster 0 of C-die 0 with thread 0 running; addresses of its RAM, of DRAM and of an MMIO page. -/
def coreSt (x : HartSt) : State := setHart (setCtl (withO (locked ready) [(0x3050, 1, 0)]) 0 { CtlCore.init with run := true }) h0 x
def cs : State := coreSt (live false)
def ownA : Nat := ramAddr 0 64
theorem core_issues : Sys2Proof.Machine.issues cs h0 = true ∧ ownA % 8 = 0 ∧ effective cs h0 ownA = .own 64 ∧
    effective cs h0 0x70000 = .fabric (2 ^ 61 + 0x70000) ∧ cacheable (2 ^ 61 + 0x70000) = true ∧
    effective cs h0 (ramAddr 1 0) = .fabric (2 ^ 61 + ramAddr 1 0) ∧ cacheable (2 ^ 61 + ramAddr 1 0) = false ∧
    mfind (getCtl cs 0).cache (lineOf (2 ^ 61 + 0x70000)) = none ∧ 0x70001 % 8 ≠ 0 ∧ effective cs h0 (2 ^ 48) = .fault ∧ 2 ^ 48 % 8 = 0 := by decide +kernel
theorem core_cached : mfind (getCtl (fillLine cs 0 (2 ^ 61 + 0x70000) (List.replicate 64 1)) 0).cache (lineOf (2 ^ 61 + 0x70000)) = some (List.replicate 64 1) := by
  decide +kernel
theorem issue_out (s : State) (secure : Bool) (a op w c t l m : Nat) (d : List Byte) (k : Sink) (h : (issue s secure a op w c t l m d k).2 = none) :
    ∃ u, issue s secure a op w c t l m d k = (u, none) := ⟨(issue s secure a op w c t l m d k).1, by rw [← h]⟩
theorem core_reads : (issue cs false (2 ^ 61 + 0x70000) 1 0 0 0 0 0 [] (.reg h0 3 8 (2 ^ 61 + 0x70000) true)).2 = none ∧
    (issue cs false (2 ^ 61 + 0x70000) 0x18 1 0 0 0 0 (List.replicate 16 0) (.reg h0 3 8 0 true)).2 = none ∧
    (issue cs false (2 ^ 61 + 0x70000) 0x20 1 0 0 500 0 [] (.reg h0 3 8 0 false)).2 = none ∧
    (issue cs false (2 ^ 61 + 0x70000) 0x21 1 0 0 500 0 [] (.reg h0 3 8 0 false)).2 = none ∧
    (issue cs false (2 ^ 61 + 0x70000) 0x22 1 0 0 0 0 [] (.reg h0 3 8 0 false)).2 = none := by decide +kernel
theorem core_writes : (match fabRoute cs false (lineOf (2 ^ 61 + 0x70000)) with | .node _ _ => true | _ => false) = true ∧
    (match fabRoute cs false (lineOf (3 * 2 ^ 60)) with | .done _ => true | _ => false) = true ∧
    writeRoom (patchLine { cs with fab := { cs.fab with reqs := (List.range 16).map (fun i => (i, ⟨[], .posted h0, 0⟩)) } } 0 (2 ^ 61 + 0x70000) [1]) 0 = false ∧
    writeRoom (patchLine cs 0 (2 ^ 61 + 0x70000) [1]) 0 = true := by decide +kernel
theorem core_write_sent :
    let u := patchLine cs 0 (2 ^ 61 + 0x70000) [1]
    let p := reqPkt u (lineOf (2 ^ 61 + 0x70000)) 2 0 0 0 0 1 (padTo 64 [1]) 0 false
    (sendOrStall u (.posted h0) p).fab.stalled.length ≤ u.fab.stalled.length := by decide +kernel
theorem core_atomics : amoCode .add = some 0x10 ∧ amoCode .swap = some 0x17 ∧
    (readAt cs (ownWho cs h0) (ramAddr 0 64) 8).2.2.2 = none ∧ (getHart cs h0).resv ≠ some (ramAddr 0 64 / 8 * 8) ∧
    (getHart (coreSt { live false with resv := some (ramAddr 0 64 / 8 * 8) }) h0).resv = some (ramAddr 0 64 / 8 * 8) := by decide +kernel
def posting : State := { cs with fab := { cs.fab with reqs := [(5, ⟨[], .posted h0, 0⟩)] } }
theorem core_fence : postedOut posting h0 = true ∧ Sys2Proof.Machine.issues posting h0 = true ∧ postedOut cs h0 = false := by decide +kernel

theorem csr : csrOk cs h0 ∧ Sys2Proof.Machine.issues (coreSt (live true)) h0 = true ∧ (getHart (coreSt (live true)) h0).user = true := by
  unfold csrOk; decide +kernel
theorem csr_supervisor : csrOk (setHart (locked ready) ⟨320, 0⟩ (live false)) ⟨320, 0⟩ ∧ 320 ≤ (⟨320, 0⟩ : Hart).core := by unfold csrOk; decide +kernel
def rawDesc : List Byte :=
  let b := leBytes 47 (0xffff + 2 ^ 256 + 64 * 2 ^ 272)
  b ++ leBytes 1 (crc8 b)
def subState (n : Nat) : State := setAwl (memPut cs (ramAddr 0 128) rawDesc) 0 { Awl.init with queue := List.replicate n (0, 0) }
theorem awlsub : clusterOf (subState 0) 0 = some 0 ∧ badUnscheduled (subState 0) 0 (leNat (ramDesc (subState 0) 0 (128 % 65536))) (ramDesc (subState 0) 0 128) = false ∧
    (getAwl (subState 0) 0).queue.length < 64 ∧ csrOk (subState 0) h0 ∧
    badUnscheduled (subState 0) 0 (leNat (ramDesc (subState 0) 0 0)) (ramDesc (subState 0) 0 0) = true := by unfold csrOk; decide +kernel
theorem awlsub_full : 64 ≤ (getAwl (subState 64) 0).queue.length ∧ csrOk (subState 64) h0 ∧ clusterOf (subState 64) 0 = some 0 := by
  unfold csrOk; decide +kernel
theorem core_control : (getHart { cs with now := 2 ^ 64 * keeperPeriod } h0).mtimecmp ≤ ktime { cs with now := 2 ^ 64 * keeperPeriod } ∧
    isBound (withO ready [(0x3050, 1, 0)]) (0 / 20) (0 % 20) = true ∧ (getCtl ready 0).run = false ∧
    ({ ready with dev := { ready.dev with pcieUp := true } } : State).dev.pcieUp = true ∧ ready.dev.pcieUp = false := by decide +kernel

/-! ## Relum -/

/-- A request frame with a good CRC. -/
def req (op i j ty : Nat) (flags key : Nat) (data : List Byte) : Frame :=
  withCrc (f8 op ++ [0] ++ f16 i ++ f8 j ++ f8 ty ++ f8 data.length ++ f8 flags ++ f16 key ++ [0, 0] ++ data)
/-- `asked` as a Bool. -/
def askedB (s : State) (a : Acc) (op : Nat) (f : Frame) : Bool :=
  rOp f == op && !goesRemote s (asker s a f) f && frameGood f && pathServed s (asker s a f) &&
    (s.relum.kept.find? (fun k => k.origin == (asker s a f).origin && k.request == f)).isNone && !malformed f
theorem asked_of (s : State) (a : Acc) (op : Nat) (f : Frame) (h : askedB s a op f = true) : Sys2Proof.Claims.asked s a op f := by
  simp only [askedB, Bool.and_eq_true, beq_iff_eq, Bool.not_eq_true', Option.isNone_iff_eq_none] at h
  exact ⟨h.1.1.1.1.1, h.1.1.1.1.2, h.1.1.1.2, h.1.1.2, h.1.2, h.2⟩
def rowTest (i j : Nat) (p : ObjRow → Bool) : Bool := match entryOf i j with | .ok row => p row | .error _ => false

theorem read_asked : askedB ready fw 1 (req 1 0x1010 1 0 0 0 []) ∧ askedB standby host 1 (req 1 0x1010 1 0 0 0 []) ∧
    worldBar (asker ready fw (req 1 0x1010 1 0 0 0 [])) 0x1010 1 = false ∧
    rowTest 0x1010 1 (fun row => row.acc != .wo && !keeperBar (countServed ready .localPort) row (asker ready fw (req 1 0x1010 1 0 0 0 []))) = true ∧
    askedB ready fw 1 (req 1 0x1010 1 3 0 0 []) ∧ rType (req 1 0x1010 1 0 0 0 []) = 0 := by decide +kernel
theorem read_typed : rowTest 0x1010 1 (fun row => rType (req 1 0x1010 1 (tyCode row.ty) 0 0 []) == tyCode row.ty && tyCode row.ty != 0 &&
    !malformed (req 1 0x1010 1 (tyCode row.ty) 0 0 [])) = true := by decide +kernel
theorem write_asked : askedB ready fw 2 (req 2 0x2100 1 0 0 0 [5, 0, 0, 0]) ∧ rowTest 0x2100 1 (fun _ => true) = true ∧
    worldBar (asker ready fw (req 2 0x2100 1 0 0 0 [5, 0, 0, 0])) 0x2100 1 = false := by decide +kernel
theorem describe_asked : askedB ready fw 3 (req 3 0x2100 1 0 0 0 []) ∧
    worldBar (asker ready fw (req 3 0x2100 1 0 0 0 [])) 0x2100 1 = false ∧ rowTest 0x2100 1 (fun _ => true) = true := by decide +kernel

/-- A range with first = last, and one that ends before a held range begins. -/
def lockReq (a b : Nat) : Frame := req 4 0 0 0 0 0 (f16 a ++ f16 b)
def held (s : State) (k : Nat) (l : LockEntry) : State := { s with relum := { s.relum with locks := [(k, l)] } }
def lk0 : LockEntry := ⟨0x2000, 0x20ff, 7, 9, 1000⟩
theorem lock_asked : [lockReq 0x3000 0x3000, lockReq 0x1000 0x1fff, lockReq 0x2100 0xffff].all (fun f => 
      askedB (held ready 0 lk0) fw 4 f) = true ∧ askedB ready fw 4 (lockReq 0 0xffff) ∧ ready.dev.mode ≠ .alarm ∧
    [lockReq 0x3000 0x3000, lockReq 0x1000 0x1fff, lockReq 0x2100 0xffff].all (fun f =>
      !(held ready 0 lk0).relum.locks.any (fun e => decide (e.2.first ≤ fieldB f 14 2) && decide (fieldB f 12 2 ≤ e.2.last)) &&
      decide (fieldB f 12 2 ≤ fieldB f 14 2)) = true ∧
    (List.range 16).find? (fun n => (mfind (held ready 0 lk0).relum.locks n).isNone) = some 1 := by decide +kernel
/-- The holder's own unlock, the secure world's by force, and one of neither, at both ends of the range. -/
def mineReq (j : Nat) : Frame := req 5 j 0 0 0 9 []
def forceReq (j : Nat) : Frame := req 5 j 0 0 2 1 []
def holder (f : Frame) : State := held ready 3 { lk0 with origin := (asker ready fw f).origin }
theorem unlock_asked : [mineReq 0x2000, mineReq 0x20ff, forceReq 0x2000, req 5 0x2000 0 0 0 1 []].all (fun f =>
      askedB (holder f) fw 5 f && ((holder f).relum.locks.find? (fun e => decide (e.2.first ≤ rIndex f) && decide (rIndex f ≤ e.2.last))).isSome) = true ∧
    (asker (holder (mineReq 0x2000)) fw (mineReq 0x2000)).key = 9 ∧
    (asker (holder (forceReq 0x2000)) fw (forceReq 0x2000)).secure = true ∧ rForce (forceReq 0x2000) = true ∧
    (asker (holder (forceReq 0x2000)) fw (req 5 0x2000 0 0 0 1 [])).key ≠ 9 ∧ rForce (req 5 0x2000 0 0 0 1 []) = false := by
  decide +kernel

theorem frame_served : frameGood [] = false ∧ frameGood (List.replicate 16 0xff) = false ∧ frameGood (lockReq 0 0) = true ∧
    pathServed (inMode .keeper) (reqOf ready host) = false ∧ pathServed (inMode .keeper) (reqOf ready fw) = false ∧
    pathServed standby ⟨.inBand, 0, false, 0, none⟩ = false ∧ pathServed (withO standby [(0x1050, 3, 0)]) ⟨.i3c, 0, false, 0, none⟩ = false ∧
    pathServed ready (reqOf ready fw) = true ∧
    ready.relum.kept.find? (fun k => k.origin == (reqOf ready fw).origin && k.request == lockReq 0 0) = none := by decide +kernel

theorem lock_expires : mfind (held ready 3 lk0).relum.locks 3 = some lk0 ∧ lk0.expiry ≤ ({ held ready 3 lk0 with now := 1000 } : State).now := by decide +kernel

def bus (dyn en : Nat) : State := withO { ready with dev := { ready.dev with aonUp := true } } [(0x1050, 2, dyn), (0x1050, 3, en)]
theorem i3c_answers : (bus 0 1).dev.aonUp = true ∧ getO (bus 0 1) 0x1050 3 = 1 ∧ getO (bus 0 1) 0x1050 2 = 0 ∧ getO (bus 9 1) 0x1050 2 ≠ 0 ∧
    getO (bus 9 1) 0x1050 3 = 1 ∧ getO (bus 9 0) 0x1050 3 ≠ 1 ∧
    ({ ready with dev := { ready.dev with aonUp := false } } : State).dev.aonUp = false := by decide +kernel
theorem i3c_transfers : i3cOn (bus 9 1) = true ∧ (lockReq 0 0).length ≤ (bus 9 1).relum.mwl ∧ (List.replicate 81 (0 : Byte)).length > (bus 9 1).relum.mwl ∧
    (bus 9 1).relum.i3cRsp = none ∧
    ({ bus 9 1 with relum := { (bus 9 1).relum with i3cRsp := some [1] } } : State).relum.i3cRsp = some [1] ∧ [(1 : Byte)].length ≤ (bus 9 1).relum.mrl ∧
    (List.replicate 81 (0 : Byte)).length > (bus 9 1).relum.mrl := by decide +kernel

/-- A mailbox that is busy, one that is free; a request for another package, one for this one, one that is no frame. -/
def remoteReq : Frame := withCrc (f8 1 ++ [0] ++ f16 0x1010 ++ [1, 0, 0, 1, 0, 0] ++ f16 5)
def ringIn (s : State) (k : Nat) (own : Option Hart) (rq : List Byte) : State :=
  let u := setBox s k { getBox s k with req := padTo 80 rq }
  setBox u k { getBox u k with busy := true, owner := own, sentAt := none }
def hart0 : Hart := ⟨0, 0⟩
def portReq (w : State) (f : Frame) : Req := ⟨.localPort, originOf w .localPort 3 0, true, rKey f, some hart0⟩
theorem doorbells : (getBox ready 8).busy = false ∧ (getBox (setBox ready 8 { Mailbox.init with busy := true }) 8).busy = true ∧
    (let w := ringIn ready 3 (some hart0) remoteReq
     goesRemote w (portReq w (bufFrame (getBox w 3).req)) (bufFrame (getBox w 3).req) = true) ∧
    (let w := ringIn ready 3 (some hart0) (lockReq 0 0)
     goesRemote w (portReq w (bufFrame (getBox w 3).req)) (bufFrame (getBox w 3).req) = false ∧
     (serveFrame w (portReq w (bufFrame (getBox w 3).req)) (bufFrame (getBox w 3).req)).2.isSome = true) ∧
    (let w := ringIn ready 3 (some hart0) [1]
     (serveFrame w (portReq w (bufFrame (getBox w 3).req)) (bufFrame (getBox w 3).req)).2 = none) := by decide +kernel
theorem mailbox_ends : (getBox ready 8).owner = none ∧ (getBox (setBox ready 3 { Mailbox.init with owner := some hart0 }) 3).owner = some hart0 ∧
    (let s := { setBox ready 3 { Mailbox.init with busy := true, sentAt := some 5 } with now := 5 + 10 * msec }
     (getBox s 3).sentAt = some 5 ∧ (getBox s 3).busy = true ∧ 5 + 10 * msec ≤ s.now) := by decide +kernel

/-- A management flit: target, source, hop count, box, flags, and a frame. -/
def mflit (dst hops flags : Nat) (f : Frame) : List Byte := f16 dst ++ f16 9 ++ f8 hops ++ f8 2 ++ f8 flags ++ List.replicate 9 0 ++ padTo 80 f
def bandUp : State := setPort ready 0 { PortSt.init with state := .up }
theorem band_rows : portUp bandUp 0 = true ∧ mDst (mflit 5 0 0 []) ≠ pnode (giveCredit bandUp 0 5) ∧
    fieldB (mflit 5 0 0 []) 4 1 < getO (giveCredit bandUp 0 5) 0x4040 4 ∧
    getO (giveCredit bandUp 0 5) 0x4040 4 ≤ fieldB (mflit 5 255 0 []) 4 1 ∧
    mDst (mflit 1 0 0 []) = pnode (giveCredit (withO bandUp [(0x1010, 1, 1)]) 0 5) ∧
    fbit (mFlags (mflit 1 0 1 [])) 1 = false ∧ fbit (mFlags (mflit 1 0 1 [])) 2 = false ∧ fbit (mFlags (mflit 1 0 2 [])) 1 = true ∧
    fbit (mFlags (mflit 1 0 4 [])) 1 = false ∧ fbit (mFlags (mflit 1 0 4 [])) 2 = true := by decide +kernel
theorem band_served : let t := giveCredit bandUp 0 5
    let q := fun b => (⟨.inBand, originOf t .inBand (mBox b) (mSrc b), fbit (mFlags b) 0, rKey (mFrame b), none⟩ : Req)
    (serveFrame t (q (mflit 1 0 1 (lockReq 0 0))) (mFrame (mflit 1 0 1 (lockReq 0 0)))).2.isSome = true ∧
    (serveFrame t (q (mflit 1 0 1 [1])) (mFrame (mflit 1 0 1 [1]))).2 = none ∧
    (let s := setBox bandUp 2 { Mailbox.init with busy := true, sentAt := some 0 }
     (getBox (giveCredit s 0 5) (mBox (mflit 1 0 2 []))).busy = true ∧ (getBox (giveCredit s 0 5) (mBox (mflit 1 0 2 []))).sentAt.isSome = true) := by
  decide +kernel

/-! ## Serving and routing -/

def atStart (s : State) : State := { s with lace := { s.lace with phase := 0 } }
theorem tick_pass : isManager (atStart (runOf freeImage)) = true ∧ inRun (atStart (runOf freeImage)) = true ∧
    laceRuns (atStart (runOf freeImage)) = true ∧ (atStart (runOf freeImage)).lace.phase = 0 ∧
    (atStart (runOf freeImage)).serving.passTick ≤ (atStart (runOf freeImage)).lace.tick ∧ (runOf freeImage).lace.phase ≠ 0 := by decide +kernel
def passOf (s : State) : State :=
  let u := applyResults (drainHeld s)
  let v := u.serving.cancels.foldl (fun s i => cancelReq s i 6) { u with serving := { u.serving with cancels := [] } }
  chargeAll (endReqs (checkDeads (consume (getO v 0x6011 1) v)))
def drains : State := atStart { runOf freeImage with dev := { (runOf freeImage).dev with mode := .draining } }
theorem tick_pass_modes : (passOf (atStart (runOf freeImage))).dev.mode ≠ .draining ∧ (passOf drains).dev.mode = .draining ∧ inRun drains = true ∧
    isManager drains = true ∧ laceRuns drains = true ∧ drains.lace.phase = 0 ∧ drains.serving.passTick ≤ drains.lace.tick ∧
    ({ runOf freeImage with serving := { Serving.init with passTick := 101 } } : State).lace.tick < 101 := by decide +kernel

/-- Two queued requests and a slot that admits. -/
def waiting : State :=
  let s := memPut (runOf freeImage) 0x20000 (List.replicate 16 0 ++ [3])
  { s with serving := { s.serving with eyelets := [(4, { Eyelet.init with state := 1, commitSeq := 2 }), (9, { Eyelet.init with state := 1, prio := 3 })] } }
theorem admission : bestReq waiting = some (9, 0) ∧ bestReq (runOf freeImage) = none ∧
    freeSlotFor waiting { Eyelet.init with state := 1 } = some 0 := by decide +kernel

def jobIn (slots : List Nat) : State :=
  { runOf freeImage with serving := { Serving.init with jobs := [⟨0, 0, 100, 0, slots⟩] } }
theorem sampler : (jobIn [0, 1]).serving.jobs = ⟨0, 0, 100, 0, 0 :: [1]⟩ :: [] ∧ (jobIn [0]).serving.jobs = ⟨0, 0, 100, 0, 0 :: []⟩ :: [] ∧
    0 ≤ (jobIn [0]).cyc := by decide +kernel
def takes100 : State := atStart { locked running with serving := { Serving.init with takeover := some 100 } }
theorem takeover_due : takes100.serving.takeover = some 100 ∧ laceRuns takes100 = true ∧ takes100.lace.tick = 100 ∧ takes100.lace.phase = 0 := by
  decide +kernel

/-- A plan of three steps in cluster 0: round 0 of two, round 1, and the sum; expert 1 is the null choice. -/
def stepBytes (kind rnd desc : Nat) : List Byte :=
  [0, 0] ++ f8 kind ++ f8 (rnd + 4) ++ leBytes 4 0 ++ f32 desc ++ [0, 1, 0, 1] ++ f16 2 ++ f16 1 ++ leBytes 2 0 ++ f16 1 ++ f16 32 ++
    leBytes 14 0 ++ f16 264 ++ leBytes 2 0 ++ f16 260 ++ leBytes 6 0 ++ f16 1 ++ f32 16 ++ leBytes 6 0
def stepPlan : List Byte :=
  leBytes 6 0 ++ f16 3 ++ f64 1 ++ f32 64 ++ f32 256 ++ f32 512 ++ f32 32 ++ f32 768 ++ leBytes 28 0 ++
    stepBytes 0 0 0 ++ stepBytes 0 1 1 ++ stepBytes 1 0 2 ++ List.replicate 576 0
def stepImage : Image := { freeImage with awl := [awlEnt, awlEnt, awlEnt] }
/-- The three steps, with what the scratchpad of core 0 holds from 0 on: the scores, or the record and the returned row. -/
def stepState (l : List Byte) : State :=
  let s := withO (runOf stepImage) [(0x3025, 1, 7)]
  memPut { s with memSt := { MemSt.init with objs := [(0, objEnt 0)] }, spad := cellsAt 0 0 0 l } 0x10000 stepPlan
def calm : State := stepState (List.replicate 8 0)
def wild : State := stepState (List.replicate 8 0xff)
def calmRow : State := stepState ([0, 0, 0, 0, 0, 0, 0xc0, 0])
def wildRow : State := stepState (List.replicate 8 0 ++ List.replicate 260 0xff)

abbrev Step := State × Image × Plan × Site × Nat × Nat × Nat
/-- The step that `routed` speaks of, where there is one. -/
def stepAt (s : State) (l ix : Nat) (want : Site → Bool) : Option Step :=
  match partOf s l with
  | none => none
  | some (p, im) => match im.awl[ix]?, routeOf s p ix with
    | some e, some (slot, pl, x) => match atCycle s l (aPtick e) (aStart e) with
      | (u, some _) =>
        if aLcl e = l ∧ want x = true ∧ awlBegun s l ix = false then
          some (commitDue (if aWaitEn e then sbSet u l (aCore e) (aWaitBit e) false else u) l (aCore e) im, im, pl, x, e, slot, groupOf im l (aPtick e))
        else none
      | (_, none) => none
    | _, _ => none
theorem routed_of (s : State) (l ix : Nat) (want : Site → Bool) (t : State) (im : Image) (pl : Plan) (x : Site) (e slot g : Nat)
    (h : stepAt s l ix want = some (t, im, pl, x, e, slot, g)) : routed s l ix want t im pl x e slot g := by
  unfold stepAt at h
  split at h
  · cases h
  · rename_i p im' hp
    split at h
    · rename_i e' slot' pl' x' he hr
      split at h
      · rename_i u q hu
        split at h
        · rename_i hc
          cases h
          exact ⟨p, u, q, hp, he, hr, hc.1, hc.2.1, hc.2.2, hu, rfl, rfl⟩
        · cases h
      · cases h
    · cases h
def test (o : Option Step) (f : State → Image → Plan → Site → Nat → Nat → Nat → Bool) : Bool :=
  match o with | some (t, im, pl, x, e, slot, g) => f t im pl x e slot g | none => false
def wrongRows (t : State) (im : Image) (_ : Plan) (x : Site) (e slot g : Nat) : Nat :=
  (((List.range x.m).map (selectRow t im x (aCore e) g (activeBank t slot))).filter (·.2)).length
theorem round_0 : test (stepAt calm 0 0 (fun x => x.kind == 0 && x.round == 0)) (fun t im pl x e slot g => wrongRows t im pl x e slot g == 0) = true ∧
    test (stepAt wild 0 0 (fun x => x.kind == 0 && x.round == 0)) (fun t im pl x e slot g => wrongRows t im pl x e slot g == 1) = true := by
  decide +kernel
theorem round_1 : test (stepAt calm 0 1 (fun x => x.kind == 0 && x.round != 0)) (fun _ _ _ x _ _ _ => x.nrounds == 2) = true := by decide +kernel
def wrongSums (t : State) (im : Image) (x : Site) (e g : Nat) : Nat :=
  (((List.range x.m).filter (rowOn t im x g)).map (fun m => combineRow t x (aCore e) (readRec t x (aCore e)) m)).foldl (fun n r => n + r.2) 0
theorem sums : test (stepAt calmRow 0 2 (fun x => x.kind == 1)) (fun t im _ x e _ g => wrongSums t im x e g == 0) = true ∧
    test (stepAt wildRow 0 2 (fun x => x.kind == 1)) (fun t im _ x e _ g => wrongSums t im x e g != 0) = true := by decide +kernel

def counted : State := { calm with routing := { calm.routing with adds := [(0x100000000000 + 768, 1, 100)] } }
theorem count_adds : counted.routing.adds = (0x100000000000 + 768, 1, 100) :: [] ∧ (objAt counted (0x100000000000 + 768)).isSome = true ∧
    (objAt counted 0).isNone = true := by decide +kernel
def siteX : Site := siteOfBytes (stepBytes 0 0 0)
theorem settles : [(⟨0, 0xfff, 1, open', 0⟩ : RRec)].length = siteX.m * siteX.topk ∧ open' = 4 ∧ siteX.pref ≤ 16 ∧ 1 < siteX.nrounds ∧
    (siteOfBytes (stepBytes 0 0 0 |>.set 3 0)).nrounds ≤ 1 := by decide +kernel

/-! ## Device state, images, security, events, power, start-up -/

def devIn (s : State) (f : Device → Device) : State := { s with dev := f s.dev }
def powered : State := devIn (inMode .keeper) (fun d => { d with aonUp := true })
def toStandby : State := devIn powered (fun d => { d with target := some .standby, boot := .firmware, fwReady := true, pcieUp := true })
theorem change_keeper : toStandby.dev.target = some .standby ∧ toStandby.dev.mode = .keeper ∧ toStandby.dev.boot = .firmware ∧
    toStandby.dev.fwReady = true ∧ toStandby.dev.pcieUp = true := by decide +kernel
theorem change_standby : ∀ m ∈ [DevState.alarm, .ready, .halted], let s := devIn (inMode m) (fun d => { d with target := some .standby })
    s.dev.target = some .standby ∧ settled s ∧ s.dev.mode = m ∧ s.dev.mode ≠ .keeper := by unfold settled; decide +kernel
def bringing (n : Nat) : State := devIn (withO standby [(0x2004, 1, n)]) (fun d => { d with target := some .ready })
theorem change_ready : (bringing 5).dev.target = some .ready ∧ getO (bringUp (bringing 5)) 0x2004 1 = 6 ∧ (bringing 2).dev.target = some .ready ∧
    getO (bringUp (bringing 2)) 0x2004 1 ≠ 6 := by decide +kernel
def phase0 (m t : DevState) : State := let s := locked (devIn (inMode m) (fun d => { d with target := some t })); { s with lace := { s.lace with phase := 0 } }
theorem change_run : laceRuns (phase0 .running .draining) = true ∧ (phase0 .running .draining).lace.phase = 0 ∧
    (phase0 .running .draining).dev.target = some .draining ∧ (phase0 .draining .running).dev.target = some .running := by decide +kernel

theorem image_commands : [(0, 2, (0 : Nat)), (1, 3, 4)].all (fun e =>
    let c : ImgCmd := ⟨e.1, 2, e.2.2, 0, 3⟩
    let s := { setImg ready e.1 { ImgEnt.init with state := e.2.1 } with imgCmd := some c }
    s.imgCmd == some c && (getImg s c.entry).state == e.2.1) = true := by decide +kernel
theorem image_checks : ({ ready with imgCheck := some (0, fwMax) } : State).imgCheck = some (0, fwMax) ∧
    ({ ready with imgCheck := some (0, fwMax + 1) } : State).imgCheck = some (0, fwMax + 1) := by decide +kernel

def aon : State := devIn ready (fun d => { d with aonUp := true })
theorem detectors : aon.dev.aonUp = true ∧ powered.dev.aonUp = true ∧ powered.dev.mode = .keeper ∧ aon.dev.mode ≠ .keeper ∧
    ({ aon with sec := { aon.sec with programming := some (1, 4) } } : State).sec.programming = some (1, 4) ∧
    (let s := { aon with now := 2 ^ 60 }
     max s.sec.windowAt s.dev.aonAt + getO s 0x7110 3 * msec ≤ s.now) := by decide +kernel
theorem hot_clear : ready.sec.hotClear = false ∧ ({ ready with sec := { ready.sec with hotClear := true } } : State).sec.hotClear = true := by
  decide +kernel

def eventful : State := { ready with
  now := 2 ^ 60, events := { ready.events with msixHeld := [3], msixAt := [(3, 1)], ibiEnabled := true, ibiCount := 2, ibiRequested := true },
  recovery := [(9, 1)], weltFlits := [(4, 5)], lace := { ready.lace with tick := 2 ^ 40 } }
theorem events_due : eventful.events.msixHeld.contains 3 = true ∧ mget 0 eventful.events.msixAt 3 - 1 + getO eventful 0x8011 1 * usec ≤ eventful.now ∧
    eventful.events.ibiEnabled = true ∧ eventful.events.ibiCount ≠ 0 ∧ eventful.events.ibiAt ≤ eventful.now ∧ eventful.events.ibiRequested = true ∧
    mget 0 eventful.recovery 9 ≠ 0 ∧ mget 0 eventful.recovery 9 - 1 + getO eventful 0x8020 1 ≤ eventful.lace.tick ∧
    weltFailed eventful 4 = false ∧ eventful.weltFlits.contains (4, 4) = false ∧ eventful.weltFlits.contains (4, 5) = true := by decide +kernel

def freqSym (p : Nat) : Timed := ⟨0x23, 0, 0, 100, p, 60⟩
def freqImage : Image := { img0 with lacePts := [6 * 2 ^ 32] }
def lowImage : Image := { freqImage with oppoint := 2 }
theorem point_switch : dueSym (dueState .running (freqSym 4) freqImage true) 0x23 = some (undue (dueState .running (freqSym 4) freqImage true), freqSym 4) ∧
    dueSym (dueState .running (freqSym 5) freqImage true) 0x23 = some (undue (dueState .running (freqSym 5) freqImage true), freqSym 5) ∧
    dueSym (dueState .running (freqSym 3) lowImage true) 0x23 = some (undue (dueState .running (freqSym 3) lowImage true), freqSym 3) := by decide +kernel
theorem point_switch_kinds : aboveActive (undue (dueState .running (freqSym 4) freqImage true)) ((freqSym 4).arg % 8) = false ∧ (freqSym 4).arg % 8 ≤ 4 ∧
    4 < (freqSym 5).arg % 8 ∧ aboveActive (undue (dueState .running (freqSym 3) lowImage true)) ((freqSym 3).arg % 8) = true := by decide +kernel
def stepping (v : Nat) (sw : Bool) : State := { ready with power := { ready.power with change := some ⟨4, true, v, sw⟩ } }
theorem volts : (stepping 7 true).power.change = some ⟨4, true, 7, true⟩ ∧ orBit 7 3 = 15 ∧ orBit 7 2 ≠ 15 ∧
    (stepping 7 false).power.change = some ⟨4, true, 7, false⟩ := by decide +kernel
/-- The trip at 110 degrees: 110.0 does not trip, 110.1 does. -/
def hot : State := withO ready [(0x2180, 1, 110)]
theorem thermal : hot.dev.mode ≠ .keeper ∧ [([1101] : List Int), [1100], [1000], [1000, 1001]].map (fun temps =>
      let u := sampled hot temps
      let trip := getO u 0x2180 1
      (decide (Int.ofNat (10 * trip) < (hottest temps 0 (temps.headD 0, 0)).1) && !u.power.thermtrip,
        temps.all (fun t => decide (t ≤ Int.ofNat (10 * trip) - 100)))) =
    [(true, false), (false, false), (false, true), (false, false)] := by decide +kernel
theorem estimator : ready.dev.mode ≠ .keeper ∧ running.dev.mode ≠ .keeper := by decide +kernel

def climbs (k pg : Nat) : State := devIn powered (fun d => { d with seq := .up k, powerGood := pg })
def falls (k pg : Nat) : State := devIn powered (fun d => { d with seq := .down k, powerGood := pg })
theorem climb : (climbs 1 0x800).dev.aonUp = true ∧ (climbs 1 0x800).dev.seq = .up 1 ∧
    (upSteps.getD 1 []).all (fun r => fbit (orBit (climbs 1 0x800).dev.powerGood 4) r) = false ∧
    (upSteps.getD 1 []).all (fun r => fbit (orBit (climbs 1 0x810).dev.powerGood 5) r) = true ∧
    (upSteps.getD 6 []).all (fun r => fbit (orBit (climbs 6 0).dev.powerGood 9) r) = true ∧ (climbs 6 0).dev.seq = .up 6 ∧
    ({ climbs 1 0 with now := 10 * msec } : State).dev.stepAt + 10 * msec ≤ 10 * msec := by decide +kernel
theorem fall : fbit (falls 5 0x30).dev.powerGood 4 = true ∧ fbit (falls 5 0x10).dev.powerGood 4 = true ∧ (falls 5 0x30).dev.mode = .keeper ∧
    (pgLow (falls 5 0x30) 4).dev.seq = .down 5 ∧ (pgLow (falls 5 0x10) 4).dev.seq = .down 5 ∧
    (downSteps.getD 5 []).any (fun r => fbit (pgLow (falls 5 0x30) 4).dev.powerGood r) = true ∧
    (downSteps.getD 5 []).any (fun r => fbit (pgLow (falls 5 0x10) 4).dev.powerGood r) = false ∧
    fbit (devIn ready (fun d => { d with powerGood := 1 })).dev.powerGood 0 = true ∧ (0 : Nat) ≠ 10 ∧
    ({ falls 0 0 with now := 20 * msec } : State).dev.stepAt + 20 * msec ≤ 20 * msec := by decide +kernel

def strapped : State := { devIn powered (fun d => { d with strapsDue := true }) with now := msec }
theorem straps : strapped.dev.aonUp = true ∧ strapped.dev.strapsDue = true ∧ strapped.dev.aonAt + msec ≤ strapped.now := by decide +kernel
def auto (t : Nat) : State := withO (devIn powered (fun d => { d with strapsDue := false, autoDone := false, target := none })) [(0x2003, 1, t)]
theorem auto_start : ∀ t ∈ [1, 2, 3, 4], (auto t).dev.aonUp = true ∧ (auto t).dev.autoDone = false ∧ (auto t).dev.strapsDue = false ∧
    (auto t).dev.mode = .keeper ∧ (auto t).dev.target = none ∧
    getO ({ auto t with dev := { (auto t).dev with autoDone := true } } : State) 0x2003 1 = t := by decide +kernel
theorem reset_pins : (devIn ready (fun d => { d with resetWait := true })).dev.resetWait = true ∧
    (devIn ready (fun d => { d with resetWait := false })).dev.resetWait = false := by decide +kernel
theorem link_up : xdiesUp ready = true ∧ (devIn ready (fun d => { d with perstN := true, pcieUp := false })).dev.perstN = true := by decide +kernel

/-- A signed image of two empty sections; the signer's key and its nonce are 1. -/
def bigEnd (n v : Nat) : List Byte := (leBytes n v).reverse
def fwBody : List Byte :=
  f32 0x57464b49 ++ f16 1 ++ f16 128 ++ leBytes 6 0 ++ [2, 0] ++ f32 448 ++ leBytes 108 0 ++
    (f8 1 ++ leBytes 3 0 ++ f32 192 ++ leBytes 8 0) ++ (f8 3 ++ leBytes 3 0 ++ f32 192 ++ leBytes 8 0) ++ leBytes 32 0
def pubKey : List Byte := 4 :: (bigEnd 48 p384g.1 ++ bigEnd 48 p384g.2)
def fwImage : List Byte :=
  fwBody ++ f16 1 ++ leBytes 6 0 ++ bigEnd 48 (p384g.1 % p384n) ++ bigEnd 48 ((beNum (sha384 fwBody) + p384g.1) % p384n) ++ pubKey ++ leBytes 55 0
def waits : State := { devIn powered (fun d => { d with boot := .waitHost, pcieUp := true }) with
  sec := { powered.sec with shadow := { powered.sec.shadow with keyHash := [sha384 pubKey] } }, now := 60000 * msec }
theorem boot_image : waits.dev.boot = .waitHost ∧ verify waits (padTo (min 448 fwMax) fwImage) = 0 ∧ 448 ≤ fwMax ∧
    verify waits (padTo (min 448 fwMax) []) ≠ 0 := by decide +kernel
theorem boot_timeout : waits.dev.boot = .waitHost ∧ waits.dev.pcieUp = true ∧ waits.dev.linkAt + 60000 * msec ≤ waits.now := by decide +kernel
theorem dram : (bringing 2).dev.mode = .standby ∧ (bringing 2).dev.target = some .ready ∧ getO (bringing 2) 0x2004 1 = 2 ∧
    (bringing 2).dev.dramDone = false := by decide +kernel
theorem fuses : ({ State.reset.sec.shadow with crc := fuseCrc State.reset.sec.shadow } : Fuses).crc =
    fuseCrc { State.reset.sec.shadow with crc := fuseCrc State.reset.sec.shadow } := by decide +kernel
theorem resets : (inMode .alarm).dev.mode = .alarm ∧ ready.dev.mode ≠ .alarm := by decide +kernel

/-! ## Memory, numbers, the block as a whole -/

theorem memory_wf : Memory.wf ready.mem = true ∧ Memory.wf (memPut ready 5 [1, 0, 2]).mem = true ∧ (memPut ready 5 [1, 0, 2]).mem ≠ [] := by decide +kernel
theorem s8_bounds : (254 : Nat) < 255 ∧ 0 / 8 = 0 ∧ 7 / 8 = 0 ∧ 8 / 8 ≠ 0 ∧ 254 / 8 ≠ 0 := by decide
theorem requant_outputs : (requantA8 0x3f800000 [0x3f800000]).codes ≠ [] ∧ (requantA16 [0x3f800000]).codes ≠ [] ∧
    ([0x80] : List Byte)[0]? = some 0x80 := by decide +kernel
theorem port_rows : ∀ i ∈ [Instr.ackWord 0 0, .creditWord 0 0, .probeWord 0 0 0, .identWord 0 0, .ackInterval 0, .probeInterval 0],
    ∃ t, exec i up0 = .next t := by
  intro i h
  simp only [List.mem_cons, List.not_mem_nil, or_false] at h
  rcases h with rfl | rfl | rfl | rfl | rfl | rfl <;> exact ⟨_, rfl⟩
theorem port_map : mapWf PortSt.init up0.ports = true ∧ up0.ports ≠ [] := by decide +kernel
theorem write_frame : mayWrite ready fw 0x2100 1 5 = true ∧ ready.obj.Pairwise (fun x y => x.1 < y.1) ∧
    (wrAny (served ready fw) (reqOf ready fw) 0x2100 1 5).2 = 0 := by decide +kernel
theorem write_frame_set : wrAny (served ready fw) (reqOf ready fw) 0x2100 1 5 = (setO (served ready fw) 0x2100 1 5, 0) := by rfl
theorem write_frame_runs : ∃ t, writeObj fw 0x2100 1 5 ready = .next t := ⟨_, rfl⟩
theorem queue_step : ∃ t, step { ready with pending := [.ocpN] } = .next t := ⟨_, rfl⟩
theorem empty_queue : ready.pending = [] := by decide +kernel
end Sys2Proof.Witness
end

section
/-! The write of an object (14 R482): its checks in their order, each with the answer that its failure gives, and from them the two
statements of 00 R10 and R12. -/
namespace Sys2Proof.Proofs
open Sys2Proof.Machine Sys2Proof.Claims

/-! ## The command -/

theorem exec_objectWriteGeneric (acc : Acc) (i sub : Nat) (data : List Byte) (s : State) :
    exec (.objectWriteGeneric acc i sub data) s = writeData s (reqOf s acc) i sub data := rfl

theorem writeObj_eq_exec {i sub : Nat} {row : ObjRow} (hf : findRow i sub = some row) (acc : Acc) (v : Nat) (s : State) :
    writeObj acc i sub v s = exec (.objectWriteGeneric acc i sub (leBytes row.size v)) s := by
  simp [exec_objectWriteGeneric, writeObj, hf]

theorem written_of_findRow {i sub : Nat} {row : ObjRow} (hf : findRow i sub = some row) (s : State) (acc : Acc) (t : State) :
    written s acc i sub t = .next (emit (renew (persistAfter t row i sub) (reqOf s acc)) (.status 0)) := by
  simp [written, hf]

/-! ## Which entry an index and a subindex name (steps 3 and 4) -/

theorem entryOf_of_findRow {i sub : Nat} {row : ObjRow} (hf : findRow i sub = some row) : entryOf i sub = .ok row := by
  simp [entryOf, hf]

theorem entryOf_no_index {i sub : Nat} (hf : findRow i sub = none) (ht : topSub i = none) :
    entryOf i sub = .error 0x0101 := by
  simp [entryOf, hf, ht]

theorem entryOf_sub_zero {i top : Nat} (hf : findRow i 0 = none) (ht : topSub i = some top) :
    entryOf i 0 = .ok (subRow i top) := by
  simp [entryOf, hf, ht]

theorem entryOf_no_sub {i sub top : Nat} (hf : findRow i sub = none) (ht : topSub i = some top) (h0 : sub ≠ 0) :
    entryOf i sub = .error 0x0102 := by
  simp [entryOf, hf, ht, h0]

/-! ## The outcome of a write on a served path -/

/-- Step 2 on a served path. -/
theorem writeData_worldBar {s : State} {r : Req} {i sub : Nat} (hp : pathServed s r = true) (hw : worldBar r i sub = true)
    (data : List Byte) :
    writeData s r i sub data =
      .next (emit (count (worldAbort (countServed s r.path)).1 0x1051 7 1) (.status 0x0501)) := by
  simp [writeData, doWrite, hp, hw, worldAbort]

/-- An access that steps 3 to 10 accept renews its locks and answers 0. -/
theorem writeData_accepted {s t : State} {r : Req} {i sub : Nat} {data : List Byte} (hp : pathServed s r = true)
    (hw : worldBar r i sub = false)
    (he : writeEntry (countServed s r.path) r (wPersist r) i sub none data = (t, 0)) :
    writeData s r i sub data = .next (emit (renew t r) (.status 0)) := by
  simp [writeData, doWrite, hp, hw, he]

/-- An access that one of steps 3 to 10 stops counts as aborted and answers that step's code. -/
theorem writeData_aborted {s t : State} {r : Req} {i sub code : Nat} {data : List Byte} (hp : pathServed s r = true)
    (hw : worldBar r i sub = false) (hc : code ≠ 0)
    (he : writeEntry (countServed s r.path) r (wPersist r) i sub none data = (t, code)) :
    writeData s r i sub data = .next (emit (count t 0x1051 7 1) (.status code)) := by
  simp [writeData, doWrite, hp, hw, he, hc]

/-! ## Steps 3 to 10 -/

/-- Step 6 (R462): the bytes of a data entry lie from 1 to its size, those of any other are as many as its size. -/
def lengthFits (row : ObjRow) (data : List Byte) : Prop :=
  if isData row.ty then 0 < data.length ∧ data.length ≤ row.size else data.length = row.size

theorem lengthFits_data {row : ObjRow} {data : List Byte} (hd : isData row.ty = true) :
    lengthFits row data ↔ 0 < data.length ∧ data.length ≤ row.size := by
  simp [lengthFits, hd]

theorem lengthFits_numeric {row : ObjRow} {data : List Byte} (hd : isData row.ty = false) :
    lengthFits row data ↔ data.length = row.size := by
  simp [lengthFits, hd]

section Steps
variable {s : State} {r : Req} {cmd : State → Nat → State × Nat} {i sub : Nat} {row : ObjRow} {data : List Byte}

/-- Steps 3 and 4. -/
theorem writeEntry_no_entry {code : Nat} (he : entryOf i sub = .error code) :
    writeEntry s r cmd i sub none data = (s, code) := by
  simp [writeEntry, he]

/-- Step 5. -/
theorem writeEntry_readOnly (he : entryOf i sub = .ok row) (ha : row.acc = .ro) :
    writeEntry s r cmd i sub none data = (s, 0x0201) := by
  simp [writeEntry, he, ha]

/-- Step 6. -/
theorem writeEntry_bad_length (he : entryOf i sub = .ok row) (ha : row.acc ≠ .ro) (hn : ¬ lengthFits row data) :
    writeEntry s r cmd i sub none data = (s, 0x0301) := by
  cases hd : isData row.ty with
  | true =>
    rw [lengthFits_data hd, not_and_or, Nat.not_lt, Nat.le_zero, Nat.not_le] at hn
    simp only [writeEntry, he, ha, hd, ↓reduceIte, Option.any_none, Bool.false_eq_true, Bool.true_and, Bool.or_eq_true,
      decide_eq_true_eq, hn]
  | false =>
    rw [lengthFits_numeric hd] at hn
    simp [writeEntry, he, ha, hd, hn]

/-- What the checks of steps 3 to 6 leave of a write. -/
theorem writeEntry_of_lengthFits (he : entryOf i sub = .ok row) (ha : row.acc ≠ .ro) (hn : lengthFits row data) :
    writeEntry s r cmd i sub none data =
      if lockBar s r i then (s, 0x0402)
      else if !stateOk s row || alarmBar s r i then
        (if i = 0x2003 && sub = 2 && s.dev.mode = .alarm then packageReset s 3 else s, 0x0401)
      else
        let y := if isData row.ty then (wrData s row i sub data, 0)
          else if i = 0x1030 && sub = 1 then cmd s (leNat data)
          else wrNum s r row i sub (leNat data)
        if y.2 = 0 then (persistAfter y.1 row i sub, 0) else y := by
  cases hd : isData row.ty with
  | true =>
    obtain ⟨hpos, hle⟩ := (lengthFits_data hd).mp hn
    have hne : data ≠ [] := List.ne_nil_of_length_pos hpos
    simp [writeEntry, he, ha, hd, hne, Nat.not_lt.mpr hle]
  | false =>
    have hlen := (lengthFits_numeric hd).mp hn
    simp [writeEntry, he, ha, hd, hlen]

/-- Step 7. -/
theorem writeEntry_locked (he : entryOf i sub = .ok row) (ha : row.acc ≠ .ro) (hn : lengthFits row data)
    (hl : lockBar s r i = true) : writeEntry s r cmd i sub none data = (s, 0x0402) := by
  simp [writeEntry_of_lengthFits he ha hn, hl]

/-- Step 8, but for the reset command in ALARM. -/
theorem writeEntry_wrong_state (he : entryOf i sub = .ok row) (ha : row.acc ≠ .ro) (hn : lengthFits row data)
    (hl : lockBar s r i = false) (hs : stateOk s row = false ∨ alarmBar s r i = true)
    (hx : ¬ (i = 0x2003 ∧ sub = 2 ∧ s.dev.mode = .alarm)) : writeEntry s r cmd i sub none data = (s, 0x0401) := by
  have hbar : (!stateOk s row || alarmBar s r i) = true := by simpa using hs
  have hreset : (decide (i = 0x2003) && decide (sub = 2) && decide (s.dev.mode = .alarm)) = false := by
    simpa [and_assoc] using hx
  simp only [writeEntry_of_lengthFits he ha hn, hl, hbar, hreset, Bool.false_eq_true, ↓reduceIte]

/-- A data entry takes its bytes. -/
theorem writeEntry_data (he : entryOf i sub = .ok row) (ha : row.acc ≠ .ro) (hd : isData row.ty = true)
    (hn : lengthFits row data) (hl : lockBar s r i = false) (hs : stateOk s row = true) (hb : alarmBar s r i = false) :
    writeEntry s r cmd i sub none data = (persistAfter (wrData s row i sub data) row i sub, 0) := by
  simp [writeEntry_of_lengthFits he ha hn, hd, hl, hs, hb]

end Steps

/-! ## Reserved bits (00 R10) -/

/-- Every entry with reserved bits above its range is an unsigned number. -/
theorem reserved_entries_unsigned :
    ∀ e ∈ [(0x2012, 1), (0x3015, 1), (0x4040, 6), (0x7010, 4), (0x8012, 2), (0x9060, 1)],
      ∀ row ∈ findRow e.1 e.2, row.ty = .u8 ∨ row.ty = .u16 := by decide +kernel

theorem unsigned_of_highReserved {i sub : Nat} {row : ObjRow} (hf : findRow i sub = some row)
    (hr : highReserved i sub = true) : row.ty = .u8 ∨ row.ty = .u16 :=
  reserved_entries_unsigned (i, sub) (List.contains_iff_mem.mp hr) row hf

theorem le_hi_of_inRange {row : ObjRow} {v : Nat} (ht : row.ty = .u8 ∨ row.ty = .u16) (h : inRange row v = true) :
    v ≤ row.hi.toNat := by
  have hle : (v : Int) ≤ row.hi := by
    rcases ht with ht | ht <;> · simp only [inRange, ht, Bool.and_eq_true, decide_eq_true_eq] at h; exact h.2
  omega

/-- The package reads a value and the value without its reserved bits alike. -/
theorem unreserved_mod {row : ObjRow} {i sub : Nat} (ht : row.ty = .u8 ∨ row.ty = .u16) (hr : highReserved i sub = true)
    (v : Nat) : unreserved row i sub (v % (row.hi.toNat + 1)) = unreserved row i sub v := by
  cases hv : inRange row v with
  | true => rw [Nat.mod_eq_of_lt (Nat.lt_succ_of_le (le_hi_of_inRange ht hv))]
  | false => simp [unreserved, hr, hv]

theorem wrNum_eq_of_unreserved_eq {row : ObjRow} {i sub v w : Nat} (h : unreserved row i sub v = unreserved row i sub w)
    (s : State) (r : Req) : wrNum s r row i sub v = wrNum s r row i sub w := by
  simp only [wrNum, h]

/-- The write of a numeric entry looks at the value without its reserved bits only. -/
theorem writeEntry_eq_of_unreserved_eq {i sub v w : Nat} {row : ObjRow} (he : entryOf i sub = .ok row)
    (hd : isData row.ty = false) (hc : ¬ (i = 0x1030 ∧ sub = 1)) (hv : v < 256 ^ row.size) (hw : w < 256 ^ row.size)
    (h : unreserved row i sub v = unreserved row i sub w) (s : State) (r : Req) (cmd : State → Nat → State × Nat) :
    writeEntry s r cmd i sub none (leBytes row.size v) = writeEntry s r cmd i sub none (leBytes row.size w) := by
  by_cases ha : row.acc = .ro
  · simp only [writeEntry_readOnly he ha]
  · have fits (x : Nat) : lengthFits row (leBytes row.size x) := (lengthFits_numeric hd).mpr (leBytes_length _ _)
    simp [writeEntry_of_lengthFits he ha (fits _), hd, hc, leNat_leBytes_of_lt hv, leNat_leBytes_of_lt hw,
      wrNum_eq_of_unreserved_eq h]

theorem writeData_congr {i sub : Nat} {d d' : List Byte} {s : State} {r : Req}
    (h : writeEntry (countServed s r.path) r (wPersist r) i sub none d =
      writeEntry (countServed s r.path) r (wPersist r) i sub none d') :
    writeData s r i sub d = writeData s r i sub d' := by
  simp only [writeData, doWrite, h]

theorem highReserved_not_persist_command {i sub : Nat} (hr : highReserved i sub = true) : ¬ (i = 0x1030 ∧ sub = 1) := by
  rintro ⟨rfl, rfl⟩
  exact absurd hr (by decide)

/-- A write of an entry with reserved bits is the write of its value without them. -/
theorem exec_write_ignores_reserved {i sub v : Nat} {row : ObjRow} (hf : findRow i sub = some row)
    (hr : highReserved i sub = true) (hv : v < 256 ^ row.size) (acc : Acc) (s : State) :
    exec (.objectWriteGeneric acc i sub (leBytes row.size v)) s =
      exec (.objectWriteGeneric acc i sub (leBytes row.size (v % (row.hi.toNat + 1)))) s := by
  have ht := unsigned_of_highReserved hf hr
  have hd : isData row.ty = false := by rcases ht with ht | ht <;> rw [ht] <;> rfl
  rw [exec_objectWriteGeneric, exec_objectWriteGeneric]
  exact writeData_congr (writeEntry_eq_of_unreserved_eq (entryOf_of_findRow hf) hd (highReserved_not_persist_command hr) hv
    ((Nat.mod_le v _).trans_lt hv) (unreserved_mod ht hr v).symm _ _ _)

/-! ## Accepted writes -/

theorem exec_write_numeric {acc : Acc} {i sub v : Nat} {s t : State} {row : ObjRow} (hf : findRow i sub = some row)
    (hm : mayWrite s acc i sub v = true) (hc : ¬ (i = 0x1030 ∧ sub = 1))
    (hw : wrAny (served s acc) (reqOf s acc) i sub v = (t, 0)) :
    exec (.objectWriteGeneric acc i sub (leBytes row.size v)) s = written s acc i sub t := by
  simp only [mayWrite, hf, Bool.and_eq_true, Bool.not_eq_true', bne_iff_ne, ne_eq, decide_eq_true_eq] at hm
  obtain ⟨⟨⟨⟨⟨⟨⟨⟨hp, hb⟩, ha⟩, hd⟩, hl⟩, hs⟩, hal⟩, hv⟩, hr⟩ := hm
  rw [exec_objectWriteGeneric, written_of_findRow hf]
  exact writeData_num hp hb (entryOf_of_findRow hf) ha hd hl hs hal hv hr hc hw

theorem exec_write_data {acc : Acc} {i sub : Nat} {data : List Byte} {s : State} {row : ObjRow}
    (hf : findRow i sub = some row) (ha : row.acc ≠ .ro) (hd : isData row.ty = true) (hn : lengthFits row data)
    (hp : pathServed s (reqOf s acc) = true) (hw : worldBar (reqOf s acc) i sub = false)
    (hl : lockBar s (reqOf s acc) i = false) (hs : stateOk s row = true) (hb : alarmBar s (reqOf s acc) i = false) :
    exec (.objectWriteGeneric acc i sub data) s = written s acc i sub (wrData (served s acc) row i sub data) := by
  rw [exec_objectWriteGeneric, written_of_findRow hf]
  exact writeData_accepted hp hw (writeEntry_data (entryOf_of_findRow hf) ha hd hn ((lockBar_countServed ..).trans hl)
    ((stateOk_countServed ..).trans hs) ((alarmBar_countServed ..).trans hb))

/-- Settles O1: a write that passes its checks reaches its object's effect; the reserved bits are gone before the effect sees the value. -/
theorem writeAccepted : Obligations.WriteAccepted := by
  refine ⟨fun acc i sub v s t row hf hm hc hw => ?numeric, fun acc i sub v s row hf hr hv => ?reserved,
    fun acc i sub data s row hf ha hd hpos hle hp hw hl hs hb => ?data⟩
  case numeric =>
    have h := exec_write_numeric hf hm hc hw
    exact ⟨h, (writeObj_eq_exec hf acc v s).trans h⟩
  case reserved =>
    have h := exec_write_ignores_reserved hf hr hv acc s
    exact ⟨h, by rw [writeObj_eq_exec hf, h, writeObj_eq_exec hf]⟩
  case data => exact exec_write_data hf ha hd ((lengthFits_data hd).mpr ⟨hpos, hle⟩) hp hw hl hs hb

/-! ## Aborted writes -/

/-- A write of the requester's own world aborts with the code at which steps 3 to 10 stop, and with no effect. -/
theorem exec_write_aborts {acc : Acc} {i sub code : Nat} {data : List Byte} {s : State}
    (hp : pathServed s (reqOf s acc) = true) (hw : worldBar (reqOf s acc) i sub = false) (hc : code ≠ 0)
    (he : writeEntry (served s acc) (reqOf s acc) (wPersist (reqOf s acc)) i sub none data = (served s acc, code)) :
    exec (.objectWriteGeneric acc i sub data) s =
      .next (emit (count (served s acc) 0x1051 7 1) (.status code)) := by
  rw [exec_objectWriteGeneric]
  exact writeData_aborted hp hw hc he

theorem worldAbort_not_counted {s : State} (hq : getO s 0x7110 4 ≠ 1) : worldAbort s = (s, 0x0501) := by
  simp [worldAbort, hq]

/-- A write from the wrong world that object 0x7110.04 does not count as a violation. -/
theorem exec_write_wrong_world {acc : Acc} {i sub : Nat} {s : State} (hp : pathServed s (reqOf s acc) = true)
    (hw : worldBar (reqOf s acc) i sub = true) (hq : getO (served s acc) 0x7110 4 ≠ 1) (data : List Byte) :
    exec (.objectWriteGeneric acc i sub data) s =
      .next (emit (count (served s acc) 0x1051 7 1) (.status 0x0501)) := by
  have hx : worldAbort (countServed s (reqOf s acc).path) = (served s acc, 0x0501) := worldAbort_not_counted hq
  rw [exec_objectWriteGeneric, writeData_worldBar hp hw, hx]

/-- Where an index has subindices, its SUB 0x00 is read-only and no other that is not listed exists. -/
theorem writeEntry_unlisted_sub {s : State} {r : Req} {cmd : State → Nat → State × Nat} {i sub top : Nat} {data : List Byte}
    (hf : findRow i sub = none) (ht : topSub i = some top) :
    writeEntry s r cmd i sub none data = (s, if sub = 0 then 0x0201 else 0x0102) := by
  by_cases h0 : sub = 0
  · subst h0
    exact writeEntry_readOnly (entryOf_sub_zero hf ht) rfl
  · rw [if_neg h0]
    exact writeEntry_no_entry (entryOf_no_sub hf ht h0)

/-- Settles O2: the checks in their order; each clause is the step that stops the write, all before it having passed. -/
theorem writeAborts : Obligations.WriteAborts := by
  intro acc i sub data s r u aborts hp
  refine ⟨fun hw hq => exec_write_wrong_world hp hw hq data, fun hw => ⟨fun hf ht => ?noIndex, fun top hf ht => ?noSub,
    fun row hf => ⟨fun ha => ?readOnly, fun ha => ⟨fun hd hlen => ?size, fun hd hlen => ?dataSize,
      fun hn => ⟨fun hl => ?locked, fun hl hs hx => ?wrongState⟩⟩⟩⟩⟩
  case noIndex => exact exec_write_aborts hp hw (by decide) (writeEntry_no_entry (entryOf_no_index hf ht))
  case noSub => exact exec_write_aborts hp hw (by split <;> decide) (writeEntry_unlisted_sub hf ht)
  case readOnly => exact exec_write_aborts hp hw (by decide) (writeEntry_readOnly (entryOf_of_findRow hf) ha)
  case size =>
    exact exec_write_aborts hp hw (by decide)
      (writeEntry_bad_length (entryOf_of_findRow hf) ha fun hfit => hlen ((lengthFits_numeric hd).mp hfit))
  case dataSize =>
    have hnot : ¬ lengthFits row data := by
      rw [lengthFits_data hd]
      rintro ⟨hpos, hle⟩
      rcases hlen with rfl | hlen
      · exact absurd hpos (by simp)
      · omega
    exact exec_write_aborts hp hw (by decide) (writeEntry_bad_length (entryOf_of_findRow hf) ha hnot)
  case locked =>
    exact exec_write_aborts hp hw (by decide)
      (writeEntry_locked (entryOf_of_findRow hf) ha hn ((lockBar_countServed ..).trans hl))
  case wrongState =>
    exact exec_write_aborts hp hw (by decide) (writeEntry_wrong_state (entryOf_of_findRow hf) ha hn
      ((lockBar_countServed ..).trans hl)
      (hs.imp (stateOk_countServed ..).trans (alarmBar_countServed ..).trans) (by simpa [served] using hx))

end Sys2Proof.Proofs
end

section
/-! A write that passes its checks, as every command that is one uses it: with the thread of a local mailbox named anew, and for the
persist commands, whose effect is `wPersist` (14 R482 to R486). -/
namespace Sys2Proof.Proofs
open Sys2Proof.Machine Sys2Proof.Claims

theorem findRow_of_mayWrite {s : State} {acc : Acc} {i sub v : Nat} (hm : mayWrite s acc i sub v = true) :
    ∃ row, findRow i sub = some row := by
  cases hf : findRow i sub with
  | none => simp [mayWrite, hf] at hm
  | some row => exact ⟨row, rfl⟩

theorem inRange_of_mayWrite {s : State} {acc : Acc} {i sub v : Nat} {row : ObjRow} (hf : findRow i sub = some row)
    (hm : mayWrite s acc i sub v = true) : inRange row v = true := by
  simp only [mayWrite, hf, Bool.and_eq_true] at hm
  exact hm.2

/-- A value that may be written to an unsigned entry is at most the entry's greatest. -/
theorem le_of_mayWrite {s : State} {acc : Acc} {i sub v hi : Nat} (hm : mayWrite s acc i sub v = true)
    (hrow : ∀ row ∈ findRow i sub, (row.ty = .u8 ∨ row.ty = .u16) ∧ row.hi.toNat = hi) : v ≤ hi := by
  obtain ⟨row, hf⟩ := findRow_of_mayWrite hm
  obtain ⟨ht, rfl⟩ := hrow row hf
  exact le_hi_of_inRange ht (inRange_of_mayWrite hf hm)

/-- Where steps 2 to 9 pass, the write answers what the entry's effect gives. No check looks at the thread behind the access. -/
theorem writeData_of_mayWrite {acc : Acc} {i sub v : Nat} {s t : State} {row : ObjRow} (hf : findRow i sub = some row)
    (hm : mayWrite s acc i sub v = true) (hart : Option Hart)
    (he : (if i = 0x1030 && sub = 1 then wPersist { reqOf s acc with hart := hart } (served s acc) v
      else wrNum (served s acc) { reqOf s acc with hart := hart } row i sub v) = (t, 0)) :
    writeData s { reqOf s acc with hart := hart } i sub (leBytes row.size v) = written s acc i sub t := by
  simp only [mayWrite, hf, Bool.and_eq_true, Bool.not_eq_true', bne_iff_ne, ne_eq, decide_eq_true_eq] at hm
  obtain ⟨⟨⟨⟨⟨⟨⟨⟨hp, hb⟩, ha⟩, hd⟩, hl⟩, hs⟩, hal⟩, hv⟩, -⟩ := hm
  have hlen : lengthFits row (leBytes row.size v) := (lengthFits_numeric hd).mpr (leBytes_length _ _)
  have hl' : lockBar (served s acc) { reqOf s acc with hart := hart } i = false := (lockBar_countServed ..).trans hl
  have hs' : stateOk (served s acc) row = true := (stateOk_countServed ..).trans hs
  have hal' : alarmBar (served s acc) { reqOf s acc with hart := hart } i = false := (alarmBar_countServed ..).trans hal
  rw [written_of_findRow hf]
  refine writeData_accepted (t := persistAfter t row i sub) hp hb ?_
  change writeEntry (served s acc) _ _ _ _ _ _ = _
  rw [writeEntry_of_lengthFits (entryOf_of_findRow hf) ha hlen, hl', hs', hal', leNat_leBytes_of_lt hv]
  simp only [hd, he, Bool.false_eq_true, ↓reduceIte, Bool.not_true, Bool.or_self]

/-- A value of the entry's range has the entry's own effect. -/
theorem wrNum_of_inRange {s : State} {r : Req} {row : ObjRow} {i sub v : Nat} (h : inRange row v = true) :
    wrNum s r row i sub v = wrAny s r i sub v := by
  simp [wrNum, unreserved_of_inRange i sub h, h]

theorem writeObj_written {acc : Acc} {i sub v : Nat} {s t : State} (hm : mayWrite s acc i sub v = true)
    (hc : ¬ (i = 0x1030 ∧ sub = 1)) (hw : wrAny (served s acc) (reqOf s acc) i sub v = (t, 0)) :
    writeObj acc i sub v s = written s acc i sub t := by
  obtain ⟨row, hf⟩ := findRow_of_mayWrite hm
  exact (writeAccepted.1 acc i sub v s t row hf hm hc hw).2

/-- A write whose object's rule answers a state leaves that state. -/
theorem writeObj_ok_written {acc : Acc} {i sub v : Nat} {s t : State} {w : WRes} (hm : mayWrite s acc i sub v = true)
    (hc : ¬ (i = 0x1030 ∧ sub = 1)) (hw : wrAny (served s acc) (reqOf s acc) i sub v = ofW (served s acc) w) (ht : w = .ok t) :
    writeObj acc i sub v s = written s acc i sub t :=
  writeObj_written hm hc (by rw [hw, ht, ofW])

/-- A write to object 0x1030.01 answers what the persist command does. -/
theorem writeObj_persist_written {acc : Acc} {v : Nat} {s t : State} (hm : mayWrite s acc 0x1030 1 v = true)
    (hw : wPersist (reqOf s acc) (served s acc) v = (t, 0)) : writeObj acc 0x1030 1 v s = written s acc 0x1030 1 t := by
  obtain ⟨row, hf⟩ := findRow_of_mayWrite hm
  simpa [writeObj, hf] using writeData_of_mayWrite hf hm (reqOf s acc).hart (by simpa using hw)

end Sys2Proof.Proofs
end

section
/-! The rows of events and of the welts' failures, each where its condition holds (01 R26, 14 R478, 16 R529 to R533). -/
namespace Sys2Proof.Proofs
open Sys2Proof.Machine Sys2Proof.Claims

theorem exec_msiXInterval {s : State} {vec : Nat} (hheld : s.events.msixHeld.contains vec = true)
    (hend : mget 0 s.events.msixAt vec - 1 + getO s 0x8011 1 * usec ≤ s.now) :
    exec (.msiXInterval vec) s = .next (emit { s with events := { s.events with
      msixHeld := s.events.msixHeld.filter (fun v => v != vec), msixAt := mset 0 s.events.msixAt vec (s.now + 1) } } (.msix vec)) := by
  change execMsiXInterval vec s = _
  simp only [execMsiXInterval, hheld, hend, decide_true, Bool.and_self, ↓reduceIte]

theorem exec_ibiSpacing {s : State} (hon : s.events.ibiEnabled = true) (hcount : s.events.ibiCount ≠ 0)
    (hat : s.events.ibiAt ≤ s.now) :
    exec .ibiSpacing s = .next { s with events := { s.events with ibiRequested := true } } := by
  change execIbiSpacing s = _
  simp [execIbiSpacing, hon, hcount, hat]

theorem exec_ibiServed {s : State} (hreq : s.events.ibiRequested = true) :
    exec .ibiServed s =
      let t := emit (count s 0x1051 8 1) (.ibi ([0x1f] ++ f16 s.events.ibiCode ++ f8 s.events.ibiCount))
      .next { t with events := { s.events with
        ibiCount := 0, ibiCode := 0, ibiRequested := false, ibiAt := s.now + getO t 0x1070 4 * usec } } := by
  change execIbiServed s = _
  rw [execIbiServed, if_pos hreq]
  rfl

/-- The mask, the tick and the port of event 0x8003 are the model's reading (log entry 96). -/
theorem exec_recoveryOverdue {s : State} {k : Nat} (hset : mget 0 s.recovery k ≠ 0)
    (hdue : mget 0 s.recovery k - 1 + getO s 0x8020 1 ≤ s.lace.tick) :
    exec (.recoveryOverdue k) s =
      let u := raise (count s 0x8021 3 1) 0x8003 (f8 (timerMask s k) ++ f64 (timerFault s k) ++
        f64 (s.lace.tick - (mget 0 s.recovery k - 1)) ++ f8 (if 8 ≤ k && k < 72 then k - 8 else 0xff))
      .next { u with recovery := mset 0 u.recovery k (u.lace.tick + 1) } := by
  change execRecoveryOverdue k s = _
  rw [execRecoveryOverdue, if_pos (by simp [hset, hdue])]

theorem exec_weltFlitError_first {s : State} {w flit : Nat} (hup : weltFailed s w = false)
    (hnew : s.weltFlits.contains (w, flit) = false) :
    exec (.weltFlitError w flit) s = .next { s with weltFlits := s.weltFlits ++ [(w, flit)] } := by
  change execWeltFlitError w flit s = _
  simp only [execWeltFlitError, hup, hnew, Bool.false_eq_true, ↓reduceIte]

/-- Event 0x8004 names a cross welt as C-die 16 (log entry 83). -/
theorem exec_weltFlitError_second {s : State} {w flit : Nat} (hup : weltFailed s w = false)
    (hseen : s.weltFlits.contains (w, flit) = true) :
    exec (.weltFlitError w flit) s =
      .next (startTimer (raise { s with welts := mset 0 s.welts w 1, weltFlits := s.weltFlits.filter (fun e => e.1 != w) }
        0x8004 (f8 (w / 2) ++ f8 (w % 2))) (72 + w)) := by
  change execWeltFlitError w flit s = _
  simp only [execWeltFlitError, hup, hseen, Bool.false_eq_true, ↓reduceIte]

/-- Settles O23: each row acts where its moment has come; a welt port fails at the second failure of one flit. -/
theorem eventRowsComplete : Obligations.EventRowsComplete := fun _ =>
  ⟨fun _ => exec_msiXInterval, exec_ibiSpacing, exec_ibiServed, fun _ => exec_recoveryOverdue,
    fun _ _ hup => ⟨exec_weltFlitError_first hup, exec_weltFlitError_second hup⟩⟩

end Sys2Proof.Proofs
end

section
/-! The writes of object 0x2001 (14 R474), and the commands of objects 0x2003 and 0x1020. -/
namespace Sys2Proof.Proofs
open Sys2Proof.Machine Sys2Proof.Claims

section StateCommand
variable {s : State} {secure : Bool}

/-- A write of the state in force changes nothing, but in READY. -/
theorem stateCmd_same {d : DevState} (ht : s.dev.target = none) (hm : s.dev.mode = d)
    (hd : d = .keeper ∨ d = .standby ∨ d = .running ∨ d = .draining) : stateCmd s secure (devCode d) = (s, 0) := by
  rcases hd with rfl | rfl | rfl | rfl <;> simp [stateCmd, ht, hm, devCode]

/-- A write of READY in READY takes an armed RUNNING back. -/
theorem stateCmd_disarm (ht : s.dev.target = none) (hm : s.dev.mode = .ready) :
    stateCmd s secure 3 = ({ s with dev := { s.dev with armed := false } }, 0) := by
  simp [stateCmd, ht, hm, devCode]

theorem stateCmd_powerUp (ht : s.dev.target = none) (hm : s.dev.mode = .keeper) :
    stateCmd s secure 2 = (goUp { s with dev := { s.dev with target := some .standby, fwReady := false } } 0, 0) := by
  simp [stateCmd, ht, hm, devCode]

theorem stateCmd_powerDown (ht : s.dev.target = none)
    (hm : s.dev.mode = .standby ∨ s.dev.mode = .ready ∨ s.dev.mode = .halted) :
    stateCmd s secure 1 = (packageReset s 4, 0) := by
  rcases hm with hm | hm | hm <;> simp [stateCmd, ht, hm, devCode]

theorem stateCmd_standby (ht : s.dev.target = none) (hm : s.dev.mode = .ready ∨ s.dev.mode = .halted) :
    stateCmd s secure 2 = (beginStandby s, 0) := by
  rcases hm with hm | hm <;> simp [stateCmd, ht, hm, devCode]

/-- ALARM is left once no condition of sources 1 to 4 that object 0x7110.01 names is in force. -/
theorem stateCmd_leaveAlarm (ht : s.dev.target = none) (hm : s.dev.mode = .alarm) (hsec : secure = true)
    (hc : ∀ e ∈ s.sec.condUntil, 1 ≤ e.1 → e.1 ≤ 4 → fbit (getO s 0x7110 1) e.1 = true → e.2 ≤ s.now) :
    stateCmd s secure 2 = (beginStandby s, 0) := by
  have hover : s.sec.condUntil.any (fun e => 1 ≤ e.1 && e.1 ≤ 4 && fbit (getO s 0x7110 1) e.1 && s.now < e.2) = false := by
    simp only [List.any_eq_false, Bool.and_eq_true, decide_eq_true_eq, not_and, not_lt, and_imp]
    exact hc
  simp [stateCmd, ht, hm, hsec, devCode, hover]

theorem stateCmd_bringUp (ht : s.dev.target = none) (hm : s.dev.mode = .standby) :
    stateCmd s secure 3 =
      (setO (selfTest (setO { s with dev := { s.dev with target := some .ready, dramDone := false } } 0x2004 5 0)) 0x2004 1 2, 0) := by
  simp [stateCmd, ht, hm, devCode]

theorem stateCmd_leaveHalted (ht : s.dev.target = none) (hm : s.dev.mode = .halted) :
    stateCmd s secure 3 =
      (setMode { s with parts := s.parts.map (fun e => (e.1, { e.2 with active := none, runs := false })) } .ready 1 0, 0) := by
  simp [stateCmd, ht, hm, devCode]

theorem stateCmd_arm (ht : s.dev.target = none) (hm : s.dev.mode = .ready) (hfit : laceUnfit s = false)
    (hfloor : floorShort s = false) :
    stateCmd s secure 4 = ({ s with dev := { s.dev with armed := true } }, 0) := by
  simp [stateCmd, ht, hm, devCode, hfit, hfloor]

theorem stateCmd_endDrain (ht : s.dev.target = none) (hm : s.dev.mode = .draining) :
    stateCmd s secure 4 = ({ s with dev := { s.dev with target := some .running } }, 0) := by
  simp [stateCmd, ht, hm, devCode]

theorem stateCmd_drain (ht : s.dev.target = none) (hm : s.dev.mode = .running) :
    stateCmd s secure 5 = ({ s with dev := { s.dev with target := some .draining } }, 0) := by
  simp [stateCmd, ht, hm, devCode]

end StateCommand

/-- A write of object 0x2001 that is accepted. -/
theorem stateWrite_written {acc : Acc} {v : Nat} {s t : State} (hm : mayWrite s acc 0x2001 0 v = true)
    (hw : stateCmd (served s acc) acc.secure v = (t, 0)) : writeObj acc 0x2001 0 v s = written s acc 0x2001 0 t :=
  writeObj_written hm (by decide) ((wrAny_2001_0 ..).trans hw)

theorem wFirmwareReady_ok {s : State} (hm : s.dev.mode = .keeper) (ht : s.dev.target = some .standby)
    (hb : s.dev.boot = .firmware) : wFirmwareReady s 1 = .ok { s with dev := { s.dev with fwReady := true } } := by
  simp [wFirmwareReady, hm, ht, hb]

theorem wImageCheck_ok {s : State} (hn : s.imgCheck = none) :
    wImageCheck s 1 =
      .ok (setO (setO { s with imgCheck := some (getO s 0x1020 1, getO s 0x1020 2) } 0x1020 4 1) 0x1020 5 0) := by
  simp [wImageCheck, hn]

theorem stateCommandsComplete : StateCommandsComplete := by
  intro acc s u m ready trains up
  refine ⟨fun ht ha => ⟨?keeper, ?standby, ?ready, ?running, ?draining⟩, fun hw => ?reset, fun hw hm ht hb => ?firmware,
    fun hw _ hn => ?image⟩
  case keeper =>
    exact fun hw => ⟨fun hm => stateWrite_written hw (stateCmd_same ht hm (by decide)),
      fun hm => stateWrite_written hw (stateCmd_powerDown ht hm)⟩
  case standby =>
    exact fun hw => ⟨fun hm => stateWrite_written hw (stateCmd_powerUp ht hm),
      fun hm => stateWrite_written hw (stateCmd_same ht hm (by decide)),
      fun hm => stateWrite_written hw (stateCmd_standby ht hm),
      fun hm hc => stateWrite_written hw (stateCmd_leaveAlarm ht hm (ha hm) hc)⟩
  case ready =>
    exact fun hw => ⟨fun hm => stateWrite_written hw (stateCmd_bringUp ht hm),
      fun hm => stateWrite_written hw (stateCmd_disarm ht hm),
      fun hm => stateWrite_written hw (stateCmd_leaveHalted ht hm)⟩
  case running =>
    exact fun hw => ⟨fun hm hfit hfloor => stateWrite_written hw (stateCmd_arm ht hm hfit hfloor),
      fun hm => stateWrite_written hw (stateCmd_same ht hm (by decide)),
      fun hm => stateWrite_written hw (stateCmd_endDrain ht hm)⟩
  case draining =>
    exact fun hw => ⟨fun hm => stateWrite_written hw (stateCmd_drain ht hm),
      fun hm => stateWrite_written hw (stateCmd_same ht hm (by decide))⟩
  case reset => exact writeObj_written hw (by decide) (wrAny_2003_2 ..)
  case firmware => exact writeObj_ok_written hw (by decide) (wrAny_2003_5 ..) (wFirmwareReady_ok hm ht hb)
  case image => exact writeObj_ok_written hw (by decide) (wrAny_1020_3 ..) (wImageCheck_ok hn)

end Sys2Proof.Proofs
end

section
/-! The writes of the security objects: field fuses, key slots, the arming level, and a unit marked unhealthy (01 R21, 15 R499 to
R513). -/
namespace Sys2Proof.Proofs
open Sys2Proof.Machine Sys2Proof.Claims

theorem wMark_taken {s : State} {v : Nat} (hv : v % 32 < 20) : wMark s v = (markUnhealthy s (v / 32) (v % 32) 4, 0) := by
  simp [wMark, hv]

/-! ## Field fuses -/

theorem wRaiseSvn_ok {s : State} {v : Nat} (hidle : s.sec.programming = none) (hmin : s.sec.shadow.svnMin ≤ v) (hmax : v ≤ 64)
    (himg : v ≤ getO s 0x1020 7) : wRaiseSvn s v = .ok (startFuses s 1 v) := by
  simp [wRaiseSvn, hidle, hmin, hmax, himg]

theorem wRevoke_ok {s : State} {k : Nat} (hidle : s.sec.programming = none) (hmax : k ≤ 3) (hk : k ≠ s.sec.bootKey) :
    wRevoke s k = .ok (startFuses s 2 k) := by
  simp [wRevoke, hidle, hmax, hk]

theorem svn_le_of_mayWrite {s : State} {acc : Acc} {v : Nat} (hm : mayWrite s acc 0x7030 1 v = true) : v ≤ 64 :=
  le_of_mayWrite hm (by decide +kernel)

theorem keyHash_le_of_mayWrite {s : State} {acc : Acc} {v : Nat} (hm : mayWrite s acc 0x7030 2 v = true) : v ≤ 3 :=
  le_of_mayWrite hm (by decide +kernel)

/-! ## Key slots -/

section Keys
variable {s : State} {k : Nat} (hk : getO s 0x7040 1 = k) (hfree : slotInUse s k = false)
include hk hfree

theorem wKeyCmd_write {b : List Byte} (hb : s.sec.keyVal = some b) :
    wKeyCmd s 1 = .ok { s with sec := { s.sec with slots := mbind s.sec.slots k b, keyVal := none } } := by
  simp [wKeyCmd, hk, hfree, hb]

theorem wKeyCmd_derive {ikm : List Byte} (hsrc : getO s 0x7040 4 ≠ k)
    (hikm : (if getO s 0x7040 4 = 0xff then some s.sec.shadow.uds else mfind s.sec.slots (getO s 0x7040 4)) = some ikm) :
    wKeyCmd s 2 = .ok { s with sec := { s.sec with
      slots := mbind s.sec.slots k (hkdf ikm (s.sec.salt.getD (List.replicate 48 0)) s.sec.info), keyVal := none } } := by
  simp [wKeyCmd, hk, hfree, hsrc, hikm]

theorem wKeyCmd_clear :
    wKeyCmd s 3 = .ok { s with sec := { s.sec with slots := s.sec.slots.filter (fun e => e.1 != k), keyVal := none } } := by
  simp [wKeyCmd, hk, hfree]

end Keys

/-! ## The arming level -/

section Arming
variable {s : State} {v : Nat} (hfloor : s.sec.shadow.alarmFloor ≤ v) (hmax : v ≤ 4)
  (hmay : getO s 0x7100 0 ≤ v ∨ s.dev.mode = .standby ∨ s.dev.mode = .ready)
include hfloor hmax hmay

/-- A level at or above the floor that raises the level in force, or lowers it in STANDBY or READY. -/
theorem wArming_admitted : wArming s v =
    if s.dev.mode != .alarm then .ok (setO s 0x7100 0 v)
    else
      let t := alarmActions (setO s 0x7100 0 v) v
      .ok (if decide (v = 4) && decide (s.sec.level < 4) then
        raise (count t 0x3060 6 1) 0x3109 (f16 (pnode t) ++ f16 4 ++ f64 t.lace.tick ++ f16 t.lace.phase) else t) := by
  have hlower : (v < getO s 0x7100 0 && s.dev.mode != .standby && s.dev.mode != .ready) = false := by
    rcases hmay with h | h | h <;> simp [h]
  have hrange : (v < s.sec.shadow.alarmFloor || 4 < v) = false := by simp [hfloor, hmax]
  simp only [wArming, hlower, hrange, Bool.false_eq_true, ↓reduceIte]
  rfl

theorem wArming_ok (hm : s.dev.mode ≠ .alarm) : wArming s v = .ok (setO s 0x7100 0 v) := by
  simp [wArming_admitted hfloor hmax hmay, hm]

/-- A raise in ALARM. -/
theorem wArming_alarm (hm : s.dev.mode = .alarm) :
    wArming s v = .ok (let t := alarmActions (setO s 0x7100 0 v) v
      if v = 4 ∧ s.sec.level < 4 then
        raise (count t 0x3060 6 1) 0x3109 (f16 (pnode t) ++ f16 4 ++ f64 t.lace.tick ++ f16 t.lace.phase) else t) := by
  simp [wArming_admitted hfloor hmax hmay, hm]

end Arming

theorem level_le_of_mayWrite {s : State} {acc : Acc} {v : Nat} (hm : mayWrite s acc 0x7100 0 v = true) : v ≤ 4 :=
  le_of_mayWrite hm (by decide +kernel)

theorem securityCommandsComplete : SecurityCommandsComplete := by
  intro acc s u k keys
  refine ⟨fun v hw hv => ?mark, fun hidle => ⟨fun v hw hmin himg => ?svn, fun h hw hh => ?revoke⟩,
    fun hfree => ⟨fun b hw hb => ?write, fun ikm hw hsrc hikm => ?derive, fun hw => ?clear⟩,
    fun v hw hfloor hmay => ⟨fun hm => ?level, fun hm => ?raised⟩⟩
  case mark => exact writeObj_written hw (by decide) ((wrAny_2012_1 ..).trans (wMark_taken hv))
  case svn =>
    exact writeObj_ok_written hw (by decide) (wrAny_7030_1 ..) (wRaiseSvn_ok hidle hmin (svn_le_of_mayWrite hw) himg)
  case revoke => exact writeObj_ok_written hw (by decide) (wrAny_7030_2 ..) (wRevoke_ok hidle (keyHash_le_of_mayWrite hw) hh)
  case write => exact writeObj_ok_written hw (by decide) (wrAny_7040_2 ..) (wKeyCmd_write rfl hfree hb)
  case derive => exact writeObj_ok_written hw (by decide) (wrAny_7040_2 ..) (wKeyCmd_derive rfl hfree hsrc hikm)
  case clear => exact writeObj_ok_written hw (by decide) (wrAny_7040_2 ..) (wKeyCmd_clear rfl hfree)
  case level =>
    exact writeObj_ok_written hw (by decide) (wrAny_7100_0 ..) (wArming_ok hfloor (level_le_of_mayWrite hw) hmay hm)
  case raised =>
    exact writeObj_ok_written hw (by decide) (wrAny_7100_0 ..) (wArming_alarm hfloor (level_le_of_mayWrite hw) hmay hm)

end Sys2Proof.Proofs
end

section
/-! The writes of the event queue, the operating point, the pre-ramp and the persist commands (14 R485, R486, 16 R528 to R539, 17
R545, R561). -/
namespace Sys2Proof.Proofs
open Sys2Proof.Machine Sys2Proof.Claims

/-- A head that does not pass the tail by more than the ring (R539). That a head lies ahead of the tail where their signed distance is
positive is the model's reading (log entry 87). -/
theorem wHead_taken {s : State} {v : Nat} (hart : Option Hart)
    (hv : sub32 v (getO s 0x8000 3) ≤ 2 ^ getO s 0x8000 2 ∨ 2 ^ 31 ≤ sub32 v (getO s 0x8000 3)) :
    wHead s v hart = (reportLoss (match hart with
      | some h => if hartKey h = meipHart (setO s 0x8000 4 v) then
          { setO s 0x8000 4 v with events := { s.events with meip := mset false s.events.meip (hartKey h) false } }
        else setO s 0x8000 4 v
      | none => setO s 0x8000 4 v), 0) := by
  have hring : ¬ (2 ^ getO s 0x8000 2 < sub32 v (getO s 0x8000 3) ∧ sub32 v (getO s 0x8000 3) < 2 ^ 31) := by omega
  rw [wHead, if_neg (by simpa using hring)]
  cases hart <;> rfl

theorem wEnable_taken (s : State) (v : Nat) :
    wEnable s v = (if v = 1 ∧ queueOn s = false then flushHold (setO s 0x8000 5 v) else setO s 0x8000 5 v, 0) := by
  simp [wEnable]

/-- A FREQ with lead enough is flooded and held. -/
theorem sendTimed_freq {s : State} {e b : Nat} (hrun : laceRuns s = true) (hlead : s.lace.tick + max 16 (horizon s) ≤ e) :
    sendTimed s 0x23 e b = .ok (announced s 0x23 e b) := by
  have hnot : ¬ e < s.lace.tick + leastLead s 0x23 := by simpa [leastLead] using hlead
  simp [sendTimed, hrun, hnot, announced]

theorem wFreq_ok {s : State} {e : Nat} (hman : isManager s = true) (hm : s.dev.mode = .ready ∨ s.dev.mode = .running)
    (hrun : laceRuns s = true) (hmax : getO s 0x2200 1 ≤ getO s 0x2200 3) (habove : aboveActive s (getO s 0x2200 1) = false)
    (htime : 40 * usec ≤ (e - s.lace.tick) * s.lace.tickLen * cycleLen s) (hlead : s.lace.tick + max 16 (horizon s) ≤ e) :
    wFreq s e = .ok (beginChange (announced s 0x23 e (getO s 0x2200 1)) (getO s 0x2200 1)) := by
  have hmode : (s.dev.mode != .ready && s.dev.mode != .running) = false := by rcases hm with h | h <;> simp [h]
  simp [wFreq, hman, hmode, hrun, hmax.not_gt, habove, htime.not_gt, sendTimed_freq hrun hlead]

theorem wPersist_export (r : Req) (s : State) :
    wPersist r s 1 = (setO { s with relum := { s.relum with pstage := mputs 0 [] 0 (persistRecord s r.secure) } } 0x1030 2
      (persistRecord s r.secure).length, 0) := by
  simp [wPersist]

/-- A staged record with the right header and checksum, each of whose entries is accepted. -/
theorem wPersist_import {r : Req} {s t : State} (hm : s.dev.mode = .standby) :
    let h := mrange 0 s.relum.pstage 0 16
    let n := fieldB h 6 2
    let body := mrange 0 s.relum.pstage 16 (12 * n)
    fieldB h 0 4 = 0x53524550 → fieldB h 4 2 = 1 → 16 + 12 * n ≤ 16384 → fieldB h 8 4 = crc32 body →
    importAll r ((List.range n).map (fun k => sub body (12 * k) 12)) 0 s = (t, none) →
    wPersist r s 2 = (setO { t with persistLost := false } 0x1030 5 0, 0) := by
  intro h n body hmagic hversion hlen hcrc hall
  have hhead : (fieldB h 0 4 != 0x53524550 || fieldB h 4 2 != 1 || 16384 < 16 + 12 * n || fieldB h 8 4 != crc32 body) = false := by
    simp [hmagic, hversion, hlen.not_gt, hcrc]
  simp only [wPersist, hm, h, n, body] at hhead hall ⊢
  rw [hhead, hall]
  rfl

theorem wPersist_defaults {r : Req} {s : State} (hm : s.dev.mode = .standby) :
    wPersist r s 3 = ((persistEntries r.secure).foldl (fun x e =>
      { setO x e.2.1 e.2.2 (rowDefault e.1 e.2.1 e.2.2) with persist := mdrop x.persist (okey e.2.1 e.2.2) }) s, 0) := by
  simp [wPersist, hm]

/-- The write of the queue's head, by a host or by the thread that the command names. -/
theorem exec_eventQueueHead_written {acc : Acc} {v : Nat} {hart : Option Hart} {s t : State}
    (hm : mayWrite s acc 0x8000 4 v = true) (hw : wHead (served s acc) v hart = (t, 0)) :
    exec (.eventQueueHead acc v hart) s = written s acc 0x8000 4 t := by
  obtain ⟨row, hf⟩ := findRow_of_mayWrite hm
  have hsize : row.size = 4 := (by decide +kernel : ∀ row ∈ findRow 0x8000 4, row.size = 4) row hf
  have hdata := writeData_of_mayWrite (t := t) hf hm hart
    (by rw [wrNum_of_inRange (inRange_of_mayWrite hf hm), wrAny_8000_4]; exact hw)
  rw [hsize] at hdata
  exact hdata

theorem queuePowerPersistComplete : QueuePowerPersistComplete := by
  intro acc s u r
  refine ⟨fun v hart hw hv => ?head, fun v hw => ?enable, fun e hw hman hm hrun hmax habove htime hlead => ?freq, fun hw => ?start,
    fun hw => ?stop, fun hw => ?exported, fun t hw hm => ?imported, fun hw hm => ?defaults⟩
  case head => exact exec_eventQueueHead_written hw (wHead_taken hart hv)
  case enable => exact writeObj_written hw (by decide) ((wrAny_8000_5 ..).trans (wEnable_taken ..))
  case freq =>
    exact writeObj_ok_written hw (by decide) (wrAny_2200_2 ..) (wFreq_ok hman hm hrun hmax habove htime hlead)
  case start => exact writeObj_written hw (by decide) (wrAny_2110_1 ..)
  case stop => exact writeObj_written hw (by decide) (wrAny_2110_1 ..)
  case exported => exact writeObj_persist_written hw (wPersist_export ..)
  case imported =>
    exact fun hmagic hversion hlen hcrc _ hall =>
      writeObj_persist_written hw (wPersist_import hm hmagic hversion hlen hcrc hall)
  case defaults => exact writeObj_persist_written hw (wPersist_defaults hm)

/-- Settles O30, family by family: each command is an accepted write whose object's rule answers the state that the statement names. -/
theorem stateAndSecurityWritesComplete : Obligations.StateAndSecurityWritesComplete :=
  ⟨stateCommandsComplete, securityCommandsComplete, queuePowerPersistComplete⟩

end Sys2Proof.Proofs
end

section
/-! The element formats of 02 R36 to R48 and the requantiser of R57 to R60: the S8 codes, the bytes of a ternary group, and the range of
the codes that a requantised block has. -/
namespace Sys2Proof.Proofs
open Sys2Proof.Machine Sys2Proof.Claims

/-! ## S8 codes (R43) -/

theorem s8u_subnormal {r : Nat} (hr : r < 8) : s8u r = r := by
  rw [s8u, if_pos (Nat.div_eq_of_lt hr), Nat.mod_eq_of_lt hr]

theorem s8u_normal (k : Nat) {r : Nat} (hr : r < 8) : s8u (8 * (k + 1) + r) = (8 + r) * 2 ^ k := by
  have hdiv : (8 * (k + 1) + r) / 8 = k + 1 := by omega
  have hmod : (8 * (k + 1) + r) % 8 = r := by omega
  rw [s8u, hdiv, hmod, if_neg (Nat.succ_ne_zero k), Nat.add_sub_cancel]

/-- The next code lies above, both within an octave and from the last code of one to the first of the next. -/
theorem s8u_lt_succ (c : Nat) : s8u c < s8u (c + 1) := by
  obtain ⟨q, r, hr, rfl⟩ : ∃ q r, r < 8 ∧ c = 8 * q + r := ⟨c / 8, c % 8, Nat.mod_lt _ (by decide), (Nat.div_add_mod c 8).symm⟩
  obtain hlast | rfl : r < 7 ∨ r = 7 := by omega
  · have hr' : r + 1 < 8 := by omega
    cases q with
    | zero => simp [s8u_subnormal hr, s8u_subnormal hr']
    | succ k =>
      rw [Nat.add_assoc, s8u_normal k hr, s8u_normal k hr']
      exact Nat.mul_lt_mul_of_pos_right (by omega) (Nat.two_pow_pos k)
  · have hnext : 8 * q + 7 + 1 = 8 * (q + 1) + 0 := by omega
    rw [hnext, s8u_normal q (by decide)]
    cases q with
    | zero => simp [s8u_subnormal]
    | succ k =>
      rw [s8u_normal k (by decide), Nat.pow_succ]
      have := Nat.two_pow_pos k
      omega

theorem s8u_strictMono : StrictMono s8u := strictMono_nat_of_lt_succ s8u_lt_succ

/-- The exponent in units of 2 to the -17; a code below 8 has the least one. -/
theorem s8k_add (c : Nat) : s8k c + 17 = Int.ofNat (c / 8 - 1) := by
  rw [s8k]
  split <;> simp only [Int.ofNat_eq_natCast] <;> omega

theorem s8u_eq_s8m_mul (c : Nat) : s8u c = s8m c * 2 ^ (c / 8 - 1) := by
  rw [s8u, s8m]
  split
  case isTrue h => simp [h]
  case isFalse => rfl

/-- Settles O52: a code and the next one compare within an octave or across its end, and so every two do. -/
theorem s8ValuesRise : Obligations.S8ValuesRise := by
  intro c _
  refine ⟨fun h => ⟨if_pos h, if_pos h⟩, fun h => ⟨if_neg h, if_neg h⟩, ?_, ?_, rfl, rfl, ?_, fun d hcd _ => s8u_strictMono hcd⟩
  · rw [s8k_add]; exact s8u_eq_s8m_mul c
  · rw [s8k_add]; exact Int.natCast_nonneg _
  · exact s8u_normal 30 (r := 6) (by decide)

/-! ## Bytes of a ternary group (R39, R40) -/

theorem t16Dec_invalid {v : Nat} (h : 0xf3 ≤ v) : t16Dec v = [0, 0, 0, 0, 0] := if_pos h

theorem t16Dec_valid {v : Nat} (h : v < 0xf3) :
    t16Dec v = [v % 3, v / 3 % 3, v / 9 % 3, v / 27 % 3, v / 81 % 3].map (fun t => Int.ofNat t - 1) := if_neg (Nat.not_le.2 h)

/-- Settles O53: the byte is the number whose ternary digits are the five weights, each plus one. -/
theorem ternaryWeightsDecode : Obligations.TernaryWeightsDecode := by
  refine ⟨fun t0 t1 t2 t3 t4 h0 h1 h2 h3 h4 => ?_, fun v => t16Dec_invalid⟩
  generalize hv : t0 + 3 * t1 + 9 * t2 + 27 * t3 + 81 * t4 = v
  have d0 : v % 3 = t0 := by omega
  have d1 : v / 3 % 3 = t1 := by omega
  have d2 : v / 9 % 3 = t2 := by omega
  have d3 : v / 27 % 3 = t3 := by omega
  have d4 : v / 81 % 3 = t4 := by omega
  rw [t16Dec_valid (by omega), d0, d1, d2, d3, d4]

/-! ## The requantiser (R57 to R59) -/

/-- The code of one element under a scale: its rounded quotient, held between -top and top; an infinity takes an end, a NaN gives 0. -/
def quantCode (top scale x : Nat) : Int :=
  if !f32Fin x then (if f32Nan x then 0 else if f32Sign x then - Int.ofNat top else Int.ofNat top)
  else if scale = 0 then 0
  else max (- Int.ofNat top) (min (Int.ofNat top) (quantDiv x (s8u scale)))

theorem requantBlock_codes (top clip : Nat) (xs : List Nat) :
    (requantBlock top clip xs).codes = xs.map (quantCode top (requantBlock top clip xs).scale) := by
  generalize hsc : (requantBlock top clip xs).scale = scale
  simp only [requantBlock, List.map_map] at hsc ⊢
  rw [hsc]
  refine List.map_congr_left fun x _ => ?_
  simp only [Function.comp_apply, quantCode, apply_ite Prod.fst, Int.ofNat_eq_natCast]
  split_ifs <;> omega

theorem quantCode_range (top scale x : Nat) : -(top : Int) ≤ quantCode top scale x ∧ quantCode top scale x ≤ top := by
  simp only [quantCode, Int.ofNat_eq_natCast]
  split_ifs <;> omega

theorem requantBlock_range {top clip : Nat} {xs : List Nat} {v : Int} (hv : v ∈ (requantBlock top clip xs).codes) :
    -(top : Int) ≤ v ∧ v ≤ top := by
  rw [requantBlock_codes] at hv
  obtain ⟨x, -, rfl⟩ := List.mem_map.1 hv
  exact quantCode_range ..

theorem requantBlock_length (top clip : Nat) (xs : List Nat) : (requantBlock top clip xs).codes.length = xs.length := by
  rw [requantBlock_codes, List.length_map]

/-- Settles O54: a code lies from -top to top, with top 127 or 32,767. -/
theorem requantiserRange : Obligations.RequantiserRange := by
  intro clip xs
  refine ⟨fun v hv => ?a8, fun v hv => ?a16, requantBlock_length .., requantBlock_length .., fun b i hb => ?operand⟩
  case a8 =>
    obtain ⟨hlo, hhi⟩ := requantBlock_range (top := 127) hv
    exact ⟨by omega, hlo, hhi⟩
  case a16 =>
    obtain ⟨hlo, hhi⟩ := requantBlock_range (top := 32767) hv
    exact ⟨by omega, hlo, hhi⟩
  case operand => rw [i8Block, List.getElem?_map, hb]; rfl

end Sys2Proof.Proofs
end

section
/-! What a cluster completes: operations, the resole unit, arrivals, transfers, awl descriptors and reductions (02 R69 to R74, 03 R96,
R110, 04 R126 to R135, 06 R237 to R243). Each command acts where its moment has come. -/
namespace Sys2Proof.Proofs
open Sys2Proof.Machine Sys2Proof.Claims

/-! ## Completion and resole -/

section Resole
variable {s u : State} {l : Lcl} {p : Nat} {im : Image}

theorem exec_resoleFlagArrival (l : Lcl) (s : State) : exec (.resoleFlagArrival l) s =
    let r := (getCl s l.val).resole
    .next (setResole s l.val { r with transit := [], flags := sortBy flagBefore (r.flags ++ r.transit) }) := rfl

theorem exec_operationComplete {core : CoreRef} {ix : Nat} {f : InFlight} (hp : partOf s core.lcl.val = some (p, im))
    (hf : (getCore s core.lcl.val core.core.val).flight.find? (fun f => f.ix == ix) = some f)
    (hdue : f.due ≤ clTime s core.lcl.val) (hread : unitsRead f = true) :
    exec (.operationComplete core ix) s = .next (commit s core.lcl.val core.core.val im f) := by
  change execOperationComplete core ix s = _
  simp [execOperationComplete, hp, hf, hdue, hread]

theorem exec_resoleWindowOpen {w : Nat} {q : Nat × Image} (hp : partOf s l.val = some (p, im))
    (hw : windowHere im l.val (periodTick s p im) (schedCyc s l.val) = some w)
    (hat : atCycle s l.val (periodTick s p im) (schedCyc s l.val) = (u, some q)) (hnone : (getCl u l.val).resole.window = none) :
    exec (.resoleWindowOpen l) s = .next (openWindow u l.val im w) := by
  change execResoleWindowOpen l s = _
  simp [execResoleWindowOpen, hp, hw, hat, hnone]

theorem exec_resoleRecomputationDone {f : Flag} {lev at' : Nat} (hp : partOf s l.val = some (p, im))
    (hgoes : clusterGoes s l.val = true) (hwork : (getCl s l.val).resole.work = some (f, lev, at')) (hend : at' ≤ clTime s l.val) :
    exec (.resoleRecomputationDone l) s = .next (endWork s l.val p im) := by
  change execResoleRecomputationDone l s = _
  simp [execResoleRecomputationDone, hp, hwork, hgoes, hend]

/-- A recomputation that ends with the window is ended first. -/
theorem exec_resoleWindowClose {w b close : Nat} (hp : partOf s l.val = some (p, im)) (hgoes : clusterGoes s l.val = true)
    (hw : (getCl s l.val).resole.window = some (w, b, close)) (hclose : close ≤ clTime s l.val) :
    exec (.resoleWindowClose l) s = .next (closeWindow (match (getCl s l.val).resole.work with
      | some (_, _, e) => if e ≤ clTime s l.val then endWork s l.val p im else s
      | none => s) l.val im) := by
  have hnot : (!(clusterGoes s l.val && decide (close ≤ clTime s l.val))) = false := by simp [hgoes, hclose]
  change execResoleWindowClose l s = _
  simp only [execResoleWindowClose, hp, hw, hnot, Bool.false_eq_true, ↓reduceIte] <;> rfl

end Resole

theorem completionAndResoleComplete : CompletionAndResoleComplete := fun core _ s _ _ =>
  ⟨exec_resoleFlagArrival core.lcl s, fun hp =>
    ⟨fun _ => exec_operationComplete hp, fun _ _ _ => exec_resoleWindowOpen hp, fun hgoes =>
      ⟨fun _ _ _ => exec_resoleRecomputationDone hp hgoes, fun _ _ _ => exec_resoleWindowClose hp hgoes⟩⟩⟩

/-! ## Arrivals and transfers -/

/-- An arrival sets its bit; where the cluster holds, its cycle is taken up again. -/
theorem exec_arrival (core : CoreRef) (bit : Nat) (s : State) : exec (.arrival core bit) s =
    let t := Sys2Proof.Machine.arrive s core.lcl.val core.core.val bit
    .next (match partOf t core.lcl.val with
      | some (p, im) => if (getCl t core.lcl.val).hold.isSome then (takeCycle t core.lcl.val im (periodTick t p im)).1 else t
      | none => t) := by
  change execArrival core bit s = _
  simp only [execArrival]
  cases partOf (Machine.arrive s core.lcl.val core.core.val bit) core.lcl.val with
  | none => rfl
  | some e => exact (apply_ite Host.Outcome.next ..).symm

section Scheduled
variable {s u : State} {q : Nat × Image} {im : Image}

theorem exec_transferStart {part : Part} {ix e : Nat} (hact : activeImage s part.val = some im) (he : im.xfer[ix]? = some e)
    (hruns : (getPart s part.val).runs = true) (hnew : xferBegun s (xPort e) ix = false)
    (hat : atCycle s (xLcl e) (xPtick e) (xSend e) = (u, some q)) :
    exec (.transferStart part ix) s = .next (startTransfer (commitDue
      (if xWaitEn e then sbSet u (xLcl e) (xCore e) (xWaitBit e) false else u) (xLcl e) (xCore e) im) ix e) := by
  change execTransferStart part ix s = _
  simp [execTransferStart, hact, he, hruns, hnew, hat]

/-! ## Awl descriptors -/

section Awl
variable {l : Lcl} {ix : Nat}

/-- `v` is the state in which the descriptor starts: its wait bit cleared and the operations of its cluster that are due completed. -/
theorem exec_awlDescriptorStart {v : State} {p e : Nat} (hix : ix ≠ 0xffff) (hp : partOf s l.val = some (p, im)) (he : im.awl[ix]? = some e)
    (hl : aLcl e = l.val) (hroute : routeOf s p ix = none) (hnew : awlBegun s l.val ix = false)
    (hat : atCycle s l.val (aPtick e) (aStart e) = (u, some q))
    (hv : (List.range 64).foldl (fun x c => commitDue x l.val c im)
      (if aWaitEn e then sbSet u l.val (aCore e) (aWaitBit e) false else u) = v) :
    exec (.awlDescriptorStart l ix) s = .next (startLate (scheduleAwl v l.val ix e
      (awlRow v l.val e (some (match (getPart v p).active with | some n => (getSlot v n).pinned | none => []))) none) l.val) := by
  have hgo : (aLcl e != l.val || (routeOf s p ix).isSome || awlBegun s l.val ix) = false := by simp [hl, hroute, hnew]
  change execAwlDescriptorStart l ix s = _
  simp only [execAwlDescriptorStart, if_neg hix, hp, he, hgo, hat, hv, Bool.false_eq_true, ↓reduceIte] <;> rfl

/-- A descriptor of the queue starts outside the last's time. -/
theorem exec_awlDescriptorStart_queued {e owner : Nat} {r : List (Nat × Nat)} (hq : (getAwl s l.val).queue = (e, owner) :: r)
    (hruns : clusterRuns s l.val = false) (hk : s.dev.mode ≠ .keeper) (hs : s.dev.mode ≠ .standby) :
    let v := setAwl s l.val { getAwl s l.val with queue := r }
    exec (.awlDescriptorStart l 0xffff) s =
      .next (refillQueue (startAwl v l.val 0xffff 0xffff e owner (awlRow v l.val e none)) l.val) := by
  change execAwlDescriptorStart l 0xffff s = _
  simp [execAwlDescriptorStart, hq, hruns, hk, hs]

theorem exec_awlDescriptorComplete {f : AwlFlight}
    (hf : (getAwl s l.val).flight.find? (fun f => f.ix == ix && decide (f.due ≤ s.cyc)) = some f) :
    exec (.awlDescriptorComplete l ix) s = .next (completeAwl s l.val f) := by
  change execAwlDescriptorComplete l ix s = _
  simp only [execAwlDescriptorComplete, hf]

end Awl

/-! ## Reductions -/

section Reduction
variable {part : Part} {ix h : Nat} {ws : List Nat} {r : Reduction}

theorem exec_reductionStart (hact : activeImage s part.val = some im) (he : im.reduce[ix]? = some (h, ws))
    (hruns : (getPart s part.val).runs = true) (hnew : ∀ r ∈ (getAwl s (rLcl h)).reds, r.ix ≠ ix)
    (hat : atCycle s (rLcl h) (rPtick h) (rStart h) = (u, some q)) :
    exec (.reductionStart part ix) s = .next (setAwl u (rLcl h) { getAwl u (rLcl h) with
      reds := (getAwl u (rLcl h)).reds ++
        [⟨ix, 0, List.replicate (rElem h) 0, clTime u (rLcl h) + 16 + rNc h * (rElem h / 32)⟩] }) := by
  have hidle : (getAwl s (rLcl h)).reds.any (fun r => r.ix == ix) = false := by simpa using hnew
  change execReductionStart part ix s = _
  simp [execReductionStart, hact, he, hruns, hidle, hat]

theorem exec_reductionContribution_finished (hact : activeImage s part.val = some im) (he : im.reduce[ix]? = some (h, ws))
    (hr : (getAwl s (rLcl h)).reds.find? (fun r => r.ix == ix) = some r)
    (hlast : rNc h ≤ r.next) (hgoes : clusterGoes s (rLcl h) = true) (hdone : r.doneAt ≤ clTime s (rLcl h)) :
    exec (.reductionContribution part ix) s = .next (finishRed s (rLcl h) h r) := by
  change execReductionContribution part ix s = _
  simp [execReductionContribution, hact, he, hr, hlast, hgoes, hdone]

theorem exec_reductionContribution_next (hact : activeImage s part.val = some im) (he : im.reduce[ix]? = some (h, ws))
    (hr : (getAwl s (rLcl h)).reds.find? (fun r => r.ix == ix) = some r) (hmore : r.next < rNc h)
    (hat : atCycle s (rLcl h) (redAt im h r.next).1 (redAt im h r.next).2 = (u, some q)) :
    let a := field (ws.getD r.next 0) 0 16
    let n := p16RowBytes (rElem h / 32)
    let v := (ecc (sbSet u (rLcl h) (rCore h) (contribBit (h, ws) r.next) false) 0xffff (spadAddr (rLcl h) (rCore h) a) n).1
    let x := p16Row (spadGet v (rLcl h) (rCore h) a n) (rElem h)
    exec (.reductionContribution part ix) s = .next (setRed (badP16 v 1 r.ix (rLcl h) 0xff 0xff x.2) (rLcl h) { r with
      next := r.next + 1, row := List.zipWith f32Add r.row x.1 }) := by
  change execReductionContribution part ix s = _
  simp only [execReductionContribution, hact, he, hr, if_neg hmore.not_ge, hat]

end Reduction
end Scheduled

theorem scheduledActionsComplete : ScheduledActionsComplete := by
  intro s u q
  refine ⟨fun core bit => exec_arrival core bit s, fun part ix im e => exec_transferStart, fun lcl => ⟨?start, ?queued, ?complete⟩,
    fun part ix im h ws hact he => ⟨?begin, fun r hr => ⟨?finish, ?contribution⟩⟩⟩
  case start =>
    intro ix p im e hix hp he hl hroute hnew hat v
    clear_value (hv : v = _)
    exact exec_awlDescriptorStart hix hp he hl hroute hnew hat hv.symm
  case queued => exact fun e owner r => exec_awlDescriptorStart_queued
  case complete => exact fun ix f => exec_awlDescriptorComplete
  case begin => exact exec_reductionStart hact he
  case finish => exact exec_reductionContribution_finished hact he hr
  case contribution => exact exec_reductionContribution_next hact he hr

/-- Settles O32, command by command: each acts where its moment has come. -/
theorem clusterActionsComplete : Obligations.ClusterActionsComplete :=
  ⟨completionAndResoleComplete, scheduledActionsComplete⟩

end Sys2Proof.Proofs
end

section
/-! The pass of a tick, sampler results and the takeover of a manager (10 R337, R351, R362 to R367, 02 R613). -/
namespace Sys2Proof.Proofs
open Sys2Proof.Machine Sys2Proof.Claims

/-! ## The pass of a tick -/

section Pass
variable {s : State}

theorem exec_tickPass_due (hman : isManager s = true) (hrun : inRun s = true) (hlace : laceRuns s = true)
    (hphase : s.lace.phase = 0) (hnew : s.serving.passTick ≤ s.lace.tick) :
    let u := applyResults (drainHeld s)
    let v := u.serving.cancels.foldl (fun s i => cancelReq s i 6) { u with serving := { u.serving with cancels := [] } }
    let w := chargeAll (endReqs (checkDeads (consume (getO v 0x6011 1) v)))
    exec .tickPass s = .next (endPass (if w.dev.mode = .draining then w else admitAll (getO w 0x6011 2) w) s) := by
  change execTickPass s = _
  rw [execTickPass, if_pos (by simp [hman, hrun, hlace, hphase, hnew]), Machine.passOf]

/-- Elsewhere in the tick, or where the tick's pass has been made, nothing changes. -/
theorem exec_tickPass_not_due (h : s.lace.phase ≠ 0 ∨ s.lace.tick < s.serving.passTick) : exec .tickPass s = .next s := by
  have hnot : ¬ (s.lace.phase = 0 ∧ s.serving.passTick ≤ s.lace.tick) := by omega
  change execTickPass s = _
  rw [execTickPass, if_neg (by simp only [Bool.and_eq_true, decide_eq_true_eq]; omega)]

end Pass

theorem tickPassCompletes : TickPassCompletes := by
  intro s u v w
  refine ⟨fun hman hrun hlace hphase hnew => ?_, exec_tickPass_not_due⟩
  rw [exec_tickPass_due hman hrun hlace hphase hnew]
  exact ⟨fun hd => by rw [if_neg hd], fun hd => by rw [if_pos hd]⟩

/-! ## Sampler results -/

theorem exec_samplerResult {s : State} {j : SampleJob} {r : List SampleJob} {k : Nat} {ks : List Nat}
    (hjobs : s.serving.jobs = j :: r) (hslots : j.slots = k :: ks) (hend : j.endAt ≤ s.cyc) :
    exec .samplerResult s = .next { sampleOf s j k with serving := { (sampleOf s j k).serving with
      jobs := if ks = [] then r else { j with slots := ks } :: r } } := by
  change execSamplerResult s = _
  simp only [execSamplerResult, sampleOne, hjobs, hslots, if_pos hend]

/-! ## The takeover -/

theorem exec_managerTakeover {s : State} {e : Nat} (htake : s.serving.takeover = some e) (hlace : laceRuns s = true)
    (htick : s.lace.tick = e) (hphase : s.lace.phase = 0) :
    let u := restoreMirror (setRole (setRole { s with serving := { s.serving with takeover := none } } 0 true) 1 false)
    let held := u.serving.eyelets.filter (fun y => y.2.state == 2 && y.2.key.isSome)
    exec .managerTakeover s = .next (raise
      (held.foldl (fun s y => match y.2.key with | some k => goBack s k y.1 y.2.tokenIndex false 0 | none => s) u)
      0x6006 (f64 e ++ f64 s.serving.mirrorTick ++ f32 held.length)) := by
  have hgo : (!laceRuns s || s.lace.tick != e || s.lace.phase != 0) = false := by simp [hlace, htick, hphase]
  change execManagerTakeover s = _
  simp only [execManagerTakeover, htake, hgo, Bool.false_eq_true, ↓reduceIte] <;> rfl

theorem samplerAndTakeoverComplete : SamplerAndTakeoverComplete := by
  intro s
  refine ⟨fun j r k ks hjobs hslots hend => ?sampler, fun e htake hlace htick hphase => ?takeover⟩
  case sampler =>
    rw [exec_samplerResult hjobs hslots hend]
    exact ⟨fun hmore => by rw [if_neg hmore]; rfl, fun hlast => by rw [if_pos hlast]; rfl⟩
  case takeover => exact ⟨_, rfl, exec_managerTakeover htake hlace htick hphase⟩

/-- Settles O46: the pass, the sampler's results and the takeover. -/
theorem servingRowsComplete : Obligations.ServingRowsComplete := ⟨tickPassCompletes, samplerAndTakeoverComplete⟩

end Sys2Proof.Proofs
end

section
/-! Route steps and popularity counts (11 R389 to R393, R400, 02 R613). -/
namespace Sys2Proof.Proofs
open Sys2Proof.Machine Sys2Proof.Claims

/-! ## Route steps -/

section Route
variable {lcl : Lcl} {ix : Nat} {s t : State} {im : Image} {pl : Plan} {x : Site} {e slot g : Nat}

/-- A step that comes to the start of its descriptor acts in the state that `routed` names. -/
theorem atStep_of_routed {l : Nat} {want : Site → Bool} (h : routed s l ix want t im pl x e slot g) :
    atStep s l ix want = (t, some (im, pl, x, e, slot, g)) := by
  obtain ⟨p, u, q, hp, he, hroute, hl, hwant, hnew, hat, rfl, rfl⟩ := h
  have hgo : (aLcl e != l || !want x || awlBegun s l ix) = false := by simp [hl, hwant, hnew]
  simp only [atStep, hp, he, hroute, hgo, hat, Bool.false_eq_true, ↓reduceIte]

theorem exec_round0 (h : routed s lcl.val ix (fun x => x.kind == 0 && x.round == 0) t im pl x e slot g) :
    let bank := activeBank t slot
    let rows := (List.range x.m).map (selectRow t im x (aCore e) g bank)
    let recs := rows.flatMap (·.1)
    let bad := (rows.filter (·.2)).length
    let nulls := ((List.range x.m).filter (rowOn t im x g)).foldl (fun n m =>
      n + (((rows.getD m ([], false)).1).filter (fun c => c.state == 3)).length) 0
    let u := addAll (count t 0x3070 5 nulls) pl x 0 ((recs.filter (fun c => c.state == open')).map (·.expert))
    exec (.round0 lcl ix) s = .next (runRound
      (if bad = 0 then u else raise (count u 0x3070 8 bad) 0x3304 (f16 x.lcl ++ f16 x.id ++ f8 bad)) im pl x e ix g bank recs) := by
  change execRound0 lcl ix s = _
  simp only [execRound0, atStep_of_routed h]

theorem exec_dispatchRound (h : routed s lcl.val ix (fun x => x.kind == 0 && x.round != 0) t im pl x e slot g) :
    let recs := readRec t x (aCore e)
    exec (.dispatchRound lcl ix) s = .next (runRound t im pl x e ix g (recs.headD ⟨0, 0, 0, 3, 0⟩).bank recs) := by
  change execDispatchRound lcl ix s = _
  simp only [execDispatchRound, atStep_of_routed h]

theorem exec_combine (h : routed s lcl.val ix (fun x => x.kind == 1) t im pl x e slot g) :
    let rows := ((List.range x.m).filter (rowOn t im x g)).map (fun m => (m, combineRow t x (aCore e) (readRec t x (aCore e)) m))
    let v := stepEcc t x (aCore e) ix (combineReads x (rows.map (·.1)) (readRec t x (aCore e)))
    let u := startStep v ix e (rows.flatMap (fun r =>
      cellsAt x.lcl (aCore e) (x.out + 32 * r.1 * x.outStride) (r.2.1.flatMap (leBytes 4))))
    exec (.combine lcl ix) s = .next (badP16 u 3 ix x.lcl 0xff 0xff (rows.foldl (fun n r => n + r.2.2) 0)) := by
  change execCombine lcl ix s = _
  simp only [execCombine, atStep_of_routed h]

end Route

theorem routeStepsComplete : RouteStepsComplete := by
  intro lcl ix s t im pl x e slot g l
  refine ⟨?round0, exec_dispatchRound, exec_combine⟩
  case round0 =>
    intro h bank rows recs bad nulls u hu
    have hrun : exec (.round0 lcl ix) s = .next (runRound
        (if bad = 0 then u else raise (count u 0x3070 8 bad) 0x3304 (f16 x.lcl ++ f16 x.id ++ f8 bad)) im pl x e ix g bank recs) :=
      hu ▸ exec_round0 h
    rw [hrun]
    exact ⟨fun hok => by rw [if_pos hok], fun hbad => by rw [if_neg hbad]⟩

/-! ## Popularity counts -/

theorem exec_popularityCountAdd {s : State} {a n tick : Nat} {r : List (Nat × Nat × Nat)}
    (hadds : s.routing.adds = (a, n, tick) :: r) :
    let u := { s with routing := { s.routing with adds := r } }
    let x := getAt u Who.pkg a 4
    exec .popularityCountAdd s =
      if (objAt u a).isNone then .next u else .next (putAt x.1 Who.pkg a (f32 ((leNat x.2.1 + n) % 2 ^ 32))) := by
  change execPopularityCountAdd s = _
  simp only [execPopularityCountAdd, hadds]

theorem popularityCountsComplete : PopularityCountsComplete := by
  intro s a n tick r hadds u x
  rw [exec_popularityCountAdd hadds]
  exact ⟨fun hobj => if_neg (by rw [Option.isNone_eq_false_iff.2 hobj]; exact Bool.false_ne_true), fun hnone => if_pos hnone⟩

/-- Settles O47: the steps of routing and the counts that they leave. -/
theorem routingRowsComplete : Obligations.RoutingRowsComplete := ⟨routeStepsComplete, popularityCountsComplete⟩

end Sys2Proof.Proofs
end

section
/-! The issue of an op word (03 R86 to R117, R614): what the sequencer does with a word that issues and with one whose CHK is wrong, and
what an operation that issues leaves in flight. -/
namespace Sys2Proof.Proofs
open Sys2Proof.Machine Sys2Proof.Claims

/-! ## The sequencer (R107, R109) -/

section Sequencer
variable {s : State} {core : CoreRef} {ix : Nat} {w : Word128} {im : Image} {pt : Nat} {ok : Bool} {act : State → Nat → Image → State}

theorem sequencer_of_issues (h : issues s core ix w im pt) (hok : ok = true) :
    sequencer s core ix w ok act = act (sequenced s core ix w im pt) pt im := by
  obtain ⟨⟨p, w0, hp, rfl, hseg, hgoes, hissue, hpos⟩, hchk, htake, hfree⟩ := h
  rw [operandsReady] at hfree
  simp [sequencer, sequenced, operandsReady, hp, hseg, hgoes, hissue, hpos, hchk, hok, htake, hfree]

theorem sequencer_of_wrong_chk (h : stands s core ix im pt) (hchk : chkOk w = false) :
    sequencer s core ix w ok act = badWord s core.lcl.val core.core.val ix w := by
  obtain ⟨p, w0, hp, rfl, hseg, hgoes, hissue, hpos⟩ := h
  simp [sequencer, hp, hseg, hgoes, hissue, hpos, hchk]

theorem seqOp_of_issues (h : issues s core ix w im pt) (hok : ok = true) :
    seqOp s core ix w ok = .next (issueOp (sequenced s core ix w im pt) core.lcl.val core.core.val im pt ix w) :=
  congrArg Host.Outcome.next (sequencer_of_issues h hok)

end Sequencer

/-! ## The rows of the op-word table -/

theorem nopAndSetdescComplete : NopAndSetdescComplete := by
  intro core ix w s im pt l c t
  refine ⟨fun h => ⟨fun hnop => ?nop, fun hset => ?setdesc⟩, fun h hchk => ?wrongChk⟩
  case nop => exact congrArg Host.Outcome.next (sequencer_of_issues h (beq_iff_eq.2 hnop))
  case setdesc => exact congrArg Host.Outcome.next (sequencer_of_issues h (beq_iff_eq.2 hset))
  case wrongChk =>
    have bad {ok : Bool} {act} : Host.Outcome.next (sequencer s core ix w ok act) = (.next (badWord s l c ix w) : Out) :=
      congrArg Host.Outcome.next (sequencer_of_wrong_chk h hchk)
    exact ⟨bad, bad, bad⟩

theorem operationsComplete : OperationsComplete := by
  intro core ix w s im pt h runs
  have op (n : Nat) (hopc : wOpc w = n) := seqOp_of_issues h (beq_iff_eq.2 hopc)
  have vect (fn : Nat) (hopc : wOpc w = 6) (hfn : vectFn w = fn) :=
    seqOp_of_issues h (ok := isVect w fn) (by simp [isVect, hopc, hfn])
  exact ⟨op 2, op 3, op 4, op 5, fun h6 => ⟨vect 0 h6, vect 1 h6, vect 2 h6, vect 3 h6, vect 4 h6, vect 5 h6, vect 6 h6, vect 7 h6,
    vect 8 h6, vect 9 h6, vect 10 h6, vect 11 h6, vect 12 h6⟩⟩

/-- Settles O31: a word that issues reaches its row's action, one with a wrong CHK is reported whatever its row. -/
theorem opWordsComplete : Obligations.OpWordsComplete := ⟨nopAndSetdescComplete, operationsComplete⟩

/-! ## Events and read errors leave the power state alone

The activity units of a tick (R113) are part of it. -/

@[simp] theorem sendMgmt_power (s : State) (p : Nat) (body : List Byte) : (sendMgmt s p body).power = s.power := rfl

@[simp] theorem mgmtOut_power (s : State) (dst mbox flags : Nat) (frame : List Byte) :
    (mgmtOut s dst mbox flags frame).power = s.power := by
  unfold mgmtOut; split <;> rfl

@[simp] theorem msixFor_power (s : State) (v : Nat) : (msixFor s v).power = s.power := by
  simp only [msixFor]; split_ifs <;> rfl

@[simp] theorem ibiFor_power (s : State) (code : Nat) : (ibiFor s code).power = s.power := by
  unfold ibiFor; split_ifs <;> rfl

@[simp] theorem notifyFor_power (s : State) (code : Nat) : (notifyFor s code).power = s.power := by
  unfold notifyFor; split_ifs <;> simp

@[simp] theorem deliverEv_power (s : State) (code : Nat) : (deliverEv s code).power = s.power := by
  simp only [deliverEv]; split_ifs <;> simp

@[simp] theorem queuePut_power (s : State) (r : EvRec) : (queuePut s r).power = s.power := by simp [queuePut]

@[simp] theorem bumpSeq_power (s : State) : (bumpSeq s).power = s.power := rfl

@[simp] theorem loseEv_power (s : State) (code : Nat) : (loseEv s code).power = s.power := rfl

@[simp] theorem reportLoss_power (s : State) : (reportLoss s).power = s.power := by
  unfold reportLoss; split_ifs <;> simp

@[simp] theorem raiseP_power (s : State) (code : Nat) (pl : List Byte) (poison : Bool) : (raiseP s code pl poison).power = s.power := by
  simp only [raiseP]; split_ifs <;> simp

@[simp] theorem raise_power (s : State) (code : Nat) (pl : List Byte) : (raise s code pl).power = s.power := raiseP_power ..

@[simp] theorem markUnhealthy_power (s : State) (die pc cause : Nat) : (markUnhealthy s die pc cause).power = s.power := by
  simp only [markUnhealthy]; split_ifs <;> simp

@[simp] theorem uncorrectable_power (s : State) (desc a : Nat) : (uncorrectable s desc a).power = s.power := by
  simp only [uncorrectable]
  split
  · split_ifs <;> simp
  · simp
  · simp

theorem eccStep_power (desc : Nat) (r : State × Bool) (e : Nat × Nat) : (eccStep desc r e).1.power = r.1.power := by
  simp only [eccStep]
  split <;> split_ifs <;> simp

@[simp] theorem ecc_power (s : State) (desc a n : Nat) : (ecc s desc a n).1.power = s.power :=
  List.foldlRecOn _ (eccStep desc) (motive := fun r : State × Bool => r.1.power = s.power) rfl
    fun r hr e _ => (eccStep_power desc r e).trans hr

@[simp] theorem coreEcc_power (s : State) (l c : Nat) (rs : List (Nat × Nat)) : (coreEcc s l c rs).power = s.power :=
  List.foldlRecOn rs _ (motive := fun t : State => t.power = s.power) rfl fun _ ht _ _ => (ecc_power ..).trans ht

/-! ## What the start of an operation changes -/

@[simp] theorem sbSet_power (s : State) (l c b : Nat) (v : Bool) : (sbSet s l c b v).power = s.power := rfl

@[simp] theorem modCl_power (s : State) (l : Nat) (f : Cluster → Cluster) : (modCl s l f).power = s.power := rfl

@[simp] theorem occupy_power (s : State) (l c : Nat) (w : Word128) (descs : SMap Nat) : (occupy s l c w descs).power = s.power := by
  simp only [occupy]; split_ifs <;> simp

theorem readUnits_power (l c : Nat) : ∀ (n : Nat) (f : InFlight) (s : State), (readUnits n l c f s).1.power = s.power
  | 0, _, _ => rfl
  | n + 1, f, s => by
    rw [readUnits]
    split
    · rfl
    · rw [readUnits_power l c n, coreEcc_power]
      split <;> simp

/-- Reading weight units adds to the units of an operation and changes nothing else of it. -/
theorem readUnits_flight (l c : Nat) : ∀ (n : Nat) (f : InFlight) (s : State),
    (readUnits n l c f s).2 = { f with units := (readUnits n l c f s).2.units }
  | 0, _, _ => rfl
  | n + 1, f, s => by
    rw [readUnits]
    split
    · rfl
    · exact readUnits_flight l c n ..

@[simp] theorem startReads_power (s : State) (l c : Nat) (f : InFlight) : (startReads s l c f).1.power = s.power := by
  rw [startReads, readUnits_power, coreEcc_power]

theorem startReads_flight (s : State) (l c : Nat) (f : InFlight) :
    (startReads s l c f).2 = { f with units := (startReads s l c f).2.units } :=
  readUnits_flight ..

/-! ## The issue of an operation (R117, R614) -/

section Issue
variable {s : State} {l c pt ix : Nat} {im : Image} {w : Word128} {descs : SMap Nat}

theorem issueOp_of_unwritten {d : Nat} (h : (opUses w).find? (fun d => (mfind (getCore s l c).descs d).isNone) = some d) :
    issueOp s l c im pt ix w = unwritten (occupy s l c w (getCore s l c).descs) l c ix d := by
  simp only [issueOp, h]

theorem find?_unwritten_eq_none (h : (opUses w).all (fun d => (mfind descs d).isSome) = true) :
    (opUses w).find? (fun d => (mfind descs d).isNone) = none := by
  simpa [List.find?_eq_none, Option.isSome_iff_ne_none] using h

end Issue

/-- Settles O3: the first unwritten descriptor is reported; without one the operation's work is charged, and its reads, which leave the
power state alone, leave of the operation all but its units. -/
theorem issueOfAnOperation : Obligations.IssueOfAnOperation := by
  intro s l c pt ix im w descs bare
  refine ⟨fun d hd => issueOp_of_unwritten hd, fun hall => ?written⟩
  case written =>
    have hnone : (opUses w).find? (fun d => (mfind (getCore s l c).descs d).isNone) = none := find?_unwritten_eq_none hall
    simp only [issueOp, hnone]
    refine ⟨_, _, rfl, ?_⟩
    rw [startReads_flight, startReads_power]
    split <;> simp [descs]

end Sys2Proof.Proofs
end

section
/-! The gate of a schedule point (04 R129, R131, 05 R182, 17 R553): where a cluster takes a cycle, and what its waiters do to it. -/
namespace Sys2Proof.Proofs
open Sys2Proof.Machine Sys2Proof.Claims

section Cycle
variable {s : State} {l pt c p : Nat} {im : Image}

/-- A cluster that does not run or stands elsewhere takes nothing. -/
theorem atCycle_elsewhere (hp : partOf s l = some (p, im))
    (h : (clusterGoes s l && decide (periodTick s p im = pt) && decide (schedCyc s l = c)) = false) :
    atCycle s l pt c = (s, none) := by
  simp only [atCycle, hp, h, Bool.false_eq_true, ↓reduceIte]

/-- At the point itself the outcome of `takeCycle` decides. -/
theorem atCycle_here (hp : partOf s l = some (p, im)) (hgoes : clusterGoes s l = true) (hpt : periodTick s p im = pt)
    (hc : schedCyc s l = c) :
    atCycle s l pt c = ((takeCycle s l im pt).1, if (takeCycle s l im pt).2 then some (p, im) else none) := by
  simp only [atCycle, hp, hgoes, hpt, hc, decide_true, Bool.and_self, ↓reduceIte]

theorem takeCycle_passed (h : (getCl s l).passed = some (s.lace.tick, schedCyc s l)) : takeCycle s l im pt = (s, true) := by
  simp only [takeCycle, h, ↓reduceIte]

/-- A cluster that is not awake yet holds as at a bit (log entry 108). -/
theorem takeCycle_asleep (h : (getCl s l).passed ≠ some (s.lace.tick, schedCyc s l)) (ha : (getCl s l).asleep = true) :
    takeCycle s l im pt = (beginHold s l 0xff 0xff pt, false) := by
  simp only [takeCycle, if_neg h, ha, ↓reduceIte]

/-- The first clear bit among the waiters begins the hold. -/
theorem takeCycle_clear_bit (h : (getCl s l).passed ≠ some (s.lace.tick, schedCyc s l)) (ha : (getCl s l).asleep = false) {w : Nat × Nat}
    (hw : (waiters s im l pt (schedCyc s l)).find? (fun w => !sbGet s l w.1 w.2) = some w) :
    takeCycle s l im pt = (beginHold s l w.1 w.2 pt, false) := by
  simp only [takeCycle, if_neg h, ha, hw, Bool.false_eq_true, ↓reduceIte]

theorem takeCycle_all_set (h : (getCl s l).passed ≠ some (s.lace.tick, schedCyc s l)) (ha : (getCl s l).asleep = false)
    (hall : (waiters s im l pt (schedCyc s l)).all (fun w => sbGet s l w.1 w.2) = true) :
    takeCycle s l im pt = (setCl s l { getCl s l with hold := none, passed := some (s.lace.tick, schedCyc s l) }, true) := by
  have hnone : (waiters s im l pt (schedCyc s l)).find? (fun w => !sbGet s l w.1 w.2) = none := by
    simpa [List.find?_eq_none] using hall
  simp only [takeCycle, if_neg h, ha, hnone, Bool.false_eq_true, ↓reduceIte]

end Cycle

/-- Settles O4: the point is `atCycle_here`, and there each case is one of the four ends of `takeCycle`. -/
theorem waitersGateTheCycle : Obligations.WaitersGateTheCycle := by
  intro s l pt c p im hp now ws
  refine ⟨atCycle_elsewhere hp, fun hgoes hpt hc => ?_⟩
  rw [atCycle_here hp hgoes hpt hc]
  refine ⟨fun h => ?passed, fun h ha => ?asleep, fun h ha => ⟨fun w hw => ?hold, fun hall => ?go⟩⟩
  case passed => simp only [takeCycle_passed h, ↓reduceIte]
  case asleep => simp only [takeCycle_asleep h ha, Bool.false_eq_true, ↓reduceIte]
  case hold => simp only [takeCycle_clear_bit h ha hw, Bool.false_eq_true, ↓reduceIte]
  case go => simp only [takeCycle_all_set h ha hall, ↓reduceIte, now]

end Sys2Proof.Proofs
end

section
/-! The writes that command lasts, the lace, memory and the links (04 R152, R154, 05 R184 to R197, 06 R210, R223, 07 R258 to R261, 08 R289
to R296, 09 R310). -/
namespace Sys2Proof.Proofs
open Sys2Proof.Machine Sys2Proof.Claims

/-- An entry of any other object is none of the persist command's. -/
theorem not_persist_of_index_ne {i sub : Nat} (h : i ≠ 0x1030) : ¬ (i = 0x1030 ∧ sub = 1) := fun hc => h hc.1

theorem port_object_ne_persist (p : Nat) : 0x5000 + p ≠ 0x1030 := by omega

/-! ## Lasts (R152, R154) -/

section Last
variable {s : State} (hmode : s.dev.mode = .ready ∨ s.dev.mode = .running) (hidle : slotActive s (getO s 0x3030 2) = false)
include hmode hidle

theorem wLastCmd_load (hnone : s.loading = none) :
    wLastCmd s 1 = .ok (let n := getO s 0x3030 2
      setO (setO (setO (setSlot { s with loading := some ⟨n, getO s 0x3030 1, 1⟩ } n { SlotSt.init with loading := true })
        0x3025 (n + 1) 0) 0x3031 1 1) 0x3031 4 n) := by
  rcases hmode with h | h <;> simp [wLastCmd, h, hidle, hnone]

theorem wLastCmd_unload :
    wLastCmd s 2 = .ok (let n := getO s 0x3030 2
      if (getSlot s n).loading then s else setO (setSlot s n SlotSt.init) 0x3025 (n + 1) 0) := by
  have hrun : (s.dev.mode != .ready && s.dev.mode != .running) = false := by rcases hmode with h | h <;> simp [h]
  simp only [wLastCmd, hrun, hidle, Bool.false_eq_true, ↓reduceIte, OfNat.ofNat_ne_one]
  exact (apply_ite Except.ok ..).symm

end Last

theorem wActive_clear {s : State} {p : Nat} (hm : s.dev.mode = .ready) :
    wActive s p 0xff = .ok (setPart s p { getPart s p with active := none }) := by
  simp [wActive, hm]

theorem wActive_set {s : State} {p v : Nat} {im : Image} (hm : s.dev.mode = .ready) (hv : v < 64)
    (him : (getSlot s v).image = some im) (hpart : im.partition = p) (hport : portCheck s im = none) :
    wActive s p v = .ok (setPart s p { getPart s p with active := some v }) := by
  have hne : v ≠ 0xff := by omega
  simp [wActive, hm, hne, hv.not_ge, him, hpart, hport]

theorem lastCommandsComplete : LastCommandsComplete := by
  intro acc s u n
  refine ⟨fun hw hm hidle hnone => ?load, fun hw hm hidle => ?unload, fun part v hw hm => ⟨?clear, fun im hv him hpart hport => ?set⟩⟩
  case load => exact writeObj_ok_written hw (by decide) (wrAny_3030_3 ..) (wLastCmd_load hm hidle hnone)
  case unload => exact writeObj_ok_written hw (by decide) (wrAny_3030_3 ..) (wLastCmd_unload hm hidle)
  case clear =>
    rintro rfl
    exact writeObj_ok_written hw (not_persist_of_index_ne (by decide)) (wrAny_3020 ..) (wActive_clear hm)
  case set =>
    exact writeObj_ok_written hw (not_persist_of_index_ne (by decide)) (wrAny_3020 ..) (wActive_set hm hv him hpart hport)

/-! ## The lace (R184 to R197) -/

/-- A timed symbol but for FREQ and MASK, sent with lead enough, is flooded and held. -/
theorem sendTimed_ok {s : State} {ty e arg : Nat} (hty : ty ≠ 0x23 ∧ ty ≠ 0x30) (hrun : laceRuns s = true)
    (hlead : s.lace.tick + max 8 (horizon s) ≤ e) : sendTimed s ty e arg = .ok (announced s ty e arg) := by
  obtain ⟨hfreq, hmask⟩ := hty
  have hleast : leastLead s ty = max 8 (horizon s) := by rw [leastLead, if_neg hfreq, if_neg hmask]
  simp only [sendTimed, hrun, hleast, if_neg hlead.not_gt, if_neg hmask, announced, Bool.not_true, Bool.false_eq_true, ↓reduceIte]

section Lace
variable {s : State}

theorem wStart_ok {tick : Nat} (hman : isManager s = true) (hmode : s.dev.mode = .ready ∨ s.dev.mode = .running)
    (hrun : laceRuns s = true) (hlead : s.lace.tick + max 8 (horizon s) ≤ tick) :
    wStart s tick = .ok ((List.range 8).foldl (fun x p => if fbit (getO s 0x3014 2) p then
      (heldSlots x p).foldl (fun x i => sendMask x tick i true p) x else x) (announced s 0x21 tick (getO s 0x3014 2))) := by
  have hbar : (!isManager s || (s.dev.mode != .ready && s.dev.mode != .running)) = false := by
    rcases hmode with h | h <;> simp [hman, h]
  simp only [wStart, hbar, sendTimed_ok (ty := 0x21) (by decide) hrun hlead, Bool.false_eq_true, ↓reduceIte]

theorem wSwitch_ok {v : Nat} (hman : isManager s = true) (hmode : s.dev.mode = .running)
    (hid : getO s 0x3024 (v % 64 + 1) ≠ 0) (hrun : laceRuns s = true)
    (hlead : s.lace.tick + max 8 (horizon s) ≤ getO s 0x3015 2) :
    wSwitch s v = .ok (announced s 0x22 (getO s 0x3015 2) v) := by
  simp [wSwitch, hman, hmode, hid, sendTimed_ok (ty := 0x22) (by decide) hrun hlead]

theorem wHalt_ok (hk : s.dev.mode ≠ .keeper) (ha : s.dev.mode ≠ .alarm) :
    wHalt s 1 = .ok (haltLocal (originate s 0x20 s.lace.tick s.lace.phase 1) (pnode s) 1 s.lace.tick s.lace.phase) := by
  have htrip : originateHalt s 1 =
      haltLocal (originate s 0x20 s.lace.tick s.lace.phase 1) (pnode s) 1 s.lace.tick s.lace.phase := if_neg hk
  simp [wHalt, hk, ha, htrip]

theorem wAdoptNode_ok {n : Nat} (hmay : mayAdopt s = true)
    (hn : n = 0xffff ∨ (n < 2048 ∧ ∀ p < 64, portUp s p = true → (getPort s p).peerLog ≠ n)) :
    wAdoptNode s n = .ok (setO s 0x3017 1 n) := by
  rcases hn with rfl | ⟨hlt, hfree⟩
  · simp [wAdoptNode, hmay]
  · have hpeer : allPorts.any (fun p => portUp s p && (getPort s p).peerLog == n) = false := by
      simpa [allPorts] using hfree
    simp [wAdoptNode, hmay, hpeer, hlt.not_ge]

theorem wAdoptTick_ok {e : Nat} (hmay : mayAdopt s = true) (hn : getO s 0x3017 1 ≠ 0xffff) (hrun : laceRuns s = true)
    (hlead : s.lace.tick + max 8 (horizon s) ≤ e) :
    wAdoptTick s e = .ok (setO (setO (announced s 0x24 e (getO s 0x3017 1)) 0x3017 2 e) 0x1010 2 (getO s 0x3017 1)) := by
  simp [wAdoptTick, hmay, hn, sendTimed_ok (ty := 0x24) (by decide) hrun hlead]

end Lace

theorem laceCommandsComplete : LaceCommandsComplete := by
  intro acc s u
  refine ⟨fun tick hw hman hm hrun hlead => ?start, fun v hw hman hm hid hrun hlead => ?switch, fun hw hk ha => ?halt,
    fun n hw hmay hn => ?node, fun e hw hmay hn hrun hlead => ?tick⟩
  case start => exact writeObj_ok_written hw (by decide) (wrAny_3014_1 ..) (wStart_ok hman hm hrun hlead)
  case switch => exact writeObj_ok_written hw (by decide) (wrAny_3015_1 ..) (wSwitch_ok hman hm hid hrun hlead)
  case halt => exact writeObj_ok_written hw (by decide) (wrAny_3016_1 ..) (wHalt_ok hk ha)
  case node => exact writeObj_ok_written hw (by decide) (wrAny_3017_1 ..) (wAdoptNode_ok hmay hn)
  case tick => exact writeObj_ok_written hw (by decide) (wrAny_3017_2 ..) (wAdoptTick_ok hmay hn hrun hlead)

/-! ## Memory and the table (06 R210, R223, 07 R258 to R261) -/

theorem wrAny_ringObj (s : State) (r : Req) (ring : Bool) (v : Nat) :
    wrAny s r (ringObj ring) 3 v = ofW s (wDoorbell s ring v) := by
  cases ring with
  | false => exact wrAny_4010_3 ..
  | true => exact wrAny_4012_3 ..

theorem ringObj_ne_persist (ring : Bool) : ringObj ring ≠ 0x1030 := by
  cases ring <;> decide

theorem wDoorbell_ok {s : State} {ring : Bool} {v : Nat} (hv : sub32 v (ringHead s ring) ≤ 2 ^ getO s (ringObj ring) 2) :
    wDoorbell s ring v =
      .ok { s with memSt := if ring then { s.memSt with sTail := v } else { s.memSt with nsTail := v } } :=
  if_neg hv.not_gt

/-- The freed and gained store of a resize is the model's reading (log entry 62). -/
theorem wLastStore_ok {s : State} {die v : Nat} (hempty : slotsLoaded s = false) (hfit : storeBarred s die v = false) :
    wLastStore s die v = .ok (sweepDie (setO (freeGained s die v) 0x4002 (die + 1) v) die) := by
  simp [wLastStore, hempty, hfit]

section Table
variable {s : State} (hlive : compLive s = false) (hidle : s.codec.state ≠ 1)
include hlive hidle

theorem wTable_fromObject : wTable s 1 = .ok (startBuild s 1 (sampleObj s).1 (sampleObj s).2) := by
  simp [wTable, hlive, hidle]

theorem wTable_fromSample : wTable s 2 = .ok (match fwSample s with
    | some l => startBuild s 2 0 l
    | none => startBuild s 2 3 []) := by
  cases hf : fwSample s <;> simp [wTable, hlive, hidle, hf]

theorem wTable_invalidate : wTable s 3 = .ok { s with codec := { s.codec with state := 0 } } := by
  simp [wTable, hlive, hidle]

theorem wTable_install (hzero : (stagingMap s).getD 0 0 = 0) (hk : getO s 0x9061 5 ≤ 3)
    (hall : ((List.range 256).drop 1).all (fun x => ((stagingMap s).drop 1).contains x) = true) :
    wTable s 4 = .ok (setO { s with codec := { s.codec with state := 2, smap := stagingMap s, k := getO s 0x9061 5 } } 0x9061 4
      (tableTag (stagingMap s) (getO s 0x9061 5))) := by
  have hfit : ((stagingMap s).getD 0 0 = 0 && getO s 0x9061 5 ≤ 3 &&
      ((List.range 256).drop 1).all (fun x => ((stagingMap s).drop 1).contains x)) = true := by
    rw [hall, decide_eq_true hzero, decide_eq_true hk]; rfl
  simp only [wTable, hlive, hidle, hfit, Bool.false_eq_true, ↓reduceIte]

end Table

theorem memoryCommandsComplete : MemoryCommandsComplete := by
  intro acc s u
  refine ⟨fun ring v hw hv => ?doorbell, fun die v hw hempty hfit => ?resize, fun hlive hidle =>
    ⟨fun hw => ?object, fun hw => ?sample, fun hw => ?invalidate, fun hw hzero hk hall => ?install⟩⟩
  case doorbell =>
    exact writeObj_ok_written hw (not_persist_of_index_ne (ringObj_ne_persist ring)) (wrAny_ringObj ..) (wDoorbell_ok hv)
  case resize => exact writeObj_ok_written hw (not_persist_of_index_ne (by decide)) (wrAny_4002 ..) (wLastStore_ok hempty hfit)
  case object => exact writeObj_ok_written hw (by decide) (wrAny_9061_1 ..) (wTable_fromObject hlive hidle)
  case sample => exact writeObj_ok_written hw (by decide) (wrAny_9061_1 ..) (wTable_fromSample hlive hidle)
  case invalidate => exact writeObj_ok_written hw (by decide) (wrAny_9061_1 ..) (wTable_invalidate hlive hidle)
  case install => exact writeObj_ok_written hw (by decide) (wrAny_9061_1 ..) (wTable_install hlive hidle hzero hk hall)

/-! ## Links, queue pairs and routes (08 R289 to R296, 09 R310) -/

/-- What a port command leaves before it retrains: the port down, and what it held given back. -/
def portTakenDown (s : State) (p : Nat) : State :=
  takeBack (setPort s p { PortSt.init with state := .down, cause := (getPort s p).cause }) p (getPort s p) false

section Link
variable {s : State} {p : Nat}

theorem wPortCmd_retrain (hfree : (inRun s && portDeclared s p) = false) :
    wPortCmd s p 1 = .ok (if trainOk (portTakenDown s p) then tryTraining (portTakenDown s p) p else portTakenDown s p) := by
  simp only [wPortCmd, hfree, decide_true, Bool.true_and, bne_self_eq_false, Bool.false_and, Bool.false_eq_true, ↓reduceIte]
  exact (apply_ite Except.ok ..).symm

theorem wPortCmd_takeDown (hfree : (inRun s && portDeclared s p) = false) : wPortCmd s p 2 = .ok (portTakenDown s p) := by
  simp [wPortCmd, hfree, portTakenDown]

theorem wStorage_ok {v : Nat} (hrole : v = 1 → fbit s.dev.straps.role 1 = true) : wStorage s v = .ok (setO s 0x5080 1 v) := by
  have hbar : ¬ (v = 1 ∧ fbit s.dev.straps.role 1 = false) := fun ⟨hv, hno⟩ => by simp [hrole hv] at hno
  rw [wStorage, if_neg (by simpa using hbar)]

/-- Command 1 of object 0x5090.02 makes the queue pair ready. -/
theorem wQp_ready {q : Nat} (hq : q < 64) : wQp s (q + 256) = readyQp s q := by
  have hres : ((q + 256) / 64 % 4 != 0 || (q + 256) / 1024 != 0) = false := by simp; omega
  have hcmd : field (q + 256) 8 2 = 1 := by simp only [field, Nat.shiftRight_eq_div_pow]; omega
  have hqp : (q + 256) % 64 = q := by omega
  simp only [wQp, hres, hcmd, hqp, Bool.false_eq_true, ↓reduceIte]

/-- Command 2 of object 0x5090.02 resets the queue pair. That its held pulls complete with 0x80 is the model's reading (log entry 28). -/
theorem wQp_reset {q : Nat} (hq : q < 64) : wQp s (q + 512) = .ok (resetQp s q) := by
  have hres : ((q + 512) / 64 % 4 != 0 || (q + 512) / 1024 != 0) = false := by simp; omega
  have hcmd : field (q + 512) 8 2 = 2 := by simp only [field, Nat.shiftRight_eq_div_pow]; omega
  have hqp : (q + 512) % 64 = q := by omega
  simp only [wQp, hres, hcmd, hqp, Bool.false_eq_true, ↓reduceIte, OfNat.ofNat_ne_one]

theorem readyQp_ok {q : Nat} (hreset : (getQp s q).state = 0)
    (hctx : ctxOk (leNat (peek s (getO s 0x5090 1 + 64 * q) 64)) = true) :
    readyQp s q = .ok (let ctx := leNat (peek s (getO s 0x5090 1 + 64 * q) 64)
      setQp s q { QueuePair.init with state := 1, ctx := ctx, sendPsn := cField ctx 16 3, recvPsn := cField ctx 16 3
                                      pulls := (getQp s q).pulls }) := by
  simp [readyQp, hreset, hctx]

theorem wPull_ok {v : Nat} (hv : sub32 v (getO s 0x5090 6) ≤ 2 ^ getO s 0x5090 4) :
    wPull s v = .ok { s with rdma := { s.rdma with tail := v } } :=
  if_neg hv.not_gt

end Link

theorem wrAny_5090_2 (s : State) (r : Req) (v : Nat) : wrAny s r 0x5090 2 v = ofW s (wQp s v) :=
  (wrAny_5090 ..).trans (wPullObj_2 ..)

theorem wrAny_5090_5 (s : State) (r : Req) (v : Nat) : wrAny s r 0x5090 5 v = ofW s (wPull s v) :=
  (wrAny_5090 ..).trans (wPullObj_5 ..)

theorem linkCommandsComplete : LinkCommandsComplete := by
  intro acc s u
  refine ⟨fun port => ?port, fun v hw hrole => ?storage,
    fun qp => ?ready, fun qp hw => ?reset, fun v hw hv => ?pull, fun v hw => ?route⟩
  case port =>
    intro x down hfree
    have hne := not_persist_of_index_ne (sub := 9) (port_object_ne_persist port.val)
    exact ⟨fun hw => writeObj_ok_written hw hne (wrAny_port ..) (wPortCmd_retrain hfree),
      fun hw => writeObj_ok_written hw hne (wrAny_port ..) (wPortCmd_takeDown hfree)⟩
  case storage => exact writeObj_ok_written hw (by decide) (wrAny_5080_1 ..) (wStorage_ok hrole)
  case ready =>
    intro ctx hw hreset hctx
    exact writeObj_ok_written hw (by decide) (wrAny_5090_2 ..) ((wQp_ready qp.isLt).trans (readyQp_ok hreset hctx))
  case reset => exact writeObj_ok_written hw (by decide) (wrAny_5090_2 ..) (wQp_reset qp.isLt)
  case pull => exact writeObj_ok_written hw (by decide) (wrAny_5090_5 ..) (wPull_ok hv)
  case route => exact writeObj_written hw (by decide) (wrAny_4041_2 ..)

/-- Settles O28, family by family: each command is an accepted write whose object's rule answers the state that the statement names. -/
theorem scheduleAndLinkWritesComplete : Obligations.ScheduleAndLinkWritesComplete :=
  ⟨lastCommandsComplete, laceCommandsComplete, memoryCommandsComplete, linkCommandsComplete⟩

end Sys2Proof.Proofs
end

section
/-! Lace points, sleep and wake-up (04 R137 to R142, 10 R352 to R355, R367, R377, 11 R396, 17 R549 to R553). -/
namespace Sys2Proof.Proofs
open Sys2Proof.Machine Sys2Proof.Claims

/-! ## Lace points -/

section Point
variable {part : Part} {ix : Nat} {s u : State} {l g : Nat} {im : Image}

theorem exec_maskPoint {e : Nat} (hact : activeImage s part.val = some im) (he : im.lacePts[ix]? = some e) (hty : ptType e = 1) :
    exec (.maskPoint part ix) s = .next (im.clusterMap.foldl (fun x l =>
      if !ptNames e l then x
      else match atCycle x l (ptPtick e) (ptCycle e) with
        | (x, some (p, _)) => if p = part.val then maskCluster x p l im else x
        | (x, none) => x) s) := by
  change execMaskPoint part ix s = _
  simp only [execMaskPoint, hact, he, hty, bne_self_eq_false, Bool.false_eq_true, ↓reduceIte] <;> rfl

/-- The bytes of a record that has no request are one free value (log entry 22). -/
theorem exec_admitPoint (hgo : pointGo s part.val ix 2 = (u, some (l, im, g))) (hvalid : (sampleEnt u part.val g).valid = true) :
    exec (.admitPoint part ix) s = .next ((List.range im.slotsPer).foldl (fun x i =>
      feedSlot l (sampleEnt u part.val g) part.val (g * im.slotsPer + i) i (fresh u).1 x) (fresh u).2) := by
  change execAdmitPoint part ix s = _
  simp only [execAdmitPoint, hgo, hvalid, Bool.not_true, Bool.false_eq_true, ↓reduceIte]

theorem exec_samplePoint (hgo : pointGo s part.val ix 3 = (u, some (l, im, g))) (hvalid : (sampleEnt u part.val g).valid = true) :
    let e := sampleEnt u part.val g
    let x := ((List.range im.slotsPer).map (fun i => slotKey part.val (g * im.slotsPer + i))).foldl (meetSlot e.depth) (u, [])
    let late := x.1.serving.samplerBusy - x.1.cyc
    let v := if late = 0 then x.1
      else raise (count x.1 0x6070 0x0a 1) 0x6005 (f8 g ++ f8 part.val ++ f64 x.1.lace.tick ++ f32 late)
    let fin := max v.cyc v.serving.samplerBusy + samplerTime im.slotsPer e.vocab
    exec (.samplePoint part ix) s = .next { v with serving := { v.serving with
      samplerBusy := fin,
      jobs := if x.2 = [] then v.serving.jobs else v.serving.jobs ++ [⟨part.val, g, v.lace.tick, fin, x.2⟩] } } := by
  change execSamplePoint part ix s = _
  simp only [execSamplePoint, hgo, hvalid, Bool.not_true, Bool.false_eq_true, ↓reduceIte]

theorem exec_replayPoint (hgo : pointGo s part.val ix 7 = (u, some (l, im, g))) :
    exec (.replayPoint part ix) s = .next { u with serving := { u.serving with slots := u.serving.slots.map (fun y =>
      if y.1 / 65536 = part.val && y.1 % 65536 / max 1 im.slotsPer = g && y.2.replay ≤ u.lace.tick then
        (y.1, { y.2 with replay := 0 }) else y) } } := by
  change execReplayPoint part ix s = _
  simp only [execReplayPoint, hgo]

/-- At its point, from the armed revision's tick on, the revision is taken; after a switch it is dropped instead. -/
theorem exec_expertPoint {e slot : Nat} {rv : Revision} (hact : activeImage s part.val = some im)
    (hslot : (getPart s part.val).active = some slot) (hrv : mfind s.routing.revs part.val = some rv)
    (he : im.lacePts[ix]? = some e) (hty : ptType e = 4) (hruns : (getPart s part.val).runs = true)
    (hpt : periodTick s part.val im = ptPtick e) (hc : s.lace.phase = ptCycle e) (htick : rv.tick ≤ s.lace.tick) :
    let v := { s with routing := { s.routing with revs := mdrop s.routing.revs part.val } }
    exec (.expertPoint part ix) s = .next (
      if im.lastId ≠ rv.lastId then raise (count v 0x3070 7 1) 0x3303 (f8 part.val ++ f32 rv.gen)
      else
        let b := 1 - activeBank v slot
        let v := { v with routing := { v.routing with banks := mset 0 v.routing.banks slot b } }
        raise (count v 0x3070 6 1) 0x3302 (f8 part.val ++ f32 rv.gen ++ f8 b)) := by
  have hgo : (ptType e != 4 || !(getPart s part.val).runs || periodTick s part.val im != ptPtick e || s.lace.phase != ptCycle e ||
      decide (s.lace.tick < rv.tick)) = false := by simp [hty, hruns, hpt, hc, htick]
  change execExpertPoint part ix s = _
  simp only [execExpertPoint, hact, hslot, hrv, he, hgo, Bool.false_eq_true, ↓reduceIte, bne_iff_ne]
  exact (apply_ite Host.Outcome.next ..).symm

end Point

theorem lacePointsComplete : LacePointsComplete := fun _ _ _ _ _ _ _ =>
  ⟨fun _ => exec_maskPoint, exec_admitPoint, exec_samplePoint, exec_replayPoint, fun _ _ _ => exec_expertPoint⟩

/-! ## Sleep and wake-up

That a port is awake from the start of its wake-up and what sleep keeps are the model's reading (log entry 64), and so is the end of a
hold at the wake-up (log entry 108). -/

section Hint
variable {part : Part} {ix h : Nat} {s : State}

theorem exec_sleepStart (hint : hintAt s part.val ix 0 = some h) (hkind : hKind h = 1) (hawake : (getCl s (hTarget h)).asleep = false) :
    exec (.sleepStart part ix) s = .next (sleepCluster s (hTarget h)) := by
  change execSleepStart part ix s = _
  simp [execSleepStart, hint, hkind, hawake]

theorem exec_portSleep (hint : hintAt s part.val ix 0 = some h) (hkind : hKind h = 3) :
    exec (.portSleep part ix) s = .next (modPort s (hTarget h) (fun x => { x with asleep := true, lateAt := 0 })) := by
  change execPortSleep part ix s = _
  simp only [execPortSleep, hint, hkind, ↓reduceIte]

theorem exec_wakeUpStart_cluster (hint : hintAt s part.val ix 1 = some h) (hkind : hKind h = 0)
    (hasleep : (getCl s (hTarget h)).asleep = true) :
    exec (.wakeUpStart part ix) s = .next (modCl s (hTarget h) (fun c => { c with waking := true })) := by
  change execWakeUpStart part ix s = _
  simp [execWakeUpStart, hint, hkind, hasleep]

theorem exec_wakeUpStart_port (hint : hintAt s part.val ix 1 = some h) (hkind : hKind h = 2) :
    exec (.wakeUpStart part ix) s = .next (modPort s (hTarget h) (fun x => { x with asleep := false })) := by
  change execWakeUpStart part ix s = _
  simp [execWakeUpStart, hint, hkind]

variable {im : Image} (hact : activeImage s part.val = some im) (he : im.wake[ix]? = some h)
include hact he

theorem exec_wakeUpComplete_cluster (hkind : hKind h = 0) (hasleep : (getCl s (hTarget h)).asleep = true)
    (hwake : (getCl s (hTarget h)).waking = true ∨ (getCl s (hTarget h)).lateAt ≠ 0) :
    exec (.wakeUpComplete part ix) s = .next (lateWake
      (modCl s (hTarget h) (fun c => { c with asleep := false, waking := false, lateAt := 0, hold := none })) 0 (hTarget h) (hPtick h)
      (getCl s (hTarget h)).lateAt) := by
  have hdue : ((getCl s (hTarget h)).waking || (getCl s (hTarget h)).lateAt != 0) = true := by simpa using hwake
  change execWakeUpComplete part ix s = _
  simp only [execWakeUpComplete, hact, Option.bind_some, he, hkind, hasleep, hdue, decide_true, Bool.and_self, ↓reduceIte]

theorem exec_wakeUpComplete_port (hkind : hKind h = 2) :
    exec (.wakeUpComplete part ix) s = .next (lateWake
      (modPort s (hTarget h) (fun x => { x with asleep := false, lateAt := 0 })) 2 (hTarget h) (hPtick h)
      (getPort s (hTarget h)).lateAt) := by
  change execWakeUpComplete part ix s = _
  simp [execWakeUpComplete, hact, he, hkind]

end Hint

theorem sleepAndWakeComplete : SleepAndWakeComplete := fun _ _ _ _ =>
  ⟨fun hint => ⟨exec_sleepStart hint, exec_portSleep hint⟩,
    fun hint => ⟨exec_wakeUpStart_cluster hint, exec_wakeUpStart_port hint⟩,
    fun _ hact he => ⟨exec_wakeUpComplete_cluster hact he, exec_wakeUpComplete_port hact he⟩⟩

/-- Settles O33: each point and each hint acts where its moment has come. -/
theorem lacePointRowsComplete : Obligations.LacePointRowsComplete := ⟨lacePointsComplete, sleepAndWakeComplete⟩

end Sys2Proof.Proofs
end

section
/-! The lace's timers, the end of a tick and the timed symbols (04 R155, 05 R169 to R196, 16 R535). -/
namespace Sys2Proof.Proofs
open Sys2Proof.Machine Sys2Proof.Claims

/-! ## Elections (R169 to R171, R177) -/

/-- The state in which an election ends: the node next in rank is the standby root. -/
def standbyNamed (s : State) : State :=
  { s with lace := { s.lace with standby := (s.lace.second.map (·.2)).getD 0xffff, reelect := false } }

/-- The same with the node that the first election finds as the root. -/
def rootNamed (s : State) (root : Nat) : State :=
  { standbyNamed s with lace := { (standbyNamed s).lace with root := root } }

section Election
variable {s : State} {b : Nat × Nat}

theorem exec_electionEnd_first (hmode : s.lace.mode = .electing) (hend : s.lace.betterAt + msec ≤ s.now) (hb : s.lace.best = some b) :
    exec .electionEnd s = .next (firstElected s b) := by
  change execElectionEnd s = _
  simp only [execElectionEnd, hend, hb, hmode, ↓reduceIte]

theorem exec_electionEnd_again (hrun : laceRuns s = true) (hre : s.lace.reelect = true) (hend : s.lace.betterAt + msec ≤ s.now)
    (hb : s.lace.best = some b) : exec .electionEnd s = .next (electedAgain s b) := by
  have hmode : s.lace.mode ≠ .electing := fun h => by simp [laceRuns, h] at hrun
  change execElectionEnd s = _
  simp only [execElectionEnd, hend, hb, hmode, hre, hrun, Bool.and_self, ↓reduceIte]

/-- The root locks as the election ends (log entry 44). -/
theorem firstElected_own (hown : b.2 = pnode s) :
    firstElected s b = lockedEv (rootValues (becomeRoot (rootNamed s b.2))) :=
  if_pos hown

theorem firstElected_acquiring {u : State} (hu : takeParent (rootNamed s b.2) b.2 = u) (hfar : b.2 ≠ pnode s)
    (hparent : u.lace.parent ≠ 0xff) (hdepth : u.lace.depth ≤ 8) :
    firstElected s b = { u with lace := { u.lace with
      mode := .acquiring, goodSyncs := 0, aligned := false, lastSyncAt := u.cyc, rootSyncAt := u.cyc } } := by
  subst hu
  exact (if_neg hfar).trans ((if_neg hparent).trans (if_neg hdepth.not_gt))

theorem electedAgain_same (h : b.2 = s.lace.root) : electedAgain s b = standbyNamed s := if_pos h

/-- A new root keeps the stretch in force (log entry 41). -/
theorem electedAgain_own (h : b.2 ≠ s.lace.root) (hown : b.2 = pnode s) :
    electedAgain s b = rootEv (becomeRoot (setO (standbyNamed s) 0x3013 1 (standbyNamed s).lace.v)) s.lace.root :=
  (if_neg h).trans (if_pos hown)

theorem electedAgain_other (h : b.2 ≠ s.lace.root) (hfar : b.2 ≠ pnode s) :
    electedAgain s b = depthCheck (rootEv (takeParent { standbyNamed s with lace := { (standbyNamed s).lace with
      root := b.2, goodSyncs := 0, lastSyncAt := s.cyc, rootSyncAt := s.cyc } } b.2) s.lace.root) :=
  (if_neg h).trans (if_neg hfar)

end Election

/-! ## SYNC, the loss of the parent and the loss of the root (R173, R176, R177) -/

section Timers
variable {s : State}

theorem exec_syncSend (hmode : s.lace.mode = .locked) (hdue : s.lace.syncSentAt + 512 ≤ s.cyc) :
    let n := mget 0 s.lace.nextSeq 1
    exec .syncSend s = .next (toChildren { s with lace := { s.lace with syncSentAt := s.cyc, nextSeq := mset 0 s.lace.nextSeq 1 (n + 1) } }
      (mkSym 1 n s.lace.root s.lace.tick s.lace.phase (s.lace.pathLat % 2 ^ 24 + s.lace.depth % 16 * 2 ^ 24))) := by
  change execSyncSend s = _
  simp only [execSyncSend, hmode, hdue, decide_true, Bool.and_self, ↓reduceIte]

theorem exec_parentLoss (hrun : laceRuns s = true ∨ s.lace.mode = .acquiring) (hparent : s.lace.parent ≠ 0xff)
    (hdue : s.lace.lastSyncAt + 4096 ≤ s.cyc) (halt : s.lace.alt ≠ 0xff) :
    let u := match (rootPorts s s.lace.root).find? (fun a => a.port == s.lace.alt) with
      | some a => { s with lace := { s.lace with depth := a.hops, pathLat := a.lat } }
      | none => s
    let next := ((rootPorts s s.lace.root).find? (fun a => a.port != s.lace.alt && a.port != s.lace.parent)).map (·.port)
    exec .parentLoss s = .next (depthCheck (raise { u with lace := { u.lace with
      parent := s.lace.alt, alt := next.getD 0xff, lastSyncAt := u.cyc, goodSyncs := 0 } } 0x3103
        (f8 s.lace.parent ++ f8 s.lace.alt ++ f64 u.lace.tick))) := by
  have hlost : ((laceRuns s || s.lace.mode == .acquiring) && s.lace.parent != 0xff && decide (s.lace.lastSyncAt + 4096 ≤ s.cyc) &&
      s.lace.alt != 0xff) = true := by simpa [hparent, hdue, halt] using hrun
  change execParentLoss s = _
  simp only [execParentLoss, hlost, ↓reduceIte] <;> rfl

theorem exec_holdover (hmode : s.lace.mode = .locked) (hroot : s.lace.root ≠ pnode s) (hdue : s.lace.rootSyncAt + 8192 ≤ s.cyc) :
    exec .holdover s = .next (raise (count { s with lace := { s.lace with mode := .holdover, goodSyncs := 0 } } 0x3060 7 1) 0x310d
      (f64 s.lace.tick ++ f16 (unsigned 16 s.lace.phaseErr))) := by
  have hlost : (decide (s.lace.mode = .locked) && s.lace.root != pnode s && decide (s.lace.rootSyncAt + 8192 ≤ s.cyc)) = true := by
    simp [hmode, hroot, hdue]
  change execHoldover s = _
  simp only [execHoldover, hlost, ↓reduceIte]

/-- The election that the takeover begins is the model's reading (log entry 113). -/
theorem exec_rootTakeover (hmode : s.lace.mode = .holdover) (hstandby : s.lace.standby = pnode s) (hphase : s.lace.phase = 0) :
    let u := { s with lace := { s.lace with
      standby := 0xffff, best := some (ownRank s), second := none, arrivals := [], reelect := true, betterAt := s.now } }
    let v := rootEv (becomeRoot (setO u 0x3013 1 s.lace.v)) s.lace.root
    exec .rootTakeover s = .next (originate v 3 0 0 (rootArg (getO u 0x3011 1) 0 0)) := by
  change execRootTakeover s = _
  simp only [execRootTakeover, hmode, hstandby, hphase, decide_true, Bool.and_self, ↓reduceIte, takeRoot]

end Timers

theorem laceTimersComplete : LaceTimersComplete := by
  intro s
  refine ⟨fun hmode hend b hb => ?first, fun b hrun hre hend hb => ?again, exec_syncSend, exec_parentLoss, exec_holdover, exec_rootTakeover⟩
  case first =>
    rw [exec_electionEnd_first hmode hend hb]
    exact ⟨fun hown => congrArg _ (firstElected_own hown), fun hfar hp hd => congrArg _ (firstElected_acquiring rfl hfar hp hd)⟩
  case again =>
    rw [exec_electionEnd_again hrun hre hend hb]
    exact ⟨fun h => congrArg _ (electedAgain_same h), fun h hown => congrArg _ (electedAgain_own h hown),
      fun h hfar => congrArg _ (electedAgain_other h hfar)⟩

/-! ## The end of a tick (R179, R182, R183) -/

theorem exec_tickEnd {s u : State} {k : Nat} {noK : Bool} (hu : (if laceRuns s then clusterCycles s else s) = u)
    (hends : endsNow u = some (k, noK)) : exec .tickEnd s = .next (advance (endTick u k noK)) := by
  change execTickEnd s = _
  simp only [execTickEnd, hu, hends]

theorem exec_faultedPartitionStop {s : State} {f : Nat} (hstop : s.lace.stopFrom = some f) (hf : f ≤ s.lace.tick) :
    let ps := (s.parts.filter (fun e => e.2.faultTick.isSome && e.2.runs)).map (·.1)
    let v := ps.foldl (fun x p => match activeImage x p with | some im => endCores x im | none => x) s
    exec .faultedPartitionStop s = .next (ps.foldl (fun x p => setPart x p { getPart x p with runs := false }) v) := by
  change execFaultedPartitionStop s = _
  simp only [execFaultedPartitionStop, hstop, if_neg hf.not_gt] <;> rfl

theorem tickEndComplete : TickEndComplete := fun _ => ⟨fun _ _ => exec_tickEnd rfl, fun _ => exec_faultedPartitionStop⟩

/-! ## Timed symbols (R186 to R196) -/

section Symbols
variable {s u : State} {x : Timed}

/-- The partitions that a START names, that have a last and that do not run. -/
def startsOf (u : State) (x : Timed) : List Nat :=
  (List.range 8).filter (fun p => fbit x.arg p && (activeImage u p).isSome && !(getPart u p).runs)

/-- A START on a RUNNING package starts the further partitions (log entry 47). -/
theorem exec_runningEntry (hdue : dueSym s 0x21 = some (u, x)) (hsome : startsOf u x ≠ [])
    (hmode : (u.dev.mode = .ready ∧ u.dev.armed = true) ∨ u.dev.mode = .running) :
    exec .runningEntry s = .next ((startsOf u x).foldl startPart (enterRunning u)) := by
  have hgo : (!((decide (u.dev.mode = .ready) && u.dev.armed) || decide (u.dev.mode = .running))) = false := by
    rcases hmode with ⟨hm, ha⟩ | hm
    · simp [hm, ha]
    · simp [hm]
  simp only [startsOf] at hsome ⊢
  change execRunningEntry s = _
  simp only [execRunningEntry, hdue, decide_eq_false hsome, hgo, Bool.or_self, Bool.false_eq_true, ↓reduceIte]

/-- The other SWITCH symbols of a partition that are due leave with the one that is taken, each counted. -/
def duplicatesDropped (u : State) (p : Nat) : State :=
  let dup := u.lace.timed.filter (fun y => y.type == 0x22 && swPart y.arg == p && symDue u y)
  count { u with lace := { u.lace with timed := u.lace.timed.filter (fun y => !dup.contains y) } } 0x3060 8 dup.length

/-- The package runs, adopts or is in READY where it takes a SWITCH (log entry 63). -/
theorem exec_fallbackSwitch {part : Part} {v : State} (hdue : dueSym s 0x22 = some (u, x)) (hpart : swPart x.arg = part.val)
    (hv : duplicatesDropped u part.val = v) (hmode : inRun v = true ∨ v.dev.mode = .ready) :
    let p := part.val
    let id := getO v 0x3024 (x.arg % 64 + 1)
    let ended := fun (outcome : Nat) =>
      switchEv (setPart v p { getPart v p with runs := false, faultTick := none }) p (x.arg % 64) id outcome
    let w := stopTimers (match switchSlot v p id with
      | none => ended 1
      | some (n, im) => if (portCheck v im).isSome then ended 2 else takeSwitch v p (x.arg % 64) id n im) p
    let w := if w.parts.any (fun e => e.2.faultTick.isSome) then w else { w with lace := { w.lace with stopFrom := none } }
    exec (.fallbackSwitch part) s = .next (rewindSwitch w p w.lace.tick (((getPart v p).faultTick).getD v.lace.tick)) := by
  have hgo : (!inRun v && v.dev.mode != .ready) = false := by rcases hmode with h | h <;> simp [h]
  have hp : (swPart x.arg != part.val) = false := by simp [hpart]
  rw [duplicatesDropped] at hv
  change execFallbackSwitch part s = _
  simp only [execFallbackSwitch, hdue, hp, hv, hgo, Bool.false_eq_true, ↓reduceIte] <;> rfl

theorem exec_identityAdopted (hdue : dueSym s 0x24 = some (u, x)) :
    let n := x.arg % 2048
    let v := { u with fab := { u.fab with lmap := mset 0xffff u.fab.lmap n x.origin } }
    exec .identityAdopted s = .next (
      if x.origin = pnode v then raise v 0x310b (f16 n ++ f16 (pnode v) ++ f64 v.lace.tick)
      else if lnode v = n then fence v n x.origin else v) := by
  change execIdentityAdopted s = _
  simp only [execIdentityAdopted, hdue]
  split_ifs <;> rfl

end Symbols

theorem timedSymbolsComplete : TimedSymbolsComplete := fun _ _ _ =>
  ⟨exec_runningEntry, fun _ hdue hpart => exec_fallbackSwitch hdue hpart rfl, exec_identityAdopted⟩

/-- Settles O35: the timers of the lace, the end of a tick and the symbols that come due. -/
theorem laceTimeRowsComplete : Obligations.LaceTimeRowsComplete := ⟨laceTimersComplete, tickEndComplete, timedSymbolsComplete⟩

end Sys2Proof.Proofs
end

section
/-! Tile accesses, migrations and scrubbing, the end of a load and of a table build (06 R215 to R231, 04 R151, R153, 07 R258, R261). -/
namespace Sys2Proof.Proofs
open Sys2Proof.Machine Sys2Proof.Claims

/-! ## Tiles -/

section Tile
variable {s : State} {t : TileReq}

theorem exec_tileAccess_write {l : List Byte} (hspace : classify t.addr = .objSpace) (hdata : t.data = some l) :
    exec (.tileAccess t) s = .next (writeAt s (tileWho t) t.addr l).1 := by
  change execTileAccess t s = _
  simp only [execTileAccess, hspace, hdata]

theorem exec_tileAccess_read (hspace : classify t.addr = .objSpace) (hdata : t.data = none) :
    exec (.tileAccess t) s =
      .next (emit (readAt s (tileWho t) t.addr t.len).1 (.data (readAt s (tileWho t) t.addr t.len).2.1)) := by
  change execTileAccess t s = _
  simp only [execTileAccess, hspace, hdata]

end Tile

section Migration
variable {s : State} {tile k : Nat} {m : Migration} {o : ObjEnt}

/-- The migration leaves the list and its copy stands at its destination; one of a class change may end that change. -/
theorem exec_migrationComplete (hm : s.memSt.migs.find? (fun m => m.tile == tile) = some m)
    (ho : objAt s (tile * 16384) = some (k, o)) (hk : s.dev.mode ≠ .keeper) (ha : s.dev.mode ≠ .alarm) :
    let u := { s with memSt := { s.memSt with migs := s.memSt.migs.filter (fun m => m.tile != tile) } }
    let v := match m.dest with | some (d, n) => placeCopy u o tile d n | none => dropCopy u o tile
    exec (.migrationComplete tile) s = .next (if m.forClass then settleClass v else v) := by
  have hgo : (decide (s.dev.mode = .keeper) || decide (s.dev.mode = .alarm)) = false := by simp [hk, ha]
  change execMigrationComplete tile s = _
  simp only [execMigrationComplete, hm, ho, hgo, Bool.false_eq_true, ↓reduceIte] <;> rfl

theorem settleClass_of_none (h : s.memSt.objs.find? (fun e => e.2.state == 2 && !classMigs s e.2) = none) : settleClass s = s := by
  simp only [settleClass, h]

theorem settleClass_of_some (h : s.memSt.objs.find? (fun e => e.2.state == 2 && !classMigs s e.2) = some (k, o)) :
    settleClass s = endClass s k o false := by
  simp only [settleClass, h]

variable (hm : s.memSt.migs.find? (fun m => m.tile == tile) = some m) (hclass : m.forClass = true)
include hm hclass

/-- A migration of a class change that is aborted for the first or second time is begun again. -/
theorem abortMig_again (habort : m.aborts < 2) :
    abortMig s k o tile = { count s 0x4020 4 1 with memSt := { (count s 0x4020 4 1).memSt with
      migs := s.memSt.migs.filter (fun m => m.tile != tile) ++ [{ m with aborts := m.aborts + 1 }] } } := by
  simp only [abortMig, hm, hclass, habort, decide_true, Bool.and_self, ↓reduceIte] <;> rfl

theorem abortMig_third (habort : 2 ≤ m.aborts) :
    let u := count s 0x4020 4 1
    abortMig s k o tile = endClass
      (putTile { u with memSt := { u.memSt with migs := s.memSt.migs.filter (fun m => m.tile != tile) } } o tile
        { getTile u tile with busy := false }) k o true := by
  simp only [abortMig, hm, hclass, decide_eq_false habort.not_gt, Bool.and_false, Bool.false_eq_true, ↓reduceIte] <;> rfl

end Migration

theorem exec_scrub {s : State} {die : Fin 16} (hk : s.dev.mode ≠ .keeper) (htime : s.now < s.memSt.scrubTime + getO s 0x4003 5 * msec)
    (hleft : mget 0 s.memSt.scrubAt die < 28672) :
    exec (.scrub die) s = .next (ecc { s with memSt := { s.memSt with
      scrubAt := mset 0 s.memSt.scrubAt die (mget 0 s.memSt.scrubAt die + 1) } } 0xffff
      (sramTile die (mget 0 s.memSt.scrubAt die)) 16384).1 := by
  change execScrub die s = _
  simp only [execScrub, if_neg hk, if_neg htime.not_ge, if_neg hleft.not_ge]

theorem tilesComplete : TilesComplete := by
  intro s
  refine ⟨fun t hspace => ⟨fun l => exec_tileAccess_write hspace, exec_tileAccess_read hspace⟩, ?migration,
    fun tile m k o hm hclass => ⟨abortMig_again hm hclass, abortMig_third hm hclass⟩, fun die => exec_scrub⟩
  case migration =>
    intro tile m k o hm ho hk ha u v ended
    have hrun : exec (.migrationComplete tile) s = .next (if m.forClass then settleClass v else v) :=
      exec_migrationComplete hm ho hk ha
    rw [hrun]
    refine ⟨fun h => ?stays, fun hclass k' o' h => ?ends⟩
    case stays =>
      rcases h with hclass | h
      · rw [if_neg (by simp [hclass])]
      · rw [settleClass_of_none h, ite_self]
    case ends => rw [if_pos hclass, settleClass_of_some h]

/-! ## The end of a load (04 R151, R153) -/

/-- The image with the peak and the busy cycles of its schedule. -/
def measured (im : Image) : Image :=
  { im with maxUnits := maxUnitsOf im (walk im), busy := busyOf im (walk im) }

/-- The slot that holds a loaded image, with the limits, pins and signs in force as it loads. -/
def loadedSlot (u : State) (im : Image) : SlotSt :=
  ⟨some (measured im), im.lastId, false, (List.range 4).map (fun i => getO u 0x9020 (i + 1)), pinnedNow u (measured im),
    signsOf (measured im)⟩

theorem exec_lastLoadComplete {s : State} {l : Loading} (hl : s.loading = some l) :
    exec .lastLoadComplete s = .next (finishLoad s l) := by
  change execLastLoadComplete s = _
  simp only [execLastLoadComplete, hl]

section Load
variable {s v : State} {l : Loading} {src : LastSrc} {im : Image} (hl : s.loading = some l)
  (hv : (readAt s Who.pkg l.addr 128).1 = v) (hsrc : readLast v l.addr (lnode v) = src) (him : parseImage src (lnode v) = im)
include hl hv hsrc him

/-- `delta`, since the equation of `finishLoad` is costly to derive. -/
theorem exec_lastLoadComplete_fails {r d : Nat} (hc : loadChecks v l src im = some (r, d)) :
    exec .lastLoadComplete s = .next (refuseLoad v l im.lastId r d) := by
  rw [exec_lastLoadComplete hl]
  delta finishLoad
  simp only [hv, hsrc, him, hc]

variable (hc : loadChecks v l src im = none)
include hc

theorem exec_lastLoadComplete_unbound {die : Nat} (hb : bindLoad v im = .error die) :
    exec .lastLoadComplete s = .next (refuseLoad v l im.lastId 8 die) := by
  rw [exec_lastLoadComplete hl]
  delta finishLoad
  simp only [hv, hsrc, him, hc, hb]

theorem exec_lastLoadComplete_loaded {u : State} (hb : bindLoad v im = .ok u) :
    exec .lastLoadComplete s = .next (raise (count (setO (setSlot { u with loading := none } l.slot
      (loadedSlot u im)) 0x3031 1 2) 0x3040 4 1) 0x3001 (f8 l.slot ++ f64 im.lastId ++ f8 im.partition)) := by
  rw [exec_lastLoadComplete hl]
  delta finishLoad
  simp only [hv, hsrc, him, hc, hb, loadedSlot, measured]

end Load

theorem lastLoadCompletes : LastLoadCompletes := by
  intro s l hl v src im
  clear_value (him : im = _) (hsrc : src = _) (hv : v = _)
  refine ⟨fun r d hc => ?fails, fun hc => ⟨fun die hb => ?unbound, fun u hb => ?loaded⟩⟩
  case fails => exact exec_lastLoadComplete_fails hl hv.symm hsrc.symm him.symm hc
  case unbound => exact exec_lastLoadComplete_unbound hl hv.symm hsrc.symm him.symm hc hb
  case loaded => exact ⟨loadedSlot u im, rfl, rfl, rfl, exec_lastLoadComplete_loaded hl hv.symm hsrc.symm him.symm hc hb⟩

/-! ## The end of a table build (07 R258, R261) -/

section Build
variable {s u : State} {src fail k : Nat} {m : List Nat} (hb : s.codec.building = some (src :: fail :: k :: m))
  (hu : setO { s with codec := { s.codec with building := none } } 0x9061 6 fail = u)
include hb hu

theorem finishBuild_built (hok : fail = 0) :
    finishBuild s = raise (count (setO (setStaging { u with codec := { u.codec with state := 2, smap := m, k := k } } m k) 0x9061 4
      (tableTag m k)) 0x9063 8 1) 0x9013 (f8 2 ++ f16 (tableTag m k) ++ f8 k ++ f8 src ++ f8 0) := by
  simp only [finishBuild, hb, hu, if_pos hok]

theorem finishBuild_failed (hbad : fail ≠ 0) :
    finishBuild s = raise { u with codec := { u.codec with state := 3 } } 0x9013
      (f8 3 ++ f16 (getO u 0x9061 4) ++ f8 0 ++ f8 src ++ f8 fail) := by
  simp only [finishBuild, hb, hu, if_neg hbad] <;> rfl

end Build

theorem tableBuildCompletes : TableBuildCompletes := by
  intro s src fail k m hb u
  have hrun : exec .tableBuildComplete s = .next (bringUp (finishBuild s)) := rfl
  rw [hrun]
  exact ⟨fun hok => by rw [finishBuild_built hb rfl hok], fun hbad => by rw [finishBuild_failed hb rfl hbad]⟩

/-- Settles O37: tiles, the end of a load, and the end of a table build. -/
theorem tilesLoadsAndTablesComplete : Obligations.TilesLoadsAndTablesComplete :=
  ⟨tilesComplete, lastLoadCompletes, tableBuildCompletes⟩

end Sys2Proof.Proofs
end

section
/-! Lace symbols as they arrive, and the phase at which a tick ends (05 R167 to R198, 16 R521, 17 R546). -/
namespace Sys2Proof.Proofs
open Sys2Proof.Machine Sys2Proof.Claims

/-! ## The gate of a symbol (R174) -/

section Gate
variable {s : State} {port : Port} {sym : Word128} {ty : Nat} {act : State → State}

theorem laceIn_of_other (h : portUp s port.val = false ∨ yType sym ≠ ty) : laceIn s port ty sym act = s := by
  have hskip : (!portUp s port.val || yType sym != ty) = true := by simpa using h
  simp only [laceIn, hskip, ↓reduceIte]

theorem laceIn_of_bad_chk (hup : portUp s port.val = true) (hty : yType sym = ty) (hbad : chkOk sym = false) :
    laceIn s port ty sym act = count s 0x3060 9 1 := by
  simp [laceIn, hup, hty, hbad]

theorem laceIn_of_arrives (h : arrives s port ty sym) : laceIn s port ty sym act = act s := by
  obtain ⟨hup, hty, hchk⟩ := h
  simp [laceIn, hup, hty, hchk]

theorem floodIn_of_arrives (h : arrives s port ty sym) (hnew : ∀ x ∈ s.lace.seen, sameSym (symKey sym) x = false) :
    floodIn s port ty sym act = act (forwardedOn s port sym) := by
  have hseen : s.lace.seen.any (sameSym (symKey sym)) = false := List.any_eq_false.2 fun x hx => by simp [hnew x hx]
  rw [floodIn, laceIn_of_arrives h]
  simp only [hseen, Bool.false_eq_true, ↓reduceIte, forwardedOn]

theorem exec_of_arrives {i : Instr} {t : State} (hexec : exec i s = .next (laceIn s port ty sym act)) (h : arrives s port ty sym)
    (hact : act s = t) : exec i s = .next t := by
  rw [hexec, laceIn_of_arrives h, hact]

theorem exec_of_flooded {i : Instr} {t : State} (hexec : exec i s = .next (floodIn s port ty sym act)) (h : arrives s port ty sym)
    (hnew : ∀ x ∈ s.lace.seen, sameSym (symKey sym) x = false) (hact : act (forwardedOn s port sym) = t) : exec i s = .next t := by
  rw [hexec, floodIn_of_arrives h hnew, hact]

/-- What R174 says of one row: the type it is for, and its command. -/
def Gated (s : State) (port : Port) (sym : Word128) (r : Nat × Instr) : Prop :=
  ((portUp s port.val = false ∨ yType sym ≠ r.1) → exec r.2 s = .next s) ∧
  (portUp s port.val = true → yType sym = r.1 → chkOk sym = false → exec r.2 s = .next (count s 0x3060 9 1)) ∧
  (arrives s port r.1 sym → 0x10 ≤ r.1 → (∃ x ∈ s.lace.seen, sameSym (symKey sym) x = true) → exec r.2 s = .next s)

/-- A row whose command is `laceIn` is gated, where its action leaves a flooded symbol that was seen alone. -/
theorem gated_of_laceIn {i : Instr} (hexec : exec i s = .next (laceIn s port ty sym act))
    (hseen : 0x10 ≤ ty → s.lace.seen.any (sameSym (symKey sym)) = true → act s = s) : Gated s port sym (ty, i) := by
  refine ⟨fun hother => ?_, fun hup hty hbad => ?_, fun harr hflood hold => ?_⟩ <;> rw [hexec]
  · rw [laceIn_of_other hother]
  · rw [laceIn_of_bad_chk hup hty hbad]
  · rw [laceIn_of_arrives harr, hseen hflood (List.any_eq_true.2 hold)]

theorem gated_of_tree {i : Instr} (hty : ty < 0x10) (hexec : exec i s = .next (laceIn s port ty sym act)) :
    Gated s port sym (ty, i) :=
  gated_of_laceIn hexec fun hflood => absurd hty hflood.not_gt

theorem gated_of_flooded {i : Instr} (hexec : exec i s = .next (floodIn s port ty sym act)) : Gated s port sym (ty, i) :=
  gated_of_laceIn hexec fun _ hold => if_pos hold

/-- VOTE is forwarded by a rule of its own (R181), and still only once. -/
theorem gated_voteSymbol : Gated s port sym (0x10, .voteSymbol port sym) :=
  gated_of_laceIn rfl fun _ hold => if_pos hold

end Gate

/-- Settles O5: the symbols of the tree pass `laceIn`, the flooded ones `floodIn`. -/
theorem laceSymbolGate : Obligations.LaceSymbolGate := by
  intro port sym e s rows
  change ∀ r ∈ rows, Gated s port sym r
  simp only [rows, List.forall_mem_cons]
  exact ⟨gated_of_tree (by decide) rfl, gated_of_tree (by decide) rfl, gated_of_tree (by decide) rfl, gated_of_tree (by decide) rfl,
    gated_voteSymbol, gated_of_flooded rfl, gated_of_flooded rfl, gated_of_flooded rfl, gated_of_flooded rfl, gated_of_flooded rfl,
    gated_of_flooded rfl, gated_of_flooded rfl, List.forall_mem_nil _⟩

/-! ## The symbols of the tree (R167 to R177, 16 R521) -/

section Tree
variable {s : State} {p : Nat} {w : Word128}

/-- What a SYNC that came from the root renews. -/
def rootHeard (s : State) (w : Word128) : State :=
  if yOrigin w = s.lace.root then { s with lace := { s.lace with rootSyncAt := s.cyc } } else s

theorem syncIn_from_parent (adj : Int) (hon : s.lace.mode ≠ .off) (hel : s.lace.mode ≠ .electing) (hroot : s.lace.root ≠ pnode s)
    (hp : p = s.lace.parent) :
    let u := rootHeard s w
    syncIn s p w adj false =
      steerBy { u with lace := { u.lace with lastSyncAt := u.cyc } } p w adj (u.cyc - u.lace.lastSyncAt) := by
  have hcond : (decide (s.lace.mode = .off) || decide (s.lace.mode = .electing) || decide (s.lace.root = pnode s)) = false := by
    simp [hon, hel, hroot]
  have hparent : (rootHeard s w).lace.parent = p := by rw [hp, rootHeard]; split <;> rfl
  rw [rootHeard] at hparent ⊢
  simp only [syncIn, hcond, hparent, bne_self_eq_false, Bool.false_eq_true, ↓reduceIte]

theorem epochIn_acquiring (hp : p = s.lace.parent) (hacq : s.lace.mode = .acquiring) :
    epochIn s p w = { s with lace := { s.lace with tick := yArg w % 2 ^ 32 * 2 ^ 32 + s.lace.tick % 2 ^ 32 } } := by
  simp only [epochIn, hp, hacq, bne_self_eq_false, Bool.false_eq_true, ↓reduceIte]

theorem epochIn_counting (hp : p = s.lace.parent) (hrun : laceRuns s = true) (hroot : s.lace.root ≠ pnode s) :
    let theirs := yArg w % 2 ^ 32 * 2 ^ 32 + yTick w
    epochIn s p w =
      if tickAgo s (getPort s p).const = theirs then s
      else
        let v := raise (count s 0x8021 5 1) 0x8002 (f64 s.lace.tick ++ f64 theirs ++ f8 p)
        tickFault v v.lace.tick everyCluster 1 := by
  have hacq : s.lace.mode ≠ .acquiring := fun h => by simp [laceRuns, h] at hrun
  have hcond : (!laceRuns s || decide (s.lace.root = pnode s)) = false := by simp [hrun, hroot]
  simp only [epochIn, hp, bne_self_eq_false, hcond, if_neg hacq, Bool.false_eq_true, ↓reduceIte]

theorem configIn_from_parent (hp : p = s.lace.parent) (hroot : s.lace.root ≠ pnode s) :
    configIn s p w = { s with lace := { s.lace with
      tickLen := yArg w % 2 ^ 17, q := yPhase w, x := field (yArg w) 17 6, v := field (yArg w) 23 16 } } := by
  have hcond : (p != s.lace.parent || decide (s.lace.root = pnode s)) = false := by simp [hp, hroot]
  simp only [configIn, hcond, Bool.false_eq_true, ↓reduceIte]

end Tree

/-! ### ROOT (R169 to R171, R177; log entry 113) -/

section Root
variable {s : State} {p : Nat} {w : Word128}

/-- A ROOT as it is compared and kept: its latency and its hops count the link that it came over. -/
def rootArrival (s : State) (p : Nat) (w : Word128) : RootArr :=
  ⟨p, yArg w % 256, yOrigin w, field (yArg w) 8 24 + (getPort s p).const, field (yArg w) 32 4 + 1⟩

/-- The ROOT as it goes on. -/
def rootForward (s : State) (p : Nat) (w : Word128) : Word128 :=
  let a := rootArrival s p w
  mkSym 3 (ySeq w) a.node 0 0 (rootArg a.prio a.lat a.hops)

def rootKept (s : State) (p : Nat) (w : Word128) : State :=
  { s with lace := { s.lace with arrivals := s.lace.arrivals ++ [rootArrival s p w] } }

/-- A ROOT takes part in an election: it is ranked, and goes on where it outranks the best seen. -/
def rootRanked (s : State) (p : Nat) (w : Word128) : State :=
  let r := ((rootArrival s p w).prio, (rootArrival s p w).node)
  let u := noteRank (rootKept s p w) r
  if (match s.lace.best with | none => true | some b => outranks r b) then flood u (rootForward s p w) (some p) else u

/-- The package re-parents to the node of a ROOT: the standby root, or any other in holdover. -/
def takesRoot (s : State) (w : Word128) : Bool :=
  laceRuns s && yOrigin w != s.lace.root && (yOrigin w == s.lace.standby || s.lace.mode == .holdover)

variable (hon : s.lace.mode ≠ .off) (hfar : yOrigin w ≠ pnode s)
include hon hfar

/-- What a ROOT of another node can do to a package whose lace is on. -/
theorem rootIn_eq : rootIn s p w =
    if laceRuns s then
      if takesRoot s w then flood (newRoot s (rootArrival s p w)) (rootForward s p w) (some p)
      else if s.lace.reelect && yOrigin w != s.lace.root then rootRanked s p w
      else if yOrigin w = s.lace.root && yOrigin w != pnode s then takeParent (rootKept s p w) (yOrigin w)
      else s
    else rootRanked s p w := by
  have hcond : (decide (s.lace.mode = .off) || decide (yOrigin w = pnode s)) = false := by simp [hon, hfar]
  exact if_neg (Bool.eq_false_iff.1 hcond)

theorem rootIn_first (hrun : laceRuns s = false) : rootIn s p w = rootRanked s p w := by
  rw [rootIn_eq hon hfar, hrun, if_neg Bool.false_ne_true]

theorem rootIn_new (hrun : laceRuns s = true) (hroot : yOrigin w ≠ s.lace.root)
    (htakes : yOrigin w = s.lace.standby ∨ s.lace.mode = .holdover) :
    rootIn s p w = flood (newRoot s (rootArrival s p w)) (rootForward s p w) (some p) := by
  have htake : takesRoot s w = true := by simpa [takesRoot, hrun, hroot] using htakes
  rw [rootIn_eq hon hfar, if_pos hrun, if_pos htake]

theorem rootIn_again (hrun : laceRuns s = true) (hroot : yOrigin w ≠ s.lace.root) (hstandby : yOrigin w ≠ s.lace.standby)
    (hmode : s.lace.mode = .locked) (hre : s.lace.reelect = true) : rootIn s p w = rootRanked s p w := by
  have htake : ¬takesRoot s w = true := by simp [takesRoot, hstandby, hmode]
  rw [rootIn_eq hon hfar, if_pos hrun, if_neg htake, if_pos (by simp [hre, hroot])]

theorem rootIn_known (hrun : laceRuns s = true) (hroot : yOrigin w = s.lace.root) :
    rootIn s p w = takeParent (rootKept s p w) (yOrigin w) := by
  have htake : ¬takesRoot s w = true := by simp [takesRoot, hroot]
  rw [rootIn_eq hon hfar, if_pos hrun, if_neg htake, if_neg (by simp [hroot]), if_pos (by simpa [hroot] using hroot ▸ hfar)]

end Root

theorem treeSymbolsComplete : TreeSymbolsComplete := by
  intro port sym s
  refine ⟨fun e harr hon hel hroot hp => ?sync, fun harr hp => ⟨fun hacq => ?acquiring, fun hrun hroot => ?epoch⟩,
    fun harr hp hroot => ?config, fun harr hon hfar => ⟨fun hrun => ?first, fun hrun hroot htakes => ?new,
      fun hrun hroot hstandby hmode hre => ?again, fun hrun hroot => ?known⟩⟩
  case sync => exact exec_of_arrives rfl harr (syncIn_from_parent e hon hel hroot hp)
  case acquiring => exact exec_of_arrives rfl harr (epochIn_acquiring hp hacq)
  case epoch => exact exec_of_arrives rfl harr (epochIn_counting hp hrun hroot)
  case config => exact exec_of_arrives rfl harr (configIn_from_parent hp hroot)
  case first => exact exec_of_arrives rfl harr (rootIn_first hon hfar hrun)
  case new => exact exec_of_arrives rfl harr (rootIn_new hon hfar hrun hroot htakes)
  case again => exact exec_of_arrives rfl harr (rootIn_again hon hfar hrun hroot hstandby hmode hre)
  case known => exact exec_of_arrives rfl harr (rootIn_known hon hfar hrun hroot)

/-! ## The flooded symbols (R174 to R198, 17 R546) -/

section Flooded
variable {s : State} {port : Port} {sym : Word128} {ty : Nat}

/-- A timed symbol as it is held here for its tick. -/
def timedEntry (s : State) (w : Word128) : Timed := { symKey w with tick := fullTick s (yTick w), rcv := s.lace.tick }

/-- A symbol that is held joins the masks or the other timed symbols. -/
theorem timedIn_of_holdsFor (hholds : holdsFor s sym) : timedIn s sym =
    if yType sym = 0x30 then { s with lace := { s.lace with masks := s.lace.masks ++ [timedEntry s sym] } }
    else { s with lace := { s.lace with timed := s.lace.timed ++ [timedEntry s sym] } } := by
  obtain ⟨hrun, hhalt, halarm, hlate⟩ := hholds
  have hcond : (!laceRuns s || decide (s.dev.mode = .halted) || decide (s.dev.mode = .alarm)) = false := by simp [hrun, hhalt, halarm]
  have harg : (symKey sym).arg = yArg sym := rfl
  simp only [timedIn, hcond, harg, hlate, Bool.false_eq_true, ↓reduceIte, timedEntry]

theorem timedIn_mask {u : State} (harr : arrives s port 0x30 sym) (hholds : holdsFor u sym) :
    timedIn u sym = { u with lace := { u.lace with masks := u.lace.masks ++ [timedEntry u sym] } } := by
  obtain ⟨_, hty, _⟩ := harr
  rw [timedIn_of_holdsFor hholds, if_pos hty]

theorem timedIn_timed {u : State} (harr : arrives s port ty sym) (hty : ty ≠ 0x30) (hholds : holdsFor u sym) :
    timedIn u sym = { u with lace := { u.lace with timed := u.lace.timed ++ [timedEntry u sym] } } := by
  obtain ⟨_, rfl, _⟩ := harr
  rw [timedIn_of_holdsFor hholds, if_neg hty]

/-- An ADOPT is held after the adopter was recorded at its ports (05 R194). -/
theorem exec_adoptSymbol {v : State} (harr : arrives s port 0x24 sym) (hnew : ∀ x ∈ s.lace.seen, sameSym (symKey sym) x = false)
    (hv : recordAdopter (forwardedOn s port sym) (yOrigin sym) (yArg sym % 2048) = v) (hholds : holdsFor v sym) :
    exec (.adoptSymbol port sym) s =
      .next { v with lace := { v.lace with timed := v.lace.timed ++ [timedEntry v sym] } } := by
  refine exec_of_flooded rfl harr hnew ?_
  rw [hv, timedIn_timed harr (by decide) hholds]

end Flooded

theorem floodedSymbolsComplete : FloodedSymbolsComplete := by
  intro port sym s hnew u e held
  refine ⟨fun harr hrun => ?fault, fun harr => ?halt, fun harr hh => ?start, fun harr hh => ?switch, fun harr hh => ?freq,
    fun harr hh => ?adopt, fun harr hh => ?mask, fun harr => ?vote⟩
  case fault => exact exec_of_flooded rfl harr hnew (if_pos hrun)
  case halt => exact exec_of_flooded rfl harr hnew rfl
  case start | switch => exact exec_of_flooded rfl harr hnew (timedIn_timed harr (by decide) hh)
  case adopt => exact exec_adoptSymbol harr hnew rfl hh
  case mask => exact exec_of_flooded rfl harr hnew (timedIn_mask harr hh)
  case freq =>
    have hheld : timedIn u sym = held := timedIn_timed harr (by decide) hh
    have hlonger : u.lace.timed.length < held.lace.timed.length := by simp [held]
    refine exec_of_flooded rfl harr hnew ?_
    change (if u.lace.timed.length < (timedIn u sym).lace.timed.length then _ else _) = _
    rw [if_pos (hheld ▸ hlonger), hheld]
  case vote =>
    have hseen : ¬s.lace.seen.any (sameSym (symKey sym)) = true := by simpa using hnew
    exact exec_of_arrives rfl harr (if_neg hseen)

/-- Settles O34: the symbols of the tree and the flooded ones. -/
theorem laceSymbolsComplete : Obligations.LaceSymbolsComplete := ⟨treeSymbolsComplete, floodedSymbolsComplete⟩

/-! ## The phase at which a tick ends (R179, R183) -/

section TickEnd
variable {s : State} {k : Nat} {noK : Bool}

theorem votesAllow_iff : votesAllow s k = true ↔
    ∀ v ∈ s.lace.votes, v.tick = s.lace.tick → v.cast + s.lace.v ≤ endPhase s k → v.quanta ≤ k := by
  simp only [votesAllow, List.all_eq_true, Bool.or_eq_true, bne_iff_ne, decide_eq_true_eq]
  refine forall₂_congr fun v _ => ?_
  constructor
  · rintro ((h | h) | h) ht hc
    · exact absurd ht h
    · exact absurd hc h.not_ge
    · exact h
  · intro h
    by_cases ht : v.tick = s.lace.tick
    · by_cases hc : v.cast + s.lace.v ≤ endPhase s k
      · exact .inr (h ht hc)
      · exact .inl (.inr (not_le.1 hc))
    · exact .inl (.inl ht)

/-- A tick that is not forced ends only at a phase P_k, and there either the votes allow k or k is X or above. -/
theorem endsNow_some (h : endsNow s = some (k, noK)) (hforced : forcedTick s s.lace.tick = false) (hq : 0 < s.lace.q) :
    s.lace.phase + 1 = endPhase s k ∧ votesAllow s k = !noK ∧ (noK = true → s.lace.x ≤ k) := by
  simp only [endsNow, hforced, hq.ne', Bool.false_eq_true, ↓reduceIte] at h
  split_ifs at h with hoff hphase hallow hx
  all_goals
    obtain ⟨rfl, rfl⟩ := Prod.mk.inj (Option.some.inj h)
    simp only [Bool.or_eq_true, decide_eq_true_eq, not_or, not_lt] at hoff
    simp only [bne_iff_ne, ne_eq, not_not] at hphase
    have hend : s.lace.phase + 1 = endPhase s ((s.lace.phase + 1 - s.lace.tickLen) / s.lace.q) := by
      rw [endPhase, hphase, Nat.add_sub_cancel' hoff.2]
  · exact ⟨hend, hallow, fun hno => absurd hno Bool.false_ne_true⟩
  · exact ⟨hend, Bool.eq_false_iff.2 hallow, fun _ => hx⟩

end TickEnd

/-- Settles O6: the votes allow the k of the end, or they do not and `votesAllow_iff` names the vote that asks for more. -/
theorem tickEndsWhereVotesAllow : Obligations.TickEndsWhereVotesAllow := by
  intro s k noK hends hforced hq
  obtain ⟨hphase, hallow, hx⟩ := endsNow_some hends hforced hq
  refine ⟨hphase, fun hno => ?_, fun hno => ⟨hx hno, ?_⟩⟩ <;> subst hno
  · exact votesAllow_iff.1 hallow
  · have hsome := mt votesAllow_iff.2 (Bool.eq_false_iff.1 hallow)
    push Not at hsome
    exact hsome

end Sys2Proof.Proofs
end

section
/-! What the raising of an event leaves of the schedule, and from it the halt (05 R198, R199, 14 R474, 16 R536, 17 R560, R572). -/
namespace Sys2Proof.Proofs
open Sys2Proof.Machine Sys2Proof.Claims

/-! ## Entries of a sparse map -/

section Entries
variable {α : Type} {d v : α} {i : Nat}

theorem mget_eq_or_mem : ∀ {m : SMap α}, mget d m i = d ∨ (i, mget d m i) ∈ m
  | [] => .inl rfl
  | (k, w) :: r => by
    simp only [mget]
    split_ifs with hk
    · exact .inr (hk ▸ List.mem_cons_self)
    · exact .inl rfl
    · exact mget_eq_or_mem.imp_right (List.mem_cons_of_mem _)

/-- A write adds no entry but its own. -/
theorem eq_or_mem_of_mem_mset [DecidableEq α] {e : Nat × α} : ∀ {m : SMap α}, e ∈ mset d m i v → e = (i, v) ∨ e ∈ m
  | [], h => by
    simp only [mset] at h
    split_ifs at h <;> simp_all
  | (k, w) :: r, h => by
    have ih := @eq_or_mem_of_mem_mset _ e r
    simp only [mset] at h
    split_ifs at h with hlt hd heq hd <;> simp only [List.mem_cons] at h ⊢
    · exact .inr h
    · exact h
    · exact .inr (.inr h)
    · exact h.imp (heq ▸ id) .inr
    · exact h.elim (.inr ∘ .inl) fun h => (ih h).imp_right .inr

end Entries

/-! ## What an event leaves of the schedule -/

/-- Nothing of the schedule channel is in a port. -/
def Quiet (x : PortSt) : Prop := x.sched = [] ∧ x.tx = [] ∧ x.late = [] ∧ x.rx = []

theorem quiet_silent (x : PortSt) : Quiet x.silent := ⟨rfl, rfl, rfl, rfl⟩

/-- From `s` to `t` the lace, the device state, the partitions, the clusters and their cores stay, and quiet ports stay quiet. -/
structure KeepsSchedule (s t : State) : Prop where
  lace : t.lace = s.lace
  dev : t.dev = s.dev
  parts : t.parts = s.parts
  clusters : t.clusters = s.clusters
  cores : t.cores = s.cores
  quiet : (∀ e ∈ s.ports, Quiet e.2) → ∀ e ∈ t.ports, Quiet e.2

namespace KeepsSchedule
variable {s t : State}

theorem refl (s : State) : KeepsSchedule s s := ⟨rfl, rfl, rfl, rfl, rfl, id⟩

theorem foldl {β : Type} {f : State → β → State} (hf : ∀ {u} b, KeepsSchedule s u → KeepsSchedule s (f u b)) (l : List β)
    (h : KeepsSchedule s t) : KeepsSchedule s (l.foldl f t) :=
  List.foldlRecOn l f (motive := KeepsSchedule s) h fun _ hu b _ => hf b hu

variable (h : KeepsSchedule s t)
include h

/-- What leaves the lace, the device state, the partitions, the clusters, their cores and the ports untouched. -/
theorem update {u : State} (hl : u.lace = t.lace := by rfl) (hd : u.dev = t.dev := by rfl) (hp : u.parts = t.parts := by rfl)
    (hc : u.clusters = t.clusters := by rfl) (hk : u.cores = t.cores := by rfl) (hq : u.ports = t.ports := by rfl) :
    KeepsSchedule s u :=
  ⟨hl.trans h.lace, hd.trans h.dev, hp.trans h.parts, hc.trans h.clusters, hk.trans h.cores, fun hs => hq ▸ h.quiet hs⟩

theorem setO (i sub v : Nat) : KeepsSchedule s (setO t i sub v) := h.update

theorem memPut (a : Nat) (l : List Byte) : KeepsSchedule s (memPut t a l) := h.update

theorem emit (m : OutMsg) : KeepsSchedule s (emit t m) := h.update

theorem count (i sub n : Nat) : KeepsSchedule s (count t i sub n) := h.update

theorem modPort (p : Nat) {f : PortSt → PortSt} (hf : ∀ x, Quiet x → Quiet (f x)) : KeepsSchedule s (modPort t p f) := by
  refine ⟨h.lace, h.dev, h.parts, h.clusters, h.cores, fun hs e he => ?_⟩
  have hport : Quiet (getPort t p) := by
    rcases mget_eq_or_mem (d := PortSt.init) (i := p) (m := t.ports) with hd | hm
    · rw [getPort, hd]; exact ⟨rfl, rfl, rfl, rfl⟩
    · exact h.quiet hs _ hm
  rcases eq_or_mem_of_mem_mset he with rfl | he
  · exact hf _ hport
  · exact h.quiet hs e he

theorem mgmtOut (dst mbox flags : Nat) (frame : List Byte) : KeepsSchedule s (mgmtOut t dst mbox flags frame) := by
  unfold Machine.mgmtOut
  split
  · exact h
  · exact h.modPort _ fun _ hx => hx

theorem msixFor (v : Nat) : KeepsSchedule s (msixFor t v) := by
  simp only [Machine.msixFor]
  split_ifs <;> exact h.update

theorem ibiFor (code : Nat) : KeepsSchedule s (ibiFor t code) := by
  unfold Machine.ibiFor
  split_ifs <;> exact h.update

theorem notifyFor (code : Nat) : KeepsSchedule s (notifyFor t code) := by
  unfold Machine.notifyFor
  split_ifs
  · exact (h.mgmtOut ..).update
  · exact h

theorem deliverEv (code : Nat) : KeepsSchedule s (deliverEv t code) := by
  simp only [Machine.deliverEv]
  generalize hu : Machine.msixFor t _ = u
  have hk : KeepsSchedule s u := hu ▸ h.msixFor _
  refine .notifyFor (.ibiFor ?_ code) code
  split_ifs
  · exact hk.update
  · exact hk

theorem queuePut (r : EvRec) : KeepsSchedule s (queuePut t r) := by
  simp only [Machine.queuePut]
  exact .deliverEv (.count (.setO (.memPut h ..) ..) ..) _

theorem reportLoss : KeepsSchedule s (reportLoss t) := by
  unfold Machine.reportLoss
  split_ifs
  · exact h
  · exact .queuePut h.update _

theorem bumpSeq : KeepsSchedule s (bumpSeq t) := h.update

theorem loseEv (code : Nat) : KeepsSchedule s (loseEv t code) := (h.count 0x8001 2 1).update

theorem raiseP (code : Nat) (pl : List Byte) (poison : Bool) : KeepsSchedule s (raiseP t code pl poison) := by
  simp only [Machine.raiseP]
  generalize (if poison = true then 2 else 0) = flags
  generalize hu : ({ t with events := { t.events with supp := mset 0 t.events.supp code 0 } } : State) = u
  have hk : KeepsSchedule s u := hu ▸ h.update
  split_ifs
  · exact h
  · exact .queuePut (.bumpSeq (.reportLoss hk)) _
  · exact .loseEv (.reportLoss hk) _
  · exact .bumpSeq h.update
  · exact .loseEv hk _

theorem raise (code : Nat) (pl : List Byte) : KeepsSchedule s (raise t code pl) := h.raiseP code pl false

theorem writeVolts (opp : Nat) : KeepsSchedule s (writeVolts t opp) := by
  unfold Machine.writeVolts
  exact foldl (fun _ hu => .emit (.setO hu ..) _) _ h

theorem dropChange : KeepsSchedule s (dropChange t) := by
  unfold Machine.dropChange
  split
  · split
    · exact h
    · exact .writeVolts h.update _
  · exact h

theorem mapDev (f : Device → Device) : KeepsSchedule { s with dev := f s.dev } { t with dev := f t.dev } :=
  ⟨h.lace, congrArg f h.dev, h.parts, h.clusters, h.cores, h.quiet⟩

theorem setMode {m : DevState} (cause halt : Nat) (hm : t.dev.mode ≠ m) :
    KeepsSchedule { s with dev := { s.dev with mode := m, prev := some s.dev.mode } } (setMode t m cause halt) := by
  simp only [Machine.setMode, if_neg hm]
  exact .raise (.setO (h.mapDev fun d => { d with mode := m, prev := some d.mode }) ..) ..

end KeepsSchedule

/-! ## The halt -/

@[simp] theorem spadForgetAll_dev (s : State) : (spadForgetAll s).dev = s.dev :=
  List.foldlRecOn _ spadForget (motive := fun t : State => t.dev = s.dev) rfl fun _ ht _ _ => ht

@[simp] theorem loseTick_dev (s : State) : (loseTick s).dev = s.dev :=
  List.foldlRecOn s.tickWrites _ (motive := fun t : State => t.dev = s.dev) rfl fun _ ht _ _ => ht

@[simp] theorem stopSchedule_dev (s : State) : (stopSchedule s).dev = s.dev := by simp [stopSchedule]

@[simp] theorem stopAll_dev (s : State) : (stopAll s).dev = { s.dev with armed := false } := by
  rw [stopAll, (KeepsSchedule.refl _).dropChange.dev]
  simp

/-- No schedule is under way, and nothing waits for a tick (05 R198, R199, 16 R536). -/
structure Stopped (t : State) : Prop where
  timed : t.lace.timed = []
  masks : t.lace.masks = []
  armed : t.dev.armed = false
  cores : t.cores = []
  parts : ∀ e ∈ t.parts, e.2.runs = false ∧ e.2.faultTick = none
  clusters : ∀ e ∈ t.clusters, e.2.hold = none ∧ e.2.sb = []
  quiet : ∀ e ∈ t.ports, Quiet e.2

theorem Stopped.kept {s t : State} (hs : Stopped s) (h : KeepsSchedule s t) : Stopped t where
  timed := h.lace ▸ hs.timed
  masks := h.lace ▸ hs.masks
  armed := h.dev ▸ hs.armed
  cores := h.cores ▸ hs.cores
  parts := h.parts ▸ hs.parts
  clusters := h.clusters ▸ hs.clusters
  quiet := h.quiet hs.quiet

theorem Stopped.withDev {s : State} (hs : Stopped s) {d : Device} (hd : d.armed = false) : Stopped { s with dev := d } :=
  { hs with armed := hd }

theorem stopAll_stopped (s : State) : Stopped (stopAll s) := by
  refine Stopped.kept ?_ (KeepsSchedule.refl _).dropChange
  constructor
  case timed | masks | armed | cores => rfl
  case quiet => exact List.forall_mem_map.2 fun e _ => quiet_silent e.2
  case clusters => exact List.forall_mem_map.2 fun _ _ => ⟨rfl, rfl⟩
  case parts => exact List.forall_mem_map.2 (List.forall_mem_map.2 fun _ _ => ⟨rfl, rfl⟩)

/-- After a trip the floor falls at once (17 R560). -/
def floorDropped (s : State) (cause : Nat) : State :=
  if cause = 2 || cause = 3 then { s with power := { s.power with floor := 0, ballast := 0 } } else s

/-- A halt leaves READY, RUNNING and DRAINING for HALTED (14 R474). -/
def toHalted (s : State) (cause : Nat) : State :=
  if s.dev.mode = .ready || s.dev.mode = .running || s.dev.mode = .draining then
    setMode { s with dev := { s.dev with haltCause := cause } } .halted 2 cause
  else s

/-- The same of the device state alone. -/
def haltedDev (d : Device) (cause : Nat) : Device :=
  if d.mode = .ready ∨ d.mode = .running ∨ d.mode = .draining then
    { d with haltCause := cause, mode := .halted, prev := some d.mode }
  else d

theorem haltLocal_eq (s : State) (origin cause tick phase : Nat) :
    haltLocal s origin cause tick phase = raise (count (toHalted (floorDropped (stopAll s) cause) cause) 0x3060 6 1) 0x3109
      (f16 origin ++ f16 cause ++ f64 tick ++ f16 phase) := rfl

section Halt
variable {s t : State} (h : KeepsSchedule s t) (cause : Nat)
include h

theorem KeepsSchedule.floorDropped : KeepsSchedule s (floorDropped t cause) := by
  unfold Proofs.floorDropped
  split_ifs
  · exact h.update
  · exact h

theorem KeepsSchedule.toHalted : KeepsSchedule { s with dev := haltedDev s.dev cause } (toHalted t cause) := by
  unfold Proofs.toHalted haltedDev
  by_cases hm : s.dev.mode = .ready ∨ s.dev.mode = .running ∨ s.dev.mode = .draining
  · have hne : t.dev.mode ≠ .halted := fun heq => by simp [← h.dev, heq] at hm
    rw [if_pos hm, if_pos (by simpa [h.dev, or_assoc] using hm)]
    exact (h.mapDev fun d => { d with haltCause := cause }).setMode 2 cause hne
  · rw [if_neg hm, if_neg (by simpa [h.dev, or_assoc] using hm)]
    exact h

end Halt

theorem haltLocal_keepsSchedule (s : State) (origin cause tick phase : Nat) :
    KeepsSchedule { stopAll s with dev := haltedDev (stopAll s).dev cause } (haltLocal s origin cause tick phase) := by
  rw [haltLocal_eq]
  exact .raise (.count (.toHalted (.floorDropped (.refl _) cause) cause) ..) ..

@[simp] theorem haltedDev_armed (d : Device) (cause : Nat) : (haltedDev d cause).armed = d.armed := by
  unfold haltedDev
  split_ifs <;> rfl

/-- Settles O7: what `stopAll` stops stays stopped, and of the device state the halt's event leaves what `haltedDev` says. -/
theorem haltStopsEverySchedule : Obligations.HaltStopsEverySchedule := by
  intro s origin cause tick phase t
  have hkeeps : KeepsSchedule _ t := haltLocal_keepsSchedule s origin cause tick phase
  have hstopped : Stopped t := ((stopAll_stopped s).withDev (by simp)).kept hkeeps
  have hdev : t.dev = haltedDev { s.dev with armed := false } cause := by rw [hkeeps.dev, stopAll_dev]
  refine ⟨hstopped.timed, hstopped.masks, hstopped.armed, hstopped.cores, hstopped.parts, hstopped.clusters, hstopped.quiet, ?_,
    fun hm => ?_⟩
  · rw [hdev, haltedDev]
    split_ifs <;> rfl
  · rw [hdev, haltedDev, if_pos hm]

end Sys2Proof.Proofs
end

section
/-! The end of an object command (06 R223, R226): its entry, its ring and its counters, and what the event that reports it leaves alone. -/
namespace Sys2Proof.Proofs
open Sys2Proof.Machine Sys2Proof.Claims

/-! ## What the raising of an event may change -/

/-- From `s` to `t` only objects, memory, the event state, the ports and what leaves the package may differ. -/
def EventsOnly (s t : State) : Prop :=
  t = { s with obj := t.obj, mem := t.mem, events := t.events, ports := t.ports, out := t.out }

namespace EventsOnly
variable {s t : State}

theorem refl (s : State) : EventsOnly s s := rfl

variable (h : EventsOnly s t)
include h

theorem memSt : t.memSt = s.memSt := by
  unfold EventsOnly at h
  rw [h]

theorem update {u : State}
    (hu : u = { t with obj := u.obj, mem := u.mem, events := u.events, ports := u.ports, out := u.out } := by rfl) :
    EventsOnly s u := by
  unfold EventsOnly at h
  rw [h] at hu
  exact hu

theorem setO (i sub v : Nat) : EventsOnly s (setO t i sub v) := h.update

theorem count (i sub n : Nat) : EventsOnly s (count t i sub n) := h.setO ..

theorem memPut (a : Nat) (l : List Byte) : EventsOnly s (memPut t a l) := h.update

theorem mgmtOut (dst mbox flags : Nat) (frame : List Byte) : EventsOnly s (mgmtOut t dst mbox flags frame) := by
  unfold Machine.mgmtOut
  split <;> exact h.update

theorem msixFor (v : Nat) : EventsOnly s (msixFor t v) := by
  simp only [Machine.msixFor]
  split_ifs <;> exact h.update

theorem ibiFor (code : Nat) : EventsOnly s (ibiFor t code) := by
  unfold Machine.ibiFor
  split_ifs <;> exact h.update

theorem notifyFor (code : Nat) : EventsOnly s (notifyFor t code) := by
  unfold Machine.notifyFor
  split_ifs
  · exact (h.mgmtOut ..).update
  · exact h

theorem deliverEv (code : Nat) : EventsOnly s (deliverEv t code) := by
  simp only [Machine.deliverEv]
  generalize hu : Machine.msixFor t _ = u
  have hvector : EventsOnly s u := hu ▸ h.msixFor _
  refine .notifyFor (.ibiFor ?_ code) code
  split_ifs <;> exact hvector.update

theorem queuePut (r : EvRec) : EventsOnly s (queuePut t r) := by
  simp only [Machine.queuePut]
  exact .deliverEv (.count (.setO (.memPut h ..) ..) ..) _

theorem reportLoss : EventsOnly s (reportLoss t) := by
  unfold Machine.reportLoss
  split_ifs
  · exact h
  · exact .queuePut h.update _

theorem raiseP (code : Nat) (pl : List Byte) (poison : Bool) : EventsOnly s (raiseP t code pl poison) := by
  simp only [Machine.raiseP]
  generalize (if poison = true then 2 else 0) = flags
  generalize hu : ({ t with events := { t.events with supp := mset 0 t.events.supp code 0 } } : State) = u
  have hrecord : EventsOnly s u := hu ▸ h.update
  split_ifs
  · exact h
  · exact .queuePut (.update (.reportLoss hrecord)) _
  · exact .update (.reportLoss hrecord)
  · exact h.update
  · exact hrecord.update

end EventsOnly

@[simp] theorem raise_memSt (s : State) (code : Nat) (pl : List Byte) : (raise s code pl).memSt = s.memSt :=
  ((EventsOnly.refl s).raiseP code pl false).memSt

/-! ## The end of a command -/

@[simp] theorem pkgPut_obj (s : State) (a : Nat) (l : List Byte) : (pkgPut s a l).obj = s.obj := by
  unfold pkgPut
  split <;> rfl

@[simp] theorem pkgPut_memSt (s : State) (a : Nat) (l : List Byte) : (pkgPut s a l).memSt = s.memSt := by
  unfold pkgPut
  split <;> rfl

@[simp] theorem ringHead_pkgPut (s : State) (a : Nat) (l : List Byte) (ring : Bool) : ringHead (pkgPut s a l) ring = ringHead s ring := by
  simp only [ringHead, getO, pkgPut_obj]

/-- STATUS stands in the head entry and the ring's head has moved. -/
def entryClosed (s : State) (ring : Bool) (status : Nat) : State :=
  setO (pkgPut s (ringSlot s ring + 1) (f8 status)) (ringObj ring) 4 ((ringHead s ring + 1) % 2 ^ 32)

/-- The command's end, before the event that its entry may ask for. -/
def cmdClosed (s : State) (ring : Bool) (status : Nat) : State :=
  let u := entryClosed s ring status
  count { u with memSt := { u.memSt with cmd := none } } 0x4020 (if status = 1 then 5 else 6) 1

/-- The payload of event 0x4006 (06 R226). -/
def cmdEvent (e : List Byte) (ring : Bool) (status : Nat) : List Byte :=
  f8 (if ring then 1 else 0) ++ sub e 4 4 ++ f8 (fieldB e 0 1) ++ f8 status ++ sub e 8 8

section End
variable (s : State) (ring : Bool) (status : Nat)

theorem finishCmd_eq : finishCmd s ring status =
    if fbit (fieldB (headEntry s ring) 2 1) 0 then raise (cmdClosed s ring status) 0x4006 (cmdEvent (headEntry s ring) ring status)
    else cmdClosed s ring status := by
  simp only [finishCmd, cmdClosed, entryClosed, cmdEvent, ringHead_pkgPut]

theorem cmdClosed_memSt : (cmdClosed s ring status).memSt = { s.memSt with cmd := none } := by
  simp only [cmdClosed, entryClosed, count_memSt, setO_memSt, pkgPut_memSt]

/-- Of the state of memory a command's end changes only that no command runs. -/
theorem finishCmd_memSt : (finishCmd s ring status).memSt = { s.memSt with cmd := none } := by
  rw [finishCmd_eq]
  split
  · rw [raise_memSt, cmdClosed_memSt]
  · rw [cmdClosed_memSt]

end End

/-- Settles O8: the end is `finishCmd_eq`, and `finishCmd_memSt` is what it leaves of the state of memory. -/
theorem objectCommandEnd : Obligations.ObjectCommandEnd := by
  intro s ring status e u v
  have hmem := finishCmd_memSt s ring status
  have hend := finishCmd_eq s ring status
  refine ⟨by rw [hmem], by rw [hmem], by rw [hmem], fun hquiet => ?quiet, fun hasked => ?asked⟩
  case quiet => exact hend.trans (if_neg (ne_true_of_eq_false hquiet))
  case asked => exact hend.trans (if_pos hasked)

end Sys2Proof.Proofs
end

section
/-! The five object commands at the head of a ring (06 R218, R223, R225, R226, R230). -/
namespace Sys2Proof.Proofs
open Sys2Proof.Machine Sys2Proof.Claims

/-! ## The head of a ring -/

section Head
variable {s : State} {ring : Bool} {op : Nat} {f : State → State}

theorem runHead_of_headIs (h : headIs s ring op) (hlow : op ≠ 0) (hhigh : op ≤ 5) : runHead s ring op f = .next (f s) := by
  obtain ⟨hready, hop⟩ := h
  have hgood : badOp (headEntry s ring) = false := by simp [badOp, hop, hlow, hhigh]
  simp only [runHead, hready, hgood, hop, Bool.not_true, Bool.false_eq_true, ↓reduceIte]

/-- A reserved OP ends with its status whichever row executes it. -/
theorem runHead_reserved (hready : headReady s ring = true)
    (hop : fieldB (headEntry s ring) 0 1 = 0 ∨ 5 < fieldB (headEntry s ring) 0 1) :
    runHead s ring op f = .next (finishCmd s ring (badOpStatus (headEntry s ring))) := by
  have hbad : badOp (headEntry s ring) = true := by simpa [badOp] using hop
  simp only [runHead, hready, hbad, Bool.not_true, Bool.false_eq_true, ↓reduceIte]

end Head

/-! ## CREATE (R218, R225) -/

section Create
variable {s : State} {ring : Bool}

/-- The state in which the head entry's CREATE has made its object, with the object's slot and entry. -/
def headCreated (s : State) (ring : Bool) : State × Nat × ObjEnt :=
  let e := headEntry s ring
  let a := fieldB e 32 8
  createObj s (fieldB e 8 8) (fieldB e 16 8) (fieldB e 24 8) (field a 8 8) (field a 16 8) (field a 24 8) (field a 32 9)

theorem exec_objCreate (h : headIs s ring 1) : exec (.objCreate ring) s = .next (doCreate s ring) := by
  change execObjCreate ring s = _
  rw [execObjCreate, runHead_of_headIs h (by decide) (by decide)]

theorem doCreate_refused (h : headCreateStatus s ring ≠ 1) : doCreate s ring = finishCmd s ring (headCreateStatus s ring) :=
  if_pos (bne_iff_ne.2 h)

variable (h : headCreateStatus s ring = 1)
include h

theorem headCreateStatus_passed : ¬ (headCreateStatus s ring != 1) = true := by simp [h]

theorem doCreate_at_once (hcls : field (fieldB (headEntry s ring) 32 8) 0 8 ≠ 0) :
    doCreate s ring = finishCmd (putObj (headCreated s ring).1 (headCreated s ring).2.1
      { (headCreated s ring).2.2 with cls := field (fieldB (headEntry s ring) 32 8) 0 8 }) ring 1 :=
  (if_neg (headCreateStatus_passed h)).trans (if_neg hcls)

theorem doCreate_pinned (hcls : field (fieldB (headEntry s ring) 32 8) 0 8 = 0) :
    let u := startClass (headCreated s ring).1 (headCreated s ring).2.1 (headCreated s ring).2.2 0
      (field (fieldB (headEntry s ring) 32 8) 8 8)
    doCreate s ring = { u with memSt := { u.memSt with cmd := some (ringCmd ring) } } :=
  (if_neg (headCreateStatus_passed h)).trans (if_pos hcls)

end Create

theorem objectCreationCompletes : ObjectCreationCompletes := by
  intro s ring e a made
  refine ⟨fun hop => ?create, fun hready hop st hst => ?reserved⟩
  case create =>
    rw [exec_objCreate hop]
    exact ⟨fun hst => congrArg _ (doCreate_refused hst), fun hst hcls => congrArg _ (doCreate_at_once hst hcls),
      fun hst hcls => ⟨_, rfl, congrArg _ (doCreate_pinned hst hcls)⟩⟩
  case reserved =>
    subst hst
    change execObjCreate ring s = _ ∧ execObjDestroy ring s = _
    exact ⟨runHead_reserved hready hop, runHead_reserved hready hop⟩

/-! ## SETCLASS (R225, R226, R230) -/

/-- The argument of the head entry's SETCLASS, and the class and die in it. -/
def setclassArg (s : State) (ring : Bool) : Nat := fieldB (headEntry s ring) 16 8
def setclassCls (s : State) (ring : Bool) : Nat := field (setclassArg s ring) 0 8
def setclassDie (s : State) (ring : Bool) : Nat := field (setclassArg s ring) 8 8

def setclassBad (s : State) (ring : Bool) : Bool :=
  2 < setclassCls s ring || 15 < setclassDie s ring || setclassArg s ring / 65536 != 0

/-- The object is listed or an image entry holds it (R226). -/
def setclassHeld (s : State) (ring : Bool) (o : ObjEnt) : Bool :=
  breaksListing s o.id (setclassCls s ring) (setclassDie s ring) || imageHolds s o.id

/-- The state in which the migrations of the change have started. -/
def setclassStarted (s : State) (ring : Bool) (k : Nat) (o : ObjEnt) : State :=
  startClass s k o (setclassCls s ring) (setclassDie s ring)

/-- A tile of the object migrates for its class. -/
def classMoves (s : State) (o : ObjEnt) : Bool :=
  s.memSt.migs.any (fun m => m.forClass && (tilesOf o).contains m.tile)

/-- The change to PINNED or COLD begins, and ends at once where no tile moves (R230). -/
def setclassBegun (s : State) (ring : Bool) (k : Nat) (o : ObjEnt) : State :=
  let u := setclassStarted s ring k o
  if classMoves u o then { u with memSt := { u.memSt with cmd := some (ringCmd ring) } }
  else finishCmd (putObj u k { o with cls := setclassCls s ring, homeDie := setclassDie s ring, state := 1 }) ring 1

section Setclass
variable {s : State} {ring : Bool} {k : Nat} {o : ObjEnt}

theorem exec_objSetclass (h : headIs s ring 2) : exec (.objSetclass ring) s = .next (doSetclass s ring) := by
  change execObjSetclass ring s = _
  rw [execObjSetclass, runHead_of_headIs h (by decide) (by decide)]

variable (hn : names s ring (fun _ => setclassBad s ring) k o)
include hn

/-- What is left of SETCLASS once its object is found. -/
theorem doSetclass_named : doSetclass s ring =
    if setclassHeld s ring o then finishCmd s ring 0x84
    else if setclassCls s ring = 0 && !pinFits s o (setclassDie s ring) then finishCmd s ring 0x83
    else if setclassCls s ring = 1 then finishCmd (putObj (cancelMigs s o) k { o with cls := 1, homeDie := setclassDie s ring }) ring 1
    else setclassBegun s ring k o := by
  obtain ⟨hobj, hstatus⟩ := hn
  delta setclassBad setclassCls setclassDie setclassArg at hstatus
  simp only [doSetclass, hstatus, hobj]
  rfl

theorem doSetclass_held (hheld : setclassHeld s ring o = true) : doSetclass s ring = finishCmd s ring 0x84 := by
  rw [doSetclass_named hn, if_pos hheld]

variable (hfree : setclassHeld s ring o = false)
include hfree

theorem doSetclass_full (hcls : setclassCls s ring = 0) (hfit : pinFits s o (setclassDie s ring) = false) :
    doSetclass s ring = finishCmd s ring 0x83 := by
  simp [doSetclass_named hn, hfree, hcls, hfit]

theorem doSetclass_hot (hcls : setclassCls s ring = 1) :
    doSetclass s ring = finishCmd (putObj (cancelMigs s o) k { o with cls := 1, homeDie := setclassDie s ring }) ring 1 := by
  simp [doSetclass_named hn, hfree, hcls]

theorem doSetclass_started (hcls : setclassCls s ring = 2 ∨ setclassCls s ring = 0 ∧ pinFits s o (setclassDie s ring) = true) :
    doSetclass s ring = setclassBegun s ring k o := by
  rcases hcls with hcls | ⟨hcls, hfit⟩
  · simp [doSetclass_named hn, hfree, hcls]
  · simp [doSetclass_named hn, hfree, hcls, hfit]

end Setclass

/-! ## DESTROY (R225, R226) -/

section Destroy
variable {s : State} {ring : Bool} {k : Nat} {o : ObjEnt}

theorem exec_objDestroy (h : headIs s ring 5) : exec (.objDestroy ring) s = .next (doDestroy s ring) := by
  change execObjDestroy ring s = _
  rw [execObjDestroy, runHead_of_headIs h (by decide) (by decide)]

variable (hn : names s ring (fun _ => false) k o)
include hn

theorem doDestroy_held (hheld : listings s o.id ≠ [] ∨ imageHolds s o.id = true) : doDestroy s ring = finishCmd s ring 0x84 := by
  obtain ⟨hobj, hstatus⟩ := hn
  have hbar : (listings s o.id != [] || imageHolds s o.id) = true := by simpa using hheld
  simp only [doDestroy, hstatus, hobj, hbar, ↓reduceIte]

theorem doDestroy_free (hlist : listings s o.id = []) (himage : imageHolds s o.id = false) :
    doDestroy s ring = finishCmd (destroyObj s k o) ring 1 := by
  obtain ⟨hobj, hstatus⟩ := hn
  simp [doDestroy, hstatus, hobj, hlist, himage]

end Destroy

theorem classAndDestroyComplete : ClassAndDestroyComplete := by
  intro s ring k o a cls die held u moves
  refine ⟨fun hop hn => ?setclass, fun hop hn => ?destroy⟩
  case setclass =>
    rw [exec_objSetclass hop]
    refine ⟨fun hheld => congrArg _ (doSetclass_held hn hheld), fun hfree hcls hfit => congrArg _ (doSetclass_full hn hfree hcls hfit),
      fun hfree hcls => congrArg _ (doSetclass_hot hn hfree hcls), fun hfree hcls => ?_⟩
    rw [doSetclass_started hn hfree hcls]
    exact ⟨fun hmoves => congrArg _ (if_pos hmoves), fun hstill => congrArg _ (if_neg (ne_true_of_eq_false hstill))⟩
  case destroy =>
    rw [exec_objDestroy hop]
    exact ⟨fun hheld => congrArg _ (doDestroy_held hn hheld), fun hlist himage => congrArg _ (doDestroy_free hn hlist himage)⟩

/-! ## READ and WRITE (R225, R226) -/

section Copy
variable {s : State} {ring out : Bool} {k op : Nat} {o : ObjEnt} {c : ObjCmd}

theorem exec_objRead : exec (.objRead ring) s = runCopy s ring 3 true := rfl
theorem exec_objWrite : exec (.objWrite ring) s = runCopy s ring 4 false := rfl

theorem runCopy_begins (hidle : s.memSt.cmd = none) (h : headIs s ring op) (hlow : op ≠ 0) (hhigh : op ≤ 5) :
    runCopy s ring op out = .next (doCopy s ring out) := by
  simp only [runCopy, hidle]
  exact runHead_of_headIs h hlow hhigh

theorem runCopy_goes_on (hcmd : s.memSt.cmd = some c) (hrun : cmdsRun s = true) (hring : c.ring = if ring then 1 else 0)
    (hop : fieldB (headEntry s ring) 0 1 = op) : runCopy s ring op out = .next (stepCopy s ring out) := by
  simp only [runCopy, hcmd, hrun, hring, hop, decide_true, Bool.and_self, ↓reduceIte]

/-- The object of a command may be copied in a direction: a WRITE asks that no image entry holds it and that it is writable. -/
def mayCopy (s : State) (o : ObjEnt) (out : Bool) : Prop := out = true ∨ imageHolds s o.id = false ∧ o.writable = true

/-- The memory operand of the head entry. -/
def headOperand (s : State) (ring : Bool) : Nat := fieldB (headEntry s ring) 32 8

/-- A copy whose object and operand are open moves its units, or begins to ask for its lines. -/
theorem doCopy_open (hn : names s ring (copyBad (headEntry s ring)) k o)
    (hopen : isFabAddr (headOperand s ring) = true → faWorld (headOperand s ring) = true → ring = true) (hmay : mayCopy s o out) :
    doCopy s ring out =
      if isFabAddr (headOperand s ring) then stepCopy { s with memSt := { s.memSt with cmd := some (ringCmd ring) } } ring out
      else
        let r := moveUnits (cmdWho ring) o out (fieldB (headEntry s ring) 24 8 / 256) (fieldB (headEntry s ring) 16 8)
          (headOperand s ring) s
        finishCmd r.1 ring r.2 := by
  obtain ⟨hobj, hstatus⟩ := hn
  have hworld : (isFabAddr (headOperand s ring) && faWorld (headOperand s ring) && !ring) = false := by
    cases ring <;> simp_all
  have himage : (!out && imageHolds s o.id) = false := by rcases hmay with h | ⟨h, -⟩ <;> simp [h]
  have hwritable : (!out && !o.writable) = false := by rcases hmay with h | ⟨-, h⟩ <;> simp [h]
  simp only [headOperand] at hworld
  simp only [doCopy, hstatus, hobj, hworld, himage, hwritable, Bool.false_eq_true, ↓reduceIte]
  rfl

section Running
variable (hcmd : s.memSt.cmd = some c) (hlines : c.lines = 0)
include hcmd hlines

theorem stepCopy_failed (hfail : c.fail ≠ 0) : stepCopy s ring out = finishCmd s ring c.fail := by
  simp [stepCopy, hcmd, hlines, hfail]

variable (hfail : c.fail = 0)
include hfail

theorem stepCopy_at_length (hpos : fieldB (headEntry s ring) 24 8 ≤ c.pos) : stepCopy s ring out = finishCmd s ring 1 := by
  simp [stepCopy, hcmd, hlines, hfail, hpos]

/-- The next unit of 256 bytes asks for its four lines. -/
theorem stepCopy_next_unit (hpos : c.pos < fieldB (headEntry s ring) 24 8)
    (hobj : objById s (fieldB (headEntry s ring) 8 8) = some (k, o)) :
    stepCopy s ring out = issueUnit o (cmdWho ring) out (fieldB (headEntry s ring) 16 8 + c.pos) (headOperand s ring + c.pos) 4
      { s with memSt := { s.memSt with cmd := some { c with pos := c.pos + 256 } } } := by
  simp [stepCopy, hcmd, hlines, hfail, hpos.not_ge, hobj, headOperand]

end Running
end Copy

theorem objectReadWriteComplete : ObjectReadWriteComplete := by
  intro s ring k o e m units open' begun
  refine ⟨fun hidle hn hopen => ⟨fun hop => ?read, fun hop himage hwritable => ?write⟩,
    fun c hcmd hrun hring hlines => ⟨fun hop => ?readRuns, fun hop hfail hpos => ?writeEnds⟩⟩
  case read =>
    rw [exec_objRead, runCopy_begins hidle hop (by decide) (by decide), doCopy_open hn hopen (.inl rfl)]
    exact ⟨fun hmem => congrArg _ (if_neg (ne_true_of_eq_false hmem)), fun hfab => congrArg _ (if_pos hfab)⟩
  case write =>
    rw [exec_objWrite, runCopy_begins hidle hop (by decide) (by decide), doCopy_open hn hopen (.inr ⟨himage, hwritable⟩)]
    exact ⟨fun hmem => congrArg _ (if_neg (ne_true_of_eq_false hmem)), fun hfab => congrArg _ (if_pos hfab)⟩
  case readRuns =>
    rw [exec_objRead, runCopy_goes_on hcmd hrun hring hop]
    exact ⟨fun hfail => congrArg _ (stepCopy_failed hcmd hlines hfail),
      fun hfail hpos => congrArg _ (stepCopy_at_length hcmd hlines hfail hpos),
      fun hfail hpos hobj => congrArg _ (stepCopy_next_unit hcmd hlines hfail hpos hobj)⟩
  case writeEnds => rw [exec_objWrite, runCopy_goes_on hcmd hrun hring hop, stepCopy_at_length hcmd hlines hfail hpos]

/-- Settles O36: the command at the head, or the copy that runs on. -/
theorem objectRingComplete : Obligations.ObjectRingComplete :=
  ⟨objectCreationCompletes, classAndDestroyComplete, objectReadWriteComplete⟩

end Sys2Proof.Proofs
end

section
/-! The vendor instructions and the vendor registers of a control core (13 R440 to R445, 09 R321, R322, 06 R243). -/
namespace Sys2Proof.Proofs
open Sys2Proof.Machine Sys2Proof.Claims

/-! ## Vendor instructions (13 R440, 09 R321, R322) -/

section Instructions
variable {s t : State} {h : Hart} {a len v f : Nat} {rd : Fin 32}

/-- A request without a STATUS of its own is waited for. -/
theorem issueWait_of_issued {op size8 lease mask rd : Nat} {data : List Byte} {sink : Sink}
    (hsent : issue s (getHart s h).secure a op size8 h.core h.thread lease mask data sink = (t, none)) :
    issueWait s h a op size8 lease mask data sink rd = waitFor t s h := by
  simp only [issueWait, hsent]

theorem vendorAtomic_fabric {n : Nat} {go : Nat → State} (hf : fabricAt s h a n f) : vendorAtomic s h a n go = go f := by
  obtain ⟨-, halign, hea⟩ := hf
  simp [vendorAtomic, halign, hea]

theorem vendorAtomic_own {n o : Nat} {go : Nat → State} (ho : ownAt s h a n o) : vendorAtomic s h a n go = takeTrap s h 7 a := by
  obtain ⟨-, halign, hea⟩ := ho
  simp [vendorAtomic, halign, hea, causeStoreFault]

theorem lease_issued {op : Nat} (hf : fabricAt s h a 8 f)
    (hsent : issue s (getHart s h).secure f op 1 h.core h.thread (min len (2 ^ 32 - 1)) 0 [] (.reg h rd 8 0 false) = (t, none)) :
    lease s h op rd a len = waitFor t s h :=
  (vendorAtomic_fabric hf).trans (issueWait_of_issued hsent)

/-! What each instruction does in a thread that issues. -/
section Issues
variable (hi : Sys2Proof.Machine.issues s h = true)
include hi

theorem exec_leaseAcq : exec (.leaseAcq h rd a len) s = .next (lease s h 0x20 rd a len) := if_pos hi

theorem exec_leaseRenew : exec (.leaseRenew h rd a len) s = .next (lease s h 0x21 rd a len) := if_pos hi

theorem exec_leaseRel : exec (.leaseRel h rd a) s = .next (lease s h 0x22 rd a 0) := if_pos hi

theorem exec_fabInv : exec (.fabInv h a len) s = .next (fabInv s h a len) := if_pos hi

theorem exec_fabFence_out (hout : postedOut s h = true) :
    exec (.fabFence h) s = .next (setHart s h { getHart s h with wait := .fence }) :=
  if_pos (by simp [hi, hout])

theorem exec_fabCas (wide : Bool) : exec (.fabCas h rd a wide v) s =
    .next (vendorAtomic s h a (if wide then 8 else 4) (fun f => issueWait s h f 0x18 (if wide then 1 else 0) 0 0
      (padTo 8 (leBytes (if wide then 8 else 4) v) ++ leBytes (if wide then 8 else 4) (getHart s h).fcmp)
      (.reg h rd (if wide then 8 else 4) 0 true) rd)) := if_pos hi

end Issues

theorem exec_fabFence_done (hdone : postedOut s h = false) : exec (.fabFence h) s = .next s :=
  if_neg (by simp [hdone])

theorem fabInv_remote : fabInv s h a 0 =
    setCtl s h.core { getCtl s h.core with cache := (getCtl s h.core).cache.filter (fun e => isLocal s e.1) } := rfl

/-- The range is compared without WORLD (log entry 89). -/
theorem fabInv_range (hlen : len ≠ 0) (hea : effective s h a = .fabric f) : fabInv s h a len =
    setCtl s h.core { getCtl s h.core with
      cache := (getCtl s h.core).cache.filter (fun e => noWorld f + len ≤ noWorld e.1 || noWorld e.1 + 64 ≤ noWorld f) } := by
  simp only [fabInv, hlen, hea, ↓reduceIte]

end Instructions

theorem vendorInstructionsComplete : VendorInstructionsComplete := by
  intro h rd a len v s reg sec
  refine ⟨fun f t wide hf hsent => ?cas, fun f t hf => ?lease, fun o ho => ?own, fun hi => ?cache⟩
  case cas => rw [exec_fabCas hf.1, vendorAtomic_fabric hf, issueWait_of_issued hsent]
  case lease =>
    rw [exec_leaseAcq hf.1, exec_leaseRenew hf.1, exec_leaseRel hf.1]
    exact ⟨fun hsent => congrArg _ (lease_issued hf hsent), fun hsent => congrArg _ (lease_issued hf hsent),
      fun hsent => congrArg _ (lease_issued hf hsent)⟩
  case own =>
    rw [exec_leaseAcq ho.1, exec_leaseRenew ho.1, exec_leaseRel ho.1, exec_fabCas ho.1]
    exact ⟨congrArg _ (vendorAtomic_own ho), congrArg _ (vendorAtomic_own ho), congrArg _ (vendorAtomic_own ho),
      congrArg _ (vendorAtomic_own ho)⟩
  case cache =>
    rw [exec_fabInv hi, exec_fabInv hi]
    exact ⟨exec_fabFence_out hi, exec_fabFence_done, congrArg _ fabInv_remote, fun f hlen hea => congrArg _ (fabInv_range hlen hea)⟩

/-! ## Vendor registers (13 R442 to R445, 06 R243) -/

section Registers
variable {s : State} {h : Hart} {v : Nat}

theorem csr_machine (act : State → State) (hm : csrOk s h) : csr s h act = .next (act s) := by
  obtain ⟨hi, hu⟩ := hm
  simp [csr, hi, hu]

theorem csr_user (act : State → State) (hi : Sys2Proof.Machine.issues s h = true) (hu : (getHart s h).user = true) :
    csr s h act = .next (takeTrap s h 2 0) := by
  simp [csr, hi, hu, causeIllegal]

theorem exec_fnWorld_lowers (hm : csrOk s h) (hv : v % 2 = 0) :
    exec (.fnWorld h v) s = .next (setHart s h { getHart s h with secure := false }) := by
  change execFnWorld h v s = _
  rw [execFnWorld, csr_machine _ hm, if_neg (by omega)]

theorem exec_fnWorld_refuses (hm : csrOk s h) (hv : v % 2 = 1) :
    exec (.fnWorld h v) s = .next (raise s 0x1004 (f16 h.core ++ f8 h.thread)) := by
  change execFnWorld h v s = _
  rw [execFnWorld, csr_machine _ hm, if_pos hv]

theorem exec_fnAwlsub_supervisor (hm : csrOk s h) (hcore : 320 ≤ h.core) : exec (.fnAwlsub h v) s = .next (takeTrap s h 2 0) := by
  change execFnAwlsub h v s = _
  rw [execFnAwlsub, csr_machine _ hm, if_pos hcore, causeIllegal]

theorem exec_fnAwlsub (hm : csrOk s h) (hcore : h.core < 320) : exec (.fnAwlsub h v) s = .next (submitDesc s h (v % 65536)) := by
  change execFnAwlsub h v s = _
  rw [execFnAwlsub, csr_machine _ hm, if_neg hcore.not_ge]

section Submit
variable {l o : Nat} (hl : clusterOf s h.core = some l)
include hl

theorem submitDesc_refused (hbad : badUnscheduled s l (leNat (ramDesc s h.core o)) (ramDesc s h.core o) = true) :
    submitDesc s h o = refuseDesc s h.core l (leNat (ramDesc s h.core o)) := by
  simp only [submitDesc, hl, hbad, ↓reduceIte]

variable (hgood : badUnscheduled s l (leNat (ramDesc s h.core o)) (ramDesc s h.core o) = false)
include hgood

theorem submitDesc_full (hfull : 64 ≤ (getAwl s l).queue.length) :
    submitDesc s h o = setHart s h { getHart s h with wait := .awlQueue (leNat (ramDesc s h.core o)) } := by
  simp only [submitDesc, hl, hgood, hfull, Bool.false_eq_true, ↓reduceIte]

theorem submitDesc_queued (hroom : (getAwl s l).queue.length < 64) : submitDesc s h o =
    setAwl s l { getAwl s l with queue := (getAwl s l).queue ++ [(leNat (ramDesc s h.core o), h.core)] } := by
  simp only [submitDesc, hl, hgood, hroom.not_ge, Bool.false_eq_true, ↓reduceIte]

end Submit

theorem exec_fnAwldone {rd : Fin 32} (hm : csrOk s h) : exec (.fnAwldone h rd) s =
    let k := getCtl s h.core
    let mail := s.relum.boxes.any (fun e => e.1 < 8 && (e.2.done || e.2.timeout) && e.2.owner.any (fun h' => h'.core == h.core))
    .next (setReg (setCtl s h.core { k with done := 0, poisoned := 0, meip := mail }) h rd (k.done + k.poisoned * 2 ^ 32)) := by
  change execFnAwldone h rd s = _
  rw [execFnAwldone, csr_machine _ hm]

theorem exec_fnFstat (hm : csrOk s h) : exec (.fnFstat h v) s = .next (setHart s h { getHart s h with
    fstat := v % 256, sticky := (getHart s h).sticky && !fbit v 8 }) := by
  change execFnFstat h v s = _
  rw [execFnFstat, csr_machine _ hm]

theorem exec_threadStart (hm : csrOk s h) :
    exec (.threadStart h v) s = .next ((List.range (threadsOf h.core)).foldl (fun s t => startThread s h v t) s) := by
  change execThreadStart h v s = _
  rw [execThreadStart, csr_machine _ hm]

theorem exec_threadReset (hm : csrOk s h) : exec (.threadReset h v) s = .next ((List.range (threadsOf h.core)).foldl
    (fun s t => if fbit v (8 + t) && t != h.thread then resetThread s h.core t else s) s) := by
  change execThreadReset h v s = _
  rw [execThreadReset, csr_machine _ hm]

theorem exec_vendor_register_csr {rd : Fin 32} :
    ∀ i ∈ [Instr.fnWorld h v, .fnAwlsub h v, .fnAwldone h rd, .fnFstat h v, .threadStart h v, .threadReset h v],
      ∃ act, exec i s = csr s h act := by
  simp only [List.forall_mem_cons]
  change (∃ act, execFnWorld h v s = csr s h act) ∧ (∃ act, execFnAwlsub h v s = csr s h act) ∧
    (∃ act, execFnAwldone h rd s = csr s h act) ∧ (∃ act, execFnFstat h v s = csr s h act) ∧
    (∃ act, execThreadStart h v s = csr s h act) ∧ (∃ act, execThreadReset h v s = csr s h act) ∧ _
  exact ⟨⟨_, rfl⟩, ⟨_, rfl⟩, ⟨_, rfl⟩, ⟨_, rfl⟩, ⟨_, rfl⟩, ⟨_, rfl⟩, by simp⟩

end Registers

theorem vendorRegistersComplete : VendorRegistersComplete := by
  intro h rd v s x k
  refine ⟨fun hm => ⟨exec_fnWorld_lowers hm, exec_fnWorld_refuses hm, exec_fnAwlsub_supervisor hm, fun l hcore hl => ?submit,
    fun mail hmail => ?done, exec_fnFstat hm, exec_threadStart hm, exec_threadReset hm⟩, fun hi hu i hmem => ?user⟩
  case submit =>
    rw [exec_fnAwlsub hm hcore]
    exact ⟨fun hbad => congrArg _ (submitDesc_refused hl hbad), fun hgood hfull => congrArg _ (submitDesc_full hl hgood hfull),
      fun hgood hroom => congrArg _ (submitDesc_queued hl hgood hroom)⟩
  case done =>
    subst hmail
    exact exec_fnAwldone hm
  case user =>
    obtain ⟨act, hact⟩ := exec_vendor_register_csr i hmem
    rw [hact, csr_user act hi hu]

/-- Settles O43: the instructions in a thread that issues, the registers in M mode and in U mode. -/
theorem vendorAccessComplete : Obligations.VendorAccessComplete := ⟨vendorInstructionsComplete, vendorRegistersComplete⟩

end Sys2Proof.Proofs
end

section
/-! The token stream of a coded group: the bits of a number, exp-Golomb codes, literals and runs, and the bits of packed bytes
(07 R249, R252). Each writer of the encoder has its reader of the decoder here. -/
namespace Sys2Proof.Proofs
open Sys2Proof.Machine Sys2Proof.Claims

/-! ## Bits of a number -/

theorem fbit_eq_testBit (v i : Nat) : fbit v i = v.testBit i := by
  simp [fbit, field, Nat.testBit_eq_decide_div_mod_eq, Nat.shiftRight_eq_div_pow, Bool.beq_eq_decide_eq]

theorem bitsOf_succ (b v : Nat) : bitsOf (b + 1) v = v.testBit b :: bitsOf b v := by rw [bitsOf, fbit_eq_testBit]

/-- Reading `n` bits gives back the `n` low bits of the number that spelled them, below what was read before. -/
theorem readBits_bitsOf (v : Nat) (r : List Bool) : ∀ n a, readBits n a (bitsOf n v ++ r) = some (a * 2 ^ n + v % 2 ^ n, r)
  | 0, a => by simp [readBits, bitsOf, Nat.mod_one]
  | n + 1, a => by
    rw [bitsOf_succ, List.cons_append, readBits, readBits_bitsOf v r n, Nat.mod_pow_succ, Nat.toNat_testBit]
    congr 2
    ring

theorem leadZeros_replicate (r : List Bool) : ∀ m n, leadZeros n (List.replicate m false ++ true :: r) = some (n + m, true :: r)
  | 0, n => rfl
  | m + 1, n => by
    rw [List.replicate_succ, List.cons_append, leadZeros, leadZeros_replicate r m, Nat.add_right_comm, Nat.add_assoc]

/-- `bitLen` is the least number of bits that hold a number, where its fuel does. -/
theorem bitLen_le_iff {f n : Nat} (h : n < 2 ^ f) (k : Nat) : bitLen f n ≤ k ↔ n < 2 ^ k := by
  induction f generalizing n k with
  | zero => simp_all [bitLen]
  | succ f ih =>
    rw [bitLen]
    split
    case isTrue h0 => simp [h0]
    case isFalse h0 =>
      cases k with
      | zero => simp; omega
      | succ k =>
        have := ih (n := n / 2) (by rw [Nat.pow_succ] at h; omega) k
        rw [Nat.pow_succ]
        omega

/-- An exp-Golomb code is read back, whatever follows it (R249, R252). -/
theorem readEg_eg {n k : Nat} (hv : n + 2 ^ k < 2 ^ 32) (r : List Bool) : readEg k (eg n k ++ r) = some (n, r) := by
  have hlen := bitLen_le_iff hv
  obtain ⟨b, hb⟩ : ∃ b, bitLen 32 (n + 2 ^ k) = b + 1 :=
    Nat.exists_eq_succ_of_ne_zero fun h0 => absurd ((hlen 0).1 h0.le) (by have := Nat.two_pow_pos k; omega)
  rw [hb] at hlen
  have hlo : 2 ^ b ≤ n + 2 ^ k := Nat.not_lt.1 fun h => absurd ((hlen b).2 h) (by omega)
  have hhi : n + 2 ^ k < 2 ^ (b + 1) := (hlen (b + 1)).1 le_rfl
  have hk : k ≤ b := Nat.not_lt.1 fun h => absurd ((hlen k).1 h) (by omega)
  have htop : bitsOf (b + 1) (n + 2 ^ k) = true :: bitsOf b (n + 2 ^ k) := by
    rw [bitsOf_succ, Nat.testBit_of_two_pow_le_and_two_pow_add_one_gt hlo hhi]
  have hzeros : leadZeros 0 (eg n k ++ r) = some (b - k, bitsOf (b + 1) (n + 2 ^ k) ++ r) := by
    simp only [eg, hb, htop, List.append_assoc, List.cons_append, leadZeros_replicate]
    congr 2
    omega
  simp only [readEg, hzeros]
  rw [show b - k + k + 1 = b + 1 by omega, readBits_bitsOf, Nat.mod_eq_of_lt hhi]
  simp

/-! ## Codes and their symbols -/

theorem zOf_lt (b : Byte) : zOf b < 256 := by
  have := b.isLt
  simp only [zOf]
  split <;> omega

theorem zOf_pos {b : Byte} (h : b ≠ 0) : 0 < zOf b := by
  have hpos : b.toNat ≠ 0 := fun h0 => h (BitVec.eq_of_toNat_eq h0)
  have := b.isLt
  simp only [zOf]
  split <;> omega

theorem codeOf_zOf (b : Byte) : codeOf (zOf b) = b := by
  have := b.isLt
  apply BitVec.eq_of_toNat_eq
  simp only [codeOf, zOf]
  split <;> split <;> simp only [BitVec.toNat_ofNat] <;> omega

/-- A symbol map as the codec needs it: no non-zero code has the run's symbol, each symbol is at most 255, and `inv` leads back. -/
def Inverts (smap inv : Nat → Nat) : Prop := ∀ z, 0 < z → z < 256 → 0 < smap z ∧ smap z < 256 ∧ inv (smap z) = z

theorem inverts_id : Inverts id id := fun _ hpos hlt => ⟨hpos, hlt, rfl⟩

/-- The map of a built table, a permutation with symbol 0 first, is inverted by the decoder's search (R252). -/
theorem inverts_mapOf {m : List Nat} {k : Nat} (h : tableFits (some (m, k))) : Inverts (mapOf m) (invMap m) := by
  obtain ⟨hlen, -, hhead, hperm⟩ := h
  have hnodup : m.Nodup := hperm.nodup_iff.2 List.nodup_range
  intro z hpos hlt
  have hz : z < m.length := hlen ▸ hlt
  have hsym : mapOf m z = m[z] := List.getD_eq_getElem m 0 hz
  have hzero : m[0] = 0 := by simpa [List.head?_eq_getElem?, hlen] using hhead
  refine ⟨Nat.pos_of_ne_zero fun h0 => hpos.ne' ?_, ?_, ?_⟩
  · exact (hnodup.getElem_inj_iff (hi := hz) (hj := by omega)).1 ((hsym.symm.trans h0).trans hzero.symm)
  · exact hsym ▸ List.mem_range.1 (hperm.mem_iff.1 (List.getElem_mem hz))
  · rw [hsym]
    exact hnodup.idxOf_getElem z hz

/-! ## Tokens -/

/-- The bits of a maximal run of zeros; none of a run of length 0. -/
def runBits (k run : Nat) : List Bool := if run = 0 then [] else eg 0 k ++ eg (run - 1) 0

section Tokens
variable {k : Nat} {smap inv : Nat → Nat}

theorem encodeRun_nil (run : Nat) : encodeRun k smap run [] = runBits k run := rfl

theorem encodeRun_zero (run : Nat) (r : List Byte) : encodeRun k smap run (0 :: r) = encodeRun k smap (run + 1) r := rfl

theorem encodeRun_literal (run : Nat) {b : Byte} (h : b ≠ 0) (r : List Byte) :
    encodeRun k smap run (b :: r) = runBits k run ++ eg (smap (zOf b)) k ++ encodeRun k smap 0 r := if_neg h

/-- The bits read as these codes, with any fuel that allows a token for each code. -/
def Reads (k : Nat) (inv : Nat → Nat) (bits : List Bool) (codes : List Byte) : Prop :=
  ∀ f, codes.length ≤ f → readTokens k inv f codes.length bits = some codes

theorem reads_nil (bits : List Bool) : Reads k inv bits [] := fun f _ => by cases f <;> rfl

theorem two_pow_order_le (hk : k ≤ 3) : 2 ^ k ≤ 8 := Nat.pow_le_pow_right (by decide) hk

theorem Reads.literal {bits : List Bool} {codes : List Byte} {sym : Nat} (h : Reads k inv bits codes) (hk : k ≤ 3) (hpos : 0 < sym)
    (hlt : sym < 256) : Reads k inv (eg sym k ++ bits) (codeOf (inv sym) :: codes) := by
  intro f hf
  have := two_pow_order_le hk
  obtain ⟨f, rfl⟩ : ∃ g, f = g + 1 := Nat.exists_eq_succ_of_ne_zero (by simp at hf; omega)
  obtain ⟨sym, rfl⟩ : ∃ g, sym = g + 1 := Nat.exists_eq_succ_of_ne_zero hpos.ne'
  simp only [List.length_cons, readTokens, readEg_eg (show sym + 1 + 2 ^ k < 2 ^ 32 by omega), if_neg (Nat.not_lt.2 (Nat.le_of_lt_succ hlt)),
    h f (Nat.le_of_succ_le_succ hf), Option.map_some]

theorem Reads.run {bits : List Bool} {codes : List Byte} {run : Nat} (h : Reads k inv bits codes) (hk : k ≤ 3) (hrun : run ≤ 256) :
    Reads k inv (runBits k run ++ bits) (List.replicate run 0 ++ codes) := by
  cases run with
  | zero => exact h
  | succ n =>
    intro f hf
    have := two_pow_order_le hk
    simp only [List.length_append, List.length_replicate] at hf ⊢
    obtain ⟨f, rfl⟩ : ∃ g, f = g + 1 := Nat.exists_eq_succ_of_ne_zero (by omega)
    rw [Nat.add_right_comm, runBits, if_neg n.succ_ne_zero, Nat.add_sub_cancel, List.append_assoc]
    simp only [readTokens, readEg_eg (show 0 + 2 ^ k < 2 ^ 32 by omega), readEg_eg (show n + 2 ^ 0 < 2 ^ 32 by omega),
      if_neg (show ¬ n + codes.length < n by omega), Nat.add_sub_cancel_left, h f (by omega), Option.map_some]

/-- What the encoder writes for `run` zeros and the codes after them reads as them, whatever bits follow (R249, R252). -/
theorem reads_encodeRun (hk : k ≤ 3) (hinv : Inverts smap inv) (pad : List Bool) (codes : List Byte) (run : Nat)
    (hlen : run + codes.length ≤ 256) : Reads k inv (encodeRun k smap run codes ++ pad) (List.replicate run 0 ++ codes) := by
  induction codes generalizing run with
  | nil =>
    rw [encodeRun_nil]
    exact (reads_nil pad).run hk hlen
  | cons b r ih =>
    rw [List.length_cons] at hlen
    by_cases hb : b = 0
    · subst hb
      rw [encodeRun_zero, List.append_cons, ← List.replicate_succ']
      exact ih (run + 1) (by omega)
    · obtain ⟨hpos, hlt, hback⟩ := hinv (zOf b) (zOf_pos hb) (zOf_lt b)
      have hlit := (ih 0 (by omega)).literal hk hpos hlt
      rw [hback, codeOf_zOf] at hlit
      rw [encodeRun_literal run hb, List.append_assoc, List.append_assoc]
      exact hlit.run hk (by omega)

theorem readTokens_encodeBits (hk : k ≤ 3) (hinv : Inverts smap inv) (pad : List Bool) {codes : List Byte} (hlen : codes.length = 256) :
    readTokens k inv 257 256 (encodeBits k smap codes ++ pad) = some codes := by
  have := reads_encodeRun hk hinv pad codes 0 (by omega) 257 (by simp [hlen])
  simpa [hlen, encodeBits] using this

end Tokens

/-! ## Bits packed into bytes -/

/-- The number that bits spell after those of `a`, most significant first. -/
def bitsNat (a : Nat) (l : List Bool) : Nat := l.foldl (fun a b => 2 * a + b.toNat) a

theorem byteOf_eq (l : List Bool) : byteOf l = BitVec.ofNat 8 (bitsNat 0 (l.take 8 ++ List.replicate (8 - l.length) false)) := rfl

theorem bitsNat_div_two_pow (l : List Bool) (a : Nat) : bitsNat a l / 2 ^ l.length = a := by
  induction l generalizing a with
  | nil => simp [bitsNat]
  | cons b r ih =>
    change bitsNat (2 * a + b.toNat) r / 2 ^ (r.length + 1) = a
    have := b.toNat_lt
    rw [Nat.pow_succ, ← Nat.div_div_eq_div_mul, ih]
    omega

theorem bitsOf_bitsNat (l : List Bool) (a : Nat) : bitsOf l.length (bitsNat a l) = l := by
  induction l generalizing a with
  | nil => rfl
  | cons b r ih =>
    change bitsOf (r.length + 1) (bitsNat (2 * a + b.toNat) r) = b :: r
    rw [bitsOf_succ, ih, Nat.testBit_eq_decide_div_mod_eq, bitsNat_div_two_pow]
    cases b <;> simp [Nat.add_mod]

theorem bitsOf_byteOf (l : List Bool) : bitsOf 8 (byteOf l).toNat = l.take 8 ++ List.replicate (8 - l.length) false := by
  rw [byteOf_eq]
  generalize hp : l.take 8 ++ List.replicate (8 - l.length) false = p
  have hlen : p.length = 8 := by rw [← hp]; simp; omega
  have hdiv := bitsNat_div_two_pow p 0
  have hbits := bitsOf_bitsNat p 0
  rw [hlen] at hdiv hbits
  rwa [BitVec.toNat_ofNat, Nat.mod_eq_of_lt (Nat.lt_of_div_eq_zero (by decide) hdiv)]

@[simp] theorem packBits_length : ∀ n l, (packBits n l).length = n
  | 0, _ => rfl
  | n + 1, l => by rw [packBits, List.length_cons, packBits_length n]

/-- Packed bits come back, followed by zeros (R249). -/
theorem bitsOfBytes_packBits (n : Nat) (l : List Bool) (hlen : l.length ≤ 8 * n) :
    bitsOfBytes (packBits n l) = l ++ List.replicate (8 * n - l.length) false := by
  induction n generalizing l with
  | zero => simp_all [packBits, bitsOfBytes]
  | succ n ih =>
    have hsplit : bitsOfBytes (packBits (n + 1) l) = bitsOf 8 (byteOf l).toNat ++ bitsOfBytes (packBits n (l.drop 8)) := rfl
    rw [hsplit, bitsOf_byteOf, ih _ (by rw [List.length_drop]; omega)]
    obtain hfull | hshort : 8 ≤ l.length ∨ l.length < 8 := by omega
    · rw [Nat.sub_eq_zero_of_le hfull, List.replicate_zero, List.append_nil, ← List.append_assoc, List.take_append_drop, List.length_drop]
      congr 2
      omega
    · rw [List.take_of_length_le hshort.le, List.drop_of_length_le hshort.le, List.nil_append, List.append_assoc,
        List.replicate_append_replicate, List.length_nil]
      congr 2
      omega

end Sys2Proof.Proofs
end

section
/-! The frames of a group (07 R247, R248, R250 to R253): which frame the encoder chooses, where the decoder finds its parts, and what it
makes of them. -/
namespace Sys2Proof.Proofs
open Sys2Proof.Machine Sys2Proof.Claims

/-! ## The candidates of R250 -/

theorem fewest_mem {l : List (Nat × List Bool)} (h : l ≠ []) : fewest l ∈ l := by
  refine List.foldlRecOn (motive := (· ∈ l)) l _ ?_ fun a ha c hc => ?_
  · cases l with
    | nil => exact absurd rfl h
    | cons c r => exact List.mem_cons_self
  · split
    · exact hc
    · exact ha

/-- A candidate is written in a fixed table of order 0 to 3, or in mode 4 with the built table. -/
theorem mem_candidates {e : Table} {codes : List Byte} {c : Nat × List Bool} (h : c ∈ candidates e codes) :
    (c.1 < 4 ∧ c.2 = encodeBits c.1 id codes) ∨ (∃ m k, e = some (m, k) ∧ c.1 = 4 ∧ c.2 = encodeBits k (mapOf m) codes) := by
  have hfixed : c ∈ [0, 1, 2, 3].map (fun k => (k, encodeBits k id codes)) → c.1 < 4 ∧ c.2 = encodeBits c.1 id codes := by
    intro hc
    obtain ⟨k, hk, rfl⟩ := List.mem_map.1 hc
    simp only [List.mem_cons, List.not_mem_nil, or_false] at hk
    exact ⟨by omega, rfl⟩
  cases e with
  | none => exact .inl (hfixed h)
  | some t =>
    obtain hc | hc := List.mem_append.1 h
    · exact .inl (hfixed hc)
    · cases List.mem_singleton.1 hc
      exact .inr ⟨t.1, t.2, rfl, rfl, rfl⟩

theorem fewest_candidates_mem (e : Table) (codes : List Byte) : fewest (candidates e codes) ∈ candidates e codes :=
  fewest_mem fun h => by cases e <;> cases h

/-- How a group is written: one of the candidates within 1,984 bits, raw where scale 7 is not 0xff, or mode 5 (R250). -/
theorem encodeGroup_cases (on : Bool) (e : Table) (g : List Byte) :
    (∃ c ∈ candidates e (codesOf g), c.2.length ≤ 1984 ∧ encodeGroup on e g =
      (codedFrame g c.1 (ceilDiv c.2.length 64) (packBits (8 * ceilDiv c.2.length 64) c.2), c.1)) ∨
    ((scalesOf g).getD 7 0 ≠ 0xff ∧ encodeGroup on e g = (rawFrame g, 6)) ∨
    encodeGroup on e g = (mode5Frame g, 5) := by
  by_cases hcoded : (on && (fewest (candidates e (codesOf g))).2.length ≤ 1984) = true
  · exact .inl ⟨_, fewest_candidates_mem e _, of_decide_eq_true (Bool.and_eq_true_iff.1 hcoded).2, if_pos hcoded⟩
  · have hplain : encodeGroup on e g = if (scalesOf g).getD 7 0 != 0xff then (rawFrame g, 6) else (mode5Frame g, 5) := if_neg hcoded
    by_cases hraw : ((scalesOf g).getD 7 0 != 0xff) = true
    · exact .inr (.inl ⟨bne_iff_ne.1 hraw, hplain.trans (if_pos hraw)⟩)
    · exact .inr (.inr (hplain.trans (if_neg hraw)))

/-! ## The layout of a frame (R247) -/

/-- The codes that the payload of an encoded frame gives, by its mode (R248, R252). -/
def payloadCodes (t : Table) (mode len8 : Nat) (payload : List Byte) : Option (List Byte) :=
  if mode < 4 then readTokens mode id 257 256 (bitsOfBytes payload)
  else if mode = 4 then t.bind (fun t => readTokens t.2 (invMap t.1) 257 256 (bitsOfBytes payload))
  else if mode = 5 && len8 = 28 then some (padTo 256 payload) else none

theorem padTo_of_length_eq {n : Nat} {l : List Byte} (h : l.length = n) : padTo n l = l := by
  subst h
  simp [padTo]

theorem codedFrame_eq (g : List Byte) (mode len8 : Nat) (payload rest : List Byte) : codedFrame g mode len8 payload ++ rest =
    sub (scalesOf g) 0 7 ++ 0xff :: BitVec.ofNat 8 (mode + 8 * len8) :: (sub (scalesOf g) 7 1 ++ (payload ++ rest)) := by
  simp [codedFrame]

section Group
variable {g : List Byte} (hg : g.length = 264)
include hg

theorem codesOf_length : (codesOf g).length = 256 := by simp [codesOf, sub, hg]

theorem scalesOf_length : (scalesOf g).length = 8 := by simp [scalesOf, sub, hg]

theorem scalesOf_eq_drop : scalesOf g = g.drop 256 := List.take_of_length_le (by simp [hg])

theorem codes_append_scales : codesOf g ++ scalesOf g = g := by
  rw [scalesOf_eq_drop hg]
  exact List.take_append_drop 256 g

theorem rawFrame_length : (rawFrame g).length = 264 := by rw [rawFrame, List.length_append, scalesOf_length hg, codesOf_length hg]

theorem rawFrame_getD_seven (rest : List Byte) : (rawFrame g ++ rest).getD 7 0 = (scalesOf g).getD 7 0 := by
  rw [rawFrame, List.append_assoc, List.getD_append _ _ _ _ (by rw [scalesOf_length hg]; decide)]

theorem frameLen_rawFrame (hraw : (scalesOf g).getD 7 0 ≠ 0xff) (rest : List Byte) :
    frameLen (rawFrame g ++ rest) = (rawFrame g).length := by
  rw [frameLen, rawFrame_getD_seven hg, if_neg hraw, rawFrame_length hg]

theorem decodeFrame_rawFrame (t : Table) (hraw : (scalesOf g).getD 7 0 ≠ 0xff) (rest : List Byte) :
    decodeFrame t (rawFrame g ++ rest) = some g := by
  have hlen : ¬ (rawFrame g ++ rest).length < 264 := by rw [List.length_append, rawFrame_length hg]; omega
  have hscales : sub (rawFrame g ++ rest) 0 8 = scalesOf g := by
    rw [rawFrame, List.append_assoc]
    exact List.take_left' (scalesOf_length hg)
  have hcodes : sub (rawFrame g ++ rest) 8 256 = codesOf g := by
    rw [rawFrame, List.append_assoc, sub, List.drop_left' (scalesOf_length hg), List.take_left' (codesOf_length hg)]
  rw [decodeFrame, rawFrame_getD_seven hg, if_pos (bne_iff_ne.2 hraw), if_neg hlen, hcodes, hscales, codes_append_scales hg]

/-! The parts of an encoded frame, whatever follows it in the stream. -/

theorem sub_scalesOf_length : (sub (scalesOf g) 0 7).length = 7 ∧ (sub (scalesOf g) 7 1).length = 1 := by
  simp [sub, scalesOf_length hg]

theorem codedFrame_length (mode len8 : Nat) (payload : List Byte) : (codedFrame g mode len8 payload).length = 10 + payload.length := by
  obtain ⟨hseven, hone⟩ := sub_scalesOf_length hg
  simp only [codedFrame, List.length_append, hseven, hone, List.length_cons, List.length_nil]

theorem codedFrame_getD_seven (mode len8 : Nat) (payload rest : List Byte) :
    (codedFrame g mode len8 payload ++ rest).getD 7 0 = 0xff := by
  obtain ⟨hseven, -⟩ := sub_scalesOf_length hg
  rw [codedFrame_eq, List.getD_append_right _ _ _ _ hseven.le, hseven]
  rfl

/-- The header byte holds MODE and LEN8 (R247). -/
theorem codedFrame_header {mode len8 : Nat} (hmode : mode < 8) (hlen8 : len8 < 32) (payload rest : List Byte) :
    ((codedFrame g mode len8 payload ++ rest).getD 8 0).toNat = mode + 8 * len8 := by
  obtain ⟨hseven, -⟩ := sub_scalesOf_length hg
  rw [codedFrame_eq, List.getD_append_right _ _ _ _ (hseven.le.trans (by decide)), hseven]
  exact (BitVec.toNat_ofNat ..).trans (Nat.mod_eq_of_lt (by omega))

theorem codedFrame_scales (mode len8 : Nat) (payload rest : List Byte) :
    sub (codedFrame g mode len8 payload ++ rest) 0 7 ++ sub (codedFrame g mode len8 payload ++ rest) 9 1 = scalesOf g := by
  obtain ⟨hseven, hone⟩ := sub_scalesOf_length hg
  have hlow : sub (codedFrame g mode len8 payload ++ rest) 0 7 = sub (scalesOf g) 0 7 := by
    rw [codedFrame_eq]
    exact List.take_left' hseven
  have hhigh : sub (codedFrame g mode len8 payload ++ rest) 9 1 = sub (scalesOf g) 7 1 := by
    rw [codedFrame_eq, sub, show 9 = (sub (scalesOf g) 0 7).length + 2 by omega, List.drop_length_add_append]
    exact List.take_left' hone
  rw [hlow, hhigh, sub, sub, List.drop_zero, List.take_of_length_le (by simp [scalesOf_length hg] : ((scalesOf g).drop 7).length ≤ 1),
    List.take_append_drop]

theorem codedFrame_payload (mode len8 : Nat) {payload : List Byte} {n : Nat} (hn : payload.length = n) (rest : List Byte) :
    sub (codedFrame g mode len8 payload ++ rest) 10 n = payload := by
  have hhead : (codedFrame g mode len8 []).length = 10 := codedFrame_length hg mode len8 []
  have happend : codedFrame g mode len8 payload = codedFrame g mode len8 [] ++ payload := by simp [codedFrame]
  rw [happend, List.append_assoc, sub, List.drop_left' hhead, List.take_left' hn]

section Coded
variable {mode len8 : Nat} {payload : List Byte} (hmode : mode < 8) (hlen8 : len8 < 32) (hpayload : payload.length = 8 * len8)
include hmode hlen8 hpayload

theorem frameLen_codedFrame (rest : List Byte) :
    frameLen (codedFrame g mode len8 payload ++ rest) = (codedFrame g mode len8 payload).length := by
  rw [frameLen, codedFrame_getD_seven hg, if_pos rfl, codedFrame_header hg hmode hlen8, codedFrame_length hg, hpayload]
  omega

/-- An encoded frame decodes to what its mode makes of its payload, and its eight scales (R252). -/
theorem decodeFrame_codedFrame (t : Table) (rest : List Byte) : decodeFrame t (codedFrame g mode len8 payload ++ rest) =
    (payloadCodes t mode len8 payload).map (· ++ scalesOf g) := by
  have hheader := codedFrame_header hg hmode hlen8 payload rest
  have hmod : (mode + 8 * len8) % 8 = mode := by omega
  have hdiv : (mode + 8 * len8) / 8 = len8 := by omega
  have hpad : padTo 8 (scalesOf g) = scalesOf g := padTo_of_length_eq (scalesOf_length hg)
  have hlen := codedFrame_length hg mode len8 payload
  unfold decodeFrame payloadCodes
  rw [codedFrame_getD_seven hg, if_neg (by decide)]
  simp only [hheader, hmod, hdiv, codedFrame_scales hg, codedFrame_payload hg mode len8 hpayload, hpad]
  by_cases h28 : len8 = 28
  · have hfits : 234 ≤ (codedFrame g mode len8 payload ++ rest).length := by rw [List.length_append]; omega
    subst h28
    simp only [codedFrame_payload hg mode 28 (n := 224) hpayload, hfits, decide_true, Bool.and_true]
  · simp only [h28, decide_false, Bool.and_false, Bool.false_and, Bool.false_eq_true, if_false]

end Coded

/-! ## Each frame decodes -/

/-- A candidate's bits, packed into a payload, give back the codes: the fixed tables by the identity, the built one by its inverse. -/
theorem payloadCodes_candidate {e t : Table} {c : Nat × List Bool} {n : Nat} (hfits : tableFits t) (het : e = none ∨ e = t)
    (hc : c ∈ candidates e (codesOf g)) (hn : c.2.length ≤ 8 * n) (len8 : Nat) :
    payloadCodes t c.1 len8 (packBits n c.2) = some (codesOf g) := by
  have hbits := bitsOfBytes_packBits n c.2 hn
  obtain ⟨hfour, hid⟩ | ⟨m, k, rfl, hfour, hmap⟩ := mem_candidates hc
  · rw [payloadCodes, if_pos hfour, hbits, hid]
    exact readTokens_encodeBits (Nat.le_of_lt_succ hfour) inverts_id _ (codesOf_length hg)
  · obtain rfl : some (m, k) = t := het.resolve_left nofun
    rw [payloadCodes, hfour, if_neg (by decide), if_pos rfl, hbits, hmap]
    obtain ⟨-, hk, -⟩ := id hfits
    exact readTokens_encodeBits hk (inverts_mapOf hfits) _ (codesOf_length hg)

theorem decodeFrame_candidate {e t : Table} {c : Nat × List Bool} {len8 : Nat} (hfits : tableFits t) (het : e = none ∨ e = t)
    (hc : c ∈ candidates e (codesOf g)) (hmode : c.1 < 8) (hlen8 : len8 < 32) (hn : c.2.length ≤ 64 * len8) (rest : List Byte) :
    decodeFrame t (codedFrame g c.1 len8 (packBits (8 * len8) c.2) ++ rest) = some g := by
  rw [decodeFrame_codedFrame hg hmode hlen8 (packBits_length ..), payloadCodes_candidate hg hfits het hc (by omega), Option.map_some,
    codes_append_scales hg]

theorem mode5Payload_length : (sub (codesOf g) 0 224).length = 8 * 28 := by simp [sub, codesOf_length hg]

/-- A mode-5 frame decodes with codes 0x00 in block 7 (R251). -/
theorem decodeFrame_mode5Frame (t : Table) (rest : List Byte) :
    decodeFrame t (mode5Frame g ++ rest) = some (g.take 224 ++ List.replicate 32 0 ++ g.drop 256) := by
  have hblocks : sub (codesOf g) 0 224 = g.take 224 := by simp [sub, codesOf, List.take_take]
  have hpad : padTo 256 (g.take 224) = g.take 224 ++ List.replicate 32 0 := by simp [padTo, hg, List.take_take]
  rw [mode5Frame, decodeFrame_codedFrame hg (by decide) (by decide) (mode5Payload_length hg), payloadCodes, hblocks, hpad,
    scalesOf_eq_drop hg]
  rfl

end Group

theorem candidate_mode_le {e : Table} {codes : List Byte} {c : Nat × List Bool} (h : c ∈ candidates e codes) : c.1 ≤ 4 := by
  obtain ⟨hfour, -⟩ | ⟨_, _, -, hfour, -⟩ := mem_candidates h
  · exact hfour.le
  · exact hfour.le

/-- Settles O9, by the three ways in which a group is written. -/
theorem codecIsLossless : Obligations.CodecIsLossless := by
  intro on e t g rest hg hfits het
  obtain ⟨c, hc, hbits, henc⟩ | ⟨hraw, henc⟩ | henc := encodeGroup_cases on e g <;> simp only [henc]
  case inl =>
    have hmode := candidate_mode_le hc
    have hlen8 : ceilDiv c.2.length 64 < 32 := by rw [ceilDiv]; omega
    have hroom : c.2.length ≤ 64 * ceilDiv c.2.length 64 := by rw [ceilDiv]; omega
    exact ⟨frameLen_codedFrame hg (by omega) hlen8 (packBits_length ..) rest,
      fun _ => decodeFrame_candidate hg hfits het hc (by omega) hlen8 hroom rest, fun h5 => absurd h5 (by omega)⟩
  case inr.inl => exact ⟨frameLen_rawFrame hg hraw rest, fun _ => decodeFrame_rawFrame hg t hraw rest, fun h5 => absurd h5 (by decide)⟩
  case inr.inr =>
    exact ⟨frameLen_codedFrame hg (by decide) (by decide) (mode5Payload_length hg) rest, fun h5 => absurd rfl h5,
      fun _ => decodeFrame_mode5Frame hg t rest⟩

end Sys2Proof.Proofs
end

section
/-! The built table (07 R257): the counts of a sample, and the map that ranks the symbols. -/
namespace Sys2Proof.Proofs
open Sys2Proof.Machine Sys2Proof.Claims

/-! ## The counts of a sample -/

@[simp] theorem bumpAt_length (n : Nat) (c : List Nat) : (bumpAt n c).length = c.length := by
  induction c generalizing n with
  | nil => rw [bumpAt]
  | cons x r ih => cases n <;> simp [bumpAt, ih]

theorem bumpAt_not_all_zero {n : Nat} {c : List Nat} (h : n < c.length) : ¬ ∀ x ∈ bumpAt n c, x = 0 := by
  induction c generalizing n with
  | nil => exact absurd h (Nat.not_lt_zero n)
  | cons x r ih =>
    cases n with
    | zero => simp [bumpAt]
    | succ n => simpa [bumpAt] using fun _ => by simpa using ih (Nat.lt_of_succ_lt_succ h)

/-- Counting from `c` on ends with every count zero only where `c` has none and no code counts. -/
theorem counts_all_zero_iff (sample : List Byte) (c : List Nat) (hc : c.length = 256) :
    (∀ x ∈ sample.foldl (fun c b => if b = 0 then c else bumpAt (zOf b) c) c, x = 0) ↔ (∀ x ∈ c, x = 0) ∧ ∀ b ∈ sample, b = 0 := by
  induction sample generalizing c with
  | nil => simp
  | cons b r ih =>
    rw [List.foldl_cons]
    by_cases hb : b = 0
    · rw [if_pos hb, ih c hc]
      simp [hb]
    · rw [if_neg hb, ih _ (by rw [bumpAt_length, hc])]
      have hcount := bumpAt_not_all_zero (hc ▸ zOf_lt b : zOf b < c.length)
      exact ⟨fun h => absurd h.1 hcount, fun h => absurd (h.2 b List.mem_cons_self) hb⟩

theorem zCounts_all_zero_iff (sample : List Byte) : (zCounts sample).all (· == 0) = true ↔ ∀ b ∈ sample, b = 0 := by
  simp only [zCounts, List.all_eq_true, beq_iff_eq, counts_all_zero_iff sample _ List.length_replicate]
  exact and_iff_right fun _ => List.eq_of_mem_replicate

/-! ## The map -/

/-- Each symbol's place in a list without repetition, taken along the list, counts from 0. -/
theorem map_idxOf_self {l : List Nat} (h : l.Nodup) : l.map (fun z => l.findIdx (· == z)) = List.range l.length := by
  refine List.ext_getElem (by simp) fun i hi _ => ?_
  rw [List.getElem_map, List.getElem_range]
  exact h.idxOf_getElem i (by simpa using hi)

/-- The map that gives symbol 0 to 0 and to each other z its rank in `order`. -/
def rankMap (order : List Nat) : List Nat := (List.range 256).map (fun z => if z = 0 then 0 else order.findIdx (· == z) + 1)

theorem rankMap_eq (order : List Nat) : rankMap order = 0 :: ((List.range 256).drop 1).map (fun z => order.findIdx (· == z) + 1) := by
  rw [rankMap, List.range_succ_eq_map (n := 255), List.map_cons, if_pos rfl, List.drop_one, List.tail_cons, List.map_map, List.map_map]
  refine congrArg _ (List.map_congr_left fun z _ => ?_)
  rw [Function.comp_apply, Function.comp_apply, if_neg z.succ_ne_zero]

theorem rankMap_perm {order : List Nat} (h : order.Perm ((List.range 256).drop 1)) : (rankMap order).Perm (List.range 256) := by
  have hnodup : order.Nodup := h.nodup_iff.2 (List.nodup_range.sublist (List.drop_sublist ..))
  have hranks : order.map (fun z => order.findIdx (· == z) + 1) = (List.range 255).map Nat.succ := by
    have hlen : order.length = 255 := h.length_eq.trans (by rw [List.length_drop, List.length_range])
    rw [← hlen, ← map_idxOf_self hnodup, List.map_map]
    rfl
  have hrange : List.range 256 = 0 :: order.map (fun z => order.findIdx (· == z) + 1) := hranks ▸ List.range_succ_eq_map
  rw [rankMap_eq]
  exact ((h.symm.map _).cons 0).trans (.of_eq hrange.symm)

theorem rankMap_fits {order : List Nat} {k : Nat} (h : order.Perm ((List.range 256).drop 1)) (hk : k ≤ 3) :
    tableFits (some (rankMap order, k)) :=
  ⟨by rw [rankMap, List.length_map, List.length_range], hk, by rw [rankMap_eq, List.head?_cons], rankMap_perm h⟩

/-- The cheapest of the four orders is one of them. -/
theorem cheapestOrder_le (cost : Nat → Nat) : [1, 2, 3].foldl (fun b k => if cost k < cost b then k else b) 0 ≤ 3 := by
  refine List.foldlRecOn (motive := (· ≤ 3)) [1, 2, 3] _ (by decide) fun b hb k hk => ?_
  split
  · exact (show ∀ k ∈ [1, 2, 3], k ≤ 3 by decide) k hk
  · exact hb

theorem buildTable_none {sample : List Byte} (h : (zCounts sample).all (· == 0) = true) : buildTable sample = none := if_pos h

/-- A sample with a non-zero code builds the ranks of an order of the symbols 1 to 255, with an order k of 0 to 3. -/
theorem buildTable_some {sample : List Byte} (h : ¬ (zCounts sample).all (· == 0) = true) :
    ∃ order k, order.Perm ((List.range 256).drop 1) ∧ k ≤ 3 ∧ buildTable sample = some (rankMap order, k) :=
  ⟨_, _, sortBy_perm _ _, cheapestOrder_le _, if_neg h⟩

theorem buildTable_eq_none_iff (sample : List Byte) : buildTable sample = none ↔ ∀ b ∈ sample, b = 0 := by
  rw [← zCounts_all_zero_iff]
  refine ⟨fun hnone => by_contra fun h => ?_, buildTable_none⟩
  obtain ⟨_, _, -, -, hsome⟩ := buildTable_some h
  exact absurd (hnone.symm.trans hsome) nofun

theorem buildTable_fits {sample : List Byte} {m : List Nat} {k : Nat} (hbuilt : buildTable sample = some (m, k)) :
    tableFits (some (m, k)) := by
  obtain ⟨order, k', hperm, hk, hsome⟩ := buildTable_some fun h => absurd ((buildTable_none h).symm.trans hbuilt) nofun
  rw [← hbuilt, hsome]
  exact rankMap_fits hperm hk

/-- Settles O11: the map is the ranks of an order of the symbols, and no count rises without a non-zero code. -/
theorem builtTableIsAPermutation : Obligations.BuiltTableIsAPermutation :=
  fun sample => ⟨fun _ _ => buildTable_fits, buildTable_eq_none_iff sample⟩

end Sys2Proof.Proofs
end

section
/-! The line code of a Kopitre port (08 R267, R268): the field of its Reed-Solomon code as the powers of α, the two syndromes of a block,
and what they say of a block as the sender makes it and of one with a single wrong byte. -/
namespace Sys2Proof.Proofs
open Sys2Proof.Machine Sys2Proof.Claims

/-! ## Products in GF(2^8) -/

/-- The product with α = 2. -/
def gfStep (a : Nat) : Nat := if 128 ≤ a then ((2 * a) ^^^ 0x1d) % 256 else 2 * a

theorem gfMul_two (a : Nat) : gfMul a 2 = gfStep a := by simp [gfMul, gfMulF, gfStep]

theorem gfMulF_succ (n a b acc : Nat) :
    gfMulF (n + 1) a b acc = gfMulF n (gfStep a) (b / 2) (if b % 2 = 1 then acc ^^^ a else acc) := rfl

theorem gfStep_lt {a : Nat} (ha : a < 256) : gfStep a < 256 := by
  rw [gfStep]; split <;> omega

theorem xor_lt_256 {a b : Nat} (ha : a < 256) (hb : b < 256) : a ^^^ b < 256 := Nat.xor_lt_two_pow (n := 8) ha hb

/-- A shift, and the polynomial taken off where the highest bit leaves. -/
theorem gfStep_eq {a : Nat} (ha : a < 256) : gfStep a = (2 * a) % 256 ^^^ if a.testBit 7 then 0x1d else 0 := by
  have hbit : a.testBit 7 = decide (128 ≤ a) := by
    rw [Nat.testBit_eq_decide_div_mod_eq]; congr 1; simp; omega
  by_cases h : 128 ≤ a
  · simp only [gfStep, hbit, h, decide_true, ↓reduceIte]
    exact Nat.xor_mod_two_pow (n := 8)
  · simp only [gfStep, hbit, h, decide_false, Bool.false_eq_true, ↓reduceIte, Nat.xor_zero]
    omega

theorem gfStep_xor {a b : Nat} (ha : a < 256) (hb : b < 256) : gfStep (a ^^^ b) = gfStep a ^^^ gfStep b := by
  have hshift : (2 * (a ^^^ b)) % 256 = (2 * a) % 256 ^^^ (2 * b) % 256 := by
    rw [← Nat.xor_mod_two_pow (n := 8)]; congr 1
    simpa [Nat.shiftLeft_eq, Nat.mul_comm] using Nat.shiftLeft_xor_distrib (a := a) (b := b) (i := 1)
  rw [gfStep_eq ha, gfStep_eq hb, gfStep_eq (xor_lt_256 ha hb), hshift, Nat.testBit_xor]
  cases a.testBit 7 <;> cases b.testBit 7 <;>
    simp [Nat.xor_comm, Nat.xor_left_comm]

theorem gfMulF_lt : ∀ (n : Nat) {a b acc : Nat}, a < 256 → acc < 256 → gfMulF n a b acc < 256
  | 0, _, _, _, _, hacc => hacc
  | n + 1, a, b, acc, ha, hacc => by
    rw [gfMulF_succ]
    refine gfMulF_lt n (gfStep_lt ha) ?_
    split
    · exact xor_lt_256 hacc ha
    · exact hacc

/-- The product is linear over α in its first factor. -/
theorem gfMulF_gfStep : ∀ (n : Nat) {a b acc : Nat}, a < 256 → acc < 256 →
    gfMulF n (gfStep a) b (gfStep acc) = gfStep (gfMulF n a b acc)
  | 0, _, _, _, _, _ => rfl
  | n + 1, a, b, acc, ha, hacc => by
    rw [gfMulF_succ, gfMulF_succ]
    split
    · rw [← gfStep_xor hacc ha, gfMulF_gfStep n (gfStep_lt ha) (xor_lt_256 hacc ha)]
    · exact gfMulF_gfStep n (gfStep_lt ha) hacc

theorem gfMul_gfStep {a : Nat} (b : Nat) (ha : a < 256) : gfMul (gfStep a) b = gfStep (gfMul a b) :=
  gfMulF_gfStep 8 (acc := 0) ha (by decide)

theorem one_gfMul : ∀ b < 256, gfMul 1 b = b := by decide +kernel

/-! ## Powers of α -/

theorem iterate_gfStep_lt {a : Nat} (ha : a < 256) : ∀ n, gfStep^[n] a < 256
  | 0 => ha
  | n + 1 => by rw [Function.iterate_succ_apply']; exact gfStep_lt (iterate_gfStep_lt ha n)

theorem iterate_gfStep_xor {a b : Nat} (ha : a < 256) (hb : b < 256) :
    ∀ n, gfStep^[n] (a ^^^ b) = gfStep^[n] a ^^^ gfStep^[n] b
  | 0 => rfl
  | n + 1 => by
    simp only [Function.iterate_succ_apply', iterate_gfStep_xor ha hb n]
    exact gfStep_xor (iterate_gfStep_lt ha n) (iterate_gfStep_lt hb n)

theorem gfMul_power {b : Nat} (hb : b < 256) : ∀ n, gfMul (gfStep^[n] 1) b = gfStep^[n] b
  | 0 => one_gfMul b hb
  | n + 1 => by
    simp only [Function.iterate_succ_apply']
    rw [gfMul_gfStep b (iterate_gfStep_lt (by decide) n), gfMul_power hb n]

theorem gfPow_two : ∀ n, gfPow 2 n = gfStep^[n] 1
  | 0 => rfl
  | n + 1 => by
    rw [gfPow, gfPow_two n, Function.iterate_succ_apply']
    exact gfMul_power (iterate_gfStep_lt (by decide) n) 1

theorem power_255 : gfStep^[255] 1 = 1 := by decide +kernel

/-- α has order 255: none of 85, 51 and 15 is a period. -/
theorem minimalPeriod_gfStep : Function.minimalPeriod gfStep 1 = 255 := by
  have hdvd : Function.minimalPeriod gfStep 1 ∣ 255 := Function.IsPeriodicPt.minimalPeriod_dvd power_255
  have hnot : ∀ n, gfStep^[n] 1 ≠ 1 → ¬ Function.minimalPeriod gfStep 1 ∣ n := fun n hn hd =>
    hn (Function.isPeriodicPt_iff_minimalPeriod_dvd.2 hd)
  have h85 := hnot 85 (by decide +kernel)
  have h51 := hnot 51 (by decide +kernel)
  have h15 := hnot 15 (by decide +kernel)
  have hmem : Function.minimalPeriod gfStep 1 ∈ Nat.divisors 255 := by simp [hdvd]
  rw [show Nat.divisors 255 = {1, 3, 5, 15, 17, 51, 85, 255} by decide +kernel] at hmem
  simp only [Finset.mem_insert, Finset.mem_singleton] at hmem
  rcases hmem with h | h | h | h | h | h | h | h <;> rw [h] at h85 h51 h15 ⊢ <;> omega

theorem power_injOn : Set.InjOn (fun n => gfStep^[n] 1) (Finset.range 255) := by
  simpa [minimalPeriod_gfStep] using Function.iterate_injOn_Iio_minimalPeriod (f := gfStep) (x := 1)

theorem gfStep_ne_zero : ∀ a < 256, a ≠ 0 → gfStep a ≠ 0 := by decide +kernel

theorem power_ne_zero : ∀ n, gfStep^[n] 1 ≠ 0
  | 0 => by decide
  | n + 1 => by
    rw [Function.iterate_succ_apply']
    exact gfStep_ne_zero _ (iterate_gfStep_lt (by decide) n) (power_ne_zero n)

/-- Its 255 powers are all bytes but 0. -/
theorem exists_power {a : Nat} (ha : a < 256) (h0 : a ≠ 0) : ∃ n, gfStep^[n] 1 = a := by
  have himage : (Finset.range 255).image (fun n => gfStep^[n] 1) = Finset.Ico 1 256 := by
    refine Finset.eq_of_subset_of_card_le (Finset.image_subset_iff.2 fun n _ => ?_) ?_
    · exact Finset.mem_Ico.2 ⟨Nat.pos_of_ne_zero (power_ne_zero n), iterate_gfStep_lt (by decide) n⟩
    · rw [Finset.card_image_of_injOn power_injOn]; simp
  have hmem : a ∈ Finset.Ico 1 256 := Finset.mem_Ico.2 ⟨Nat.pos_of_ne_zero h0, ha⟩
  rw [← himage] at hmem
  obtain ⟨n, -, hn⟩ := Finset.mem_image.1 hmem
  exact ⟨n, hn⟩

theorem gfMul_gfPow_two {a : Nat} (ha : a < 256) (h0 : a ≠ 0) (n : Nat) : gfMul a (gfPow 2 n) = gfStep^[n] a := by
  obtain ⟨m, rfl⟩ := exists_power ha h0
  rw [gfPow_two, gfMul_power (iterate_gfStep_lt (by decide) n), ← Function.iterate_add_apply, Nat.add_comm,
    Function.iterate_add_apply]

/-- The multiples of a byte other than 0 by the first 255 powers of α differ. -/
theorem iterate_gfStep_inj {a m n : Nat} (ha : a < 256) (h0 : a ≠ 0) (hm : m < 255) (hn : n < 255)
    (h : gfStep^[m] a = gfStep^[n] a) : m = n := by
  obtain ⟨k, rfl⟩ := exists_power ha h0
  have hperiodic : Function.IsPeriodicPt gfStep 255 1 := power_255
  have hmod : ∀ j, gfStep^[255 * (k + 1) - k] (gfStep^[j] (gfStep^[k] 1)) = gfStep^[j] 1 := fun j => by
    rw [← Function.iterate_add_apply, ← Function.iterate_add_apply,
      show 255 * (k + 1) - k + j + k = j + 255 * (k + 1) by omega, Function.iterate_add_apply, (hperiodic.mul_const _).eq]
  refine power_injOn (by simpa using hm) (by simpa using hn) ?_
  change gfStep^[m] 1 = gfStep^[n] 1
  rw [← hmod m, ← hmod n, h]

/-! ## The syndromes -/

@[simp] theorem synd_nil : synd [] = (0, 0) := rfl

theorem synd_concat (l : List Byte) (b : Byte) :
    synd (l ++ [b]) = ((synd l).1 ^^^ b.toNat, gfStep (synd l).2 ^^^ b.toNat) := by
  simp [synd, gfMul_two]

theorem synd_lt (l : List Byte) : (synd l).1 < 256 ∧ (synd l).2 < 256 := by
  induction l using List.reverseRecOn with
  | nil => decide
  | append_singleton l b ih =>
    rw [synd_concat]
    exact ⟨xor_lt_256 ih.1 b.isLt, xor_lt_256 (gfStep_lt ih.2) b.isLt⟩

/-- An error in one byte adds itself to the first syndrome, and its multiple by the power of α of its place to the second. -/
theorem synd_set (l : List Byte) (i : Nat) (e : Byte) (hi : i < l.length) :
    synd (l.set i (l.getD i 0 ^^^ e)) = ((synd l).1 ^^^ e.toNat, (synd l).2 ^^^ gfStep^[l.length - 1 - i] e.toNat) := by
  induction l using List.reverseRecOn with
  | nil => simp at hi
  | append_singleton l b ih =>
    rcases Nat.lt_or_ge i l.length with hlt | hge
    · have hget : (l ++ [b]).getD i 0 = l.getD i 0 := List.getD_append _ _ _ _ hlt
      have hpow : (l ++ [b]).length - 1 - i = (l.length - 1 - i) + 1 := by simp; omega
      rw [hget, List.set_append_left _ _ hlt, synd_concat, synd_concat, ih hlt, hpow, Function.iterate_succ_apply',
        gfStep_xor (synd_lt l).2 (iterate_gfStep_lt e.isLt _)]
      simp only [Nat.xor_comm, Nat.xor_left_comm]
    · obtain rfl : i = l.length := by simp at hi; omega
      simp [synd_concat, Nat.xor_assoc]

/-- Parity's factor 3^254 is the inverse of 3, the sum of 1 and α. -/
theorem gfMul_inverse {c : Nat} (hc : c < 256) : gfStep (gfMul c (gfPow 3 254)) ^^^ gfMul c (gfPow 3 254) = c := by
  have hv : gfPow 3 254 < 256 := by decide +kernel
  have h1 : gfStep (gfPow 3 254) ^^^ gfPow 3 254 = 1 := by decide +kernel
  by_cases h0 : c = 0
  · subst h0; decide +kernel
  · obtain ⟨n, rfl⟩ := exists_power hc h0
    rw [gfMul_power hv, ← Function.iterate_succ_apply' gfStep n, Function.iterate_succ_apply,
      ← iterate_gfStep_xor (gfStep_lt hv) hv, h1]

theorem synd_two (l : List Byte) (x y : Byte) : synd (l ++ [x, y]) =
    ((synd l).1 ^^^ x.toNat ^^^ y.toNat, gfStep (gfStep (synd l).2) ^^^ gfStep x.toNat ^^^ y.toNat) := by
  rw [show l ++ [x, y] = (l ++ [x]) ++ [y] by simp, synd_concat, synd_concat, gfStep_xor (gfStep_lt (synd_lt l).2) x.isLt]

/-- Parity makes both syndromes zero. -/
theorem synd_parity (l : List Byte) : synd (l ++ rsParity l) = (0, 0) := by
  obtain ⟨h1, h2⟩ := synd_lt l
  have hzero : synd (l ++ [0, 0]) = ((synd l).1, gfStep (gfStep (synd l).2)) := by simp [synd_two, gfStep]
  have hc : (synd l).1 ^^^ gfStep (gfStep (synd l).2) < 256 := xor_lt_256 h1 (gfStep_lt (gfStep_lt h2))
  have hp : gfMul ((synd l).1 ^^^ gfStep (gfStep (synd l).2)) (gfPow 3 254) < 256 := gfMulF_lt 8 hc (by decide)
  have hinv := gfMul_inverse hc
  simp only [rsParity, hzero]
  generalize gfMul ((synd l).1 ^^^ gfStep (gfStep (synd l).2)) (gfPow 3 254) = p at hp hinv ⊢
  have hsecond : gfStep (gfStep (synd l).2) ^^^ gfStep p ^^^ ((synd l).1 ^^^ p) = 0 := calc
    _ = (gfStep p ^^^ p) ^^^ ((synd l).1 ^^^ gfStep (gfStep (synd l).2)) := by ac_rfl
    _ = 0 := by rw [hinv, Nat.xor_self]
  simp only [synd_two, BitVec.toNat_ofNat, Nat.mod_eq_of_lt hp, Nat.mod_eq_of_lt (xor_lt_256 h1 hp), hsecond, Nat.xor_self]

/-! ## The decoder -/

theorem rsDecode_of_synd_zero {l : List Byte} (h : (synd l).1 = 0) : rsDecode l = (l, false) := by
  simp [rsDecode, h]

/-- A block of 136 bytes with both syndromes zero is found again from any single wrong byte. -/
theorem rsDecode_set {l : List Byte} {i : Nat} {e : Byte} (hlen : l.length = 136) (hsynd : synd l = (0, 0)) (hi : i < 136) (he : e ≠ 0) :
    rsDecode (l.set i (l.getD i 0 ^^^ e)) = (l, true) := by
  have he0 : e.toNat ≠ 0 := fun h => he (BitVec.eq_of_toNat_eq (by simpa using h))
  have hs : synd (l.set i (l.getD i 0 ^^^ e)) = (e.toNat, gfStep^[135 - i] e.toNat) := by
    rw [synd_set l i e (by omega), hsynd, hlen]; simp
  have hfind : (List.range 136).find? (fun j => gfMul e.toNat (gfPow 2 j) == gfStep^[135 - i] e.toNat) = some (135 - i) := by
    simp only [List.find?_range_eq_some, gfMul_gfPow_two e.isLt he0, beq_self_eq_true, List.mem_range, Bool.not_eq_true',
      beq_eq_false_iff_ne, ne_eq, true_and]
    refine ⟨by omega, fun j hj hjk => ?_⟩
    have := iterate_gfStep_inj e.isLt he0 (by omega) (by omega) hjk
    omega
  have hplace : 135 - (135 - i) = i := by omega
  simp only [rsDecode, hs, he0, ↓reduceIte, hfind, hplace, BitVec.ofNat_toNat, BitVec.setWidth_eq, Prod.mk.injEq, and_true]
  have hset : (l.set i (l.getD i 0 ^^^ e)).getD i 0 = l.getD i 0 ^^^ e := by simp [List.getD, hlen, hi]
  rw [hset, List.set_set, BitVec.xor_assoc, BitVec.xor_self, BitVec.xor_zero]
  exact List.ext_getElem? fun j => by
    by_cases hj : i = j
    · subst hj; simp [hlen, hi]
    · simp [hj]

/-! ## Blocks as the sender makes them (R267, R268) -/

theorem length_padTo (n : Nat) (l : List Byte) : (padTo n l).length = n := by
  simp only [padTo, List.length_append, List.length_take, List.length_replicate]; omega

theorem crc32Bit_lt {c : Nat} (hc : c < 2 ^ 32) : crc32Bit c < 2 ^ 32 := by
  rw [crc32Bit]
  split
  · exact Nat.xor_lt_two_pow (by omega) (by decide)
  · omega

theorem crc32Bits_lt : ∀ (n : Nat) {c : Nat}, c < 2 ^ 32 → crc32Bits n c < 2 ^ 32
  | 0, _, hc => hc
  | n + 1, _, hc => crc32Bits_lt n (crc32Bit_lt hc)

theorem crc32Run_lt : ∀ (l : List Byte) {c : Nat}, c < 2 ^ 32 → crc32Run l c < 2 ^ 32
  | [], _, hc => hc
  | b :: l, c, hc => by
    rw [crc32Run, onNat_eq]
    exact crc32Run_lt l (crc32Bits_lt 8 (Nat.xor_lt_two_pow hc (b.isLt.trans (by decide))))

theorem crc32_lt (l : List Byte) : crc32 l < 256 ^ 4 :=
  Nat.xor_lt_two_pow (n := 32) (crc32Run_lt l (by decide)) (by decide)

/-- The 134 bytes of a block before its parity. -/
def blockData (f : Flit) (replay : Bool) : List Byte :=
  padTo 128 f.body ++ f16 (lineWord f.kind f.last replay f.frac)

theorem mkBlock_eq (f : Flit) (replay : Bool) : ∃ c, c = f32 (crc32 (blockData f replay)) ∧
    mkBlock f replay = (blockData f replay ++ c) ++ rsParity (blockData f replay ++ c) := ⟨_, rfl, rfl⟩

theorem length_blockData (f : Flit) (replay : Bool) : (blockData f replay).length = 130 := by
  simp [blockData, length_padTo, f16]

/-- Settles O10: both syndromes of the block are zero, and those of a wrong byte give its place and its error. -/
theorem lineCodeCorrectsOneByte : Obligations.LineCodeCorrectsOneByte := by
  intro f replay b
  obtain ⟨c, hc, hb⟩ : ∃ c, c = f32 (crc32 (blockData f replay)) ∧
    b = (blockData f replay ++ c) ++ rsParity (blockData f replay ++ c) := mkBlock_eq f replay
  have hdata := length_blockData f replay
  have hclen : c.length = 4 := by simp [hc, f32]
  have hlen : b.length = 136 := by simp [hb, hdata, hclen, rsParity]
  have hsynd : synd b = (0, 0) := by rw [hb]; exact synd_parity _
  have htake : b.take 130 = blockData f replay := by simp [hb, hdata]
  refine ⟨hlen, rsDecode_of_synd_zero (by rw [hsynd]), ?_, ?_, fun i e hi he => rsDecode_set hlen hsynd hi he⟩
  · have hfield : sub b 130 4 = c := by simp [sub, hb, hdata, hclen]
    rw [fieldB, hfield, htake, hc, f32, leNat_leBytes_of_lt (crc32_lt _)]
  · rw [show b.take 128 = (b.take 130).take 128 by simp [List.take_take], htake, blockData]
    simp [length_padTo]

end Sys2Proof.Proofs
end

section
/-! The control words and the timers of a Kopitre port (08 R277 to R290), and the frame of those that change the port alone. -/
namespace Sys2Proof.Proofs
open Sys2Proof.Machine Sys2Proof.Claims

/-! ## Control words (R277 to R290) -/

section Words
variable {s : State} {p : Nat}

/-! At a port that is up. -/

section Up
variable (hup : (getPort s p).state = .up)
include hup

theorem ackPort_up (seq : Nat) : ackPort s p seq = setPort s p { getPort s p with
    replay := (getPort s p).replay.filter (fun k => !seqLe k.seq seq)
    replayQ := (getPort s p).replayQ.filter (fun k => !seqLe k.seq seq)
    ackAt := s.cyc, lastAck := 65536 + seq } := by
  simp only [ackPort, hup, bne_self_eq_false, Bool.false_eq_true, ↓reduceIte]

/-- The fourth NAK for one flit loses the port. -/
theorem nakPort_fourth {seq : Nat} {k : Kept5} (hk : (getPort s p).replay.find? (fun k => k.seq == seq) = some k) (hn : 3 ≤ k.naks) :
    nakPort s p seq = losePort (count s (0x5100 + p) 0x12 1) p 2 := by
  simp only [nakPort, hup, bne_self_eq_false, Bool.false_eq_true, hk, hn, ↓reduceIte, portObj]

/-- An earlier one marks the flits from the named one on. -/
theorem nakPort_again {seq : Nat} {k : Kept5} (hk : (getPort s p).replay.find? (fun k => k.seq == seq) = some k) (hn : k.naks < 3) :
    let rpl := (getPort s p).replay.map (fun e => if e.seq = seq then { e with naks := e.naks + 1 } else e)
    nakPort s p seq = modPort (count s (0x5100 + p) 0x12 1) p
      (fun x => { x with replay := rpl, replayQ := rpl.filter (fun e => seqLe seq e.seq) }) := by
  simp only [nakPort, hup, bne_self_eq_false, Bool.false_eq_true, hk, hn.not_ge, ↓reduceIte, portObj]

theorem creditPort_fabric (n : Nat) :
    creditPort s p 4 n = setPort s p { getPort s p with fabCredit := min 512 ((getPort s p).fabCredit + n) } := by
  simp only [creditPort, hup, bne_self_eq_false, Bool.false_eq_true, ↓reduceIte]

theorem creditPort_mgmt (n : Nat) :
    creditPort s p 5 n = setPort s p { getPort s p with mgmtCredit := min 64 ((getPort s p).mgmtCredit + n) } := by
  simp only [creditPort, hup, bne_self_eq_false, Bool.false_eq_true, ↓reduceIte, Nat.reduceEqDiff]

theorem probeReplyPort_up (w : Word128) (eighth : Nat) : probeReplyPort s p w eighth = measure s p (roundTrip s w eighth) := by
  simp only [probeReplyPort, hup, reduceCtorEq, ↓reduceIte]

theorem identPort_up (w : Word128) : identPort s p w = setPort s p { getPort s p with
    peerPhys := field w.toNat 16 16, peerLog := field w.toNat 32 16, peerPort := field w.toNat 48 8
    peerTag := if fbit w.toNat 80 then 65536 + field w.toNat 64 16 else 0 } := by
  simp only [identPort, hup, bne_self_eq_false, Bool.false_eq_true, ↓reduceIte]

end Up

/-- A PROBE is echoed by a port that is up or in training. -/
theorem probePort_echo (h : (getPort s p).state = .up ∨ (getPort s p).state = .training) (w : Word128) (eighth : Nat) :
    probePort s p w eighth = sendCtl s p (ctlReply (field w.toNat 32 32) (field w.toNat 64 8) (8 * s.cyc + eighth)) := by
  have hgo : (decide ((getPort s p).state = .up) || decide ((getPort s p).state = .training)) = true := by simpa using h
  simp only [probePort, hgo, ↓reduceIte, stamp8]

/-- A port in training keeps a round trip while fewer than 1,024 came. -/
theorem probeReplyPort_training (h : (getPort s p).state = .training) (w : Word128) (eighth : Nat)
    (hout : (getPort s p).probeOut = true) (hroom : (getPort s p).rtts.length < 1024) :
    let l := roundTrip s w eighth :: (getPort s p).rtts
    probeReplyPort s p w eighth = setPort s p { getPort s p with
      probeOut := false, rtts := l, trainStep := if l.length = 1024 then 5 else (getPort s p).trainStep } := by
  simp only [probeReplyPort, h, hout, hroom, decide_true, Bool.and_self, ↓reduceIte]

end Words

theorem controlWordsComplete : ControlWordsComplete := by
  refine ⟨fun port w eighth s htr => ⟨?_, ?_⟩, fun port w eighth s hup => ⟨?_, fun k hk => ⟨?_, ?_⟩, ?_, ?_, ?_, ?_, ?_, ?_⟩⟩
  · exact congrArg _ (probePort_echo (.inr htr) w eighth)
  · exact fun hout hroom => congrArg _ (probeReplyPort_training htr w eighth hout hroom)
  · exact congrArg _ (ackPort_up hup _)
  · exact fun hn => congrArg _ (nakPort_fourth hup hk hn)
  · exact fun hn => congrArg _ (nakPort_again hup hk hn)
  · intro hch
    change Host.Outcome.next (creditPort s port (field w.toNat 8 8) (field w.toNat 16 16)) = _
    rw [hch, creditPort_fabric hup]
  · intro hch
    change Host.Outcome.next (creditPort s port (field w.toNat 8 8) (field w.toNat 16 16)) = _
    rw [hch, creditPort_mgmt hup]
  · exact congrArg _ (probePort_echo (.inl hup) w eighth)
  · exact congrArg _ (probeReplyPort_up hup w eighth)
  · exact congrArg _ (identPort_up hup w)
  · intro hdown
    change Host.Outcome.next (if field w.toNat 0 8 = 7 then losePort s port 7 else s) = _
    rw [if_pos hdown]

/-! ## Timers (R280, R286, R287) -/

section Timers
variable {s : State} {port : Port} (hup : (getPort s port.val).state = .up)
include hup

theorem exec_ackInterval (hsince : 0 < (getPort s port).sinceAck) (hdue : (getPort s port).ackSentAt + 256 ≤ s.cyc) :
    exec (.ackInterval port) s = .next (setPort s port { getPort s port with
      sinceAck := 0, ackSentAt := s.cyc, ctrl := (getPort s port).ctrl ++ [ctlAck (((getPort s port).rxSeq + 65535) % 65536)] }) := by
  change execAckInterval port s = _
  simp only [execAckInterval, hup, hsince, hdue, decide_true, Bool.and_self, ↓reduceIte]

theorem exec_ackTimeout (hwait : (getPort s port).replay ≠ [])
    (hdue : (getPort s port).ackAt + 4 * ceilDiv (getPort s port).rtt 8 ≤ s.cyc) :
    exec (.ackTimeout port) s = .next (losePort s port 3) := by
  change execAckTimeout port s = _
  simp [execAckTimeout, hup, hwait, hdue]

theorem exec_probeInterval (hdue : (getPort s port).probeAt + 100 * usec ≤ s.now) :
    exec (.probeInterval port) s = .next (sendCtl (setPort s port { getPort s port with probeAt := s.now }) port ctlProbe) := by
  change execProbeInterval port s = _
  simp only [execProbeInterval, hup, hdue, decide_true, Bool.and_self, ↓reduceIte]

end Timers

theorem portTimersComplete : PortTimersComplete :=
  fun _ _ hup => ⟨exec_ackInterval hup, exec_ackTimeout hup, exec_probeInterval hup⟩

/-- Settles O39: each control word at a port that takes it, and each timer where it is due. -/
theorem portWordsAndTimersComplete : Obligations.PortWordsAndTimersComplete := ⟨controlWordsComplete, portTimersComplete⟩

/-! ## The frame of the rows that change their port alone -/

/-- From `s` to `t` no port but `p` changes, and nothing but the ports. -/
def PortOnly (p : Nat) (s t : State) : Prop :=
  t = { s with ports := t.ports } ∧
    (mapWf PortSt.init s.ports = true → mapWf PortSt.init t.ports = true ∧ ∀ q, q ≠ p → getPort t q = getPort s q)

namespace PortOnly
variable {p : Nat} {s t : State}

theorem refl (s : State) : PortOnly p s s := ⟨rfl, fun hwf => ⟨hwf, fun _ _ => rfl⟩⟩

theorem setPort (h : PortOnly p s t) (x : PortSt) : PortOnly p s (setPort t p x) := by
  obtain ⟨hrest, hports⟩ := h
  refine ⟨by rw [hrest]; rfl, fun hwf => ?_⟩
  obtain ⟨hwt, hother⟩ := hports hwf
  exact ⟨mapWf_mset p x hwt, fun q hq => (mget_mset_ne x hq hwt).trans (hother q hq)⟩

theorem sendCtl (h : PortOnly p s t) (w : Word128) : PortOnly p s (sendCtl t p w) := h.setPort _

end PortOnly

section Frame
variable (s : State) (p : Nat)

theorem ackPort_portOnly (seq : Nat) : PortOnly p s (ackPort s p seq) := by
  rw [ackPort]; split
  · exact .refl s
  · exact (PortOnly.refl s).setPort _

theorem creditPort_portOnly (ch n : Nat) : PortOnly p s (creditPort s p ch n) := by
  rw [creditPort]; split_ifs
  · exact .refl s
  · exact (PortOnly.refl s).setPort _
  · exact (PortOnly.refl s).setPort _
  · exact .refl s

theorem probePort_portOnly (w : Word128) (eighth : Nat) : PortOnly p s (probePort s p w eighth) := by
  rw [probePort]; split
  · exact (PortOnly.refl s).sendCtl _
  · exact .refl s

theorem identPort_portOnly (w : Word128) : PortOnly p s (identPort s p w) := by
  rw [identPort]; split
  · exact .refl s
  · exact (PortOnly.refl s).setPort _

theorem execAckInterval_portOnly (port : Port) : ∃ t, execAckInterval port s = .next t ∧ PortOnly port s t := by
  rw [execAckInterval]; split
  · exact ⟨_, rfl, (PortOnly.refl s).setPort _⟩
  · exact ⟨_, rfl, .refl s⟩

theorem execProbeInterval_portOnly (port : Port) : ∃ t, execProbeInterval port s = .next t ∧ PortOnly port s t := by
  rw [execProbeInterval]; split
  · exact ⟨_, rfl, ((PortOnly.refl s).setPort _).sendCtl _⟩
  · exact ⟨_, rfl, .refl s⟩

end Frame

/-- Settles O55: each row leaves the state as it is or sets its own port. -/
theorem portRowsFrame : Obligations.PortRowsFrame := by
  intro p w eighth s t i hi hexec
  have hrows : ∀ i ∈ [Instr.ackWord p w, .creditWord p w, .probeWord p w eighth, .identWord p w, .ackInterval p, .probeInterval p],
      ∃ t, exec i s = .next t ∧ PortOnly p s t := by
    simp only [List.forall_mem_cons]
    exact ⟨⟨_, rfl, ackPort_portOnly s p _⟩, ⟨_, rfl, creditPort_portOnly s p _ _⟩, ⟨_, rfl, probePort_portOnly s p w eighth⟩,
      ⟨_, rfl, identPort_portOnly s p w⟩, execAckInterval_portOnly s p, execProbeInterval_portOnly s p, List.forall_mem_nil _⟩
  obtain ⟨u, hu, hrest, hports⟩ := hrows i hi
  obtain rfl : u = t := Host.Outcome.next.inj (hu.symm.trans hexec)
  exact ⟨hrest, fun hwf => (hports hwf).2⟩

end Sys2Proof.Proofs
end

section
/-! Transfers of the schedule channel (08 R272 to R275) and the training of a port (08 R283 to R285, R301). -/
namespace Sys2Proof.Proofs
open Sys2Proof.Machine Sys2Proof.Claims

/-! ## Transfers (R272 to R275) -/

section Transfer
variable {s : State} {p : Nat}

/-- A transfer opened by its head flit, marked where it is discarded. -/
def opened (s : State) (p h : Nat) (bad : Bool) : State :=
  modPort s p (fun x => { x with rx := x.rx ++ [⟨h, [], false, 0, hLcl h, bad, [], 0, false⟩] })

section Up
variable (hup : (getPort s p).state = .up)
include hup

section Head
variable {flit : List Byte} {h : Nat} (hh : leNat (flit.take 32) = h)
include hh

theorem schedHead_opens (hruns : (clusterRuns s (hLcl h) && physOf s (hLcl h) != 0xff) = true) (hfits : hAddr h + hLen h ≤ 0x10000) :
    schedHead s p flit = opened s p h false := by
  simp only [schedHead, hup, hh, hruns, hfits.not_gt, bne_self_eq_false, Bool.not_true, Bool.false_eq_true, ↓reduceIte, opened]

theorem schedHead_stopped (hruns : (clusterRuns s (hLcl h) && physOf s (hLcl h) != 0xff) = false) :
    schedHead s p flit = discardEv (opened s p h true) p h 1 := by
  simp only [schedHead, hup, hh, hruns, bne_self_eq_false, Bool.not_false, Bool.false_eq_true, ↓reduceIte, Nat.one_ne_zero, opened]
  rfl

theorem schedHead_outside (hruns : (clusterRuns s (hLcl h) && physOf s (hLcl h) != 0xff) = true) (hfits : ¬ hAddr h + hLen h ≤ 0x10000) :
    schedHead s p flit = discardEv (opened s p h true) p h 2 := by
  simp only [schedHead, hup, hh, hruns, Nat.not_le.1 hfits, bne_self_eq_false, Bool.not_true, Bool.false_eq_true, ↓reduceIte,
    OfNat.ofNat_ne_zero, opened]
  rfl

end Head

theorem schedData_none (flit : List Byte) (last : Bool) (hnone : (getPort s p).rx.find? (fun r => !r.complete) = none) :
    schedData s p flit last = discardEv s p 0 3 := by
  simp only [schedData, hup, hnone, bne_self_eq_false, Bool.false_eq_true, ↓reduceIte]

theorem schedData_some (flit : List Byte) (last : Bool) {r : RxTransfer} (hsome : (getPort s p).rx.find? (fun r => !r.complete) = some r) :
    let t := setPort s p { getPort s p with rx := addData flit last (laceCycle s) (getPort s p).rx }
    schedData s p flit last =
      if last && !r.discard && cycAfter (laceCycle s) (releaseAt t p r.head) then lateEv t p r.head (laceCycle s) else t := by
  simp only [schedData, hup, hsome, bne_self_eq_false, Bool.false_eq_true, ↓reduceIte]

end Up

/-- The port's oldest transfer, landed and due, is released. -/
theorem releaseTransfer_due {r : RxTransfer} {rest : List RxTransfer} (hrx : (getPort (landPort s p) p).rx = r :: rest)
    (hcomplete : r.complete = true) (hlost : r.lost = false) (hdue : rxDue (landPort s p) p r = true) :
    let t := modPort (landPort s p) p (fun x => { x with rx := rest })
    releaseTransfer s p = if r.discard then t
      else arrive (if rxComp r then putGroups t p r else t) (hLcl r.head) (hCore r.head) (hBit r.head) := by
  simp only [releaseTransfer, hrx, hcomplete, hlost, hdue, Bool.not_false, Bool.and_self, ↓reduceIte]

end Transfer

/-- Settles O12: a head flit, a data flit, and the release of the oldest transfer. -/
theorem transfersComplete : Obligations.TransfersComplete := by
  intro port flit last s hup
  refine ⟨fun hruns hfits => congrArg _ (schedHead_opens hup rfl hruns hfits),
    fun hruns => congrArg _ (schedHead_stopped hup rfl hruns),
    fun hruns hfits => congrArg _ (schedHead_outside hup rfl hruns hfits),
    fun hnone => congrArg _ (schedData_none hup flit last hnone), fun r hsome => ?_, fun r rest hrx hcomplete hlost hdue => ?_⟩
  · have hdata := schedData_some hup flit last hsome
    exact ⟨fun hlate => congrArg Host.Outcome.next (hdata.trans (if_neg (by simpa using hlate))),
      fun hlate => congrArg Host.Outcome.next (hdata.trans (if_pos hlate))⟩
  · have hrelease := releaseTransfer_due hrx hcomplete hlost hdue
    exact ⟨fun hdisc => congrArg Host.Outcome.next (hrelease.trans (if_pos hdisc)),
      fun hdisc => congrArg Host.Outcome.next (hrelease.trans (if_neg (by simp [hdisc])))⟩

/-! ## The start of a training (R283, R301) -/

section Start
variable {s : State} {port : Port}

theorem exec_portTrainingStart (hok : trainOk s = true)
    (hst : (getPort s port).state = .down ∧ (getPort s port).failAt = 0 ∨ (getPort s port).state = .disabled) :
    exec (.portTrainingStart port) s = .next (tryTraining s port) := by
  have hgo : (decide ((getPort s port).state = .down) && decide ((getPort s port).failAt = 0) ||
      decide ((getPort s port).state = .disabled)) = true := by simpa using hst
  change execPortTrainingStart port s = _
  simp only [execPortTrainingStart, hok, hgo, Bool.and_self, ↓reduceIte]

theorem exec_trainingRetry (hok : trainOk s = true) (hst : (getPort s port).state = .down) (hfail : (getPort s port).failAt ≠ 0)
    (hdue : (getPort s port).failAt - 1 + 100 * msec ≤ s.now) : exec (.trainingRetry port) s = .next (tryTraining s port) := by
  have hne : ((getPort s port).failAt != 0) = true := by simpa using hfail
  change execTrainingRetry port s = _
  simp only [execTrainingRetry, hok, hst, hne, hdue, decide_true, Bool.and_self, ↓reduceIte]

theorem tryTraining_enabled {p : Nat} (h : getO s (0x5000 + p) 1 = 1) : tryTraining s p = beginTraining s p := if_pos h

theorem tryTraining_disabled {p : Nat} (h : getO s (0x5000 + p) 1 ≠ 1) :
    tryTraining s p = setPort s p { PortSt.init with state := .disabled, cause := (getPort s p).cause } := if_neg h

/-- The start and the retry do what the port's enable says. -/
theorem exec_of_tryTraining {i : Instr} {p : Nat} (hexec : exec i s = .next (tryTraining s p)) :
    (getO s (0x5000 + p) 1 = 1 → exec i s = .next (beginTraining s p)) ∧
    (getO s (0x5000 + p) 1 ≠ 1 →
      exec i s = .next (setPort s p { PortSt.init with state := .disabled, cause := (getPort s p).cause })) :=
  ⟨fun h => by rw [hexec, tryTraining_enabled h], fun h => by rw [hexec, tryTraining_disabled h]⟩

end Start

/-! ## The end of a training (R283 to R285) -/

theorem exec_portTrainingComplete {s : State} {port : Port} {res : TrainIn} {t : State} (htr : (getPort s port).state = .training)
    (ht : trained s port res = t) : exec (.portTrainingComplete port res) s = .next (bringUp t) := by
  change Host.Outcome.next (bringUp (trainPort s port res)) = _
  rw [trainPort, if_pos htr, ht]

theorem identOf_eq (x : PortSt) (node logical pp : Nat) : identOf x (node, logical, pp) =
    (if x.identIn then x.peerPhys else node, if x.identIn then x.peerLog else logical, if x.identIn then x.peerPort else pp) := by
  rw [identOf]; split <;> rfl

/-- The port after a training that succeeds: what its last training took over, and what this one measured. -/
def trainedPort (s : State) (t : PortSt) (k fwd rtt node logical pp : Nat) : PortSt :=
  { PortSt.init with
    cause := t.cause, txScr := t.txScr, req := t.req, constO := t.constO, asymAt := t.asymAt, badLimit := t.badLimit
    state := .up, cls := k, const := classConst t k, fwd := fwd, rtt := rtt, margin := marginOf (classConst t k) fwd
    peerPhys := node, peerLog := logical, peerPort := pp, lock := true, probeAt := s.now, ackAt := s.cyc, ackSentAt := s.cyc }

section Measured
variable {s : State} {p rtt' rtt node logical pp : Nat} {r : Nat × Nat × Nat} {kopitre agrees : Bool}
  (hid : identOf (getPort s p) r = (node, logical, pp))
include hid

theorem trained_handshake_fails (hpeer : ¬ (kopitre = true ∧ node ≠ pnode s)) :
    trained s p (.measured rtt' r.1 r.2.1 r.2.2 kopitre agrees) = trainFails s p 3 5 := by
  have hbad : (!kopitre || decide (node = pnode s)) = true := by
    cases kopitre
    · rfl
    · simpa using hpeer
  simp only [trained, hid, hbad, ↓reduceIte]

variable (hrtt : rttOf (getPort s p) rtt' = rtt) (hpeer : kopitre = true ∧ node ≠ pnode s)
include hrtt hpeer

theorem trained_too_far (hfar : 1600 * 8 < rtt) :
    trained s p (.measured rtt' r.1 r.2.1 r.2.2 kopitre agrees) = trainFails s p 4 6 := by
  simp only [trained, hid, hrtt, hpeer.1, hpeer.2, hfar, Bool.not_true, decide_false, Bool.or_self, Bool.false_eq_true, ↓reduceIte]

variable (hnear : rtt ≤ 1600 * 8)
include hnear

theorem trained_no_class
    (hcls : fixClass (getPort s p) (halfUp (rtt + (getPort s p).asymAt)) (halfUp (rtt - (getPort s p).asymAt)) = none) :
    trained s p (.measured rtt' r.1 r.2.1 r.2.2 kopitre agrees) = trainFails s p 5 7 := by
  simp only [trained, hid, hrtt, hpeer.1, hpeer.2, hnear.not_gt, hcls, Bool.not_true, decide_false, Bool.or_self, Bool.false_eq_true,
    ↓reduceIte]

variable {k : Nat}
  (hcls : fixClass (getPort s p) (halfUp (rtt + (getPort s p).asymAt)) (halfUp (rtt - (getPort s p).asymAt)) = some k)
include hcls

theorem trained_disagree : trained s p (.measured rtt' r.1 r.2.1 r.2.2 kopitre false) = trainFails s p 5 8 := by
  simp only [trained, hid, hrtt, hpeer.1, hpeer.2, hnear.not_gt, hcls, Bool.not_true, Bool.not_false, decide_false, Bool.or_self,
    Bool.false_eq_true, ↓reduceIte]

theorem trained_up :
    let fwd := halfUp (rtt + (getPort s p).asymAt)
    trained s p (.measured rtt' r.1 r.2.1 r.2.2 kopitre true) =
      raise (setPort s p (trainedPort s (getPort s p) k fwd rtt node logical pp)) 0x5001
        (f8 p ++ f8 k ++ f16 (classConst (getPort s p) k) ++ f32 fwd ++ f16 node ++ f16 logical ++ f8 pp) := by
  simp only [trained, hid, hrtt, hpeer.1, hpeer.2, hnear.not_gt, hcls, Bool.not_true, decide_false, Bool.or_self, Bool.false_eq_true,
    ↓reduceIte, trainedPort]

end Measured

/-- Settles O13: the start, the retry, and each end of a training. -/
theorem trainingCompletes : Obligations.TrainingCompletes := by
  intro port s
  refine ⟨fun hok hst => exec_of_tryTraining (exec_portTrainingStart hok hst),
    fun hok ⟨hst, hfail, hdue⟩ => exec_of_tryTraining (exec_trainingRetry hok hst hfail hdue),
    fun htr => ⟨fun step cause => exec_portTrainingComplete htr rfl, fun rtt' node' logical' pp' kopitre agrees => ?_⟩⟩
  have hrtt : rttOf (getPort s port) rtt' = _ := rfl
  have hid := identOf_eq (getPort s port) node' logical' pp'
  refine ⟨fun hpeer => exec_portTrainingComplete htr (trained_handshake_fails hid hpeer),
    fun hpeer hfar => exec_portTrainingComplete htr (trained_too_far hid hrtt hpeer hfar),
    fun hpeer hnear hcls => exec_portTrainingComplete htr (trained_no_class hid hrtt hpeer hnear hcls), ?_, ?_⟩
  · rintro hpeer hnear hsome rfl
    obtain ⟨k, hcls⟩ := Option.isSome_iff_exists.1 hsome
    exact exec_portTrainingComplete htr (trained_disagree hid hrtt hpeer hnear hcls)
  · rintro hpeer hnear rfl k hcls
    exact ⟨_, exec_portTrainingComplete htr (trained_up hid hrtt hpeer hnear hcls), rfl, rfl, rfl, rfl, rfl, rfl, rfl, rfl, rfl⟩

end Sys2Proof.Proofs
end

section
/-! A received line block (08 R268, R280 to R283) and a block boundary (08 R278, R283, R284, R288, 09 R311). -/
namespace Sys2Proof.Proofs
open Sys2Proof.Machine Sys2Proof.Claims

/-! ## A received line block -/

/-- A unit with a sequence number (R280). -/
def isSequenced (u : RxUnit) : Bool := 1 ≤ u.kind && u.kind ≤ 5

theorem isSequenced_iff {u : RxUnit} : isSequenced u = true ↔ 1 ≤ u.kind ∧ u.kind ≤ 5 := by simp [isSequenced]

theorem isSequenced_eq_false_iff {u : RxUnit} : isSequenced u = false ↔ ¬ (1 ≤ u.kind ∧ u.kind ≤ 5) := by
  rw [← isSequenced_iff, Bool.not_eq_true]

/-- The receiver after a sequenced flit that it passes on, with an ACK after every 64th (R280). -/
def passedOn (t : State) (x : PortSt) : PortSt :=
  let y := { x with rxSeq := (x.rxSeq + 1) % 65536, discarding := false, nakAt := 0
                    sinceAck := if 64 ≤ x.sinceAck + 1 then 0 else x.sinceAck + 1 }
  if 64 ≤ x.sinceAck + 1 then { y with ctrl := y.ctrl ++ [ctlAck x.rxSeq], ackSentAt := t.cyc } else y

/-- What a port that is up gives to the layers above, once the block is counted. -/
def receivedUp (t : State) (p : Nat) (u : RxUnit) (good : Bool) : State × Option RxUnit :=
  let x := getPort t p
  if !good then
    if isSequenced u && !stillDiscards t x u.replay then
      (setPort t p { x with
        discarding := true, nakAt := if u.replay then t.cyc + 1 else 0, ctrl := x.ctrl ++ [ctlNak x.rxSeq] }, none)
    else (t, none)
  else if stillDiscards t x (u.replay && isSequenced u) then (t, none)
  else if !isSequenced u then (t, some u)
  else (setPort t p (passedOn t x), some u)

theorem stillDiscards_iff {t : State} {x : PortSt} {r : Bool} : stillDiscards t x r = true ↔
    x.discarding = true ∧ ¬ (r = true ∧ (x.nakAt = 0 ∨ x.nakAt - 1 + ceilDiv x.rtt 8 ≤ t.cyc)) := by
  cases r <;> simp [stillDiscards]

section Block
variable {s t : State} {p : Nat} {bytes b : List Byte} {good : Bool}

theorem refused_eq_false {st : PortState} (h : st = .up ∨ st = .training) :
    (decide (st = .down) || decide (st = .disabled) || decide (st = .ethernet) || decide (st = .lost)) = false := by
  rcases h with rfl | rfl <;> rfl

theorem rxBlock_up (h : takes s p bytes b good t .up) : rxBlock s p bytes = receivedUp t p (unitOf b) good := by
  obtain ⟨hst, rfl, rfl, rfl, hup⟩ := h
  simp only [rxBlock, refused_eq_false (.inl hst), Bool.false_eq_true, ↓reduceIte]
  rw [if_neg (by simp [hup]), if_neg (by simp [hup])]
  rfl

/-- In training a good flit without a sequence number is passed on once the port has lock. -/
theorem rxBlock_training (h : takes s p bytes b good t .training) :
    rxBlock s p bytes = (t, if good && (getPort t p).lock && !isSequenced (unitOf b) then some (unitOf b) else none) := by
  obtain ⟨hst, rfl, rfl, rfl, htr⟩ := h
  simp only [rxBlock, refused_eq_false (.inr hst), Bool.false_eq_true, ↓reduceIte]
  rw [if_pos htr]
  rfl

theorem rxBlock_refused (h : (getPort s p).state = .down ∨ (getPort s p).state = .disabled ∨ (getPort s p).state = .lost ∨
    (getPort s p).state = .ethernet) (bytes : List Byte) : rxBlock s p bytes = (s, none) := by
  rcases h with h | h | h | h <;> simp [rxBlock, h]

end Block

theorem exec_lineBlock_none {s t : State} {port : Port} {bytes : List Byte} (eighth : Nat) (h : rxBlock s port bytes = (t, none)) :
    exec (.lineBlock port bytes eighth) s = .next t := by
  change execLineBlock port bytes eighth s = _
  simp only [execLineBlock, h]

theorem exec_lineBlock_some {s t : State} {port : Port} {bytes : List Byte} {u : RxUnit} (eighth : Nat)
    (h : rxBlock s port bytes = (t, some u)) : exec (.lineBlock port bytes eighth) s = .next (passUnit port eighth u t) := by
  change execLineBlock port bytes eighth s = _
  simp only [execLineBlock, h]

section Received
variable {t : State} {p : Nat} {u : RxUnit}

/-- The first bad sequenced block asks for a replay. -/
theorem receivedUp_bad (hseq : isSequenced u = true) (hkeep : stillDiscards t (getPort t p) u.replay = false) :
    receivedUp t p u false = (setPort t p { getPort t p with
      discarding := true, nakAt := if u.replay then t.cyc + 1 else 0, ctrl := (getPort t p).ctrl ++ [ctlNak (getPort t p).rxSeq] },
      none) := by
  simp only [receivedUp, hseq, hkeep, Bool.not_false, Bool.and_self, ↓reduceIte]

theorem receivedUp_bad_again (h : isSequenced u = false ∨ stillDiscards t (getPort t p) u.replay = true) :
    receivedUp t p u false = (t, none) := by
  have hno : (isSequenced u && !stillDiscards t (getPort t p) u.replay) = false := by
    rcases h with h | h <;> simp [h]
  simp only [receivedUp, hno, Bool.not_false, Bool.false_eq_true, ↓reduceIte]

theorem stillDiscards_false (x : PortSt) : stillDiscards t x false = x.discarding := by simp [stillDiscards]

theorem receivedUp_unsequenced (hseq : isSequenced u = false) :
    receivedUp t p u true = if (getPort t p).discarding then (t, none) else (t, some u) := by
  simp only [receivedUp, hseq, Bool.and_false, stillDiscards_false, Bool.not_true, Bool.not_false, Bool.false_eq_true, ↓reduceIte]

theorem receivedUp_sequenced (hseq : isSequenced u = true) :
    receivedUp t p u true =
      if stillDiscards t (getPort t p) u.replay then (t, none) else (setPort t p (passedOn t (getPort t p)), some u) := by
  simp only [receivedUp, hseq, Bool.and_true, Bool.not_true, Bool.false_eq_true, ↓reduceIte]

end Received

theorem passedOn_few {t : State} {x : PortSt} (h : x.sinceAck + 1 < 64) : passedOn t x =
    { x with rxSeq := (x.rxSeq + 1) % 65536, discarding := false, nakAt := 0, sinceAck := x.sinceAck + 1 } := by
  simp only [passedOn, h.not_ge, ↓reduceIte]

theorem passedOn_64 {t : State} {x : PortSt} (h : 64 ≤ x.sinceAck + 1) : passedOn t x =
    { x with rxSeq := (x.rxSeq + 1) % 65536, discarding := false, nakAt := 0, sinceAck := 0
             ctrl := x.ctrl ++ [ctlAck x.rxSeq], ackSentAt := t.cyc } := by
  simp only [passedOn, h, ↓reduceIte]

theorem lineBlockCompletes : LineBlockCompletes := by
  intro port bytes b eighth s t good
  have hdrops := stillDiscards_iff (t := t) (x := getPort t port.val) (r := (unitOf b).replay)
  refine ⟨fun h => ⟨?_, ?_, ?_, ?_, ?_, ?_⟩, fun h => ⟨?_, ?_⟩, fun h => exec_lineBlock_none eighth (rxBlock_refused h bytes)⟩
  · rintro rfl hseq hno
    rw [← hdrops, Bool.not_eq_true] at hno
    exact exec_lineBlock_none eighth ((rxBlock_up h).trans (receivedUp_bad (isSequenced_iff.2 hseq) hno))
  · rintro rfl hor
    exact exec_lineBlock_none eighth ((rxBlock_up h).trans
      (receivedUp_bad_again (hor.imp isSequenced_eq_false_iff.2 hdrops.2)))
  · rintro rfl hseq hdisc
    refine exec_lineBlock_some eighth ((rxBlock_up h).trans ?_)
    rw [receivedUp_unsequenced (isSequenced_eq_false_iff.2 hseq), if_neg (by simpa using hdisc)]
  · rintro rfl hseq hdisc
    refine exec_lineBlock_none eighth ((rxBlock_up h).trans ?_)
    rw [receivedUp_unsequenced (isSequenced_eq_false_iff.2 hseq), if_pos hdisc]
  · rintro rfl hseq hyes
    refine exec_lineBlock_none eighth ((rxBlock_up h).trans ?_)
    rw [receivedUp_sequenced (isSequenced_iff.2 hseq), if_pos (hdrops.2 hyes)]
  · rintro rfl hseq hno
    have hrx : rxBlock s port bytes = (setPort t port (passedOn t (getPort t port)), some (unitOf b)) := by
      rw [rxBlock_up h, receivedUp_sequenced (isSequenced_iff.2 hseq), if_neg (hdrops.not.2 hno)]
    exact ⟨fun hfew => (exec_lineBlock_some eighth hrx).trans (by rw [passedOn_few hfew]),
      fun h64 => (exec_lineBlock_some eighth hrx).trans (by rw [passedOn_64 h64])⟩
  · rintro rfl hlock hseq
    refine exec_lineBlock_some eighth ((rxBlock_training h).trans ?_)
    rw [hlock, isSequenced_eq_false_iff.2 hseq]
    rfl
  · intro hno
    refine exec_lineBlock_none eighth ((rxBlock_training h).trans ?_)
    rw [if_neg]
    rcases hno with hno | hno | hno
    · simp [hno]
    · simp [hno]
    · simp [isSequenced_iff.2 hno]

/-! ## A block boundary -/

/-- The control flit that leaves at a block boundary: its first 8 words, stamped. -/
theorem sendCtlFlit_eq (s : State) (p : Nat) (x : PortSt) : sendCtlFlit s p x =
    sendLine (fresh s).2 p { x with ctrl := x.ctrl.drop 8 }
      ⟨6, false, 0, padTo 128 (wordBytes ((x.ctrl.take 8).map (stampCtl (fresh s).2 (leaveFrac (fresh s).1))))⟩ false := rfl

theorem sendLaceFlit_eq (s : State) (p : Nat) (x : PortSt) :
    let l := pickSyms 8 false (sortBy (fun a b => symRank (symType a) ≤ symRank (symType b)) x.lace)
    sendLaceFlit s p x = sendSeq (fresh s).2 p { x with lace := l.2 }
      ⟨3, false, leaveFrac (fresh s).1, padTo 128 (wordBytes (l.1.map (stampSync (fresh s).2)))⟩ := rfl

/-- Schedule data waits at a port that is awake. -/
def schedWaits (x : PortSt) : Bool := !x.asleep && x.sched != []

/-- Words of kind `k` wait, and it is not schedule data's turn. -/
def leads (x : PortSt) (l : List Word128) (k : Nat) : Bool := l != [] && !(schedWaits x && x.recent.contains k)

/-- Management and fabric flits leave by turn, else an idle one (09 R311). -/
def sentByTurn (s : State) (p : Nat) (x : PortSt) : State :=
  match (if x.mgmtCredit = 0 then none else x.mgmt.head?), pickFab x with
  | some m, none => sendSeq s p { x with mgmt := x.mgmt.drop 1, mgmtCredit := x.mgmtCredit - 1, turn := 8 } m
  | none, some f => sendSeq s p { x with fab := x.fab.erase f, fabCredit := x.fabCredit - 1, turn := x.turn - 1 } f
  | some m, some f =>
    if x.turn = 0 then sendSeq s p { x with mgmt := x.mgmt.drop 1, mgmtCredit := x.mgmtCredit - 1, turn := 8 } m
    else sendSeq s p { x with fab := x.fab.erase f, fabCredit := x.fabCredit - 1, turn := x.turn - 1 } f
  | none, none => sendLine s p x ⟨0, false, 0, []⟩ false

/-- What leaves behind lace and control flits. -/
def sentSched (s : State) (p : Nat) (x : PortSt) : State :=
  match schedWaits x, x.sched with
  | true, f :: r => sendSeq s p { x with sched := r } f
  | _, _ => sentByTurn s p x

/-- What leaves a port that is up and has nothing to send again. -/
def sentFirst (s : State) (p : Nat) (x : PortSt) : State :=
  if leads x x.lace 3 then sendLaceFlit s p x else if leads x x.ctrl 6 then sendCtlFlit s p x else sentSched s p x

section First
variable {s : State} {p : Nat} {x : PortSt}

theorem schedWaits_iff : schedWaits x = true ↔ x.asleep = false ∧ x.sched ≠ [] := by simp [schedWaits]

theorem leads_iff {l : List Word128} {k : Nat} :
    leads x l k = true ↔ l ≠ [] ∧ (¬ (x.asleep = false ∧ x.sched ≠ []) ∨ x.recent.contains k = false) := by
  rw [← schedWaits_iff, leads, Bool.and_eq_true, bne_iff_ne, Bool.not_eq_true', Bool.and_eq_false_iff, Bool.not_eq_true]

theorem not_leads {l : List Word128} {k : Nat} (h : l = [] ∨ (x.asleep = false ∧ x.sched ≠ []) ∧ x.recent.contains k = true) :
    ¬ leads x l k = true := by
  rw [leads_iff]
  rintro ⟨hne, hturn⟩
  rcases h with h | ⟨hwaits, hrecent⟩
  · exact hne h
  · rcases hturn with hno | hno
    · exact hno hwaits
    · rw [hrecent] at hno; contradiction

theorem sentFirst_lace (hlace : x.lace ≠ []) (hturn : ¬ (x.asleep = false ∧ x.sched ≠ []) ∨ x.recent.contains 3 = false) :
    sentFirst s p x = sendLaceFlit s p x := if_pos (leads_iff.2 ⟨hlace, hturn⟩)

theorem sentFirst_ctrl (hlace : x.lace = []) (hctrl : x.ctrl ≠ [])
    (hturn : ¬ (x.asleep = false ∧ x.sched ≠ []) ∨ x.recent.contains 6 = false) : sentFirst s p x = sendCtlFlit s p x := by
  rw [sentFirst, if_neg (not_leads (.inl hlace)), if_pos (leads_iff.2 ⟨hctrl, hturn⟩)]

theorem sentFirst_sched {f : Flit} {r : List Flit} (hawake : x.asleep = false) (hsched : x.sched = f :: r)
    (hlace : x.lace = [] ∨ x.recent.contains 3 = true) (hctrl : x.ctrl = [] ∨ x.recent.contains 6 = true) :
    sentFirst s p x = sendSeq s p { x with sched := r } f := by
  have hwaits : x.asleep = false ∧ x.sched ≠ [] := ⟨hawake, by simp [hsched]⟩
  rw [sentFirst, if_neg (not_leads (hlace.imp_right (And.intro hwaits))), if_neg (not_leads (hctrl.imp_right (And.intro hwaits)))]
  simp only [sentSched, schedWaits_iff.2 hwaits, hsched]

theorem sentFirst_nothingWaits (h : nothingWaits x) : sentFirst s p x = sentByTurn s p x := by
  obtain ⟨-, -, hlace, hctrl, hsched⟩ := h
  have hno : schedWaits x = false := by
    rw [← Bool.not_eq_true, schedWaits_iff]
    rintro ⟨hawake, hne⟩
    rcases hsched with h | h
    · rw [hawake] at h; contradiction
    · exact hne h
  rw [sentFirst, if_neg (not_leads (.inl hlace)), if_neg (not_leads (.inl hctrl))]
  simp only [sentSched, hno]

theorem sentByTurn_mgmt {m : Flit} {r : List Flit} (hm : x.mgmt = m :: r) (hcredit : x.mgmtCredit ≠ 0)
    (hturn : pickFab x = none ∨ x.turn = 0) :
    sentByTurn s p x = sendSeq s p { x with mgmt := r, mgmtCredit := x.mgmtCredit - 1, turn := 8 } m := by
  have hmg : (if x.mgmtCredit = 0 then none else x.mgmt.head?) = some m := by rw [if_neg hcredit, hm]; rfl
  have hdrop : x.mgmt.drop 1 = r := by rw [hm]; rfl
  cases hf : pickFab x with
  | none => simp only [sentByTurn, hmg, hf, hdrop]
  | some f =>
    have h0 : x.turn = 0 := hturn.resolve_left (by simp [hf])
    simp only [sentByTurn, hmg, hf, hdrop]
    rw [if_pos h0]

theorem sentByTurn_fab {f : Flit} (hf : pickFab x = some f) (hturn : x.mgmt = [] ∨ x.mgmtCredit = 0 ∨ x.turn ≠ 0) :
    sentByTurn s p x = sendSeq s p { x with fab := x.fab.erase f, fabCredit := x.fabCredit - 1, turn := x.turn - 1 } f := by
  cases hmg : (if x.mgmtCredit = 0 then none else x.mgmt.head?) with
  | none => simp only [sentByTurn, hmg, hf]
  | some m =>
    have h0 : x.turn ≠ 0 := by
      rcases hturn with h | h | h
      · simp [h] at hmg
      · simp [h] at hmg
      · exact h
    simp only [sentByTurn, hmg, hf]
    rw [if_neg h0]

theorem sentByTurn_idle (hm : x.mgmt = [] ∨ x.mgmtCredit = 0) (hf : pickFab x = none) :
    sentByTurn s p x = sendLine s p x ⟨0, false, 0, []⟩ false := by
  have hmg : (if x.mgmtCredit = 0 then none else x.mgmt.head?) = none := by
    rcases hm with h | h <;> simp [h]
  simp only [sentByTurn, hmg, hf]

end First

/-! In training (R283, R284). -/

section Training
variable {s : State} {p : Nat} {x : PortSt} (h : 3 ≤ x.trainStep)
include h

theorem trainBoundary_ctrl (hctrl : x.ctrl ≠ []) : trainBoundary s p x = sendCtlFlit s p x := by
  rw [trainBoundary, if_neg h.not_gt, if_pos (by simpa using hctrl)]

variable (hctrl : x.ctrl = [])
include hctrl

theorem trainBoundary_probe (h4 : x.trainStep = 4) (hout : x.probeOut = false) (hident : x.recent.contains 7 = true) :
    trainBoundary s p x = sendCtlFlit s p { x with probeOut := true, ctrl := [ctlProbe] } := by
  rw [trainBoundary, if_neg h.not_gt, if_neg (by simp [hctrl]), if_pos (by rw [h4, hout, hident]; rfl)]

theorem trainBoundary_ident (hno : x.trainStep ≠ 4 ∨ x.probeOut = true ∨ x.recent.contains 7 = false) :
    trainBoundary s p x = sendLine s p x ⟨7, false, 0, padTo 128 (wordBytes [ctlIdent s p])⟩ false := by
  have hstop : ¬ (decide (x.trainStep = 4) && !x.probeOut && x.recent.contains 7) = true := by
    simp only [Bool.and_eq_true, decide_eq_true_eq, Bool.not_eq_true']
    rintro ⟨⟨h4, hout⟩, hident⟩
    rcases hno with hno | hno | hno
    · exact hno h4
    · rw [hout] at hno; contradiction
    · rw [hident] at hno; contradiction
  rw [trainBoundary, if_neg h.not_gt, if_neg (by simp [hctrl]), if_neg hstop]

end Training

/-! Which of these a port's state calls for. -/

section Boundary
variable {s : State} {p : Nat} {x : PortSt} (hx : (getPort s p).slotsBegun s.cyc = x)
include hx

theorem blockBoundary_training (htr : x.state = .training) : blockBoundary s p = trainBoundary s p x := by
  rw [blockBoundary, hx]
  exact if_pos htr

theorem blockBoundary_lost (hlost : x.state = .lost) (hdown : s.now < x.downUntil) :
    blockBoundary s p = sendLine s p x ⟨6, false, 0, leBytes 16 (ctlDown x.cause).toNat⟩ false := by
  rw [blockBoundary, hx]
  exact (if_neg (by simp [hlost])).trans (if_pos (by simp [hlost, hdown]))

variable (hup : x.state = .up)
include hup

theorem blockBoundary_replay {k : Kept5} {r : List Kept5} (hq : x.replayQ = k :: r) :
    blockBoundary s p = sendLine (count s (0x5100 + p) 0x13 1) p { x with replayQ := r } k.flit true := by
  rw [blockBoundary, hx]
  refine (if_neg (by simp [hup])).trans ((if_neg (by simp [hup])).trans ((if_neg (by simp [hup])).trans ?_))
  simp only [hq, portObj]

theorem blockBoundary_first (hq : x.replayQ = []) : blockBoundary s p = sentFirst s p x := by
  rw [blockBoundary, hx]
  refine (if_neg (by simp [hup])).trans ((if_neg (by simp [hup])).trans ((if_neg (by simp [hup])).trans ?_))
  split
  case h_1 k r hkr => rw [hq] at hkr; contradiction
  case h_2 => rfl

end Boundary

theorem exec_blockBoundary {s t : State} {port : Port} (h : blockBoundary s port = t) : exec (.blockBoundary port) s = .next t :=
  congrArg Host.Outcome.next h

theorem blockBoundaryCompletes : BlockBoundaryCompletes := by
  intro port s
  refine ⟨fun htr => ?_, fun hlost hdown => exec_blockBoundary (blockBoundary_lost rfl hlost hdown),
    fun k r hup hq => exec_blockBoundary (blockBoundary_replay rfl hup hq), fun hup hq => ?_, fun hno => ?_⟩
  · have ht := blockBoundary_training rfl htr
    exact ⟨fun h => exec_blockBoundary (ht.trans (if_pos h)),
      fun h hctrl => exec_blockBoundary (ht.trans ((trainBoundary_ctrl h hctrl).trans (sendCtlFlit_eq ..))),
      fun h4 hctrl hout hident => exec_blockBoundary (ht.trans
        ((trainBoundary_probe (by omega) hctrl h4 hout hident).trans (sendCtlFlit_eq ..))),
      fun h hctrl hor => exec_blockBoundary (ht.trans (trainBoundary_ident h hctrl hor))⟩
  · have hf := blockBoundary_first rfl hup hq
    exact ⟨fun hlace hturn => exec_blockBoundary (hf.trans ((sentFirst_lace hlace hturn).trans (sendLaceFlit_eq ..))),
      fun hlace hctrl hturn => exec_blockBoundary (hf.trans
        ((sentFirst_ctrl hlace hctrl hturn).trans (sendCtlFlit_eq ..))),
      fun f r hawake hsched hlace hctrl => exec_blockBoundary (hf.trans (sentFirst_sched hawake hsched hlace hctrl))⟩
  · have ht := (blockBoundary_first rfl hno.1 hno.2.1).trans (sentFirst_nothingWaits hno)
    exact ⟨fun m r hm hcredit hturn => exec_blockBoundary (ht.trans (sentByTurn_mgmt hm hcredit hturn)),
      fun f hf hturn => exec_blockBoundary (ht.trans (sentByTurn_fab hf hturn)),
      fun hm hf => exec_blockBoundary (ht.trans (sentByTurn_idle hm hf))⟩

/-- Settles O38: what a received block gives, and what leaves at a block boundary. -/
theorem lineBlocksComplete : Obligations.LineBlocksComplete := ⟨lineBlockCompletes, blockBoundaryCompletes⟩

end Sys2Proof.Proofs
end

section
/-! Pull descriptors, responses and the rows of an Ethernet port (08 R292 to R302). -/
namespace Sys2Proof.Proofs
open Sys2Proof.Machine Sys2Proof.Claims

/-! ## Pull descriptors (R296 to R298, R300) -/

section Pull
variable {s : State}

theorem exec_pullDescriptor (hrun : cmdsRun s = true) (hnew : getO s 0x5090 6 ≠ s.rdma.tail) :
    exec .pullDescriptor s = .next (takePull s) := by
  have hgo : (cmdsRun s && getO s 0x5090 6 != s.rdma.tail) = true := by simpa [hrun] using hnew
  exact if_pos hgo

/-- The descriptor at the head of the pull ring. -/
def headPull (s : State) : Nat := leNat (peek s (getO s 0x5090 3 + 32 * (getO s 0x5090 6 % 2 ^ getO s 0x5090 4)) 32)

/-- The state once the ring's head has moved past it. -/
def pullTaken (s : State) : State := setO s 0x5090 6 ((getO s 0x5090 6 + 1) % 2 ^ 32)

theorem takePull_bad (hbad : pullBad (headPull s) = true) : takePull s = complete (pullTaken s) (headPull s) 0x85 0 := if_pos hbad

variable (hok : pullBad (headPull s) = false)
include hok

theorem takePull_notReady (hst : (getQp (pullTaken s) (field (headPull s) 0 6)).state ≠ 1) :
    takePull s = complete (pullTaken s) (headPull s) 0x80 0 :=
  (if_neg (by simpa [headPull] using hok)).trans (if_pos (by simpa [headPull, pullTaken] using hst))

theorem takePull_joins (hst : (getQp (pullTaken s) (field (headPull s) 0 6)).state = 1) :
    let x := getQp (pullTaken s) (field (headPull s) 0 6)
    takePull s = pumpAll (setQp (pullTaken s) (field (headPull s) 0 6) { x with pulls := x.pulls ++ [⟨headPull s, 0, 0, 0, 0⟩] }) :=
  (if_neg (by simpa [headPull] using hok)).trans (if_neg (by simpa [headPull, pullTaken] using hst))

end Pull

theorem pullDescriptorCompletes : PullDescriptorCompletes := by
  intro s hrun hnew
  have hexec := exec_pullDescriptor hrun hnew
  exact ⟨fun hbad => hexec.trans (congrArg _ (takePull_bad hbad)),
    fun hok hst => hexec.trans (congrArg _ (takePull_notReady hok hst)),
    fun hok hst => hexec.trans (congrArg _ (takePull_joins hok hst))⟩

/-! ## Responses (R293, R295, R297, R299) -/

section Response
variable {s v : State} {q op psn : Nat} {body l : List Byte} {d : Pull} {r : RdReq} {rest : List RdReq}

theorem readResp_inOrder (hl : (if op = 0x0e then body else body.drop 4) = l) (h : inOrder v q op psn l d r rest) :
    let u := deposit (taken v q l.length r rest) q d (r.offset + r.got) l
    readResp v q op psn body =
      pumpAll (if u.2 then finishPull u.1 q 0x84 else if dFabric d.desc then u.1 else arrived u.1 q l.length) := by
  obtain ⟨hhead, hreqs, hpsn, hop, hlen⟩ := h
  obtain ⟨ds, hpulls⟩ := List.head?_eq_some_iff.1 hhead
  have hgo : ¬ (psn != (getQp v q).recvPsn || op != respOpcode r (cMtu (getQp v q).ctx) ||
      l.length != min (cMtu (getQp v q).ctx) (r.bytes - r.got)) = true := by simp [hpsn, ← hop, hlen]
  simp only [readResp]
  split
  case h_1 d' ds' r' rest' hp hr =>
    rw [hpulls] at hp; rw [hreqs] at hr
    obtain ⟨rfl, rfl⟩ := List.cons.inj hp
    obtain ⟨rfl, rfl⟩ := List.cons.inj hr
    rw [hl, if_neg hgo, ← hlen]
    rfl
  case h_2 hno => exact absurd hreqs (hno _ _ _ _ hpulls)

theorem readResp_outOfOrder (hl : (if op = 0x0e then body else body.drop 4) = l) (h : ∀ d r rest, ¬ inOrder v q op psn l d r rest) :
    readResp v q op psn body = v := by
  simp only [readResp]
  split
  case h_1 d ds r rest hpulls hreqs =>
    refine if_pos ?_
    rw [hl]
    by_contra hgo
    simp only [Bool.or_eq_true, bne_iff_ne, ne_eq, not_or, not_not] at hgo
    obtain ⟨⟨hpsn, hop⟩, hlen⟩ := hgo
    exact h d r rest ⟨by rw [hpulls]; rfl, hreqs, hpsn, hop, hlen⟩
  case h_2 => rfl

end Response

section Frame
variable {s : State} {eth : Fin 4} {f : List Byte} {q op psn : Nat} {ce good : Bool} {body : List Byte}
  (hup : ethUp s eth = true) (hf : parseFrame s eth f = .packet q op psn ce good body)
include hup hf

theorem exec_readResponse_bad (hop : op ≠ 0x11) (hbad : good = false) : exec (.readResponse eth f) s = .next (count s 0x5091 3 1) := by
  change execReadResponse eth f s = _
  simp only [execReadResponse, hup, hf, hop, hbad, Bool.not_true, Bool.not_false, Bool.false_eq_true, ↓reduceIte]

theorem exec_readResponse_good (hop : op ≠ 0x11) (hgood : good = true) :
    exec (.readResponse eth f) s = .next (readResp (if ce then sendCnp s q else s) q op psn body) := by
  change execReadResponse eth f s = _
  simp only [execReadResponse, hup, hf, hop, hgood, Bool.not_true, Bool.false_eq_true, ↓reduceIte]

theorem exec_acknowledge_bad (hop : op = 0x11) (hbad : good = false) : exec (.acknowledge eth f) s = .next (count s 0x5091 3 1) := by
  change execAcknowledge eth f s = _
  simp only [execAcknowledge, hup, hf, hop, hbad, bne_self_eq_false, Bool.not_true, Bool.not_false, Bool.false_eq_true, ↓reduceIte]

theorem exec_acknowledge_good (hop : op = 0x11) (hgood : good = true) :
    exec (.acknowledge eth f) s = .next (syndrome (if ce then sendCnp s q else s) q (beAt body 0 1 % 128)) := by
  change execAcknowledge eth f s = _
  simp only [execAcknowledge, hup, hf, hop, hgood, bne_self_eq_false, Bool.not_true, Bool.false_eq_true, ↓reduceIte]

end Frame

/-- Every NAK but that of a PSN sequence error is an error of the queue pair; the status of its descriptor in service is log entry 28's. -/
theorem syndrome_cases (s : State) (q k : Nat) :
    (k = 0x60 → syndrome s q k = resend s q) ∧ (k = 0x62 → syndrome s q k = qpError s q 0x81) ∧
    (k / 32 = 1 ∨ (k / 32 = 3 ∧ k ≠ 0x60 ∧ k ≠ 0x62) → syndrome s q k = qpError s q 0x82) ∧
    (k / 32 = 0 ∨ k / 32 = 2 → syndrome s q k = s) := by
  refine ⟨?_, ?_, fun h => ?_, fun h => ?_⟩
  · rintro rfl; rfl
  · rintro rfl; rfl
  · rw [syndrome, if_neg (by omega), if_neg (by omega), if_pos (by simp; omega)]
  · rw [syndrome, if_neg (by omega), if_neg (by omega), if_neg (by simp; omega)]

theorem responsesComplete : ResponsesComplete := by
  intro eth f s q op psn ce good body hup hf
  refine ⟨fun hbad hop => exec_readResponse_bad hup hf hop hbad, fun hbad hop => exec_acknowledge_bad hup hf hop hbad,
    fun hgood hop d r rest h => ?_, fun hgood hop h => ?_, fun hgood hop => ?_⟩
  · have hexec := (exec_readResponse_good hup hf hop hgood).trans (congrArg _ (readResp_inOrder rfl h))
    refine ⟨fun hbad => ?_, fun hok hfab => ?_, fun hok hfab => ?_⟩
    · rw [hexec, if_pos hbad]
    · rw [hexec, if_neg (by simpa using hok), if_pos hfab]
    · rw [hexec, if_neg (by simpa using hok), if_neg (by simpa using hfab)]
  · rw [exec_readResponse_good hup hf hop hgood, readResp_outOfOrder rfl h]
  · obtain ⟨h60, h62, hnak, hack⟩ := syndrome_cases (if ce then sendCnp s q else s) q (beAt body 0 1 % 128)
    have hexec := exec_acknowledge_good hup hf hop hgood
    exact ⟨fun h => hexec.trans (congrArg _ (h60 h)), fun h => hexec.trans (congrArg _ (h62 h)),
      fun h => hexec.trans (congrArg _ (hnak h)), fun h => hexec.trans (congrArg _ (hack h))⟩

/-! ## The rows of an Ethernet port (R292, R293, R299, R302) -/

section Ethernet
variable {s : State}

theorem exec_qpResponseTimeout {qp : Fin 64} {r : RdReq} {rest : List RdReq} (hst : (getQp s qp).state = 1)
    (hreqs : (getQp s qp).reqs = r :: rest) (hdue : r.sentAt + cTimeout (getQp s qp).ctx * usec ≤ s.now) :
    exec (.qpResponseTimeout qp) s = .next (resend s qp) := by
  change execQpResponseTimeout qp s = _
  simp only [execQpResponseTimeout, hst, hreqs, hdue, ↓reduceIte]

section Pause
variable {eth : Fin 4} {f : List Byte} {en : Nat} {times : List Nat} (hup : ethUp s eth = true)
include hup

theorem exec_pfcFrame_pauses (hf : parseFrame s eth f = .pfc en times) (hk : ethPfc s eth < 8) (hen : fbit en (ethPfc s eth) = true) :
    exec (.pfcFrame eth f) s = .next (pumpAll (modPort s (60 + eth)
      (fun x => { x with pfcUntil := s.now + ceilDiv (times.getD (ethPfc s eth) 0 * 32256) 100 }))) := by
  change execPfcFrame eth f s = _
  simp only [execPfcFrame, hup, hf, hk, hen, decide_true, Bool.and_self, Bool.not_true, Bool.false_eq_true, ↓reduceIte]

theorem exec_pfcFrame_other (hf : parseFrame s eth f = .pfc en times) (hno : 8 ≤ ethPfc s eth ∨ fbit en (ethPfc s eth) = false) :
    exec (.pfcFrame eth f) s = .next s := by
  have hstop : (decide (ethPfc s eth < 8) && fbit en (ethPfc s eth)) = false := by
    rw [Bool.and_eq_false_iff, decide_eq_false_iff_not, Nat.not_lt]
    exact hno
  change execPfcFrame eth f s = _
  simp only [execPfcFrame, hup, hf, hstop, Bool.not_true, Bool.false_eq_true, ↓reduceIte]

theorem exec_frameDropped (hf : parseFrame s eth f = .dropped) : exec (.frameDropped eth f) s = .next (count s 0x5091 6 1) := by
  change execFrameDropped eth f s = _
  simp only [execFrameDropped, hup, hf, decide_true, Bool.and_self, ↓reduceIte]

end Pause

theorem exec_ethernetLinkChange {eth : Fin 4} {up : Bool} (hst : (getPort s (60 + eth)).state = .ethernet)
    (hlock : (getPort s (60 + eth)).lock ≠ up) : exec (.ethernetLinkChange eth up) s =
      .next (pumpAll (raise (setPort s (60 + eth) { getPort s (60 + eth) with lock := up }) 0x5010
        (f8 (60 + eth) ++ f8 (if up then 1 else 0)))) := by
  have hgo : (decide ((getPort s (60 + eth)).state = .ethernet) && (getPort s (60 + eth)).lock != up) = true := by
    simpa [hst] using hlock
  exact if_pos hgo

end Ethernet

theorem ethernetRowsComplete : EthernetRowsComplete := fun _ =>
  ⟨fun _ _ _ => exec_qpResponseTimeout,
    fun _ _ hup => ⟨fun _ _ hf => ⟨exec_pfcFrame_pauses hup hf, exec_pfcFrame_other hup hf⟩, exec_frameDropped hup⟩,
    fun _ _ => exec_ethernetLinkChange⟩

/-- Settles O40: the descriptor at the head of the pull ring, the responses, and the rows of an Ethernet port. -/
theorem pullsAndEthernetComplete : Obligations.PullsAndEthernetComplete :=
  ⟨pullDescriptorCompletes, responsesComplete, ethernetRowsComplete⟩

end Sys2Proof.Proofs
end

section
/-! Combining of fabric requests and the fan-out of a group's response (09 R318 to R320). -/
namespace Sys2Proof.Proofs
open Sys2Proof.Machine Sys2Proof.Claims

/-! ## A combined group against its members in sequence (R319) -/

/-- Keeping the first of the least values is associative. -/
theorem keepLess_assoc (f : Nat → Int) (x a b : Nat) :
    (if f (if f b < f a then b else a) < f x then (if f b < f a then b else a) else x) =
      if f b < f (if f a < f x then a else x) then b else (if f a < f x then a else x) := by
  split_ifs <;> omega

/-- Each atomic that combines is associative, so that a merged operand does the work of both. -/
theorem atomic_assoc {op : Nat} (w x a b : Nat) (hlo : 0x10 ≤ op) (hhi : op ≤ 0x16) :
    atomic op w x (atomic op w a b) = atomic op w (atomic op w x a) b := by
  interval_cases op
  · simp only [atomic, Nat.add_mod_mod, Nat.mod_add_mod, Nat.add_assoc]
  · exact (Nat.or_assoc x a b).symm
  · exact (Nat.and_assoc x a b).symm
  · exact keepLess_assoc (signed w) x a b
  · have hneg := keepLess_assoc (fun v => -signed w v) x a b
    simp only [neg_lt_neg_iff] at hneg
    exact hneg
  · exact (Nat.min_assoc x a b).symm
  · exact (Nat.max_assoc x a b).symm

/-- Merging one more operand is one more atomic after the others. -/
theorem atomic_foldl_mergeOp {op : Nat} (w x : Nat) (hlo : 0x10 ≤ op) (hhi : op ≤ 0x16) (a : Nat) (as : List Nat) :
    atomic op w x (as.foldl (mergeOp op w) a) = (a :: as).foldl (atomic op w) x := by
  induction as generalizing a with
  | nil => rfl
  | cons b bs ih =>
    calc atomic op w x (bs.foldl (mergeOp op w) (atomic op w a b))
        = bs.foldl (atomic op w) (atomic op w x (atomic op w a b)) := ih _
      _ = bs.foldl (atomic op w) (atomic op w (atomic op w x a) b) := by rw [atomic_assoc w x a b hlo hhi]

/-- Settles O15: one atomic with the merged operand is the members' atomics in their order. -/
theorem combiningIsSequential : Obligations.CombiningIsSequential := fun _ w x a as hlo hhi _ _ _ _ =>
  atomic_foldl_mergeOp w x hlo hhi a as

/-! ## The responses of a group (R320) -/

/-- What member `m` gets from the group's response `r` where the members before it leave `x`. -/
def memberResp (w : Nat) (r : Pkt) (x : Nat) (m : Pkt) : Pkt :=
  if pOp m = 1 then mkResp m 0x80 (pFlags r) (pData r 64)
  else mkResp m 0x82 (pFlags r) (if pFlags r = 0 then leBytes (w / 8) x else [])

/-- The value that the requests of a list leave, one after the other. -/
def leftBy (w x : Nat) (ms : List Pkt) : Nat := ms.foldl (fun x k => atomic (pOp k) w x (pA k)) x

/-- The responses of the members in order. -/
def memberResps (w : Nat) (r : Pkt) : Nat → List Pkt → List Pkt
  | _, [] => []
  | x, m :: ms => memberResp w r x m :: memberResps w r (atomic (pOp m) w x (pA m)) ms

theorem memberResps_length (w : Nat) (r : Pkt) : ∀ (x : Nat) (ms : List Pkt), (memberResps w r x ms).length = ms.length
  | _, [] => rfl
  | x, m :: ms => congrArg (· + 1) (memberResps_length w r (atomic (pOp m) w x (pA m)) ms)

theorem memberResps_get {w : Nat} {r m : Pkt} : ∀ {ms : List Pkt} {i x : Nat}, ms[i]? = some m →
    (memberResps w r x ms)[i]? = some (memberResp w r (leftBy w x (ms.take i)) m)
  | k :: ms, 0, x, hm => by
    obtain rfl : k = m := Option.some.inj hm
    rfl
  | k :: ms, i + 1, x, hm => memberResps_get (ms := ms) (i := i) (x := atomic (pOp k) w x (pA k)) hm

theorem foldl_fanOut (w : Nat) (r : Pkt) (ms l : List Pkt) (x : Nat) :
    (ms.foldl (fun (a : Nat × List Pkt) m =>
      if pOp m = 1 then (a.1, a.2 ++ [mkResp m 0x80 (pFlags r) (pData r 64)])
      else (atomic (pOp m) w a.1 (pA m),
        a.2 ++ [mkResp m 0x82 (pFlags r) (if pFlags r = 0 then leBytes (w / 8) a.1 else [])])) (x, l)).2 =
      l ++ memberResps w r x ms := by
  induction ms generalizing x l with
  | nil => exact (List.append_nil l).symm
  | cons m ms ih =>
    rw [List.foldl_cons, memberResps, memberResp]
    by_cases hread : pOp m = 1
    · have hsame : atomic 1 w x (pA m) = x := rfl
      simp only [hsame, hread, ↓reduceIte, ih, List.append_assoc, List.singleton_append]
    · simp only [hread, ↓reduceIte, ih, List.append_assoc, List.singleton_append]

theorem fanOut_eq (g : Group) (r : Pkt) :
    fanOut g r = memberResps (pWidth g.lead) r (fieldB r 32 (pWidth g.lead / 8)) g.members :=
  (foldl_fanOut _ _ _ [] _).trans (List.nil_append _)

/-- Settles O16: the responses of a group's members in their order. -/
theorem fanOutOfAGroup : Obligations.FanOutOfAGroup := by
  intro g r i m hm
  have hmem : m ∈ g.members := List.mem_of_getElem? hm
  rw [fanOut_eq]
  exact ⟨memberResps_length .., fun hread => (memberResps_get hm).trans (congrArg some (if_pos (hread m hmem))),
    fun hatom => (memberResps_get hm).trans (congrArg some (if_neg (hatom m hmem)))⟩

end Sys2Proof.Proofs
end

section
/-! A request at its ordering point: READ, WRITE, the atomics and the leases (09 R312 to R317, R327 to R329). -/
namespace Sys2Proof.Proofs
open Sys2Proof.Machine Sys2Proof.Claims

/-! ## Requests that reach their ordering point -/

section Reaches
variable {s t : State} {src : FabIn} {p : Pkt} {op : Nat}

theorem turnedAway_of_reaches (h : reaches s src p t) : turnedAway t (portOf s src p) p = none := by
  obtain ⟨-, -, -, -, -, halarm, hfence, hwelts⟩ := h
  have hopen : ((t.dev.mode == .alarm && pSrc p != pnode t) || (t.lace.fenced && pLogical p)) = false := by
    simpa [Bool.or_eq_false_iff, Bool.and_eq_false_imp] using And.intro halarm hfence
  simp only [turnedAway, hopen, hwelts, Bool.false_eq_true, ↓reduceIte]

theorem request_of_reaches (h : reaches s src p t) (hop : pOp p = op) : request op src p s = serve t p := by
  have haway := turnedAway_of_reaches h
  obtain ⟨hdst, htake, hhops, hclock, hline, -, -, -⟩ := h
  have hours : (pOp p != op || pDst p != pnode s) = false := by simp [hop, hdst]
  cases src with
  | inside => simp only [request, hours, htake, hhops, hclock, haway, Bool.false_eq_true, ↓reduceIte]
  | link q =>
    change turnedAway t (some q.val) p = none at haway
    simp only [request, hours, htake, hhops, hclock, hline q rfl, haway, Bool.or_self, Bool.false_eq_true, ↓reduceIte]

theorem serve_alone (h : mates t p = []) : serve t p = sendResp (perform t p).1 (perform t p).2 := by
  simp only [serve, h]

theorem request_of_performs (h : performs s src p t) (hop : pOp p = op) :
    request op src p s = sendResp (perform t p).1 (perform t p).2 :=
  (request_of_reaches h.1 hop).trans (serve_alone h.2)

end Reaches

/-! ## READ and WRITE (R312 to R316) -/

/-- An address of memory, not of an MMIO block and not of the mirror. -/
def toMemory (p : Pkt) : Bool :=
  match classify (pOff p) with
  | .mmio _ => false
  | .unmapped => !(mmioAt (pOff p) && mirrorOff (pOff p / 64 * 64 - 0x00f000000000))
  | _ => true

section ReadWrite
variable {t : State} {p : Pkt}

/-- The test by which `perform` sends a READ or WRITE to an MMIO block. -/
def toBlock (p : Pkt) : Bool :=
  match classify (pOff p) with
  | .mmio _ => true
  | .unmapped => mmioAt (pOff p) && mirrorOff (pOff p / 64 * 64 - 0x00f000000000)
  | _ => false

theorem toBlock_eq (p : Pkt) : toBlock p = !toMemory p := by
  unfold toBlock toMemory
  cases classify (pOff p) with
  | unmapped => exact (Bool.not_not _).symm
  | _ => rfl

theorem perform_read (hop : pOp p = 1) : perform t p = if toBlock p then mmioOp t p else readOp t p := by
  simp only [perform, hop]
  rfl

theorem perform_write (hop : pOp p = 2) : perform t p = if toBlock p then mmioOp t p else writeOp t p := by
  simp only [perform, hop]
  rfl

theorem readOp_admitted (h : (readAt t (pktWho t p) (lineOf (pOff p)) 64).2.2.2 = none) :
    readOp t p = ((readAt t (pktWho t p) (lineOf (pOff p)) 64).1, mkResp p 0x80 0 (readAt t (pktWho t p) (lineOf (pOff p)) 64).2.1) := by
  unfold readOp
  split
  case h_1 heq => rw [heq] at h; cases h
  case h_2 heq => rw [heq]

theorem readOp_refused (h : (readAt t (pktWho t p) (lineOf (pOff p)) 64).2.2.2 ≠ none) :
    readOp t p = ((readAt t (pktWho t p) (lineOf (pOff p)) 64).1, failResp p 1) := by
  unfold readOp
  split
  case h_1 heq => rw [heq]
  case h_2 heq => rw [heq] at h; exact absurd rfl h

/-- A write leaves no trace of the requester's C-die, the one thing of it that depends on the state. -/
theorem piecePut_requester (s u v : State) (p : Pkt) (a : Nat) (l : List Byte) :
    piecePut s (pktWho u p) a l = piecePut s (pktWho v p) a l := by
  have place (x : State) (b : Nat) : placePut x (pktWho u p) b l = placePut x (pktWho v p) b l := by simp [placePut, pktWho]
  simp only [piecePut, place]

theorem putPieces_requester (u v : State) (p : Pkt) : ∀ (ps : List (Nat × Nat)) (l : List Byte) (s : State),
    putPieces (pktWho u p) ps l s = putPieces (pktWho v p) ps l s
  | [], _, _ => rfl
  | (a, n) :: ps, l, s => by
    rw [putPieces, putPieces, piecePut_requester s u v, putPieces_requester u v p ps]

theorem putAt_requester (s u v : State) (p : Pkt) (a : Nat) (l : List Byte) : putAt s (pktWho u p) a l = putAt s (pktWho v p) a l :=
  putPieces_requester u v p _ l s

theorem writeOp_admitted (h : refusalRange t (pktWho t p) (lineOf (pOff p)) 64 true = none) :
    writeOp t p = ((runs p).foldl (fun s w => putAt s (pktWho t p) (lineOf (pOff p) + w.1) w.2) t, mkResp p 0x81 0 []) := by
  simp only [writeOp, h, putAt_requester _ _ t]

theorem writeOp_refused {x r : Nat} (h : refusalRange t (pktWho t p) (lineOf (pOff p)) 64 true = some (x, r)) :
    writeOp t p = (refuse t (pktWho t p) x r, failResp p 1) := by
  simp only [writeOp, h]

end ReadWrite

theorem fabricReadWriteComplete : FabricReadWriteComplete := by
  intro src p s t h
  refine ⟨fun hop => ?read, fun hop => ?write⟩
  case read =>
    have hexec : exec (.fabricRead src p) s = _ := congrArg Host.Outcome.next (request_of_performs h hop)
    rw [perform_read hop, toBlock_eq] at hexec
    exact ⟨fun (hmem : toMemory p = true) hok => by rw [hexec, hmem, Bool.not_true, if_neg Bool.false_ne_true, readOp_admitted hok],
      fun (hmem : toMemory p = true) hbad => by rw [hexec, hmem, Bool.not_true, if_neg Bool.false_ne_true, readOp_refused hbad],
      fun (hmmio : toMemory p = false) => by rw [hexec, hmmio, Bool.not_false, if_pos rfl]⟩
  case write =>
    have hexec : exec (.fabricWrite src p) s = _ := congrArg Host.Outcome.next (request_of_performs h hop)
    rw [perform_write hop, toBlock_eq] at hexec
    exact ⟨fun (hmem : toMemory p = true) hok => by rw [hexec, hmem, Bool.not_true, if_neg Bool.false_ne_true, writeOp_admitted hok],
      fun (hmem : toMemory p = true) x r hbad => by rw [hexec, hmem, Bool.not_true, if_neg Bool.false_ne_true, writeOp_refused hbad],
      fun (hmmio : toMemory p = false) => by rw [hexec, hmmio, Bool.not_false, if_pos rfl]⟩

/-! ## The atomics (R312) -/

section Operand
variable {t : State} {p : Pkt} {n st v : Nat} {f : Nat → Option Nat × Nat}

theorem operandOp_writes (hok : operandOk t p n) (hf : f (leNat (getAt t (pktWho t p) (pOff p) n).2.1) = (some v, st)) :
    operandOp t p n f = (putAt (getAt t (pktWho t p) (pOff p) n).1 (pktWho t p) (pOff p) (leBytes n v),
      mkResp p 0x82 st (getAt t (pktWho t p) (pOff p) n).2.1) := by
  obtain ⟨hplace, halign, hopen⟩ := hok
  simp only [operandOp, hplace, halign, hopen, hf, Bool.not_true, bne_self_eq_false, Bool.or_self, Bool.false_eq_true, ↓reduceIte]

theorem operandOp_keeps (hok : operandOk t p n) (hf : f (leNat (getAt t (pktWho t p) (pOff p) n).2.1) = (none, st)) :
    operandOp t p n f = ((getAt t (pktWho t p) (pOff p) n).1, mkResp p 0x82 st (getAt t (pktWho t p) (pOff p) n).2.1) := by
  obtain ⟨hplace, halign, hopen⟩ := hok
  simp only [operandOp, hplace, halign, hopen, hf, Bool.not_true, bne_self_eq_false, Bool.or_self, Bool.false_eq_true, ↓reduceIte]

end Operand

section Atomics
variable {s t : State} {src : FabIn} {p : Pkt}

theorem perform_atomic (hlo : 0x10 ≤ pOp p) (hhi : pOp p ≤ 0x17) : perform t p = atomicOp t p := by
  interval_cases hop : pOp p <;> simp only [perform, hop]

theorem perform_cas (hop : pOp p = 0x18) : perform t p = casOp t p := by simp only [perform, hop]

variable (h : performs s src p t) (hok : operandOk t p (pWidth p / 8))
include h hok

/-- ADD to SWAP: the row of `op` writes the result of its operation and returns the old value. -/
theorem request_atomic {op : Nat} (hlo : 0x10 ≤ op) (hhi : op ≤ 0x17) (hop : pOp p = op) :
    .next (request op src p s) = swapped t p (pWidth p / 8) (fun x => atomic op (pWidth p) x (pA p)) := by
  have hdone : atomicOp t p = _ := operandOp_writes hok rfl
  rw [request_of_performs h hop, perform_atomic (hop ▸ hlo) (hop ▸ hhi), hdone, hop]
  rfl

theorem request_cas_equal (hop : pOp p = 0x18) (heq : leNat (getAt t (pktWho t p) (pOff p) (pWidth p / 8)).2.1 = pC p) :
    .next (request 0x18 src p s) = swapped t p (pWidth p / 8) (fun _ => pA p) := by
  rw [request_of_performs h hop, perform_cas hop, casOp, operandOp_writes hok (by rw [if_pos heq])]
  rfl

theorem request_cas_unequal (hop : pOp p = 0x18) (hne : leNat (getAt t (pktWho t p) (pOff p) (pWidth p / 8)).2.1 ≠ pC p) :
    request 0x18 src p s = sendResp (getAt t (pktWho t p) (pOff p) (pWidth p / 8)).1
      (mkResp p 0x82 0 (getAt t (pktWho t p) (pOff p) (pWidth p / 8)).2.1) := by
  rw [request_of_performs h hop, perform_cas hop, casOp, operandOp_keeps hok (by rw [if_neg hne])]

end Atomics

theorem fabricAtomicsComplete : FabricAtomicsComplete := by
  intro src p s t h w n a out hok
  have row {op : Nat} (hlo : 0x10 ≤ op) (hhi : op ≤ 0x17) := request_atomic h hok hlo hhi
  exact ⟨row (by decide) (by decide), row (by decide) (by decide), row (by decide) (by decide), row (by decide) (by decide),
    row (by decide) (by decide), row (by decide) (by decide), row (by decide) (by decide), row (by decide) (by decide),
    fun hop => ⟨request_cas_equal h hok hop, fun hne => congrArg _ (request_cas_unequal h hok hop hne)⟩⟩

/-- Settles O41: READ, WRITE and the atomics of a request that is performed alone. -/
theorem fabricRequestsComplete : Obligations.FabricRequestsComplete := ⟨fabricReadWriteComplete, fabricAtomicsComplete⟩

/-! ## Leases (R327 to R329) -/

@[simp] theorem pFlags_mkResp (p : Pkt) (op st : Nat) (l : List Byte) : pFlags (mkResp p op st l) = st % 256 := by
  simp [mkResp, padTo, f8, leBytes, pFlags, fieldB, Machine.sub, leNat]

/-- The counter that a lease request of a STATUS raises: refusals, and locks taken. -/
def leaseCounter (op st : Nat) : Option Nat :=
  if st = 5 ∨ st = 6 then some 0x0b else if st = 0 ∧ op = 0x20 then some 0x0a else none

section Lease
variable {s t : State} {src : FabIn} {p : Pkt} {st : Nat}

theorem perform_lease (hlo : 0x20 ≤ pOp p) (hhi : pOp p ≤ 0x22) : perform t p = leaseOp t p := by
  have hop : pOp p = 0x20 ∨ pOp p = 0x21 ∨ pOp p = 0x22 := by omega
  rcases hop with hop | hop | hop <;> simp only [perform, hop]

theorem leaseOp_badLength (hop : pOp p ≠ 0x22) (hlen : ¬ (pLease p ≠ 0 ∧ pLease p ≤ getO t 0x4040 5)) :
    leaseOp t p = (t, mkResp p 0x82 7 []) := by
  refine if_pos ?_
  simp only [bne_iff_ne, ne_eq, hop, not_false_eq_true, Bool.and_eq_true, Bool.or_eq_true, decide_eq_true_eq, true_and]
  omega

theorem leaseOp_operand (hlen : pOp p ≠ 0x22 → pLease p ≠ 0 ∧ pLease p ≤ getO t 0x4040 5) {u : State} {l : List Byte}
    (hy : operandOp t p 8 (leaseRule p t.lace.tick) = (u, mkResp p 0x82 st l)) (hst : st < 256) :
    leaseOp t p = ((match leaseCounter (pOp p) st with | some c => count u 0x4050 c 1 | none => u), mkResp p 0x82 st l) := by
  have hgo : (pOp p != 0x22 && (pLease p = 0 || getO t 0x4040 5 < pLease p)) = false := by
    by_contra hbad
    simp only [Bool.not_eq_false, Bool.and_eq_true, bne_iff_ne, ne_eq, Bool.or_eq_true, decide_eq_true_eq] at hbad
    obtain ⟨hop, hbad⟩ := hbad
    have := hlen hop
    omega
  simp only [leaseOp, hgo, hy, pFlags_mkResp, Nat.mod_eq_of_lt hst, Bool.false_eq_true, ↓reduceIte, leaseCounter, Bool.or_eq_true,
    Bool.and_eq_true, decide_eq_true_eq]
  split_ifs <;> rfl

/-- What a lease request with a right length answers, from the new lock word and the STATUS that the rule gives. -/
theorem leaseOp_answer {new : Option Nat} (hlen : pOp p ≠ 0x22 → pLease p ≠ 0 ∧ pLease p ≤ getO t 0x4040 5) (hok : operandOk t p 8)
    (hrule : leaseRule p t.lace.tick (lockAt t p) = (new, st)) (hst : st < 256) :
    sendResp (leaseOp t p).1 (leaseOp t p).2 = leaseAnswer t p new st (leaseCounter (pOp p) st) := by
  cases new with
  | none => rw [leaseOp_operand hlen (operandOp_keeps hok hrule) hst]; rfl
  | some v => rw [leaseOp_operand hlen (operandOp_writes hok hrule) hst]; rfl

variable {n w : Nat}

theorem leaseRule_acq (hop : pOp p = 0x20) : leaseRule p n w =
    if leaseLive w n then (none, 5) else (some (lockWordOf (pReq p) (pInc p) (n + pLease p)), 0) := by
  simp only [leaseRule, hop]

theorem leaseRule_renew (hop : pOp p = 0x21) : leaseRule p n w =
    if leaseLive w n && leaseOwner p w then (some (lockWordOf (lkOwner w) (lkInc w) (n + pLease p)), 0) else (none, 6) := by
  simp only [leaseRule, hop]

theorem leaseRule_rel (hop : pOp p = 0x22) : leaseRule p n w = if lkHeld w && leaseOwner p w then (some 0, 0) else (none, 6) := by
  simp only [leaseRule, hop]

/-- The owner's incarnation counts too (R328). -/
theorem leaseOwner_iff : leaseOwner p w = true ↔ lkOwner w = pReq p % 2 ^ 23 ∧ lkInc w = pInc p := by
  simp only [leaseOwner, Bool.and_eq_true, beq_iff_eq]

end Lease

/-- Settles O14: the leases of a request that is performed alone. -/
theorem leasesComplete : Obligations.LeasesComplete := by
  intro src p s t h now w mine len word
  have bad {op : Nat} (hop : pOp p = op) (hlo : 0x20 ≤ op) (hhi : op < 0x22) (hlen : ¬ len) :
      Host.Outcome.next (request op src p s) = (.next (sendResp t (mkResp p 0x82 7 [])) : Out) := by
    rw [request_of_performs h hop, perform_lease (by omega) (by omega), leaseOp_badLength (by omega) hlen]
  have row {op : Nat} {new : Option Nat} {st : Nat} (hok : operandOk t p 8) (hop : pOp p = op) (hlo : 0x20 ≤ op) (hhi : op ≤ 0x22)
      (hlen : op ≠ 0x22 → len) (hrule : leaseRule p now w = (new, st)) (hst : st < 256) :
      Host.Outcome.next (request op src p s) = (.next (leaseAnswer t p new st (leaseCounter op st)) : Out) := by
    rw [request_of_performs h hop, perform_lease (by omega) (by omega), leaseOp_answer (hop ▸ hlen) hok hrule hst, hop]
  have notMine {b : Bool} (hno : b = false ∨ ¬ mine) : ¬ (b && leaseOwner p w) = true := by
    rw [Bool.and_eq_true, leaseOwner_iff]
    rintro ⟨rfl, hmine⟩
    exact hno.elim (by decide) (· hmine)
  have isMine {b : Bool} (hb : b = true) (hmine : mine) : (b && leaseOwner p w) = true := by
    rw [hb, leaseOwner_iff.2 hmine]; rfl
  refine ⟨fun hlen => ⟨fun hop => bad hop (by decide) (by decide) hlen, fun hop => bad hop (by decide) (by decide) hlen⟩, fun hok =>
    ⟨fun hop hlen => ?acq, fun hop hlen => ?renew, fun hop => ?rel⟩⟩
  case acq =>
    have answers {new : Option Nat} {st : Nat} := row (new := new) (st := st) hok hop (by decide) (by decide) (fun _ => hlen)
    exact ⟨fun hlive => answers ((leaseRule_acq hop).trans (if_pos hlive)) (by decide),
      fun hfree => answers ((leaseRule_acq hop).trans (if_neg (ne_true_of_eq_false hfree))) (by decide)⟩
  case renew =>
    have answers {new : Option Nat} {st : Nat} := row (new := new) (st := st) hok hop (by decide) (by decide) (fun _ => hlen)
    exact ⟨fun hlive hmine => answers ((leaseRule_renew hop).trans (if_pos (isMine hlive hmine))) (by decide),
      fun hno => answers ((leaseRule_renew hop).trans (if_neg (notMine hno))) (by decide)⟩
  case rel =>
    have answers {new : Option Nat} {st : Nat} := row (new := new) (st := st) hok hop (by decide) (by decide) (absurd rfl ·)
    exact ⟨fun hheld hmine => answers ((leaseRule_rel hop).trans (if_pos (isMine hheld hmine))) (by decide),
      fun hno => answers ((leaseRule_rel hop).trans (if_neg (notMine hno))) (by decide)⟩

end Sys2Proof.Proofs
end

section
/-! Responses, forwarded packets, groups at their ordering point, timeouts and changes of route (09 R308 to R310, R314, R318 to R324). -/
namespace Sys2Proof.Proofs
open Sys2Proof.Machine Sys2Proof.Claims

/-! ## Responses (R314, R320, R323) -/

section Response
variable {s t : State} {src : FabIn} {p : Pkt}

theorem answer_current {q : FabReq} (hq : mfind t.fab.reqs (pTag p) = some q) (hgen : pGen q.pkt = pGen p) :
    answer t p = deliver t (pTag p) q (pFlags p) (pData p 64) := by
  simp only [answer, hq, hgen, ↓reduceIte]

theorem answer_stale (hnone : mfind t.fab.reqs (pTag p) = none) : answer t p = count t 0x4050 7 1 := by simp only [answer, hnone]

variable (hresp : isResp p = true) (htake : takePkt s src p = some t) (hhops : atHopLimit s src p = false)
  (hours : pSrc p = pnode s ∨ (leadGroup s p).isSome = true)
include hours

theorem notForeign : (pSrc p != pnode s && (leadGroup s p).isNone) = false := by
  rcases hours with h | h
  · simp [h]
  · simp [Option.isNone_eq_false_iff.2 h]

include hresp htake hhops

theorem response_ofGroup {g : Group} (hg : leadGroup t p = some g) : response src p s = fanGroup t g p := by
  simp only [response, hresp, notForeign hours, htake, hhops, hg, Bool.not_true, Bool.false_eq_true, ↓reduceIte]

theorem response_alone (hg : leadGroup t p = none) : response src p s = answer t p := by
  simp only [response, hresp, notForeign hours, htake, hhops, hg, Bool.not_true, Bool.false_eq_true, ↓reduceIte]

end Response

/-! ## Packets on their way (R308, R309) -/

section Forward
variable {s t : State} {q : Port} {p : Pkt}

theorem atHopLimit_link : atHopLimit s (.link q) p = (pHops p == getO s 0x4040 4) := rfl

theorem forwardPkt_routed {o : Nat} (ho : routePort t (headedFor p) = some o)
    (hwelt : o / 32 = q.val / 32 ∨ [32, 33].any (weltFailed t) = false) :
    forwardPkt t q p = enqueueFab t o (pSet p 19 (f8 (pHops p + 1))) := by
  have hcross : (crossWelt (q.val / 32) (o / 32)).any (weltFailed t) = false := by
    unfold crossWelt
    split_ifs with hside
    · rfl
    · exact hwelt.resolve_left (fun h => hside h.symm)
  simp only [forwardPkt, ho, hcross, Bool.false_eq_true, ↓reduceIte]

variable (hfar : headedFor p ≠ pnode s) (htake : takePkt s (.link q) p = some t)
include hfar htake

theorem forwarded_passes (hhops : pHops p ≠ getO s 0x4040 4) (hg : (if isResp p then leadGroup t p else none) = none) :
    forwarded (.link q) p s = forwardPkt t q p := by
  simp only [forwarded, hfar, htake, atHopLimit_link, beq_eq_false_iff_ne.2 hhops, hg, Bool.false_eq_true, ↓reduceIte]

theorem forwarded_atLimit (hhops : pHops p = getO s 0x4040 4) : forwarded (.link q) p s = hopStop t p := by
  simp only [forwarded, hfar, htake, atHopLimit_link, beq_iff_eq.2 hhops, ↓reduceIte]

end Forward

/-! ## Requests that combine at their ordering point (R318 to R320) -/

section Combining
variable {s t : State} {src : FabIn} {p : Pkt}

theorem op_of_combinable (h : combinable t p = true) : pOp p = 1 ∨ (0x10 ≤ pOp p ∧ pOp p ≤ 0x16) := by
  simp only [combinable, Bool.or_eq_true, Bool.and_eq_true, beq_iff_eq, decide_eq_true_eq] at h
  exact h.imp (·.1.1) (·.1)

theorem combinable_of_mates (h : mates t p ≠ []) : combinable t p = true := by
  by_contra hno
  exact h (if_pos (by simpa using hno))

theorem exec_combiningRow (h : combinable t p = true) : exec (combiningRow src p) s = .next (request (pOp p) src p s) := by
  rcases op_of_combinable h with hread | ⟨hlo, hhi⟩
  · rw [combiningRow, hread]; rfl
  · interval_cases hop : pOp p <;> (rw [combiningRow, hop]; rfl)

theorem request_atLimit {q : Port} (hdst : pDst p = pnode s) (htake : takePkt s (.link q) p = some t) (hhops : pHops p = getO s 0x4040 4) :
    request (pOp p) (.link q) p s = hopStop t p := by
  simp only [request, hdst, htake, atHopLimit_link, beq_iff_eq.2 hhops, bne_self_eq_false, Bool.or_self, Bool.false_eq_true, ↓reduceIte]

/-- The packet that does the work of a request and its mates. -/
def groupLead (t : State) (p : Pkt) : Pkt := (mates t p).foldl (fun k e => mergePkt k e.pkt) p

/-- The state once the mates have left their queue. -/
def withoutMates (t : State) (p : Pkt) : State :=
  { t with fab := { t.fab with inside := (mates t p).foldl (fun l e => l.erase e) t.fab.inside } }

theorem serve_group (h : mates t p ≠ []) :
    let y := perform (count (withoutMates t p) 0x4050 (if pOp p = 1 then 2 else 3) (mates t p).length) (groupLead t p)
    serve t p = (fanOut ⟨64, groupLead t p, p :: (mates t p).map (·.pkt)⟩ y.2).foldl sendResp y.1 := by
  obtain ⟨e, l, hm⟩ := List.exists_cons_of_ne_nil h
  simp only [serve, groupLead, withoutMates, hm]

end Combining

/-! ## Timeouts and changes of route (R310, R324) -/

section Times
variable {s : State}

theorem exec_fabricTagTimeout {tag : Nat} {q : FabReq} (hq : mfind s.fab.reqs tag = some q)
    (hdue : q.sentAt + getO s 0x4040 3 * usec ≤ s.now) :
    let u := { s with fab := { s.fab with heldReqs := s.fab.heldReqs.filter (fun p => !sameTag p q.pkt) } }
    exec (.fabricTagTimeout tag) s = .next (deliver (raiseMs (count u 0x4050 6 1) 0x4011 0
      (f32 (pReq q.pkt) ++ f16 (pDst q.pkt) ++ f8 (pOp q.pkt) ++ f64 (pOff q.pkt) ++ f32 (inInterval u 0x4011))) tag q 4 []) := by
  change execFabricTagTimeout tag s = _
  simp only [execFabricTagTimeout, hq, if_neg hdue.not_gt]

theorem exec_routeChangeEffect {node e : Nat} (he : mfind s.fab.pendRoutes node = some e) (hfree : routeBusy s node = false) :
    exec (.routeChangeEffect node) s = .next ((s.fab.heldReqs.filter (fun p => pDst p == node)).foldl sendReq
      { s with fab := { s.fab with
        routes := mset 0 s.fab.routes node e
        pendRoutes := mdrop s.fab.pendRoutes node
        heldReqs := s.fab.heldReqs.filter (fun p => pDst p != node) } }) := by
  change execRouteChangeEffect node s = _
  simp only [execRouteChangeEffect, he, hfree, Bool.false_eq_true, ↓reduceIte]

end Times

/-- Settles O17: what becomes of a response, of a packet on its way, of a group, of a tag in time and of a change of route. -/
theorem fabricRoutingComplete : Obligations.FabricRoutingComplete := by
  intro p s t
  refine ⟨fun src hresp htake hhops hours => ?response, fun q hfar htake => ?forward,
    fun q hdst htake hhops hcomb hreq => ?limit, fun src hreach hm => ?group, fun _ _ => exec_fabricTagTimeout,
    fun _ _ => exec_routeChangeEffect⟩
  case response =>
    refine ⟨fun g hg => congrArg Host.Outcome.next (response_ofGroup hresp htake hhops hours hg), fun hg => ?_⟩
    have hexec := response_alone hresp htake hhops hours hg
    exact ⟨fun q hq hgen => congrArg Host.Outcome.next (hexec.trans (answer_current hq hgen)),
      fun hnone => congrArg Host.Outcome.next (hexec.trans (answer_stale hnone))⟩
  case forward =>
    exact ⟨fun hhops hg o ho hwelt =>
        congrArg Host.Outcome.next ((forwarded_passes hfar htake hhops hg).trans (forwardPkt_routed ho hwelt)),
      fun hhops => congrArg Host.Outcome.next (forwarded_atLimit hfar htake hhops)⟩
  case limit =>
    rw [exec_combiningRow hcomb, request_atLimit hdst htake hhops, hopStop, if_neg (ne_true_of_eq_false hreq)]
  case group =>
    exact (exec_combiningRow (combinable_of_mates hm)).trans
      (congrArg Host.Outcome.next ((request_of_reaches hreach rfl).trans (serve_group hm)))

end Sys2Proof.Proofs
end

section
/-! Loads, stores and atomics of a control core (13 R436 to R441, 09 R322). -/
namespace Sys2Proof.Proofs
open Sys2Proof.Machine Sys2Proof.Claims

section Access
variable {s t : State} {h : Hart} {a n o f : Nat}

theorem issueWait_sent {op size8 lease mask rd : Nat} {data : List Byte} {sink : Sink}
    (hi : issue s (getHart s h).secure a op size8 h.core h.thread lease mask data sink = (t, none)) :
    issueWait s h a op size8 lease mask data sink rd = waitFor t s h := by
  simp only [issueWait, hi]

/-! ## Loads (R437, R439, R441) -/

section Load
variable {rd : Nat} {sgn : Bool}

theorem load_misaligned (hbad : a % n ≠ 0) : load s h rd a n sgn = takeTrap s h causeLoadMisaligned a :=
  if_pos (bne_iff_ne.2 hbad)

variable (hal : a % n = 0)
include hal

theorem load_fault (hea : effective s h a = .fault) : load s h rd a n sgn = takeTrap s h causeLoadFault a := by
  simp only [load, hal, hea, bne_self_eq_false, Bool.false_eq_true, ↓reduceIte]

theorem load_own (hea : effective s h a = .own o) :
    let r := readAt s (ownWho s h) (ramAddr h.core o) n
    load s h rd a n sgn = setReg r.1 h rd (extend sgn n (leNat r.2.1)) := by
  simp only [load, hal, hea, bne_self_eq_false, Bool.false_eq_true, ↓reduceIte]

theorem load_cached {l : List Byte} (hea : effective s h a = .fabric f) (hkept : cacheable f = true)
    (hl : mfind (getCtl s h.core).cache (lineOf f) = some l) :
    load s h rd a n sgn = setReg s h rd (extend sgn n (fieldB l (f % 64) n)) := by
  simp only [load, hal, hea, hkept, hl, bne_self_eq_false, Bool.false_eq_true, ↓reduceIte]

theorem load_uncached (hea : effective s h a = .fabric f)
    (hno : cacheable f = false ∨ mfind (getCtl s h.core).cache (lineOf f) = none) :
    load s h rd a n sgn =
      issueWait s h (lineOf f) 1 0 0 (if mmioAt f then byteMask (f % 64) n else 0) [] (.reg h rd n f sgn) rd := by
  have hmiss : (if cacheable f then mfind (getCtl s h.core).cache (lineOf f) else none) = none := by
    rcases hno with hno | hno
    · rw [hno]; rfl
    · rw [hno, ite_self]
  simp only [load, hal, hea, hmiss, bne_self_eq_false, Bool.false_eq_true, ↓reduceIte]

end Load

/-! ## Stores (R437, R439, R441, 09 R322) -/

section Store
variable {v : Nat}

theorem store_misaligned (hbad : a % n ≠ 0) : store s h a n v = takeTrap s h causeStoreMisaligned a :=
  if_pos (bne_iff_ne.2 hbad)

section Aligned
variable (hal : a % n = 0)
include hal

theorem store_fault (hea : effective s h a = .fault) : store s h a n v = takeTrap s h causeStoreFault a := by
  simp only [store, hal, hea, bne_self_eq_false, Bool.false_eq_true, ↓reduceIte]

theorem store_own (hea : effective s h a = .own o) :
    store s h a n v = (writeAt s (ownWho s h) (ramAddr h.core o) (leBytes n v)).1 := by
  simp only [store, hal, hea, bne_self_eq_false, Bool.false_eq_true, ↓reduceIte]

theorem store_fabric (hea : effective s h a = .fabric f) : store s h a n v = postWrite s h f (leBytes n v) := by
  simp only [store, hal, hea, bne_self_eq_false, Bool.false_eq_true, ↓reduceIte]

end Aligned

variable {d : List Byte} {k : Nat} {logical : Bool}

theorem postWrite_done {st : Nat} (hr : fabRoute s (getHart s h).secure (lineOf f) = .done st) :
    postWrite s h f d = setFstat (issueDone s st) h st := by
  simp only [postWrite, hr]

/-- The WRITE packet of a store: its bytes at their place of the line, and their mask. -/
def storePkt (u : State) (h : Hart) (f : Nat) (d : List Byte) (k : Nat) (logical : Bool) : Pkt :=
  reqPkt u (lineOf f) 2 0 h.core h.thread 0 (byteMask (f % 64) d.length) (padTo 64 (List.replicate (f % 64) 0 ++ d)) k logical

variable (hr : fabRoute s (getHart s h).secure (lineOf f) = .node k logical)
include hr

theorem postWrite_full (hfull : writeRoom (patchLine s h.core f d) h.core = false) :
    let u := patchLine s h.core f d
    postWrite s h f d = setHart (stall u (.posted h) (storePkt u h f d k logical)) h { getHart u h with wait := .writes } := by
  simp only [postWrite, hr, hfull, Bool.not_false, ↓reduceIte, storePkt]

theorem postWrite_sent (hroom : writeRoom (patchLine s h.core f d) h.core = true) (ht : sendOrStall (patchLine s h.core f d) (.posted h)
    (storePkt (patchLine s h.core f d) h f d k logical) = t) (hgoes : t.fab.stalled.length ≤ (patchLine s h.core f d).fab.stalled.length) :
    postWrite s h f d = t := by
  rw [storePkt] at ht
  simp only [postWrite, hr, hroom, Bool.not_true, Bool.false_eq_true, ↓reduceIte, ht, if_neg hgoes.not_gt]

end Store

/-! ## Atomics (R438, R440) -/

section Amo
variable {op : AmoOp} {rd v : Nat} (hal : a % n = 0)
include hal

theorem amo_own (hea : effective s h a = .own o) : amo s h op rd a n v = localAmo s h op rd (ramAddr h.core o) n v := by
  simp only [amo, hal, hea, bne_self_eq_false, Bool.false_eq_true, ↓reduceIte]

theorem amo_fabric {c : Nat} (hea : effective s h a = .fabric f) (hc : amoCode op = some c) : amo s h op rd a n v =
    issueWait s h f c (if n = 8 then 1 else 0) 0 0 (leBytes n v) (.reg h rd n 0 true) rd := by
  simp only [amo, hal, hea, hc, bne_self_eq_false, Bool.false_eq_true, ↓reduceIte]

/-- XOR, LR and SC have no form on the fabric. -/
theorem amo_noFabric (hea : effective s h a = .fabric f) (hc : amoCode op = none) :
    amo s h op rd a n v = takeTrap s h (if op == .lr then causeLoadFault else causeStoreFault) a := by
  simp only [amo, hal, hea, hc, bne_self_eq_false, Bool.false_eq_true, ↓reduceIte]

end Amo

section LocalAmo
variable {op : AmoOp} {rd m v : Nat}

theorem storeCond_held (hres : (getHart s h).resv = some (m / 8 * 8)) :
    let u := setHart s h { getHart s h with resv := none }
    storeCond s h rd m n v = setReg (writeAt u (ownWho u h) m (leBytes n v)).1 h rd 0 := if_pos (beq_iff_eq.2 hres)

theorem storeCond_lost (hres : (getHart s h).resv ≠ some (m / 8 * 8)) :
    storeCond s h rd m n v = setReg (setHart s h { getHart s h with resv := none }) h rd 1 := if_neg (mt beq_iff_eq.1 hres)

theorem localAmo_operation (hlr : op ≠ .lr) (hsc : op ≠ .sc) (hopen : (readAt s (ownWho s h) m n).2.2.2 = none) :
    let r := readAt s (ownWho s h) m n
    localAmo s h op rd m n v = setReg
      (writeAt r.1 (ownWho s h) m (leBytes n (amoResult op (8 * n) (leNat r.2.1) (v % 2 ^ (8 * n))))).1 h rd (extend true n (leNat r.2.1)) := by
  unfold localAmo
  split
  case h_1 => exact absurd rfl hlr
  case h_2 => exact absurd rfl hsc
  case h_3 => simp only [hopen]

end LocalAmo

end Access

/-! ## The rows of a thread that issues -/

section Rows
variable {s : State} {h : Hart} (hi : Sys2Proof.Machine.issues s h = true)
include hi

theorem exec_controlCoreLoad (rd : Fin 32) (a n : Nat) (sgn : Bool) :
    exec (.controlCoreLoad h rd a n sgn) s = .next (load s h rd a n sgn) := if_pos hi

theorem exec_controlCoreStore (a n v : Nat) : exec (.controlCoreStore h a n v) s = .next (store s h a n v) := if_pos hi

theorem exec_amo (op : AmoOp) (rd : Fin 32) (a : Nat) (wide : Bool) (v : Nat) :
    exec (.amo h op rd a wide v) s = .next (amo s h op rd a (if wide then 8 else 4) v) := if_pos hi

end Rows

theorem loadsComplete : LoadsComplete := by
  intro h rd a n sgn s
  refine ⟨fun o ⟨hi, hal, hea⟩ => ?own, fun f ⟨hi, hal, hea⟩ => ?fabric, fun hi => ?trap⟩
  case own => exact (exec_controlCoreLoad hi ..).trans (congrArg _ (load_own hal hea))
  case fabric =>
    exact ⟨fun l hkept hl => (exec_controlCoreLoad hi ..).trans (congrArg _ (load_cached hal hea hkept hl)),
      fun hno t ht => (exec_controlCoreLoad hi ..).trans (congrArg _ ((load_uncached hal hea hno).trans (issueWait_sent ht)))⟩
  case trap =>
    exact ⟨fun hbad => (exec_controlCoreLoad hi ..).trans (congrArg _ (load_misaligned hbad)),
      fun hal hea => (exec_controlCoreLoad hi ..).trans (congrArg _ (load_fault hal hea))⟩

theorem storesComplete : StoresComplete := by
  intro h a n v s
  refine ⟨fun o ⟨hi, hal, hea⟩ => ?own, fun f ⟨hi, hal, hea⟩ => ?fabric, fun hi => ?trap⟩
  case own => exact (exec_controlCoreStore hi ..).trans (congrArg _ (store_own hal hea))
  case fabric =>
    have hexec := (exec_controlCoreStore hi a n v).trans (congrArg _ (store_fabric hal hea))
    have hpkt (u : State) (k : Nat) (logical : Bool) : storePkt u h f (leBytes n v) k logical =
        reqPkt u (lineOf f) 2 0 h.core h.thread 0 (byteMask (f % 64) n) (padTo 64 (List.replicate (f % 64) 0 ++ leBytes n v)) k logical := by
      rw [storePkt, leBytes_length]
    refine ⟨fun st hr => hexec.trans (congrArg _ (postWrite_done hr)), fun k logical hr hfull => ?_, fun k logical hr hroom hgoes => ?_⟩
    · simp only [← hpkt]
      exact hexec.trans (congrArg _ (postWrite_full hr hfull))
    · simp only [← hpkt] at hgoes ⊢
      exact hexec.trans (congrArg _ (postWrite_sent hr hroom rfl hgoes))
  case trap =>
    exact ⟨fun hbad => (exec_controlCoreStore hi ..).trans (congrArg _ (store_misaligned hbad)),
      fun hal hea => (exec_controlCoreStore hi ..).trans (congrArg _ (store_fault hal hea))⟩

theorem atomicsOfACore : AtomicsOfACore := by
  intro h op rd a wide v s
  refine ⟨fun o ⟨hi, hal, hea⟩ => ?own, fun f ⟨hi, hal, hea⟩ => ?fabric⟩
  case own =>
    have hexec := (exec_amo hi op rd a wide v).trans (congrArg _ (amo_own hal hea))
    refine ⟨?_, ?_, ?_, fun hlr hsc hopen => hexec.trans (congrArg _ (localAmo_operation hlr hsc hopen))⟩
    · rintro rfl u rfl
      exact hexec
    · rintro rfl hres
      exact hexec.trans (congrArg _ (storeCond_held hres))
    · rintro rfl hres
      exact hexec.trans (congrArg _ (storeCond_lost hres))
  case fabric =>
    have hexec := exec_amo hi op rd a wide v
    refine ⟨fun c hc t ht => hexec.trans (congrArg _ ((amo_fabric hal hea hc).trans (issueWait_sent ?_))), ?_, ?_⟩
    · cases wide <;> exact ht
    · rintro (rfl | rfl) <;> exact hexec.trans (congrArg _ (amo_noFabric hal hea rfl))
    · rintro rfl
      exact hexec.trans (congrArg _ (amo_noFabric hal hea rfl))

/-- Settles O42: loads, stores and atomic instructions of a thread that issues. -/
theorem coreMemoryAccessComplete : Obligations.CoreMemoryAccessComplete := ⟨loadsComplete, storesComplete, atomicsOfACore⟩

end Sys2Proof.Proofs
end

section
/-! Admission (10 R359): the candidates of a pass, and the one whose key is least. -/
namespace Sys2Proof.Proofs
open Sys2Proof.Machine Sys2Proof.Claims

/-! ## The order of the keys -/

/-- What `admitKey` gives. -/
abbrev AdmitKey : Type := Int × Int × Int × Int

/-- A key of R359 in the lexicographic order: class, then slack or VT, then priority, then COMMIT_SEQ. -/
def keyOrder (k : AdmitKey) : Int ×ₗ Int ×ₗ Int ×ₗ Int := toLex (k.1, toLex (k.2.1, toLex k.2.2))

theorem keyBelow_iff (a b : AdmitKey) : keyBelow a b = true ↔ keyOrder a < keyOrder b := by
  obtain ⟨a1, a2, a3, a4⟩ := a
  obtain ⟨b1, b2, b3, b4⟩ := b
  simp only [keyBelow, keyOrder, Prod.Lex.toLex_lt_toLex, bne_iff_ne]
  split_ifs <;> simp <;> omega

/-- Going on from a first candidate, the choice of the lower key ends at a least one. -/
theorem foldl_keyBelow_eq_argmin {α : Type} (c : AdmitKey × α) (r : List (AdmitKey × α)) :
    some (r.foldl (fun b x => if keyBelow x.1 b.1 then x else b) c) = (c :: r).argmin (fun x => keyOrder x.1) := by
  refine (List.foldl_hom some fun b x => ?_).symm
  by_cases h : keyOrder x.1 < keyOrder b.1
  · simp [List.argAux, keyBelow_iff, h]
  · simp [List.argAux, keyBelow_iff, h]

/-! ## The candidates -/

/-- The key of a request with the request and the slot that it would take, where it could enter. -/
def admissionCandidate (s : State) (x : Nat × Eyelet) : Option (AdmitKey × Nat × Nat) :=
  if x.2.state = 1 && (getTen s x.2.tenant).share != 0 then (freeSlotFor s x.2).map (fun a => (admitKey s x.2, x.1, a)) else none

def admissionCandidates (s : State) : List (AdmitKey × Nat × Nat) := s.serving.eyelets.filterMap (admissionCandidate s)

theorem mem_admissionCandidates {s : State} {c : AdmitKey × Nat × Nat} :
    c ∈ admissionCandidates s ↔ ∃ x a, couldEnter s x ∧ freeSlotFor s x.2 = some a ∧ c = (admitKey s x.2, x.1, a) := by
  rw [admissionCandidates, List.mem_filterMap]
  refine exists_congr fun x => ⟨fun ⟨hx, hc⟩ => ?_, fun ⟨a, ⟨hx, hq, hs, _⟩, ha, hc⟩ => ⟨hx, ?_⟩⟩
  · rw [admissionCandidate] at hc
    split at hc
    case isTrue h =>
      obtain ⟨hq, hs⟩ : x.2.state = 1 ∧ (getTen s x.2.tenant).share ≠ 0 := by simpa using h
      obtain ⟨a, ha, rfl⟩ := Option.map_eq_some_iff.mp hc
      exact ⟨a, ⟨hx, hq, hs, by simp [ha]⟩, ha, rfl⟩
    case isFalse => cases hc
  · simp [admissionCandidate, hq, hs, ha, hc]

theorem bestReq_eq_argmin (s : State) :
    bestReq s = ((admissionCandidates s).argmin fun c => keyOrder c.1).map (·.2) := by
  have hdef : bestReq s = match admissionCandidates s with
    | [] => none
    | c :: r => some ((r.foldl (fun b x => if keyBelow x.1 b.1 then x else b) c).2) := rfl
  rw [hdef]
  cases admissionCandidates s with
  | nil => rfl
  | cons c r => rw [← foldl_keyBelow_eq_argmin]; rfl

theorem admissionCandidates_eq_nil {s : State} : admissionCandidates s = [] ↔ ∀ y, ¬ couldEnter s y := by
  refine ⟨fun hnil y hy => ?_, fun hno => List.eq_nil_iff_forall_not_mem.mpr fun c hc => ?_⟩
  · obtain ⟨a, ha⟩ := Option.isSome_iff_exists.mp hy.2.2.2
    have hmem : (admitKey s y.2, y.1, a) ∈ admissionCandidates s := mem_admissionCandidates.mpr ⟨y, a, hy, ha, rfl⟩
    simp [hnil] at hmem
  · obtain ⟨x, _, hx, _⟩ := mem_admissionCandidates.mp hc
    exact hno x hx

/-- Settles O21: the request taken is a candidate of least key. -/
theorem admissionTakesTheBest : Obligations.AdmissionTakesTheBest := by
  intro s
  rw [bestReq_eq_argmin]
  refine ⟨fun i a htaken => ?taken, ?none⟩
  case taken =>
    obtain ⟨c, hc, hia⟩ := Option.map_eq_some_iff.mp htaken
    obtain ⟨⟨_, e⟩, _, henter, hslot, rfl⟩ := mem_admissionCandidates.mp (List.argmin_mem hc)
    cases hia
    refine ⟨e, henter, hslot, fun y hy => ?_⟩
    obtain ⟨b, hb⟩ := Option.isSome_iff_exists.mp hy.2.2.2
    have hle := List.le_of_mem_argmin (mem_admissionCandidates.mpr ⟨y, b, hy, hb, rfl⟩) hc
    exact Bool.eq_false_iff.mpr fun hbelow => hle.not_gt ((keyBelow_iff ..).mp hbelow)
  case none => rw [Option.map_eq_none_iff, List.argmin_eq_none, admissionCandidates_eq_nil]

end Sys2Proof.Proofs
end

section
/-! The writes that command serving, routing, images and partitions (10 R335 to R364, 11 R388, R395, 12 R412 to R424). -/
namespace Sys2Proof.Proofs
open Sys2Proof.Machine Sys2Proof.Claims

/-! ## What serving an access leaves -/

/-- A write of a value that is no default leaves the other entries alone, also in a map that is not in canonical form. -/
theorem mget_mset_ne_of_ne_default {α : Type} [DecidableEq α] {d e v : α} {i j : Nat} (hv : v ≠ d) (hne : j ≠ i) :
    ∀ m : SMap α, mget e (mset d m i v) j = mget e m j
  | [] => by simp [mset, hv, mget, hne.symm]
  | (k, w) :: r => by
    rw [mset]
    split
    case isTrue hik =>
      by_cases hji : j < i
      · have hjk : j < k := hji.trans hik
        simp [mget, hne.symm, hji, hjk, hjk.ne']
      · simp [mget, hne.symm, hji]
    case isFalse hik =>
      split
      case isTrue h => simp [mget, h ▸ hne.symm]
      case isFalse => simp only [mget, mget_mset_ne_of_ne_default hv hne r]

theorem getO_setO_ne {s : State} {i sub v j k : Nat} (hv : v ≠ defaultOf i sub) (hne : okey j k ≠ okey i sub) :
    getO (setO s i sub v) j k = getO s j k :=
  mget_mset_ne_of_ne_default hv hne s.obj

/-- Serving an access counts in object 0x1051 only. -/
theorem getO_served {s : State} {acc : Acc} {j k : Nat} (hj : j ≠ 0x1051) (hk : k < 256) : getO (served s acc) j k = getO s j k := by
  have hsub : servedSub acc.path ≤ 4 := by cases acc.path <;> decide
  have hzero : ∀ n ≤ 4, defaultOf 0x1051 n = 0 := by decide +kernel
  rw [served, countServed]
  split
  case isTrue => rfl
  case isFalse =>
    refine getO_setO_ne ?_ (by simp only [okey]; omega)
    rw [hzero _ hsub]
    omega

theorem isManager_served (s : State) (acc : Acc) : isManager (served s acc) = isManager s := by
  rw [isManager, getO_served (by decide) (by decide), isManager]

theorem getSq_served (s : State) (acc : Acc) (q : Nat) : getSq (served s acc) q = getSq s q := by
  rw [served, countServed]
  split <;> rfl

/-! ## States that take a command -/

theorem not_barred_of_standby_or_ready {s : State} (h : s.dev.mode = .standby ∨ s.dev.mode = .ready) :
    (s.dev.mode != .standby && s.dev.mode != .ready) = false := by
  rcases h with h | h <;> simp [h]

theorem not_barred_of_ready_or_running {s : State} (h : s.dev.mode = .ready ∨ s.dev.mode = .running) :
    (s.dev.mode != .ready && s.dev.mode != .running) = false := by
  rcases h with h | h <;> simp [h]

/-! ## The manager role (R335, R337) -/

theorem wManager_release (s : State) : wManager s 0 = .ok (setRole (setRole s 0 false) 1 false) := rfl

section Role
variable {s : State} (hmay : fbit (getO s 0x1010 3) 0 = true)
include hmay

theorem wManager_role {v : Nat} (hv : v = 1 ∨ v = 2) (hmode : s.dev.mode = .standby ∨ s.dev.mode = .ready) :
    wManager s v = .ok (setRole (setRole s 0 (v == 1)) 1 (v == 2)) := by
  rcases hv with rfl | rfl <;> simp [wManager, hmay, not_barred_of_standby_or_ready hmode]

theorem wManager_takeOver (hstandby : fbit (getO s 0x1010 4) 1 = true) (hrun : laceRuns s = true)
    (hlead : s.lace.tick + max 8 (horizon s) ≤ getO s 0x6001 2) :
    wManager s 3 = .ok { s with serving := { s.serving with takeover := some (getO s 0x6001 2) } } := by
  simp only [wManager, hmay, hstandby, hrun, if_neg hlead.not_gt, lt_irrefl, OfNat.ofNat_ne_zero, Bool.not_true, Bool.or_self,
    Bool.false_eq_true, ↓reduceIte]

end Role

/-! ## Commits, flush and cancel (R344, R346, R364) -/

section Queue
variable {s : State} (hman : isManager s = true)
include hman

theorem commitBell_taken {q v : Nat} (hepoch : field v 32 16 = (getSq s q).epoch)
    (hroom : sub32 v (getSq s q).consumed ≤ 2 ^ getO s (0x6020 + q) 2) :
    commitBell s q v = (setSq s q { getSq s q with commit := v % 2 ^ 32 }, true) := by
  simp [commitBell, hman, hepoch, hroom.not_gt]

theorem wQueue_commit {q v : Nat} {t : State} (hbell : commitBell s q v = (t, true)) : wQueue s q 3 v = (t, 0) := by
  simp [wQueue, hbell, hman]

theorem wQueue_flush (q : Nat) : wQueue s q 5 1 = (setSq s q (getSq s q).flush, 0) := by
  simp [wQueue, hman, wFlush, ofW]

end Queue

theorem wCancel_ok {s : State} {i : Nat} (hi : (getEy s i).state ≠ 0) :
    wCancel s i = .ok { s with serving := { s.serving with cancels := s.serving.cancels ++ [i] } } := if_neg hi

theorem exec_commitDoorbell_page {acc : Acc} {q : Fin 64} {v : Nat} {s : State} (hmode : s.dev.mode ≠ .keeper) :
    exec (.commitDoorbell acc q v true) s = .next (commitBell s q.val v).1 := by
  change execCommitDoorbell acc q v true s = _
  simp only [execCommitDoorbell, hmode, ↓reduceIte]

/-- Words committed before a flush keep the epoch in force then. -/
theorem flush_itemEpoch {x : SubQ} (hmarks : x.marks = []) (hleft : x.commit ≠ x.consumed) : x.flush.itemEpoch = x.epoch := by
  simp [SubQ.flush, SubQ.itemEpoch, hmarks, hleft]

theorem queue_object_ne_persist (q : Fin 64) : 0x6020 + q.val ≠ 0x1030 := by omega

theorem servingCommandsComplete : ServingCommandsComplete := by
  intro acc s u
  refine ⟨fun hw => ?release, fun hmay => ⟨fun hmode => ⟨fun hw => ?active, fun hw => ?standby⟩, fun hw hstandby hrun hlead => ?takeOver⟩,
    fun q v hman hepoch hroom => ⟨fun hmode => ?page, fun hw => ?commit⟩, fun q hw hman => ?flush,
    fun x => ⟨rfl, rfl, rfl, flush_itemEpoch⟩, fun v hw hman hi => ?cancel⟩
  case release => exact writeObj_ok_written hw (by decide) (wrAny_6001_1 ..) (wManager_release u)
  case active => exact writeObj_ok_written hw (by decide) (wrAny_6001_1 ..) (wManager_role hmay (.inl rfl) hmode)
  case standby => exact writeObj_ok_written hw (by decide) (wrAny_6001_1 ..) (wManager_role hmay (.inr rfl) hmode)
  case takeOver => exact writeObj_ok_written hw (by decide) (wrAny_6001_1 ..) (wManager_takeOver hmay hstandby hrun hlead)
  case page => rw [exec_commitDoorbell_page hmode, commitBell_taken hman hepoch hroom]
  case commit =>
    have hman' : isManager u = true := (isManager_served s acc).trans hman
    have hbell : commitBell u q.val v = (setSq u q.val { getSq u q.val with commit := v % 2 ^ 32 }, true) :=
      commitBell_taken hman' (by rwa [getSq_served])
        (by rwa [getSq_served, getO_served (by omega) (by decide)])
    exact writeObj_written hw (not_persist_of_index_ne (queue_object_ne_persist q))
      ((wrAny_queue _ _ q _ _ (.inl rfl)).trans (wQueue_commit hman' hbell))
  case flush =>
    exact writeObj_written hw (not_persist_of_index_ne (queue_object_ne_persist q))
      ((wrAny_queue _ _ q _ _ (.inr rfl)).trans (wQueue_flush hman q.val))
  case cancel =>
    exact writeObj_ok_written hw (by decide) ((wrAny_6030_1 ..).trans (if_pos hman)) (wCancel_ok hi)

/-! ## Route plans and revisions (11 R388, R395) -/

section Bind
variable {s : State} {slot : Nat} {im : Image} (hmode : s.dev.mode = .ready ∨ s.dev.mode = .running)
  (hidle : slotActive s slot = false) (him : (getSlot s slot).image = some im)
include hmode hidle him

theorem wBind_none : wBind s slot 0 = (setO s 0x3025 (slot + 1) 0, 0) := by
  simp [wBind, not_barred_of_ready_or_running hmode, hidle, him]

theorem wBind_plan {v : Nat} (hv : v ≠ 0) (hcheck : bindCheck s slot v im = none) :
    wBind s slot v =
      (setO { s with routing := { s.routing with banks := mset 0 s.routing.banks slot 0 } } 0x3025 (slot + 1) v, 0) := by
  simp [wBind, not_barred_of_ready_or_running hmode, hidle, him, hv, hcheck]

end Bind

theorem wArm_ok {s : State} {e slot p : Nat} {im : Image} {pl : Plan} (hp : getO s 0x3026 1 = p)
    (hmode : s.dev.mode = .ready ∨ s.dev.mode = .running) (hslot : (getPart s p).active = some slot)
    (him : activeImage s p = some im) (hpoint : (im.lacePts.any (fun x => ptType x == 4)) = true)
    (hplan : boundPlan s slot = some pl) (hlead : s.lace.tick + horizon s ≤ e)
    (hgen : bankGen s pl (1 - activeBank s slot) = getO s 0x3026 2)
    (hbank : bankOk s pl (sitesOf s pl) (1 - activeBank s slot) = true) :
    wArm s e = .ok { s with routing := { s.routing with revs := mbind s.routing.revs p ⟨getO s 0x3026 2, e, im.lastId⟩ } } := by
  simp only [wArm, not_barred_of_ready_or_running hmode, hp, hslot, him, hpoint, hplan, hgen, hbank, hlead.not_gt, Bool.not_true, Bool.or_self, bne_self_eq_false,
    decide_false, Bool.false_eq_true, ↓reduceIte]

theorem routingCommandsComplete : RoutingCommandsComplete := by
  intro acc s u
  refine ⟨fun slot v im hw hmode hidle him => ⟨?unbound, fun hv hcheck => ?bound⟩,
    fun e slot im pl => ?arm⟩
  case unbound =>
    rintro rfl
    exact writeObj_written hw (not_persist_of_index_ne (by decide)) ((wrAny_3025 ..).trans (wBind_none hmode hidle him))
  case bound =>
    exact writeObj_written hw (not_persist_of_index_ne (by decide)) ((wrAny_3025 ..).trans (wBind_plan hmode hidle him hv hcheck))
  case arm =>
    intro p hw hmode hslot him hpoint hplan hlead hgen hbank
    exact writeObj_ok_written hw (by decide) (wrAny_3026_3 ..) (wArm_ok rfl hmode hslot him hpoint hplan hlead hgen hbank)

/-! ## Image commands (12 R412 to R417) -/

/-- A command that finds the engine free runs on the selected entry, and its outcome stands for its end. -/
theorem wImage_ok {s : State} {c : Nat} {x : ImgRes} (hmode : s.dev.mode = .ready ∨ s.dev.mode = .running) (hfree : s.imgCmd = none)
    (hc : 1 ≤ c ∧ c ≤ 6) (hrun : runImg s (getO s 0xa020 2) c = x) :
    wImage s c = .ok (setO { x.1 with imgCmd := some ⟨getO s 0xa020 2, c, x.2.1, x.2.2.1, x.2.2.2⟩ } 0xa020 5 1) := by
  have hcode : (decide (c = 0) || decide (6 < c)) = false := by simp; omega
  simp only [wImage, not_barred_of_ready_or_running hmode, hfree, hcode, hrun, Option.isSome_none, Bool.false_eq_true, ↓reduceIte]

section Run
variable {s : State} {i : Nat}

theorem runImg_open (hst : (getImg s i).state = 0 ∨ (getImg s i).state = 5) : runImg s i 1 = openImg s i := by
  rcases hst with h | h <;> simp [runImg, h]

theorem runImg_seal (hst : (getImg s i).state = 1 ∨ (getImg s i).state = 4) : runImg s i 2 = sealImg s i := by
  rcases hst with h | h <;> simp [runImg, h]

theorem runImg_demote (hst : (getImg s i).state = 3) (hres : (getImg s i).residency = 2)
    (hlist : listedObj s (getImg s i) (some 1) = none) : runImg s i 3 = (demoteImg s i, 0, 0, 3) := by
  simp [runImg, hst, hres, hlist]

theorem runImg_pin (hst : (getImg s i).state = 3) (hres : (getImg s i).residency = 1) :
    runImg s i 4 = ((pinImg s i).1, if (pinImg s i).2 then (0, 0, 3) else (0x0b, 0x83, 3)) := by
  simp only [runImg, hst, hres, bne_self_eq_false, Bool.or_self, Bool.false_eq_true, ↓reduceIte]
  exact (apply_ite (Prod.mk _) ..).symm

theorem runImg_evict (hst : (getImg s i).state = 1 ∨ (getImg s i).state = 3 ∨ (getImg s i).state = 4)
    (hlist : listedObj s (getImg s i) none = none) : runImg s i 5 = (evictImg s i, 0, 0, 5) := by
  rcases hst with h | h | h <;> simp [runImg, h, hlist]

theorem runImg_close (hst : (getImg s i).state ≠ 2) (hlist : listedObj s (getImg s i) none = none) :
    runImg s i 6 = (setImg (destroyImage s (getImg s i)) i ImgEnt.init, 0, 0, 0) := by
  simp [runImg, hst, hlist]

end Run

theorem imageCommandsComplete : ImageCommandsComplete := by
  intro acc s u i e ends hmode hfree
  have hends {c : Nat} {x : ImgRes} (hw : mayWrite s acc 0xa020 4 c = true) (hc : 1 ≤ c ∧ c ≤ 6) (hrun : runImg u i c = x) :
      writeObj acc 0xa020 4 c s = ends c x :=
    writeObj_ok_written hw (by decide) (wrAny_a020_4 ..) (wImage_ok hmode hfree hc hrun)
  exact ⟨fun hw hst => hends hw (by decide) (runImg_open hst),
    fun hw hst => hends hw (by decide) (runImg_seal hst),
    fun hw hst hres hlist => hends hw (by decide) (runImg_demote hst hres hlist),
    fun hw hst hres => hends hw (by decide) (runImg_pin hst hres),
    fun hw hst hlist => hends hw (by decide) (runImg_evict hst hlist),
    fun hw hst hlist => hends hw (by decide) (runImg_close hst hlist)⟩

/-! ## Partition commands (12 R421 to R424) -/

theorem define_ok {s : State} {p : Nat} {rs : List (Nat × Nat)} (hrs : placeRegions s p = some rs) (c : Nat) (cs : List Nat) :
    define s p c cs = .ok (defined s p c cs rs) := by
  unfold define
  split
  case h_1 hnone => simp [hrs] at hnone
  case h_2 hsome =>
    cases hrs.symm.trans hsome
    rfl

section Partition
variable {s : State} {p : Nat} (hmode : s.dev.mode = .standby ∨ s.dev.mode = .ready) (hp : getO s 0xa008 1 = p)
include hmode hp

section Define
variable (hst : partState s p ≠ 1) {rs : List (Nat × Nat)} (hrs : placeRegions s p = some rs)
include hst hrs

theorem wPartCmd_defineCount (hn : getO s 0xa008 2 ≤ (clusterOrder s p).length) :
    wPartCmd s 1 = .ok (defined s p 1 (sortBy (fun a b => a ≤ b) ((clusterOrder s p).take (getO s 0xa008 2))) rs) := by
  have hroom : ¬ ((clusterOrder s p).take (getO s 0xa008 2)).length < getO s 0xa008 2 := by simpa using hn
  simp only [wPartCmd, not_barred_of_standby_or_ready hmode, hp, hst, hroom, define_ok hrs, Bool.false_eq_true, ↓reduceIte]

theorem wPartCmd_defineSet (hfit : setFit s p = true) : wPartCmd s 2 = .ok (defined s p 2 (namedClusters s p) rs) := by
  simp only [wPartCmd, not_barred_of_standby_or_ready hmode, hp, hst, hfit, define_ok hrs, Bool.false_eq_true, ↓reduceIte, OfNat.ofNat_ne_one]

end Define

theorem wPartCmd_release (hst : partState s p = 1) (hlast : lastOf s p = false) : wPartCmd s 3 = .ok (released s p) := by
  simp [wPartCmd, not_barred_of_standby_or_ready hmode, hp, hst, hlast]

theorem wPartCmd_clear (hst : partState s p = 2) (hobjs : (s.memSt.objs.any (fun e => e.2.partition == p)) = false) :
    wPartCmd s 4 = .ok (cleared s p) := by
  simp only [wPartCmd, not_barred_of_standby_or_ready hmode, hp, hst, hobjs, bne_self_eq_false, Bool.or_self, Bool.false_eq_true, ↓reduceIte,
    OfNat.ofNat_ne_one, Nat.reduceEqDiff]

end Partition

theorem wPartition_ok {s t : State} {c : Nat} (h : wPartCmd s c = .ok t) : wPartition s c = (keepPart t (getO s 0xa008 1), 0) := by
  simp [wPartition, h]

theorem partitionCommandsComplete : PartitionCommandsComplete := by
  intro acc s u p done hmode
  have hdone {c : Nat} {t : State} (hw : mayWrite s acc 0xa008 3 c = true) (h : wPartCmd u c = .ok t) :
      writeObj acc 0xa008 3 c s = done t :=
    writeObj_written hw (by decide) ((wrAny_a008_3 ..).trans (wPartition_ok h))
  exact ⟨fun rs hw hst hn hrs => hdone hw (wPartCmd_defineCount hmode rfl hst hrs hn),
    fun rs hw hst hfit hrs => hdone hw (wPartCmd_defineSet hmode rfl hst hrs hfit),
    fun hw hst hlast => hdone hw (wPartCmd_release hmode rfl hst hlast),
    fun hw hst hobjs => hdone hw (wPartCmd_clear hmode rfl hst hobjs)⟩

/-- Settles O29, family by family: each command is an accepted write whose object's rule answers the state that the statement names. -/
theorem servingAndImageWritesComplete : Obligations.ServingAndImageWritesComplete :=
  ⟨servingCommandsComplete, routingCommandsComplete, imageCommandsComplete, partitionCommandsComplete⟩

end Sys2Proof.Proofs
end

section
/-! Memory as bytes by address: what a range reads after a store, a clear and a copy (06 R205; log entry 19). -/
namespace Sys2Proof.Proofs
open Sys2Proof.Machine Sys2Proof.Claims

/-! ## Canonical maps by key -/

section Canonical
variable {α : Type} [DecidableEq α] {d v : α} {m : SMap α} {i j k : Nat}

theorem mget_cons (h : mapWf d ((k, v) :: m) = true) (j : Nat) : mget d ((k, v) :: m) j = if k = j then v else mget d m j := by
  simp only [mget]
  split_ifs with _ hlt
  · rfl
  · exact (mget_below (mapWf_tail h) fun e he => hlt.trans (mapWf_above h e he)).symm
  · rfl

theorem mget_mset (h : mapWf d m = true) (i j : Nat) (v : α) : mget d (mset d m i v) j = if j = i then v else mget d m j := by
  split_ifs with hj
  · rw [hj, mget_mset_same i v h]
  · exact mget_mset_ne v hj h

theorem mget_filter_key (p : Nat → Bool) (j : Nat) : ∀ {m : SMap α}, mapWf d m = true →
    mget d (m.filter (fun e => p e.1)) j = if p j then mget d m j else d
  | [], _ => by simp [mget]
  | (k, v) :: r, h => by
    have ih := mget_filter_key p j (mapWf_tail h)
    have hf := mapWf_filter (fun e => p e.1) h
    rw [List.filter_cons] at hf ⊢
    rw [mget_cons h]
    by_cases hp : p k = true
    · rw [if_pos hp] at hf ⊢
      rw [mget_cons hf, ih]
      split_ifs with hk hj <;> simp_all
    · rw [if_neg hp, ih]
      split_ifs with hj hk <;> simp_all

theorem mget_mputs (j : Nat) : ∀ (l : List α) {m : SMap α} (a : Nat), mapWf d m = true →
    mget d (mputs d m a l) j = if a ≤ j then (l[j - a]?).getD (mget d m j) else mget d m j
  | [], _, _, _ => by simp [mputs]
  | v :: l, m, a, h => by
    rw [mputs, mget_mputs j l (a + 1) (mapWf_mset a v h), mget_mset h]
    by_cases hlt : a < j
    · rw [if_pos (by omega), if_neg (by omega), if_pos (by omega), show j - a = j - (a + 1) + 1 by omega, List.getElem?_cons_succ]
    · rw [if_neg (by omega)]
      split_ifs with heq hle hle
      · simp [heq]
      · omega
      · omega
      · rfl

theorem mrun_eq_map : ∀ (n : Nat) {m : SMap α} (a : Nat), mapWf d m = true → (∀ e ∈ m, a ≤ e.1) →
    mrun d n m a = (List.range' a n).map (mget d m)
  | 0, _, _, _, _ => by simp [mrun]
  | n + 1, [], a, h, _ => by simp [mrun, mrun_eq_map n (a + 1) h, List.range'_succ, mget]
  | n + 1, (k, v) :: r, a, h, hge => by
    rw [mrun, List.range'_succ, List.map_cons, mget_cons h]
    have hk : a ≤ k := hge _ List.mem_cons_self
    have habove := mapWf_above h
    split_ifs with heq
    · subst heq
      rw [mrun_eq_map n (k + 1) (mapWf_tail h) fun e he => habove e he]
      refine congrArg (v :: ·) (List.map_congr_left fun j hj => ?_)
      rw [mget_cons h, if_neg (by have := (List.mem_range'_1.1 hj).1; omega)]
    · rw [mget_below (mapWf_tail h) fun e he => hk.trans_lt (habove e he), mrun_eq_map n (a + 1) h fun e he => ?_]
      rcases List.mem_cons.1 he with rfl | he
      · exact lt_of_le_of_ne hk (Ne.symm heq)
      · exact hk.trans_lt (habove e he)

/-- In a canonical map nothing is left of the keys below `a`, and every other key reads as before. -/
theorem dropWhile_key (a : Nat) : ∀ {m : SMap α}, mapWf d m = true →
    m.dropWhile (fun e => e.1 < a) = m.filter (fun e => !decide (e.1 < a))
  | [], _ => rfl
  | (k, v) :: r, h => by
    rw [List.dropWhile_cons, List.filter_cons]
    split_ifs with hk hk'
    · simp_all
    · exact dropWhile_key a (mapWf_tail h)
    · refine congrArg ((k, v) :: ·) (List.filter_eq_self.2 fun e he => ?_).symm
      have := mapWf_above h e he
      simp only [decide_eq_true_eq] at hk
      simp only [Bool.not_eq_true', decide_eq_false_iff_not]
      omega
    · simp_all

theorem mrange_eq_map (h : mapWf d m = true) (a n : Nat) : mrange d m a n = (List.range' a n).map (mget d m) := by
  rw [mrange, dropWhile_key a h, mrun_eq_map n a (mapWf_filter _ h) fun e he => by simpa using (List.mem_filter.1 he).2]
  refine List.map_congr_left fun j hj => ?_
  rw [mget_filter_key (fun k => !decide (k < a)) j h, if_pos (by simpa using (List.mem_range'_1.1 hj).1)]

/-- Entries written one after another, each moved from `src` on to `dst` on. -/
theorem mget_foldl_mset (src dst j : Nat) : ∀ {cells m : SMap α}, mapWf d cells = true → mapWf d m = true → (∀ e ∈ cells, src ≤ e.1) →
    mget d (cells.foldl (fun m e => mset d m (dst + (e.1 - src)) e.2) m) j =
      if dst ≤ j ∧ mget d cells (src + (j - dst)) ≠ d then mget d cells (src + (j - dst)) else mget d m j
  | [], _, _, _, _ => by simp [mget]
  | (k, v) :: r, m, hc, hm, hge => by
    have hv : v ≠ d := by simp [mapWf] at hc; exact hc.1
    have hk : src ≤ k := hge _ List.mem_cons_self
    have hbelow : mget d r k = d := mget_below (mapWf_tail hc) (mapWf_above hc)
    rw [List.foldl_cons, mget_foldl_mset src dst j (mapWf_tail hc) (mapWf_mset _ v hm) fun e he => hge e (List.mem_cons_of_mem _ he),
      mget_mset hm, mget_cons hc]
    by_cases hj : j = dst + (k - src)
    · have hkj : k = src + (j - dst) := by omega
      rw [← hkj, hbelow, if_pos rfl]
      simp only [ne_eq, not_true_eq_false, and_false, if_false]
      rw [if_pos hj, if_pos ⟨by omega, hv⟩]
    · rw [if_neg hj]
      by_cases hd : dst ≤ j
      · rw [if_neg (by omega : ¬ k = src + (j - dst))]
      · rw [if_neg (fun h => hd h.1), if_neg (fun h => hd h.1)]

end Canonical

/-! ## Bytes of memory -/

section Bytes
variable {s : State} (h : Memory.wf s.mem = true) (a b k n src : Nat) (l : List Byte)
include h

theorem memGet_eq_map : memGet s a n = (List.range' a n).map (mget 0 s.mem) := mrange_eq_map h a n

theorem memPut_mget (j : Nat) : mget 0 (memPut s a l).mem j = if a ≤ j then (l[j - a]?).getD (mget 0 s.mem j) else mget 0 s.mem j :=
  mget_mputs j l a h

theorem memClear_mget (j : Nat) : mget 0 (memClear s a n).mem j = if a ≤ j ∧ j < a + n then 0 else mget 0 s.mem j := by
  refine (mget_filter_key (fun j => decide (j < a) || decide (a + n ≤ j)) j h).trans ?_
  simp only [Bool.or_eq_true, decide_eq_true_eq]
  split_ifs <;> first | rfl | omega

theorem memCopy_mget (j : Nat) :
    mget 0 (memCopy s src a n).mem j = if a ≤ j ∧ j < a + n then mget 0 s.mem (src + (j - a)) else mget 0 s.mem j := by
  have hcells : ∀ i, mget 0 (s.mem.filter fun e => src ≤ e.1 && e.1 < src + n) i =
      if src ≤ i ∧ i < src + n then mget 0 s.mem i else 0 := fun i => by
    refine (mget_filter_key (fun i => decide (src ≤ i) && decide (i < src + n)) i h).trans ?_
    simp only [Bool.and_eq_true, decide_eq_true_eq]
  refine (mget_foldl_mset src a j (mapWf_filter _ h) (memClear_wf a n h) fun e he => ?_).trans ?_
  · have := (List.mem_filter.1 he).2
    simp only [Bool.and_eq_true, decide_eq_true_eq] at this
    exact this.1
  · rw [hcells, memClear_mget h]
    by_cases hin : a ≤ j ∧ j < a + n
    · rw [if_pos (by omega : src ≤ src + (j - a) ∧ src + (j - a) < src + n), if_pos hin, if_pos hin]
      split_ifs with hz
      · rfl
      · exact (not_not.1 fun hne => hz ⟨hin.1, hne⟩).symm
    · rw [if_neg hin, if_neg hin]
      by_cases hj : a ≤ j
      · rw [if_neg (by omega : ¬ (src ≤ src + (j - a) ∧ src + (j - a) < src + n)), if_neg (by simp)]
      · rw [if_neg fun hc => hj hc.1]

theorem memGet_memPut_same : memGet (memPut s a l) a l.length = l := by
  rw [memGet_eq_map (memPut_wf a l h)]
  refine List.ext_getElem (by simp) fun i hi hl => ?_
  rw [List.getElem_map, List.getElem_range', one_mul, memPut_mget h, if_pos (Nat.le_add_right a i), Nat.add_sub_cancel_left]
  simp [hl]

/-- A range reads the same in two states whose bytes agree there. -/
theorem memGet_congr {t : State} (ht : Memory.wf t.mem = true) 
    (heq : ∀ i < n, mget 0 t.mem (b + i) = mget 0 s.mem (a + i)) :
    memGet t b n = memGet s a n := by
  rw [memGet_eq_map h, memGet_eq_map ht]
  refine List.ext_getElem (by simp) fun i hi _ => ?_
  simp only [List.length_map, List.length_range'] at hi
  simpa using heq i hi

end Bytes

/-- Settles O51: a range reads byte by byte what `memPut_mget`, `memClear_mget` and `memCopy_mget` say. -/
theorem memoryReadsBack : Obligations.MemoryReadsBack := by
  intro s a n src l h
  have hput := memPut_wf a l h
  have hclr := memClear_wf a n h
  have hcpy := memCopy_wf src a n h
  refine ⟨⟨memGet_memPut_same h a l, ?_, memGet_congr h _ _ _ hcpy fun i hi => ?_⟩, fun b k hk => memGet_congr h _ _ _ hput fun i hi => ?_,
    fun b k hk => ⟨memGet_congr h _ _ _ hclr fun i hi => ?_, memGet_congr h _ _ _ hcpy fun i hi => ?_⟩, hput, hclr, hcpy, rfl, rfl, rfl⟩
  · rw [memGet_eq_map hclr]
    refine List.ext_getElem (by simp) fun i hi _ => ?_
    simp only [List.length_map, List.length_range'] at hi
    rw [List.getElem_map, List.getElem_range', one_mul, memClear_mget h, if_pos (by omega), List.getElem_replicate]
  · rw [memCopy_mget h, if_pos (by omega), Nat.add_sub_cancel_left]
  · rw [memPut_mget h]
    split_ifs
    · rw [List.getElem?_eq_none (by omega), Option.getD_none]
    · rfl
  · rw [memClear_mget h, if_neg (by omega)]
  · rw [memCopy_mget h, if_neg (by omega)]

end Sys2Proof.Proofs
end

section
/-! The state after power-on (14 R483, 18 R576) and one step of the block. -/
namespace Sys2Proof.Proofs
open Sys2Proof.Machine Sys2Proof.Claims

theorem mem_healthObjs {f : Fuses} {e : Nat × Nat} (h : e ∈ healthObjs f) : ∃ d < 16, e.1 = 0x201001 + d := by
  obtain ⟨d, hd, rfl⟩ := List.mem_map.1 (List.mem_filter.1 h).1
  exact ⟨d, List.mem_range.1 hd, rfl⟩

/-- Objects other than 0x2010 stand at their defaults. -/
theorem getO_reset {i sub : Nat} (hi : i ≠ 0x2010) (hsub : sub < 256) : getO State.reset i sub = defaultOf i sub := by
  refine mget_eq_or_mem.resolve_right fun hm => ?_
  obtain ⟨d, hd, hkey⟩ := mem_healthObjs (f := Fuses.blank) (e := (_, _)) hm
  simp only [okey] at hkey
  omega

/-- The masks of object 0x2010 are those in fuses. -/
theorem getO_reset_health : ∀ d < 16, getO State.reset 0x2010 (d + 1) = State.reset.sec.fuses.health.getD d 0 := by
  decide +kernel

/-- Settles O57: the objects by `getO_reset`, the rest as `State.reset` lists it. -/
theorem resetState : Obligations.ResetState :=
  ⟨rfl, rfl, rfl, rfl, rfl, rfl, fun _ _ => getO_reset, getO_reset_health, fun _ => rfl, fun _ => rfl, fun _ => rfl, rfl, rfl, rfl, rfl,
    rfl, rfl, rfl⟩

/-- Settles O58: the queue's two cases. -/
theorem stepRunsTheFrontCommand : Obligations.StepRunsTheFrontCommand := fun c r s =>
  ⟨rfl, fun h => by rw [step, h]⟩

end Sys2Proof.Proofs
end

section
/-! Memory in its canonical form through every command (06 R205; log entry 19), and that every command has an effect.
One rule for each operation of the model that answers a state: what it gets in canonical form it answers in it. The rules
follow the operations' own text, file by file; `Completes.exec` puts them together. -/
namespace Sys2Proof.Proofs
open Sys2Proof.Machine Sys2Proof.Claims

/-- Where memory is canonical in `s`, it is canonical in `t`. -/
structure KeepsMem (s t : State) : Prop where
  wf : Memory.wf s.mem = true → Memory.wf t.mem = true

/-- The state that a write answers where it succeeds keeps memory canonical. -/
def KeepsOk (s : State) (w : WRes) : Prop := ∀ t, w = .ok t → KeepsMem s t

/-- A command answers a next state, which keeps memory canonical. -/
def Completes (s : State) (o : Out) : Prop := ∃ t, o = .next t ∧ KeepsMem s t

section Rules
variable {s t u : State} {c : Prop} [Decidable c] {β : Type}

protected theorem KeepsMem.refl (s : State) : KeepsMem s s := ⟨id⟩

/-- An update of a state in other fields than its memory. -/
protected theorem KeepsMem.update {pending free now cyc out spad spadLog tickWrites p16Bad obj persist persistLost dev events recovery relum sec
    power lace slots loading parts clusters cores welts weltFlits memSt awls codec ports rdma fab serving routing images imgCmd imgCheck harts ctl}
    (h : KeepsMem s t) : KeepsMem s ⟨pending, free, now, cyc, out, t.mem, spad, spadLog, tickWrites, p16Bad, obj, persist, persistLost, dev,
      events, recovery, relum, sec, power, lace, slots, loading, parts, clusters, cores, welts, weltFlits, memSt, awls, codec, ports, rdma, fab,
      serving, routing, images, imgCmd, imgCheck, harts, ctl⟩ := ⟨h.wf⟩

protected theorem KeepsMem.trans (ht : KeepsMem s t) (hu : KeepsMem t u) : KeepsMem s u := ⟨hu.wf ∘ ht.wf⟩

protected theorem KeepsMem.fresh (h : KeepsMem s t) : KeepsMem s (fresh t).2 := ⟨h.wf⟩

protected theorem KeepsMem.reset : KeepsMem s State.reset := ⟨fun _ => rfl⟩

protected theorem KeepsMem.ite (ht : KeepsMem s t) (hu : KeepsMem s u) : KeepsMem s (if c then t else u) := by
  split
  · exact ht
  · exact hu

protected theorem KeepsMem.iteFst {p q : State × β} (hp : KeepsMem s p.1) (hq : KeepsMem s q.1) : KeepsMem s (if c then p else q).1 := by
  split
  · exact hp
  · exact hq

protected theorem KeepsMem.fst {p : State × β} {b : β} (hp : p = (u, b)) (h : KeepsMem s p.1) : KeepsMem s u := by
  subst hp
  exact h

protected theorem KeepsMem.pair {b : β} (h : KeepsMem s u) : KeepsMem s (u, b).1 := h

protected theorem KeepsMem.foldl {f : State → β → State} (hf : ∀ {u} b, KeepsMem s u → KeepsMem s (f u b)) (l : List β)
    (h : KeepsMem s t) : KeepsMem s (l.foldl f t) :=
  List.foldlRecOn l f (motive := KeepsMem s) h fun _ hu b _ => hf b hu

protected theorem KeepsMem.foldlFst {γ : Type} {f : State × γ → β → State × γ} {r : State × γ}
    (hf : ∀ {u} b, KeepsMem s u.1 → KeepsMem s (f u b).1) (l : List β) (h : KeepsMem s r.1) : KeepsMem s (l.foldl f r).1 :=
  List.foldlRecOn l f (motive := fun r => KeepsMem s r.1) h fun _ hu b _ => hf b hu

protected theorem KeepsOk.ok (h : KeepsMem s t) : KeepsOk s (.ok t) := fun _ hu => Except.ok.inj hu ▸ h

protected theorem KeepsOk.error {n : Nat} : KeepsOk s (.error n) := fun _ hu => nomatch hu

protected theorem KeepsMem.of_eq {w : WRes} (hq : w = .ok t) (hw : KeepsOk s w) : KeepsMem s t := hw t hq

protected theorem KeepsOk.ite {w x : WRes} (hw : KeepsOk s w) (hx : KeepsOk s x) : KeepsOk s (if c then w else x) := by
  split
  · exact hw
  · exact hx

protected theorem KeepsOk.trans {w : WRes} (ht : KeepsMem s t) (hw : KeepsOk t w) : KeepsOk s w := fun u hu => ht.trans (hw u hu)

protected theorem Completes.next (h : KeepsMem s t) : Completes s (.next t) := ⟨t, rfl, h⟩

protected theorem Completes.ite {o p : Out} (ho : Completes s o) (hp : Completes s p) : Completes s (if c then o else p) := by
  split
  · exact ho
  · exact hp

protected theorem Completes.trans {o : Out} (ht : KeepsMem s t) (ho : Completes t o) : Completes s o :=
  ho.imp fun _ hu => ⟨hu.1, ht.trans hu.2⟩

end Rules

/-! ### Ops -/

section Ops
variable {s t : State} (h : KeepsMem s t)
include h

protected theorem KeepsMem.setO {i sub v : Nat} : KeepsMem s (setO t i sub v) := .update h

protected theorem KeepsMem.count {i sub n : Nat} : KeepsMem s (count t i sub n) := .setO h

protected theorem KeepsMem.emit {m : OutMsg} : KeepsMem s (emit t m) := .update h

protected theorem KeepsMem.memPut {a : Nat} {l : List Byte} : KeepsMem s (memPut t a l) := ⟨fun hs => memPut_wf a l (h.wf hs)⟩

protected theorem KeepsMem.setPort {p : Nat} {x : PortSt} : KeepsMem s (setPort t p x) := .update h

protected theorem KeepsMem.modPort {p : Nat} {f : PortSt → PortSt} : KeepsMem s (modPort t p f) := .setPort h

protected theorem KeepsMem.setCl {l : Nat} {x : Cluster} : KeepsMem s (setCl t l x) := .update h

protected theorem KeepsMem.modCl {l : Nat} {f : Cluster → Cluster} : KeepsMem s (modCl t l f) := .setCl h

protected theorem KeepsMem.setCore {l c : Nat} {x : CoreSt} : KeepsMem s (setCore t l c x) := .update h

protected theorem KeepsMem.setAwl {l : Nat} {x : Awl} : KeepsMem s (setAwl t l x) := .update h

protected theorem KeepsMem.setSlot {n : Nat} {x : SlotSt} : KeepsMem s (setSlot t n x) := .update h

protected theorem KeepsMem.setPart {p : Nat} {x : PartRt} : KeepsMem s (setPart t p x) := .update h

protected theorem KeepsMem.setHart {hart : Hart} {x : HartSt} : KeepsMem s (setHart t hart x) := .update h

protected theorem KeepsMem.setCtl {c : Nat} {x : CtlCore} : KeepsMem s (setCtl t c x) := .update h

protected theorem KeepsMem.spadPutCells {cells : List Host.Cell} : KeepsMem s (spadPutCells t cells) := .update h

protected theorem KeepsMem.spadPut {l c a : Nat} {bs : List Byte} : KeepsMem s (spadPut t l c a bs) := .spadPutCells h

protected theorem KeepsMem.spadForget {l : Nat} : KeepsMem s (spadForget t l) := .setCl (.update h)

protected theorem KeepsMem.spadForgetAll : KeepsMem s (spadForgetAll t) := .foldl (fun _ hu => .spadForget hu) _ h

protected theorem KeepsMem.noteWrite {a n : Nat} : KeepsMem s (noteWrite t a n) := .update h

protected theorem KeepsMem.loseTick : KeepsMem s (loseTick t) := .foldl (fun _ hu => .memPut (.fresh hu)) _ (.update h)

protected theorem KeepsMem.setRole {b : Nat} {v : Bool} : KeepsMem s (setRole t b v) := .setO h

protected theorem KeepsMem.sendLace {p : Nat} {w : Word128} : KeepsMem s (sendLace t p w) := .ite (.modPort h) h

protected theorem KeepsMem.flood {w : Word128} {except : Option Nat} : KeepsMem s (flood t w except) :=
  .foldl (fun _ hu => .ite hu (.sendLace hu)) _ h

protected theorem KeepsMem.originate {ty tick phase arg : Nat} : KeepsMem s (originate t ty tick phase arg) := .flood (.update h)

protected theorem KeepsMem.sendMgmt {p : Nat} {body : List Byte} : KeepsMem s (sendMgmt t p body) := .modPort h

protected theorem KeepsMem.mgmtOut {dst mbox flags : Nat} {frame : List Byte} : KeepsMem s (mgmtOut t dst mbox flags frame) := by
  simp only [Machine.mgmtOut]
  split
  · exact h
  · exact .sendMgmt h

end Ops

/-! ### Flags -/

section Flags
variable {s t : State} (h : KeepsMem s t)
include h

protected theorem KeepsMem.ibiFor {code : Nat} : KeepsMem s (ibiFor t code) := .ite (.ite (.update h) (.update h)) h

protected theorem KeepsMem.msixFor {v : Nat} : KeepsMem s (msixFor t v) := .ite h (.ite (.emit (.update h)) (.ite h (.update h)))

protected theorem KeepsMem.notifyFor {code : Nat} : KeepsMem s (notifyFor t code) := .ite (.update (.mgmtOut h)) h

protected theorem KeepsMem.deliverEv {code : Nat} : KeepsMem s (deliverEv t code) :=
  .notifyFor (.ibiFor (.ite (.update (.msixFor h)) (.msixFor h)))

protected theorem KeepsMem.queuePut {r : EvRec} : KeepsMem s (queuePut t r) := .deliverEv (.count (.setO (.memPut h)))

protected theorem KeepsMem.bumpSeq : KeepsMem s (bumpSeq t) := .update h

protected theorem KeepsMem.loseEv {code : Nat} : KeepsMem s (loseEv t code) := .update (.count h)

protected theorem KeepsMem.reportLoss : KeepsMem s (reportLoss t) := .ite h (.queuePut (.bumpSeq (.update h)))

protected theorem KeepsMem.raiseP {code : Nat} {pl : List Byte} {poison : Bool} : KeepsMem s (raiseP t code pl poison) :=
  .ite h (.ite (.ite (.queuePut (.bumpSeq (.reportLoss (.update h)))) (.loseEv (.reportLoss (.update h)))) (.ite (.bumpSeq (.update (.update h)))
    (.loseEv (.update h))))

protected theorem KeepsMem.raise {code : Nat} {pl : List Byte} : KeepsMem s (raise t code pl) := .raiseP h

protected theorem KeepsMem.suppress {code : Nat} : KeepsMem s (suppress t code) := .update h

protected theorem KeepsMem.raiseGap {gap code key : Nat} {pl : List Byte} : KeepsMem s (raiseGap gap t code key pl) :=
  .ite (.suppress h) (.raise (.update h))

protected theorem KeepsMem.raiseMs {code key : Nat} {pl : List Byte} : KeepsMem s (raiseMs t code key pl) := .raiseGap h

protected theorem KeepsMem.raiseSec {code : Nat} {pl : List Byte} : KeepsMem s (raiseSec t code pl) := .raiseGap h

protected theorem KeepsMem.badP16 {path entry lcl group part n : Nat} : KeepsMem s (badP16 t path entry lcl group part n) :=
  .ite h (.update (.count h))

protected theorem KeepsMem.tellP16 : KeepsMem s (tellP16 t) := .foldl (fun _ hu => .raise hu) _ (.update h)

protected theorem KeepsMem.flushHold : KeepsMem s (flushHold t) := .reportLoss (.foldl (fun _ hu => .ite (.queuePut hu) (.loseEv hu)) _ (.update h))

end Flags

/-! ### Volt -/

section Volt
variable {s t : State} (h : KeepsMem s t)
include h

protected theorem KeepsMem.writeVolts {opp : Nat} : KeepsMem s (writeVolts t opp) := .foldl (fun _ hu => .emit (.setO hu)) _ h

protected theorem KeepsMem.dropChange : KeepsMem s (dropChange t) := by
  simp only [Machine.dropChange]
  split
  · exact .ite h (.writeVolts (.update h))
  · exact h

protected theorem KeepsMem.beginChange {b : Nat} : KeepsMem s (beginChange t b) := .ite (.writeVolts (.update h)) (.update h)

end Volt

/-! ### Halt -/

section Halt
variable {s t : State} (h : KeepsMem s t)
include h

protected theorem KeepsMem.setMode {m : DevState} {cause halt : Nat} : KeepsMem s (setMode t m cause halt) :=
  .ite h (.raise (.setO (.update h)))

protected theorem KeepsMem.stopSchedule : KeepsMem s (stopSchedule t) := .update (.loseTick (.spadForgetAll h))

protected theorem KeepsMem.stopAll : KeepsMem s (stopAll t) := .dropChange (.update (.stopSchedule h))

protected theorem KeepsMem.haltWith {ev : State → State} {origin cause tick phase : Nat} (hev : ∀ {u}, KeepsMem s u → KeepsMem s (ev u))
    : KeepsMem s (haltWith ev t origin cause tick phase) :=
  .raise (hev (.count (.ite (.setMode (.update (.ite (.update (.stopAll h)) (.stopAll h)))) (.ite (.update (.stopAll h)) (.stopAll h)))))

protected theorem KeepsMem.haltLocal {origin cause tick phase : Nat} : KeepsMem s (haltLocal t origin cause tick phase) := .haltWith h id

protected theorem KeepsMem.tripHalt {ev : State → State} {cause : Nat} (hev : ∀ {u}, KeepsMem s u → KeepsMem s (ev u))
    : KeepsMem s (tripHalt ev t cause) := .ite h (.haltWith (.originate h) (fun hu => hev hu))

protected theorem KeepsMem.originateHalt {cause : Nat} : KeepsMem s (originateHalt t cause) := .tripHalt h id

protected theorem KeepsMem.logAlarm {source level detail : Nat} : KeepsMem s (logAlarm t source level detail) :=
  .setO (.setO (.setO (.update h)))

protected theorem KeepsMem.memClear {a n : Nat} : KeepsMem s (memClear t a n) := ⟨fun hs => memClear_wf a n (h.wf hs)⟩

protected theorem KeepsMem.stopWork : KeepsMem s (stopWork t) := .update (.setO h)

protected theorem KeepsMem.alarmAction {a : Nat} : KeepsMem s (alarmAction t a) := by
  simp only [Machine.alarmAction]
  split
  · exact .update (.stopAll (.stopWork h))
  · refine .update (.foldl (fun _ hu => ?_) _ h)
    exact .memClear hu
  · exact .update (.memClear h)
  · exact .originate h
  · exact h

protected theorem KeepsMem.alarmActions {lev : Nat} : KeepsMem s (alarmActions t lev) := .ite h (.update (.foldl (fun _ hu => .alarmAction hu) _ h))

protected theorem KeepsMem.alarm {source detail : Nat} : KeepsMem s (alarm t source detail) :=
  .ite (.logAlarm h) (.trans (.ite h (.update h)) (.trans (.ite (.setMode (.update (.alarmActions (.logAlarm (.refl _))))) (.alarmActions
    (.logAlarm (.refl _)))) (.trans (.ite (.raise (.count (.refl _))) (.refl _)) (.ite (.ibiFor (.refl _)) (.raise (.refl _))))))

protected theorem KeepsMem.alarmIf {source detail : Nat} : KeepsMem s (alarmIf t source detail) := .ite (.alarm h) h

protected theorem KeepsMem.violation : KeepsMem s (violation t) := .ite (.alarm (.update (.count h))) (.update (.count h))

end Halt

/-! ### Memory -/

section Memory
variable {s t : State} (h : KeepsMem s t)
include h

protected theorem KeepsMem.pkgPut {a : Nat} {l : List Byte} : KeepsMem s (pkgPut t a l) := .ite h (.memPut h)

protected theorem KeepsMem.putObj {k : Nat} {o : ObjEnt} : KeepsMem s (putObj t k o) := .pkgPut (.update h)

protected theorem KeepsMem.putTile {o : ObjEnt} {t' : Nat} {x : Tile} : KeepsMem s (putTile t o t' x) := .pkgPut (.update h)

protected theorem KeepsMem.startMig {o : ObjEnt} {m : Migration} : KeepsMem s (startMig t o m) := .update (.putTile h)

protected theorem KeepsMem.sweepStep {d high : Nat} {e : Nat × Tile} : KeepsMem s (sweepStep d high t e) := by
  simp only [Machine.sweepStep]
  refine .ite h ?_
  split
  · exact .update h
  · exact .ite (.startMig (.update h)) (.putTile (.update h))

protected theorem KeepsMem.sweepRounds {d n : Nat} : KeepsMem s (sweepRounds d n t) := by
  induction n generalizing t with
  | zero => exact h
  | succ n ih =>
    have hf := KeepsMem.foldl (f := Machine.sweepStep d (getO t 0x4003 3)) (fun _ hu => .sweepStep hu) (sweepOrder t d) h
    exact .ite h (.ite (.ite (.raise hf) (ih (.raise hf))) (.ite hf (ih hf)))

protected theorem KeepsMem.sweepDie {d : Nat} : KeepsMem s (sweepDie t d) := .ite h (.sweepRounds h)

protected theorem KeepsMem.sweepAll : KeepsMem s (sweepAll t) := .foldl (fun _ hu => .sweepDie hu) _ h

protected theorem KeepsMem.touchRead {die : Nat} {o : ObjEnt} {t' : Nat} : KeepsMem s (touchRead t die o t') := by
  simp only [Machine.touchRead]
  refine .ite h (.ite ?_ (.putTile h))
  split
  · exact .putTile h
  · split
    · exact .putTile h
    · exact .sweepDie (.startMig (.putTile h))

protected theorem KeepsMem.markUnhealthy {die pc cause : Nat} : KeepsMem s (markUnhealthy t die pc cause) := .ite h (.raise (.setO h))

protected theorem KeepsMem.uncorrectable {desc a : Nat} : KeepsMem s (uncorrectable t desc a) := by
  simp only [Machine.uncorrectable]
  split
  · exact .trans (.update (.raiseP (.count h))) (.ite (.markUnhealthy (.refl _)) (.refl _))
  · exact .raiseP (.count h)
  · exact .raiseP (.count h)

omit h in
protected theorem KeepsMem.eccStep {desc : Nat} {r : State × Bool} {e : Nat × Nat} (hr : KeepsMem s r.1) : KeepsMem s (eccStep desc r e).1 := by
  simp only [Machine.eccStep]
  split
  · exact .iteFst (.uncorrectable hr) (.count hr)
  · exact .iteFst (.uncorrectable hr) (.count (.update hr))
  · exact .iteFst (.uncorrectable (.count hr)) (.count (.update hr))

protected theorem KeepsMem.ecc {desc a n : Nat} : KeepsMem s (ecc t desc a n).1 := .foldlFst (fun _ hu => .eccStep hu) _ h

protected theorem KeepsMem.eccClear {a n : Nat} : KeepsMem s (eccClear t a n) := .update h

protected theorem KeepsMem.refuse {w : Who} {a reason : Nat} : KeepsMem s (refuse t w a reason) :=
  .ite (.violation (.raiseP (.count h))) (.raiseP (.count h))

protected theorem KeepsMem.breakResv {a n : Nat} : KeepsMem s (breakResv t a n) := .update h

protected theorem KeepsMem.dramPut {a : Nat} {l : List Byte} : KeepsMem s (dramPut t a l) := .ite (.memPut h) (.foldl (fun _ hu => .memPut hu) _ h)

protected theorem KeepsMem.physPut {a : Nat} {l : List Byte} : KeepsMem s (physPut t a l) := by
  simp only [Machine.physPut]
  split
  · exact .spadPut (.eccClear h)
  · exact .ite (.count (.eccClear h)) (.dramPut (.eccClear h))
  · exact .memPut (.breakResv (.eccClear h))
  · exact .memPut (.eccClear h)

protected theorem KeepsMem.cancelMigs {o : ObjEnt} : KeepsMem s (cancelMigs t o) := .foldl (fun _ hu => .putTile hu) _ (.update h)

protected theorem KeepsMem.finishCmd {ring : Bool} {status : Nat} : KeepsMem s (finishCmd t ring status) :=
  .trans (.update (.setO (.pkgPut h))) (.ite (.raise (.count (.refl _))) (.count (.refl _)))

protected theorem KeepsMem.endClass {k : Nat} {o : ObjEnt} {failed : Bool} : KeepsMem s (endClass t k o failed) := by
  simp only [Machine.endClass]
  split
  · exact h
  · exact .ite (.finishCmd (.putObj (.cancelMigs h))) (.ite (.sweepDie (.finishCmd (.putObj h))) (.finishCmd (.putObj h)))

protected theorem KeepsMem.settleClass : KeepsMem s (settleClass t) := by
  simp only [Machine.settleClass]
  split
  · exact .endClass h
  · exact h

protected theorem KeepsMem.abortMig {k : Nat} {o : ObjEnt} {t' : Nat} : KeepsMem s (abortMig t k o t') := by
  simp only [Machine.abortMig]
  split
  · exact h
  · exact .ite (.update (.count h)) (.trans (.putTile (.update (.count h))) (.ite (.endClass (.refl _)) (.ite (.sweepDie (.refl _)) (.refl _))))

protected theorem KeepsMem.touchObj {k : Nat} {o : ObjEnt} : KeepsMem s (touchObj t k o) := .ite h (.putObj h)

protected theorem KeepsMem.pieceGet {w : Who} {a n : Nat} : KeepsMem s (pieceGet t w a n).1 := by
  simp only [Machine.pieceGet]
  split
  · split
    · exact h
    · exact .touchRead (.touchObj (.ecc h))
  · exact .ecc h

protected theorem KeepsMem.placePut {w : Who} {a : Nat} {l : List Byte} : KeepsMem s (placePut t w a l) := by
  simp only [Machine.placePut]
  refine .ite ?_ (.physPut h)
  split
  · exact .noteWrite (.physPut h)
  · exact .noteWrite (.physPut h)
  · exact .physPut h

protected theorem KeepsMem.piecePut {w : Who} {a : Nat} {l : List Byte} : KeepsMem s (piecePut t w a l) := by
  simp only [Machine.piecePut]
  split
  · split
    · exact h
    · exact .touchObj (.abortMig (.ite (.putTile (.placePut h)) (.placePut h)))
  · exact .placePut h

protected theorem KeepsMem.getPieces {w : Who} {l : List (Nat × Nat)} : KeepsMem s (getPieces w l t).1 := by
  induction l generalizing t with
  | nil => exact h
  | cons e r ih => exact ih (.pieceGet h)

protected theorem KeepsMem.putPieces {w : Who} {l : List (Nat × Nat)} {l' : List Byte} : KeepsMem s (putPieces w l l' t) := by
  induction l generalizing t l' with
  | nil => exact h
  | cons e r ih => exact ih (.piecePut h)

protected theorem KeepsMem.getAt {w : Who} {a n : Nat} : KeepsMem s (getAt t w a n).1 := .getPieces h

protected theorem KeepsMem.putAt {w : Who} {a : Nat} {l : List Byte} : KeepsMem s (putAt t w a l) := .putPieces h

protected theorem KeepsMem.readAt {w : Who} {a n : Nat} : KeepsMem s (readAt t w a n).1 := by
  simp only [Machine.readAt]
  split
  · exact .refuse h
  · exact .getAt h

protected theorem KeepsMem.writeAt {w : Who} {a : Nat} {l : List Byte} : KeepsMem s (writeAt t w a l).1 := by
  simp only [Machine.writeAt]
  split
  · exact .refuse h
  · exact .putAt h

end Memory

/-! ### FabCore -/

section FabCore
variable {s t : State} (h : KeepsMem s t)
include h

protected theorem KeepsMem.bumpInc {agent thread : Nat} : KeepsMem s (bumpInc t agent thread) := .update h

protected theorem KeepsMem.enqueueFab {p : Nat} {k : Pkt} : KeepsMem s (enqueueFab t p k) := by
  simp only [Machine.enqueueFab]
  refine .ite (.setPort h) ?_
  split
  · exact .setPort h
  · exact .ite (.setPort h) (.ite (.setPort h) (.update (.count (.setPort h))))

protected theorem KeepsMem.unreachable {node cause : Nat} : KeepsMem s (unreachable t node cause) := .raiseMs (.count h)

protected theorem KeepsMem.sendResp {r : Pkt} : KeepsMem s (sendResp t r) := by
  simp only [Machine.sendResp]
  refine .ite (.update h) ?_
  split
  · exact .enqueueFab h
  · exact h

protected theorem KeepsMem.queueReq {port : Option Nat} {p : Pkt} : KeepsMem s (queueReq t port p) := .update h

protected theorem KeepsMem.sendReq {p : Pkt} : KeepsMem s (sendReq t p) := by
  simp only [Machine.sendReq]
  refine .ite (.queueReq h) (.ite (.update h) ?_)
  split
  · exact .ite (.sendResp (.count h)) (.enqueueFab h)
  · exact .sendResp (.unreachable h)

protected theorem KeepsMem.launch {sink : Sink} {p : Pkt} : KeepsMem s (launch t sink p) := .sendReq (.count (.update h))

protected theorem KeepsMem.issueDone {st : Nat} : KeepsMem s (issueDone t st) := .ite (.violation h) (.ite (.count h) h)

protected theorem KeepsMem.stall {sink : Sink} {p : Pkt} : KeepsMem s (stall t sink p) := .update h

protected theorem KeepsMem.sendOrStall {sink : Sink} {p : Pkt} : KeepsMem s (sendOrStall t sink p) :=
  .ite (.launch h) (.ite (.stall h) (.raiseMs (.count (.stall h))))

protected theorem KeepsMem.issue {secure : Bool} {a op size8 agent thread lease mask : Nat} {data : List Byte} {sink : Sink}
    : KeepsMem s (issue t secure a op size8 agent thread lease mask data sink).1 := by
  simp only [Machine.issue]
  split
  · exact .issueDone h
  · exact .sendOrStall h

protected theorem KeepsMem.unstall {sink : Sink} : KeepsMem s (unstall t sink) := by
  simp only [Machine.unstall]
  split
  · exact .setHart h
  · split
    · exact .setHart h
    · exact .setHart h
    · exact h
  · exact h

protected theorem KeepsMem.resume : KeepsMem s (resume t) := by
  simp only [Machine.resume]
  split
  · exact h
  · exact .unstall (.launch (.update h))

protected theorem KeepsMem.freeTag {t' : Nat} : KeepsMem s (freeTag t t') := .resume (.update h)

protected theorem KeepsMem.giveCredit {p ch : Nat} : KeepsMem s (giveCredit t p ch) := .modPort h

end FabCore

/-! ### ObjCmds -/

section ObjCmds
variable {s t : State} (h : KeepsMem s t)
include h

protected theorem KeepsMem.memCopy {src dst n : Nat} : KeepsMem s (memCopy t src dst n) := ⟨fun hs => memCopy_wf src dst n (h.wf hs)⟩

protected theorem KeepsMem.dropCopy {o : ObjEnt} {t' : Nat} : KeepsMem s (dropCopy t o t') :=
  .ite h (.count (.putTile (.update (.ite (.count (.eccClear (.memCopy (.ecc h)))) h))))

protected theorem KeepsMem.placeCopy {o : ObjEnt} {t' d n : Nat} : KeepsMem s (placeCopy t o t' d n) :=
  .trans (.eccClear (.memCopy (.ecc h))) (.putTile (.ite (.refl _) (.count (.refl _))))

protected theorem KeepsMem.makeRoom {o : ObjEnt} {die need : Nat} : KeepsMem s (makeRoom t o die need) := by
  simp only [Machine.makeRoom]
  refine .foldl (fun _ hu => ?_) _ h
  refine .ite hu ?_
  split
  · exact .dropCopy hu
  · exact hu

protected theorem KeepsMem.startClass {k : Nat} {o : ObjEnt} {cls die : Nat} : KeepsMem s (startClass t k o cls die) :=
  .putObj (.ite (.foldl (fun _ hu => .startMig hu) _ (.makeRoom (.cancelMigs h))) (.ite (.foldl (fun _ hu => .startMig hu) _ (.cancelMigs h))
    (.cancelMigs h)))

protected theorem KeepsMem.changeNow {k : Nat} {o : ObjEnt} {cls die : Nat} : KeepsMem s (changeNow t k o cls die) :=
  .trans (.ite (.foldl (fun _ hu => .placeCopy hu) _ (.makeRoom (.cancelMigs h))) (.ite (.foldl (fun _ hu => .dropCopy hu) _ (.cancelMigs h))
    (.cancelMigs h)))
    (.ite (.sweepDie (.putObj (.refl _))) (.putObj (.refl _)))

protected theorem KeepsMem.destroyObj {k : Nat} {o : ObjEnt} : KeepsMem s (destroyObj t k o) := .putObj (.pkgPut (.update h))

protected theorem KeepsMem.createObj {id base len die flags part region : Nat} : KeepsMem s (createObj t id base len die flags part region).1 :=
  .putObj (.memClear h)

protected theorem KeepsOk.wDoorbell {ring : Bool} {v : Nat} : KeepsOk s (wDoorbell t ring v) := .ite .error (.ok (.update h))

protected theorem KeepsMem.doCreate {ring : Bool} : KeepsMem s (doCreate t ring) :=
  .ite (.finishCmd h) (.ite (.update (.startClass (.createObj h))) (.finishCmd (.putObj (.createObj h))))

protected theorem Completes.runHead {ring : Bool} {op : Nat} {f : State → State} (hf : ∀ {u}, KeepsMem s u → KeepsMem s (f u))
    : Completes s (runHead t ring op f) :=
  .ite (.next h) (.ite (.next (.finishCmd h)) (.ite (.next (hf h)) (.next h)))

protected theorem Completes.execObjCreate {ring : Bool} : Completes s (execObjCreate ring t) := .runHead h (fun hu => .doCreate hu)

protected theorem KeepsMem.doSetclass {ring : Bool} : KeepsMem s (doSetclass t ring) := by
  simp only [Machine.doSetclass]
  split
  · exact .finishCmd h
  · split
    · exact h
    · exact .ite (.finishCmd h) (.ite (.finishCmd h) (.ite (.finishCmd (.putObj (.cancelMigs h))) (.ite (.update (.startClass h)) (.finishCmd
        (.putObj (.startClass h))))))

protected theorem Completes.execObjSetclass {ring : Bool} : Completes s (execObjSetclass ring t) := .runHead h (fun hu => .doSetclass hu)

protected theorem KeepsMem.doDestroy {ring : Bool} : KeepsMem s (doDestroy t ring) := by
  simp only [Machine.doDestroy]
  split
  · exact .finishCmd h
  · split
    · exact h
    · exact .ite (.finishCmd h) (.finishCmd (.destroyObj h))

protected theorem Completes.execObjDestroy {ring : Bool} : Completes s (execObjDestroy ring t) := .runHead h (fun hu => .doDestroy hu)

protected theorem KeepsMem.wTablePlace {sub v : Nat} : KeepsMem s (wTablePlace t sub v) :=
  .ite (.setO h) (.foldl (fun _ hu => .putObj hu) _ (.memClear (.setO h)))

protected theorem KeepsMem.moveUnits {w : Who} {o : ObjEnt} {out : Bool} {n m k : Nat} : KeepsMem s (moveUnits w o out n m k t).1 := by
  induction n generalizing t m k with
  | zero => exact h
  | succ n ih =>
    simp only [Machine.moveUnits]
    refine .iteFst ?_ ?_
    · split
      · exact .refuse h
      · exact ih (.putAt (.getAt h))
    · split
      · exact .refuse h
      · exact ih (.putAt (.getAt h))

protected theorem KeepsMem.issueUnit {o : ObjEnt} {w : Who} {out : Bool} {off m n : Nat} : KeepsMem s (issueUnit o w out off m n t) := by
  induction n with
  | zero => exact h
  | succ n ih =>
    simp only [Machine.issueUnit]
    split
    · exact .iteFst (.issue (.getAt ih)) (.issue ih)
    · exact .update (.iteFst (.issue (.getAt ih)) (.issue ih))

protected theorem KeepsMem.stepCopy {ring out : Bool} : KeepsMem s (stepCopy t ring out) := by
  simp only [Machine.stepCopy]
  split
  · exact h
  · refine .ite h (.ite (.finishCmd h) (.ite (.finishCmd h) ?_))
    split
    · exact .finishCmd h
    · exact .issueUnit (.update h)

protected theorem KeepsMem.doCopy {ring out : Bool} : KeepsMem s (doCopy t ring out) := by
  simp only [Machine.doCopy]
  split
  · exact .finishCmd h
  · split
    · exact h
    · exact .ite (.finishCmd h) (.ite (.finishCmd h) (.ite (.finishCmd h) (.ite (.stepCopy (.update h)) (.finishCmd (.moveUnits h)))))

protected theorem Completes.runCopy {ring : Bool} {op : Nat} {out : Bool} : Completes s (runCopy t ring op out) := by
  simp only [Machine.runCopy]
  split
  · exact .ite (.next (.stepCopy h)) (.next h)
  · refine .runHead h (fun hu => ?_)
    exact .doCopy hu

protected theorem KeepsMem.objCmdLine {dst status : Nat} {line : List Byte} : KeepsMem s (objCmdLine t dst status line) := by
  simp only [Machine.objCmdLine]
  split
  · exact h
  · exact .ite (.putAt (.update h)) (.update h)

protected theorem Completes.execMigrationComplete {tile : Nat} : Completes s (execMigrationComplete tile t) := by
  simp only [Machine.execMigrationComplete]
  split
  · refine .ite (.next h) (.trans ?_ (.next (.ite (.settleClass (.refl _)) (.refl _))))
    split
    · exact .placeCopy (.update h)
    · exact .dropCopy (.update h)
  · exact .next h

protected theorem Completes.execTileAccess {t' : TileReq} : Completes s (execTileAccess t' t) := by
  simp only [Machine.execTileAccess]
  split
  · split
    · exact .next (.writeAt h)
    · exact .next (.emit (.readAt h))
  · exact .next h

protected theorem Completes.execScrub {die : Fin 16} : Completes s (execScrub die t) :=
  .ite (.next h) (.trans (.ite (.update h) h) (.ite (.next (.refl _)) (.next (.ecc (.update (.refl _))))))

protected theorem KeepsMem.clearTiles {copies : SMap Tile} {hit : Migration → Bool} : KeepsMem s (clearTiles t copies hit) := by
  simp only [Machine.clearTiles]
  refine .settleClass (.foldl (fun _ hu => ?_) _ (.update (.foldl (fun _ hu => ?_) _ h)))
  · split
    · exact .putTile hu
    · exact hu
  · split
    · exact .dropCopy hu
    · exact hu

protected theorem KeepsMem.freeGained {die v : Nat} : KeepsMem s (freeGained t die v) := .clearTiles h

protected theorem KeepsOk.wLastStore {die v : Nat} : KeepsOk s (wLastStore t die v) :=
  .ite .error (.ite .error (.ok (.sweepDie (.setO (.freeGained h)))))

end ObjCmds

/-! ### Codec -/

section Codec
variable {s t : State} (h : KeepsMem s t)
include h

protected theorem KeepsMem.countEnc {how len line : Nat} : KeepsMem s (countEnc t how len line) :=
  .trans (.ite (.count h) (.ite (.count h) (.count h))) (.count (.ite (.count (.refl _)) (.refl _)))

protected theorem KeepsMem.encodeGroups {port : Option Nat} {line bit n : Nat} {l : List Byte}
    : KeepsMem s (encodeGroups port line bit n l t).1 := by
  induction n generalizing t l with
  | zero => exact h
  | succ n ih => exact ih (.countEnc h)

protected theorem KeepsMem.decodeOne {f : List Byte} : KeepsMem s (decodeOne t f).1 := by
  simp only [Machine.decodeOne]
  split
  · exact h
  · exact .count h

protected theorem KeepsMem.decodeStream {n : Nat} {l : List Byte} : KeepsMem s (decodeStream n l t).1 := by
  induction n generalizing t l with
  | zero => exact h
  | succ n ih => exact ih (.decodeOne h)

protected theorem KeepsMem.setStaging {m : List Nat} {k : Nat} : KeepsMem s (setStaging t m k) := .setO (.foldl (fun _ hu => .setO hu) _ h)

protected theorem KeepsMem.startBuild {source fail : Nat} {sample : List Byte} : KeepsMem s (startBuild t source fail sample) := .update h

protected theorem KeepsOk.wTable {c : Nat} : KeepsOk s (wTable t c) := by
  simp only [Machine.wTable]
  refine .ite .error (.ite .error ?_)
  split
  · exact .ok (.startBuild h)
  · split <;> exact .ok (.startBuild h)
  · exact .ok (.update h)
  · exact .ite (.ok (.setO (.update h))) .error
  · exact .error

protected theorem KeepsMem.finishBuild : KeepsMem s (finishBuild t) := by
  simp only [Machine.finishBuild]
  split
  · exact .ite (.raise (.count (.setO (.setStaging (.update (.setO (.update h))))))) (.raise (.update (.setO (.update h))))
  · exact h

end Codec

/-! ### Sched -/

section Sched
variable {s t : State} (h : KeepsMem s t)
include h

protected theorem KeepsMem.sbSet {l c b : Nat} {v : Bool} : KeepsMem s (sbSet t l c b v) := .setCl h

protected theorem KeepsMem.arrive {l c b : Nat} : KeepsMem s (arrive t l c b) := .ite (.raise (.count h)) (.sbSet h)

protected theorem KeepsMem.startTimer {k : Nat} : KeepsMem s (startTimer t k) := .ite (.update h) h

end Sched

/-! ### Links -/

section Links
variable {s t : State} (h : KeepsMem s t)
include h

protected theorem KeepsMem.sendLine {p : Nat} {x : PortSt} {f : Flit} {replay : Bool} : KeepsMem s (sendLine t p x f replay) :=
  .emit (.setPort h)

protected theorem KeepsMem.sendCtl {p : Nat} {w : Word128} : KeepsMem s (sendCtl t p w) := .modPort h

protected theorem KeepsMem.reroute {k : Pkt} : KeepsMem s (reroute t k) := by
  simp only [Machine.reroute]
  refine .ite (.sendResp h) ?_
  split
  · exact .enqueueFab h
  · exact .sendResp (.unreachable h)

protected theorem KeepsMem.rerouteMgmt {b : List Byte} : KeepsMem s (rerouteMgmt t b) := by
  simp only [Machine.rerouteMgmt]
  split
  · exact .sendMgmt h
  · exact h

protected theorem KeepsMem.takeBack {p : Nat} {x : PortSt} {event : Bool} : KeepsMem s (takeBack t p x event) :=
  .trans (.foldl (fun _ hu => .rerouteMgmt hu) _ (.foldl (fun _ hu => .reroute hu) _ (.foldl (fun _ hu => .sendResp (.count hu)) _ (.update h))))
    (.ite (.raise (.refl _)) (.refl _))

protected theorem KeepsMem.losePort {p cause : Nat} : KeepsMem s (losePort t p cause) :=
  .ite h (.startTimer (.takeBack (.raise (.count (.sendLine h)))))

protected theorem KeepsMem.trackBlock {p : Nat} {good fixed : Bool} : KeepsMem s (trackBlock t p good fixed) :=
  .trans (.ite (.count (.setPort h)) (.setPort h)) (.trans (.ite (.refl _) (.count (.refl _))) (.ite (.refl _) (.ite (.losePort (.refl _)) (.ite
    (.losePort (.refl _)) (.refl _)))))

protected theorem KeepsMem.rxBlock {p : Nat} {bytes : List Byte} : KeepsMem s (rxBlock t p bytes).1 :=
  .iteFst h (.iteFst (.trackBlock h) (.iteFst (.trackBlock h) (.iteFst (.iteFst (.setPort (.trackBlock h)) (.trackBlock h)) (.iteFst
    (.trackBlock h) (.iteFst (.trackBlock h) (.setPort (.trackBlock h)))))))

protected theorem KeepsMem.ackPort {p seq : Nat} : KeepsMem s (ackPort t p seq) := .ite h (.setPort h)

protected theorem KeepsMem.nakPort {p seq : Nat} : KeepsMem s (nakPort t p seq) := by
  simp only [Machine.nakPort]
  refine .ite h ?_
  split
  · exact .count h
  · exact .ite (.losePort (.count h)) (.modPort (.count h))

protected theorem KeepsMem.creditPort {p ch n : Nat} : KeepsMem s (creditPort t p ch n) :=
  .ite h (.ite (.setPort h) (.ite (.setPort h) h))

protected theorem KeepsMem.probePort {p : Nat} {w : Word128} {eighth : Nat} : KeepsMem s (probePort t p w eighth) := .ite (.sendCtl h) h

protected theorem KeepsMem.measure {p rtt : Nat} : KeepsMem s (measure t p rtt) :=
  .trans (.ite (.raise (.setPort h)) (.setPort h)) (.ite (.losePort (.refl _)) (.refl _))

protected theorem KeepsMem.probeReplyPort {p : Nat} {w : Word128} {eighth : Nat} : KeepsMem s (probeReplyPort t p w eighth) :=
  .ite (.ite (.setPort h) h) (.ite (.measure h) h)

protected theorem Completes.execProbeReplyWord {port : Port} {word : Word128} {eighth : Nat}
    : Completes s (execProbeReplyWord port word eighth t) :=
  .next (.probeReplyPort h)

protected theorem KeepsMem.identPort {p : Nat} {w : Word128} : KeepsMem s (identPort t p w) := .ite h (.setPort h)

protected theorem KeepsMem.discardEv {p hart reason : Nat} : KeepsMem s (discardEv t p hart reason) :=
  .ite (.suppress h) (.raise (.setPort h))

protected theorem KeepsMem.schedHead {p : Nat} {body : List Byte} : KeepsMem s (schedHead t p body) :=
  .ite h (.ite (.modPort h) (.discardEv (.modPort h)))

protected theorem KeepsMem.lateEv {p hart now : Nat} : KeepsMem s (lateEv t p hart now) :=
  .ite (.suppress (.count h)) (.raise (.setPort (.count h)))

protected theorem KeepsMem.schedData {p : Nat} {body : List Byte} {last : Bool} : KeepsMem s (schedData t p body last) := by
  simp only [Machine.schedData]
  refine .ite h ?_
  split
  · exact .discardEv h
  · exact .ite (.lateEv (.setPort h)) (.setPort h)

protected theorem KeepsMem.putGroups {p : Nat} {r : RxTransfer} : KeepsMem s (putGroups t p r) := by
  simp only [Machine.putGroups]
  refine .spadPut ?_
  split
  · exact .raise (.decodeStream h)
  · exact .decodeStream h

protected theorem KeepsMem.landRx {p : Nat} {r : RxTransfer} : KeepsMem s (landRx p t r).1 := .iteFst h (.spadPut h)

protected theorem KeepsMem.landPort {p : Nat} : KeepsMem s (landPort t p) := by
  simp only [Machine.landPort]
  refine .modPort (.foldlFst (r := (_, _)) (fun _ hu => ?_) _ h)
  exact .landRx hu

protected theorem KeepsMem.landAll : KeepsMem s (landAll t) := .foldl (fun _ hu => .ite hu (.landPort hu)) _ h

protected theorem KeepsMem.releaseTransfer {p : Nat} : KeepsMem s (releaseTransfer t p) := by
  simp only [Machine.releaseTransfer]
  split
  · exact .ite (.ite (.modPort (.landPort h)) (.arrive (.ite (.putGroups (.modPort (.landPort h))) (.modPort (.landPort h))))) (.landPort h)
  · exact .landPort h

protected theorem KeepsMem.switchPorts : KeepsMem s (switchPorts t) := .ite h (.foldl (fun _ hu => .takeBack (.setPort hu)) _ (.setRole h))

protected theorem KeepsMem.beginTraining {p : Nat} : KeepsMem s (beginTraining t p) :=
  .trans (.ite (.switchPorts h) h) (.ite (.setPort (.refl _)) (.setPort (.fresh (.refl _))))

protected theorem KeepsMem.tryTraining {p : Nat} : KeepsMem s (tryTraining t p) := .ite (.beginTraining h) (.setPort h)

protected theorem KeepsMem.trainFails {p step cause : Nat} : KeepsMem s (trainFails t p step cause) := .raise (.setPort h)

protected theorem KeepsMem.trainIdent {p : Nat} {body : List Byte} : KeepsMem s (trainIdent t p body) :=
  .ite h (.ite (.trainFails h) (.setPort h))

protected theorem KeepsMem.trained {p : Nat} {res : TrainIn} : KeepsMem s (trained t p res) := by
  simp only [Machine.trained]
  split
  · exact .trainFails h
  · refine .ite (.trainFails h) (.ite (.trainFails h) ?_)
    split
    · exact .trainFails h
    · exact .ite (.trainFails h) (.raise (.setPort h))

protected theorem KeepsMem.trainPort {p : Nat} {res : TrainIn} : KeepsMem s (trainPort t p res) := .ite (.trained h) h

protected theorem KeepsOk.wPortCmd {p v : Nat} : KeepsOk s (wPortCmd t p v) :=
  .ite .error (.ite .error (.ite (.ok (.tryTraining (.takeBack (.setPort h)))) (.ok (.takeBack (.setPort h)))))

protected theorem KeepsMem.portsDown : KeepsMem s (portsDown t) := .update (.foldl (fun _ hu => .setPort hu) _ h)

protected theorem KeepsMem.sendSeq {p : Nat} {x : PortSt} {f : Flit} : KeepsMem s (sendSeq t p x f) := .ite (.losePort h) (.sendLine h)

protected theorem KeepsMem.sendLaceFlit {p : Nat} {x : PortSt} : KeepsMem s (sendLaceFlit t p x) := .sendSeq (.fresh h)

protected theorem KeepsMem.sendCtlFlit {p : Nat} {x : PortSt} : KeepsMem s (sendCtlFlit t p x) := .sendLine (.fresh h)

protected theorem KeepsMem.trainBoundary {p : Nat} {x : PortSt} : KeepsMem s (trainBoundary t p x) :=
  .ite h (.ite (.sendCtlFlit h) (.ite (.sendCtlFlit h) (.sendLine h)))

protected theorem KeepsMem.blockBoundary {p : Nat} : KeepsMem s (blockBoundary t p) := by
  simp only [Machine.blockBoundary]
  refine .ite (.trainBoundary h) (.ite (.sendLine h) (.ite h ?_))
  split
  · exact .sendLine (.count h)
  · refine .ite (.sendLaceFlit h) (.ite (.sendCtlFlit h) ?_)
    split
    · exact .sendSeq h
    · split
      · exact .sendSeq h
      · exact .sendSeq h
      · exact .ite (.sendSeq h) (.sendSeq h)
      · exact .sendLine h

end Links

/-! ### Schedule -/

section Schedule
variable {s t : State} (h : KeepsMem s t)
include h

protected theorem KeepsMem.castVotes : KeepsMem s (castVotes t) := .ite h (.update (.originate h))

protected theorem KeepsMem.beginHold {l core bit pt : Nat} : KeepsMem s (beginHold t l core bit pt) :=
  .ite h (.ite (.count (.setCl h)) (.raise (.count (.setCl h))))

protected theorem KeepsMem.takeCycle {l : Nat} {im : Image} {pt : Nat} : KeepsMem s (takeCycle t l im pt).1 := by
  simp only [Machine.takeCycle]
  refine .iteFst h (.iteFst (.beginHold h) ?_)
  split
  · exact .beginHold h
  · exact .setCl h

protected theorem KeepsMem.atCycle {l pt c : Nat} : KeepsMem s (atCycle t l pt c).1 := by
  simp only [Machine.atCycle]
  split
  · exact h
  · exact .iteFst (.takeCycle h) h

end Schedule

/-! ### Engine -/

section Engine
variable {s t : State} (h : KeepsMem s t)
include h

protected theorem KeepsMem.countRes {l core ix tick : Nat} {told : List Nat} {r : OpResult} : KeepsMem s (countRes t l core ix tick told r).1 :=
  .foldl (fun _ hu => .raise hu) _ (.count (.count (.count (.count (.count h)))))

protected theorem KeepsMem.flagRow {l core : Nat} {im : Image} {f : InFlight} {site : Nat} {r : RowRep}
    : KeepsMem s (flagRow l core im f site t r) := by
  simp only [Machine.flagRow]
  split
  · exact h
  · exact .ite h (.modCl (.noteWrite (.physPut (.count h))))

protected theorem KeepsMem.flagRows {l core : Nat} {im : Image} {f : InFlight} {rows : List RowRep} : KeepsMem s (flagRows t l core im f rows) := by
  simp only [Machine.flagRows]
  refine .setCore ?_
  split
  · exact h
  · refine .foldl (fun _ hu => ?_) _ h
    exact .flagRow hu

protected theorem KeepsMem.resultCells {cells : List Host.Cell} : KeepsMem s (resultCells t cells).1 := .iteFst (.fresh h) h

protected theorem KeepsMem.writePieces {l c t' : Nat} {f : InFlight} : KeepsMem s (writePieces t l c t' f) :=
  .foldl (fun _ hu => .spadPutCells (.resultCells hu)) _ h

protected theorem KeepsMem.trimLog {l c : Nat} : KeepsMem s (trimLog t l c) := .update h

protected theorem KeepsMem.writeDue {l c : Nat} : KeepsMem s (writeDue t l c) := .setCore (.foldl (fun _ hu => .ite (.writePieces hu) hu) _ h)

protected theorem KeepsMem.commit {l core : Nat} {im : Image} {f : InFlight} : KeepsMem s (commit t l core im f) :=
  .trimLog (.flagRows (.setCore (.countRes (.writePieces h))))

protected theorem KeepsMem.commitDue {l core : Nat} {im : Image} : KeepsMem s (commitDue t l core im) := .foldl (fun _ hu => .commit hu) _ h

protected theorem Completes.execOperationComplete {core : CoreRef} {ix : Nat} : Completes s (execOperationComplete core ix t) := by
  simp only [Machine.execOperationComplete]
  split
  · exact .ite (.next (.commit h)) (.next h)
  · exact .next h

protected theorem KeepsMem.coreEcc {l c : Nat} {rs : List (Nat × Nat)} : KeepsMem s (coreEcc t l c rs) := .foldl (fun _ hu => .ecc hu) _ h

protected theorem KeepsMem.readUnits {n m k : Nat} {x : InFlight} : KeepsMem s (readUnits n m k x t).1 := by
  induction n generalizing t m k x with
  | zero => exact h
  | succ n ih =>
    simp only [Machine.readUnits]
    refine .iteFst h (ih (.coreEcc ?_))
    split
    · exact .sbSet h
    · exact h

protected theorem KeepsMem.ringStep {l c : Nat} : KeepsMem s (ringStep t l c) := by
  refine .foldl (fun f hu => ?_) _ h
  refine .ite hu ?_
  exact KeepsMem.setCore (.readUnits (n := 128) (x := f) hu)

protected theorem KeepsMem.startReads {l c : Nat} {f : InFlight} : KeepsMem s (startReads t l c f).1 := .readUnits (.coreEcc h)

protected theorem KeepsMem.occupy {l c : Nat} {w : Word128} {descs : SMap Nat} : KeepsMem s (occupy t l c w descs) :=
  .ite (.modCl (.setCore h)) (.setCore h)

protected theorem KeepsMem.unwritten {l c ix d : Nat} : KeepsMem s (unwritten t l c ix d) :=
  .ite (.suppress (.count h)) (.raise (.setCore (.count h)))

protected theorem KeepsMem.issueOp {l c : Nat} {im : Image} {pt ix : Nat} {w : Word128} : KeepsMem s (issueOp t l c im pt ix w) := by
  simp only [Machine.issueOp]
  split
  · exact .unwritten (.occupy h)
  · exact .setCore (.startReads (.update (.ite (.count (.count (.occupy (.count h)))) (.occupy (.count h)))))

protected theorem KeepsMem.badWord {l c ix : Nat} {w : Word128} : KeepsMem s (badWord t l c ix w) := .raise (.count (.setCore h))

protected theorem KeepsMem.sequencer {core : CoreRef} {ix : Nat} {w : Word128} {ok : Bool} {act : State → Nat → Image → State}
    (hact : ∀ {u} {x0} {x1}, KeepsMem s u → KeepsMem s (act u x0 x1)) : KeepsMem s (sequencer t core ix w ok act) := by
  simp only [Machine.sequencer]
  split
  · exact h
  · split
    · exact h
    · exact .ite h (.ite (.badWord h) (.ite h (.ite (.commitDue (.ite (.ringStep (.takeCycle h)) (.takeCycle h))) (hact (.setCore (.ite (.sbSet
        (.commitDue (.ite (.ringStep (.takeCycle h)) (.takeCycle h)))) (.commitDue (.ite (.ringStep (.takeCycle h)) (.takeCycle h)))))))))

protected theorem Completes.seqOp {core : CoreRef} {ix : Nat} {w : Word128} {ok : Bool} : Completes s (seqOp t core ix w ok) :=
  .next (.sequencer h (fun hu => .issueOp hu))

protected theorem Completes.execOpNop {core : CoreRef} {ix : Nat} {w : Word128} : Completes s (execOpNop core ix w t) :=
  .next (.sequencer h (fun hu => .count hu))

protected theorem Completes.execSetdesc {core : CoreRef} {ix : Nat} {w : Word128} : Completes s (execSetdesc core ix w t) :=
  .next (.sequencer h (fun hu => .setCore (.count hu)))

protected theorem Completes.execArrival {core : CoreRef} {bit : Nat} : Completes s (execArrival core bit t) := by
  simp only [Machine.execArrival]
  split
  · exact .ite (.next (.takeCycle (.arrive h))) (.next (.arrive h))
  · exact .next (.arrive h)

protected theorem KeepsMem.setResole {l : Nat} {r : Resole} : KeepsMem s (setResole t l r) := .modCl h

protected theorem KeepsMem.nextResole {l : Nat} {im : Image} : KeepsMem s (nextResole t l im) := by
  simp only [Machine.nextResole]
  split
  · exact h
  · split
    · exact h
    · exact .ite (.setResole (.ite (.count h) h)) (.setResole h)

protected theorem KeepsMem.openWindow {l : Nat} {im : Image} {w : Nat} : KeepsMem s (openWindow t l im w) := .nextResole (.setResole h)

protected theorem Completes.execResoleWindowOpen {lcl : Lcl} : Completes s (execResoleWindowOpen lcl t) := by
  simp only [Machine.execResoleWindowOpen]
  split
  · exact .next h
  · split
    · exact .next h
    · split
      next u _ hq =>
        have hu : KeepsMem s u := .fst hq (.atCycle h)
        exact .ite (.next hu) (.next (.openWindow hu))
      next u hq =>
        have hu : KeepsMem s u := .fst hq (.atCycle h)
        exact .next hu

protected theorem KeepsMem.wideEcc {o : ObjEnt} {fmt u : Nat} : KeepsMem s (wideEcc t o fmt u) := .ecc (.ecc h)

protected theorem KeepsMem.resoleEcc {im : Image} {rc : Nat} {f : Machine.Flag} {lev : Nat} {a : Mm} : KeepsMem s (resoleEcc t im rc f lev a) := by
  simp only [Machine.resoleEcc]
  split
  · refine .foldl (fun _ hu => ?_) _ (.ecc h)
    exact .wideEcc hu
  · exact .ecc h

protected theorem KeepsMem.recompute {l p : Nat} {im : Image} {f : Machine.Flag} {lev : Nat} : KeepsMem s (recompute t l p im f lev) := by
  simp only [Machine.recompute]
  split
  · exact h
  · split
    · exact .resoleEcc h
    · exact .count (.setCore (.countRes (.spadPutCells (.resoleEcc h))))

protected theorem KeepsMem.endWork {l p : Nat} {im : Image} : KeepsMem s (endWork t l p im) := by
  simp only [Machine.endWork]
  split
  · exact h
  · exact .nextResole (.modCl (.recompute h))

protected theorem Completes.execResoleRecomputationDone {lcl : Lcl} : Completes s (execResoleRecomputationDone lcl t) := by
  simp only [Machine.execResoleRecomputationDone]
  split
  · exact .ite (.next (.endWork h)) (.next h)
  · exact .next h

protected theorem KeepsMem.undoneEvent {im : Image} {k : Nat} {fs : List Machine.Flag} : KeepsMem s (undoneEvent t im k fs) := .raise h

protected theorem KeepsMem.closeWindow {l : Nat} {im : Image} : KeepsMem s (closeWindow t l im) := by
  simp only [Machine.closeWindow]
  split
  · exact h
  · refine .foldl (fun _ hu => ?_) _ (.count (.setResole h))
    exact .undoneEvent hu

protected theorem Completes.execResoleWindowClose {lcl : Lcl} : Completes s (execResoleWindowClose lcl t) := by
  simp only [Machine.execResoleWindowClose]
  split
  · refine .ite (.next h) (.next (.closeWindow ?_))
    split
    · exact .ite (.endWork h) h
    · exact h
  · exact .next h

protected theorem KeepsMem.xferBytes {ix e : Nat} : KeepsMem s (xferBytes t ix e).1 :=
  .iteFst (.ite (.raise (.encodeGroups (.ecc h))) (.encodeGroups (.ecc h))) (.ecc h)

protected theorem KeepsMem.sendTransfer {ix e : Nat} : KeepsMem s (sendTransfer t ix e) := .setPort (.xferBytes h)

protected theorem KeepsMem.startTransfer {ix e : Nat} : KeepsMem s (startTransfer t ix e) := .ite (.setPort h) (.sendTransfer h)

protected theorem KeepsMem.lateTransfers {l : Nat} : KeepsMem s (lateTransfers t l) := by
  simp only [Machine.lateTransfers]
  refine .foldl (fun _ hu => ?_) _ h
  split
  · exact .ite (.sendTransfer (.modPort hu)) hu
  · exact hu

protected theorem Completes.execTransferStart {part : Part} {ix : Nat} : Completes s (execTransferStart part ix t) := by
  simp only [Machine.execTransferStart]
  split
  · exact .next h
  · split
    · exact .next h
    · refine .ite ?_ (.next h)
      split
      next u _ hq =>
        have hu : KeepsMem s u := .fst hq (.atCycle h)
        exact .next (.startTransfer (.commitDue (.ite (.sbSet hu) hu)))
      next u hq =>
        have hu : KeepsMem s u := .fst hq (.atCycle h)
        exact .next hu

end Engine

/-! ### Awl -/

section Awl
variable {s t : State} (h : KeepsMem s t)
include h

protected theorem KeepsMem.awlGet {w : Who} {l e : Nat} {p : Nat × Nat} : KeepsMem s (awlGet t w l e p).1 := .iteFst (.ecc h) (.getAt h)

protected theorem KeepsMem.awlGets {w : Who} {l e : Nat} {l' : List (Nat × Nat)} : KeepsMem s (awlGets w l e l' t).1 := by
  induction l' generalizing t with
  | nil => exact h
  | cons e r ih => exact ih (.awlGet h)

protected theorem KeepsMem.frameSlots {l : List (List Byte)} : KeepsMem s (frameSlots t l).1 := by
  induction l generalizing t with
  | nil => exact h
  | cons e r ih => exact ih (.fresh h)

protected theorem KeepsMem.unframe {l : List (List Byte)} : KeepsMem s (unframe l t).1 := by
  induction l generalizing t with
  | nil => exact h
  | cons e r ih => exact ih (.count (.decodeOne h))

protected theorem KeepsMem.inbound {l e : Nat} {data : List (List Byte)} : KeepsMem s (inbound t l e data).1 := by
  simp only [Machine.inbound]
  split
  · exact h
  · exact h
  · exact .iteFst (.unframe h) h
  · exact h

protected theorem KeepsMem.outRows {l e : Nat} {l' : List Nat} : KeepsMem s (outRows l e l' t).1 := by
  induction l' generalizing t with
  | nil => exact h
  | cons e r ih => exact ih (.iteFst (.iteFst (.frameSlots (.encodeGroups h)) h) (.iteFst (.count (.count h)) h))

protected theorem KeepsMem.spadEcc {l c ix : Nat} {reads : List (Nat × Nat)} : KeepsMem s (spadEcc t l c ix reads).1 := by
  refine .foldlFst (fun _ hu => ?_) _ h
  exact .ecc hu

protected theorem KeepsMem.awlWork {l ix pt e : Nat} : KeepsMem s (awlWork t l ix pt e).1 := by
  simp only [Machine.awlWork]
  split
  · exact .refuse h
  · refine .iteFst h (.iteFst (.trans (.ite (.raise (.outRows (.spadEcc h))) (.outRows (.spadEcc h))) (.iteFst (.refl _) (.refl _))) ?_)
    split
    · exact .raiseP (.inbound (.awlGets h))
    · exact .inbound (.awlGets h)

protected theorem KeepsMem.bookAwl {l ix e owner : Nat} {row : AwlRow} {at' occ : Nat} {bad : Bool} {sp mem : List Host.Cell}
    : KeepsMem s (bookAwl t l ix e owner row at' occ bad sp mem) :=
  .setAwl h

protected theorem KeepsMem.startAwl {l ix pt e owner : Nat} {row : AwlRow} : KeepsMem s (startAwl t l ix pt e owner row) :=
  .bookAwl (.count (.awlWork h))

protected theorem KeepsMem.scheduleAwl {l ix e : Nat} {row : AwlRow} {cells : Option (List Host.Cell)}
    : KeepsMem s (scheduleAwl t l ix e row cells) :=
  .setAwl h

protected theorem KeepsMem.startLate1 {l : Nat} {x : AwlLate} : KeepsMem s (startLate1 l t x) := by
  simp only [Machine.startLate1]
  refine .ite h ?_
  split
  · exact .bookAwl (.setAwl h)
  · exact .startAwl (.setAwl h)

protected theorem KeepsMem.startLate {l : Nat} : KeepsMem s (startLate t l) := .foldl (fun _ hu => .startLate1 hu) _ h

protected theorem KeepsMem.refillQueue {l : Nat} : KeepsMem s (refillQueue t l) := by
  simp only [Machine.refillQueue]
  split
  · exact h
  · split
    · exact .setAwl (.update h)
    · exact h

protected theorem Completes.execAwlDescriptorStart {lcl : Lcl} {ix : Nat} : Completes s (execAwlDescriptorStart lcl ix t) := by
  simp only [Machine.execAwlDescriptorStart]
  refine .ite ?_ ?_
  · split
    · exact .next h
    · exact .ite (.next h) (.next (.refillQueue (.startAwl (.setAwl h))))
  · split
    · exact .next h
    · split
      · exact .next h
      · refine .ite (.next h) ?_
        split
        next u hq =>
          have hu : KeepsMem s u := .fst hq (.atCycle h)
          exact .next hu
        next u _ hq =>
          have hu : KeepsMem s u := .fst hq (.atCycle h)
          refine .next (.startLate (.scheduleAwl (.foldl (fun _ hu => ?_) _ (.ite (.sbSet hu) hu))))
          exact .commitDue hu

protected theorem KeepsMem.putCells {w : Who} {n : Nat} {l : List Host.Cell} : KeepsMem s (putCells w n l t) := by
  induction n generalizing l t with
  | zero => exact h
  | succ n ih =>
    cases l with
    | nil => exact h
    | cons e r => exact ih (.putAt h)

protected theorem KeepsMem.completeAwl {l : Nat} {f : AwlFlight} : KeepsMem s (completeAwl t l f) := by
  simp only [Machine.completeAwl]
  generalize hc : Machine.putCells _ _ _ _ = u
  have hu : KeepsMem s u := hc ▸ .putCells (.ite (.spadPutCells (.setAwl h)) (.setAwl h))
  refine .trans (.ite hu (.foldl (fun _ hu => ?_) _ hu)) (.ite (.refl _) (.setCtl (.refl _)))
  exact .arrive hu

protected theorem Completes.execAwlDescriptorComplete {lcl : Lcl} {ix : Nat} : Completes s (execAwlDescriptorComplete lcl ix t) := by
  simp only [Machine.execAwlDescriptorComplete]
  split
  · exact .next (.completeAwl h)
  · exact .next h

protected theorem KeepsMem.setRed {l : Nat} {r : Reduction} : KeepsMem s (setRed t l r) := .setAwl h

protected theorem Completes.execReductionStart {part : Part} {ix : Nat} : Completes s (execReductionStart part ix t) := by
  simp only [Machine.execReductionStart]
  split
  · exact .next h
  · split
    · exact .next h
    · refine .ite (.next h) ?_
      split
      next u hq =>
        have hu : KeepsMem s u := .fst hq (.atCycle h)
        exact .next hu
      next u _ hq =>
        have hu : KeepsMem s u := .fst hq (.atCycle h)
        exact .next (.setAwl hu)

protected theorem KeepsMem.finishRed {l hart : Nat} {r : Reduction} : KeepsMem s (finishRed t l hart r) := .arrive (.spadPut (.setAwl h))

protected theorem Completes.execReductionContribution {part : Part} {ix : Nat} : Completes s (execReductionContribution part ix t) := by
  simp only [Machine.execReductionContribution]
  split
  · exact .next h
  · split
    · exact .next h
    · split
      · exact .next h
      · refine .ite (.ite (.next (.finishRed h)) (.next h)) ?_
        split
        next u hq =>
          have hu : KeepsMem s u := .fst hq (.atCycle h)
          exact .next hu
        next u _ hq =>
          have hu : KeepsMem s u := .fst hq (.atCycle h)
          exact .next (.setRed (.badP16 (.ecc (.sbSet hu))))

end Awl

/-! ### CtlCore -/

section CtlCore
variable {s t : State} (h : KeepsMem s t)
include h

protected theorem KeepsMem.resetThread {c t' : Nat} : KeepsMem s (resetThread t c t') := .bumpInc (.update h)

protected theorem KeepsMem.resetCore {c : Nat} : KeepsMem s (resetCore t c) := .setCtl (.foldl (fun _ hu => .resetThread hu) _ h)

protected theorem KeepsMem.releaseCore {c : Nat} : KeepsMem s (releaseCore t c) := .setHart (.setCtl h)

omit h in
protected theorem KeepsMem.bindStep {r : State × List (Nat × Nat × Nat) × List Nat} {l : Nat} (hr : KeepsMem s r.1) : KeepsMem s (bindStep r l).1 :=
  .iteFst hr (.setO hr)

protected theorem KeepsMem.reportBind {c : Nat × Nat × Nat} : KeepsMem s (reportBind t c) :=
  .trans (.raise (.setO (.count h))) (.ite (.refl _) (.resetCore (.refl _)))

protected theorem KeepsMem.tryBind {used : List Nat} : KeepsMem s (tryBind t used).1 := .foldlFst (fun _ hu => .bindStep hu) _ h

protected theorem KeepsOk.bindLoad {im : Image} : KeepsOk s (bindLoad t im) := by
  simp only [Machine.bindLoad]
  split
  · exact .error
  · refine .ok (.foldl (fun _ hu => ?_) _ (.tryBind h))
    exact .reportBind hu

protected theorem KeepsMem.bindSwitch {im : Image} : KeepsMem s (bindSwitch t im) :=
  .foldl (fun _ hu => .raise hu) _ (.foldl (fun _ hu => .reportBind hu) _ (.tryBind h))

end CtlCore

/-! ### Last -/

section Last
variable {s t : State} (h : KeepsMem s t)
include h

protected theorem KeepsOk.wLastCmd {v : Nat} : KeepsOk s (wLastCmd t v) :=
  .ite .error (.ite (.ite .error (.ite .error (.ok (.setO (.setO (.setO (.setSlot (.update h)))))))) (.ite (.ite .error (.ite (.ok h) (.ok (.setO
    (.setSlot h))))) .error))

protected theorem KeepsMem.refuseLoad {l : Loading} {lastId reason detail : Nat} : KeepsMem s (refuseLoad t l lastId reason detail) :=
  .raise (.count (.setO (.setO (.setO (.setSlot (.update h))))))

protected theorem KeepsMem.finishLoad {l : Loading} : KeepsMem s (finishLoad t l) := by
  simp only [Machine.finishLoad]
  split
  · exact .refuseLoad (.readAt h)
  · split
    · exact .refuseLoad (.readAt h)
    next u hq =>
      have hu : KeepsMem s u := .of_eq hq (.bindLoad (.readAt h))
      exact .raise (.count (.setO (.setSlot (.update hu))))

protected theorem Completes.execLastLoadComplete : Completes s (execLastLoadComplete t) := by
  simp only [Machine.execLastLoadComplete]
  split
  · exact .next (.finishLoad h)
  · exact .next h

protected theorem KeepsMem.abandonLoad : KeepsMem s (abandonLoad t) := by
  simp only [Machine.abandonLoad]
  split
  · exact h
  · exact .refuseLoad (.fresh h)

protected theorem KeepsOk.wActive {p v : Nat} : KeepsOk s (wActive t p v) := by
  simp only [Machine.wActive]
  refine .ite .error (.ite (.ok (.setPart h)) (.ite .error ?_))
  split
  · exact .error
  · exact .ite .error (.ok (.setPart h))

end Last

/-! ### Lace -/

section Lace
variable {s t : State} (h : KeepsMem s t)
include h

protected theorem KeepsMem.laceIn {p ty : Nat} {w : Word128} {act : State → State} (hact : ∀ {u}, KeepsMem s u → KeepsMem s (act u))
    : KeepsMem s (laceIn t p ty w act) :=
  .ite h (.ite (.count h) (hact h))

protected theorem KeepsMem.floodIn {p ty : Nat} {w : Word128} {act : State → State} (hact : ∀ {u}, KeepsMem s u → KeepsMem s (act u))
    : KeepsMem s (floodIn t p ty w act) := .laceIn h (fun hu => .ite hu (hact (.flood (.update hu))))

protected theorem KeepsMem.symEv {x : Timed} {named rcv : Nat} : KeepsMem s (symEv t x named rcv) := .raise h

protected theorem KeepsMem.lateSym {x : Timed} {named : Nat} : KeepsMem s (lateSym t x named) := .symEv (.count h)

protected theorem KeepsMem.markFault {t' : Nat} : KeepsMem s (markFault t t') :=
  .trans (.ite h (.count (.update h))) (.ite (.ite (.refl _) (.update (.refl _))) (.update (.foldl (fun _ hu => .startTimer (.setPart hu)) _
    (.refl _))))

protected theorem KeepsMem.tickFault {t' lcl cause : Nat} : KeepsMem s (tickFault t t' lcl cause) :=
  .ite h (.ite h (.originate (.raise (.update (.markFault h)))))

protected theorem Completes.execFaultSymbol {port : Port} {sym : Word128} : Completes s (execFaultSymbol port sym t) :=
  .next (.floodIn h (fun hu => .ite (.markFault hu) hu))

protected theorem KeepsMem.recordVote {x : Timed} {t' c q : Nat} : KeepsMem s (recordVote t x t' c q) := by
  simp only [Machine.recordVote]
  refine .ite h (.ite ?_ (.update h))
  split
  · exact .ite (.tickFault (.lateSym h)) h
  · exact h

protected theorem Completes.execVoteSymbol {port : Port} {sym : Word128} : Completes s (execVoteSymbol port sym t) :=
  .next (.laceIn h (fun hu => .ite hu (.recordVote (.ite (.update hu) (.flood (.update (.update hu)))))))

protected theorem KeepsMem.noteRank {r : Nat × Nat} : KeepsMem s (noteRank t r) := by
  simp only [Machine.noteRank]
  split
  · exact .update h
  · refine .ite (.update h) (.ite h ?_)
    split
    · exact .update h
    · exact .ite (.update h) h

protected theorem KeepsMem.startLace : KeepsMem s (startLace t) := .ite (.originate (.noteRank (.update h))) (.update h)

protected theorem KeepsMem.takeParent {root : Nat} : KeepsMem s (takeParent t root) := by
  simp only [Machine.takeParent]
  split
  · exact h
  · exact .update h

protected theorem KeepsMem.becomeRoot : KeepsMem s (becomeRoot t) := .update h

protected theorem KeepsMem.rootValues : KeepsMem s (rootValues t) := .update h

protected theorem KeepsMem.lockedEv : KeepsMem s (lockedEv t) := .raise h

protected theorem KeepsMem.depthCheck : KeepsMem s (depthCheck t) := .ite (.raise (.update h)) h

protected theorem KeepsMem.rootEv {old : Nat} : KeepsMem s (rootEv t old) := .raise h

protected theorem KeepsMem.electAgain : KeepsMem s (electAgain t) := .ite (.originate (.noteRank (.update h))) (.update h)

protected theorem KeepsMem.newRoot {a : RootArr} : KeepsMem s (newRoot t a) :=
  .electAgain (.depthCheck (.rootEv (.takeParent (.update h))))

protected theorem KeepsMem.takeRoot : KeepsMem s (takeRoot t) := .rootEv (.becomeRoot (.setO h))

protected theorem KeepsMem.rootIn {p : Nat} {w : Word128} : KeepsMem s (rootIn t p w) :=
  .ite h (.ite (.ite (.flood (.newRoot h)) (.ite (.ite (.flood (.noteRank (.update h))) (.noteRank (.update h))) (.ite (.takeParent
    (.update h)) h))) (.ite (.flood (.noteRank (.update h))) (.noteRank (.update h))))

protected theorem Completes.execRootSymbol {port : Port} {sym : Word128} : Completes s (execRootSymbol port sym t) :=
  .next (.laceIn h (fun hu => .rootIn hu))

protected theorem KeepsMem.firstElected {b : Nat × Nat} : KeepsMem s (firstElected t b) :=
  .ite (.lockedEv (.rootValues (.becomeRoot (.update h)))) (.ite (.takeParent (.update h)) (.ite (.depthCheck (.takeParent (.update h))) (.update
    (.takeParent (.update h)))))

protected theorem KeepsMem.electedAgain {b : Nat × Nat} : KeepsMem s (electedAgain t b) :=
  .ite (.update h) (.ite (.takeRoot (.update h)) (.depthCheck (.rootEv (.takeParent (.update (.update h))))))

protected theorem Completes.execElectionEnd : Completes s (execElectionEnd t) := by
  simp only [Machine.execElectionEnd]
  refine .ite ?_ (.next h)
  split
  · exact .next h
  · exact .ite (.next (.firstElected h)) (.ite (.next (.electedAgain h)) (.next h))

protected theorem KeepsMem.alignTo {p : Nat} {w : Word128} : KeepsMem s (alignTo t p w) := .update (.fresh h)

protected theorem KeepsMem.steer : KeepsMem s (steer t) := .update (.fresh h)

protected theorem KeepsMem.steerBy {p : Nat} {w : Word128} {adj : Int} {gap : Nat} : KeepsMem s (steerBy t p w adj gap) := by
  simp only [Machine.steerBy]
  refine .ite (.depthCheck (.steer (.update h))) (.ite (.alignTo (.steer (.update h))) ?_)
  split
  · exact .ite (.alignTo (.steer (.update h))) (.steer (.update h))
  · exact .trans (.update (.steer (.update h))) (.trans (.ite (.raise (.refl _)) (.refl _)) (.ite (.ite (.lockedEv (.update (.update (.refl _))))
      (.update (.refl _))) (.ite (.alignTo (.refl _)) (.update (.refl _)))))

protected theorem KeepsMem.syncIn {p : Nat} {w : Word128} {adj : Int} {replayed : Bool} : KeepsMem s (syncIn t p w adj replayed) :=
  .ite h (.trans (.ite (.update h) h) (.ite (.refl _) (.ite (.update (.refl _)) (.steerBy (.update (.refl _))))))

protected theorem Completes.execSyncSymbol {port : Port} {sym : Word128} {eighth : Nat} : Completes s (execSyncSymbol port sym eighth t) :=
  .next (.laceIn h (fun hu => .syncIn hu))

protected theorem KeepsMem.toChildren {w : Word128} : KeepsMem s (toChildren t w) := .foldl (fun _ hu => .sendLace hu) _ h

protected theorem KeepsMem.sendEpoch : KeepsMem s (sendEpoch t) := .ite (.toChildren (.toChildren (.update h))) h

protected theorem KeepsMem.epochIn {p : Nat} {w : Word128} : KeepsMem s (epochIn t p w) :=
  .ite h (.ite (.update h) (.ite h (.ite h (.tickFault (.raise (.count h))))))

protected theorem Completes.execEpochSymbol {port : Port} {sym : Word128} : Completes s (execEpochSymbol port sym t) :=
  .next (.laceIn h (fun hu => .epochIn hu))

protected theorem KeepsMem.configIn {p : Nat} {w : Word128} : KeepsMem s (configIn t p w) := .ite h (.update h)

protected theorem Completes.execConfigSymbol {port : Port} {sym : Word128} : Completes s (execConfigSymbol port sym t) :=
  .next (.laceIn h (fun hu => .configIn hu))

protected theorem Completes.execParentLoss : Completes s (execParentLoss t) := by
  simp only [Machine.execParentLoss]
  refine .ite (.next (.depthCheck (.raise (.update ?_)))) (.next h)
  split
  · exact .update h
  · exact h

protected theorem Completes.execHaltReceived {port : Port} {sym : Word128} : Completes s (execHaltReceived port sym t) :=
  .next (.floodIn h (fun hu => .haltLocal hu))

protected theorem KeepsOk.wHalt {v : Nat} : KeepsOk s (wHalt t v) := .ite .error (.ite .error (.ok (.originateHalt h)))

protected theorem KeepsOk.sendTimed {ty e arg : Nat} : KeepsOk s (sendTimed t ty e arg) :=
  .ite .error (.ite .error (.ok (.ite (.update (.originate h)) (.update (.originate h)))))

protected theorem KeepsMem.sendMask {e slot : Nat} {bit : Bool} {p : Nat} : KeepsMem s (sendMask t e slot bit p) := by
  simp only [Machine.sendMask]
  split
  next u hq =>
    have hu : KeepsMem s u := .of_eq hq (.sendTimed h)
    exact hu
  · exact h

protected theorem KeepsMem.timedIn {w : Word128} : KeepsMem s (timedIn t w) :=
  .ite h (.ite (.ite (.tickFault (.lateSym h)) (.lateSym h)) (.ite (.update h) (.update h)))

protected theorem Completes.execStartSymbol {port : Port} {sym : Word128} : Completes s (execStartSymbol port sym t) :=
  .next (.floodIn h (fun hu => .timedIn hu))

protected theorem Completes.execSwitchSymbol {port : Port} {sym : Word128} : Completes s (execSwitchSymbol port sym t) :=
  .next (.floodIn h (fun hu => .timedIn hu))

protected theorem Completes.execMaskSymbol {port : Port} {sym : Word128} : Completes s (execMaskSymbol port sym t) :=
  .next (.floodIn h (fun hu => .timedIn hu))

protected theorem Completes.execFreqSymbol {port : Port} {sym : Word128} : Completes s (execFreqSymbol port sym t) :=
  .next (.floodIn h (fun hu => .ite (.beginChange (.timedIn hu)) (.timedIn hu)))

protected theorem KeepsMem.recordAdopter {origin n : Nat} : KeepsMem s (recordAdopter t origin n) := .foldl (fun _ hu => .ite (.modPort hu) hu) _ h

protected theorem Completes.execAdoptSymbol {port : Port} {sym : Word128} : Completes s (execAdoptSymbol port sym t) :=
  .next (.floodIn h (fun hu => .timedIn (.recordAdopter hu)))

protected theorem KeepsOk.wStart {tick : Nat} : KeepsOk s (wStart t tick) := by
  simp only [Machine.wStart]
  refine .ite .error ?_
  split
  · exact .error
  next u hq =>
    have hu : KeepsMem s u := .of_eq hq (.sendTimed h)
    refine .ok (.foldl (fun _ hu => ?_) _ hu)
    refine .ite (.foldl (fun _ hu => ?_) _ hu) hu
    exact .sendMask hu

protected theorem KeepsOk.wSwitch {v : Nat} : KeepsOk s (wSwitch t v) := .ite .error (.ite .error (.sendTimed h))

protected theorem KeepsOk.wSwitchTick {v : Nat} : KeepsOk s (wSwitchTick t v) := .ite .error (.ok (.setO h))

protected theorem KeepsOk.wAdoptNode {n : Nat} : KeepsOk s (wAdoptNode t n) := .ite .error (.ite .error (.ite .error (.ok (.setO h))))

protected theorem KeepsOk.wAdoptTick {e : Nat} : KeepsOk s (wAdoptTick t e) := by
  simp only [Machine.wAdoptTick]
  refine .ite .error ?_
  split
  · exact .error
  next u hq =>
    have hu : KeepsMem s u := .of_eq hq (.sendTimed h)
    exact .ok (.setO (.setO hu))

omit h in
protected theorem KeepsMem.nextOf {o : Out} (ho : Completes s o) : KeepsMem s (nextOf o t) := by
  obtain ⟨u, rfl, hu⟩ := ho
  exact hu

protected theorem KeepsMem.laceSym {p : Port} {adj : Int} {replayed : Bool} {w : Word128} : KeepsMem s (laceSym p adj replayed t w) := by
  simp only [Machine.laceSym]
  split
  · exact .laceIn h fun hu => .syncIn hu
  · exact .nextOf (.execEpochSymbol h)
  · exact .nextOf (.execRootSymbol h)
  · exact .nextOf (.execConfigSymbol h)
  · exact .nextOf (.execVoteSymbol h)
  · exact .nextOf (.execFaultSymbol h)
  · exact .nextOf (.execHaltReceived h)
  · exact .nextOf (.execStartSymbol h)
  · exact .nextOf (.execSwitchSymbol h)
  · exact .nextOf (.execFreqSymbol h)
  · exact .nextOf (.execAdoptSymbol h)
  · exact .nextOf (.execMaskSymbol h)
  · exact .ite (.count h) h

protected theorem KeepsMem.laceFlitIn {p : Port} {eighth frac : Nat} {replayed : Bool} {ws : List Word128}
    : KeepsMem s (laceFlitIn t p eighth frac replayed ws) := .ite (.foldl (fun _ hu => .laceSym hu) _ h) (.modPort h)

protected theorem KeepsMem.releasePad {p : Port} : KeepsMem s (releasePad t p) := by
  refine .foldl (fun _ hu => ?_) _ (.setPort h)
  refine .foldl (fun _ hu => ?_) _ hu
  exact .laceSym hu

protected theorem KeepsMem.releasePads : KeepsMem s (releasePads t) := .foldl (fun _ hu => .ite hu (.releasePad hu)) _ h

end Lace

/-! ### Serving -/

section Serving
variable {s t : State} (h : KeepsMem s t)
include h

protected theorem KeepsMem.setEy {i : Nat} {e : Eyelet} : KeepsMem s (setEy t i e) := .update h

protected theorem KeepsMem.setSs {k : Nat} {x : ServSlot} : KeepsMem s (setSs t k x) := .update h

protected theorem KeepsMem.setSq {q : Nat} {x : SubQ} : KeepsMem s (setSq t q x) := .update h

protected theorem KeepsMem.setTen {t' : Nat} {x : Tenant} : KeepsMem s (setTen t t' x) := .update h

protected theorem KeepsMem.hostPost {req o : Nat} {data : List Byte} : KeepsMem s (hostPost t req o data) :=
  .ite (.emit h) (.raiseMs (.count h))

protected theorem KeepsMem.farPost {base o : Nat} {b : List Byte} : KeepsMem s (farPost t base o b) := .ite (.issue h) (.issue (.issue h))

protected theorem KeepsMem.writeComp {q : Nat} {e : List Byte} : KeepsMem s (writeComp t q e) :=
  .ite (.hostPost (.setSq h)) (.farPost (.setSq h))

protected theorem KeepsMem.setPaused {e : List Byte} {v : Bool} : KeepsMem s (setPaused t e v) := .ite h (.setEy h)

protected theorem KeepsMem.post {q : Nat} {e : List Byte} : KeepsMem s (post t q e) :=
  .ite (.raiseMs (.setPaused (.count (.update h)))) (.writeComp h)

protected theorem KeepsMem.postHeld {q : Nat} {e : List Byte} : KeepsMem s (postHeld t q e) := .ite (.setEy (.writeComp h)) (.writeComp h)

protected theorem KeepsMem.drainHeld : KeepsMem s (drainHeld t) :=
  .foldl (fun _ hu => .ite (.setPaused (.update hu)) (.postHeld hu)) _ (.foldl (fun _ hu => .setPaused hu) _ (.update h))

protected theorem KeepsMem.postFor {i kind status token index tick : Nat} : KeepsMem s (postFor t i kind status token index tick) :=
  .post h

protected theorem KeepsMem.reject {q op status handle eyelet : Nat} : KeepsMem s (reject t q op status handle eyelet) :=
  .raiseMs (.count (.post h))

protected theorem KeepsMem.commitBell {q v : Nat} : KeepsMem s (commitBell t q v).1 := .iteFst (.count h) (.iteFst (.count h) (.setSq h))

protected theorem KeepsOk.wFlush {q v : Nat} : KeepsOk s (wFlush t q v) := .ite .error (.ok (.setSq h))

protected theorem KeepsOk.wCancel {i : Nat} : KeepsOk s (wCancel t i) := .ite .error (.ok (.update h))

protected theorem KeepsMem.cancelReq {i status : Nat} : KeepsMem s (cancelReq t i status) := by
  simp only [Machine.cancelReq]
  refine .ite h ?_
  split
  · exact .count (.setEy h)
  · exact .setSs (.count (.setEy h))

protected theorem KeepsMem.doSubmit {q : Nat} {it : List Byte} : KeepsMem s (doSubmit t q it) := by
  unfold Machine.doSubmit
  refine .ite (.reject h) (.ite (.reject h) ?_)
  extract_lets vocab pa
  split
  next u _ _ hq =>
  have hu : KeepsMem s u := .fst hq (.iteFst h (.readAt h))
  extract_lets n
  split
  next v _ _ hq =>
  have hv : KeepsMem s v := .fst hq (.iteFst hu (.readAt hu))
  exact .ite (.reject hv) (.ite (.reject hv) (.ite (.reject hv) (.trans (.ite hv (.setTen hv)) (.postFor (.ite (.setEy (.refl _)) (.update (.setEy
    (.refl _))))))))

protected theorem KeepsMem.reDead {i k : Nat} {prev : Hist} : KeepsMem s (reDead t i k prev) := .update h

protected theorem KeepsMem.goBack {key i k : Nat} {discard : Bool} {replay : Nat} : KeepsMem s (goBack t key i k discard replay) :=
  .setEy (.postFor (.reDead (.update (.setSs (.setEy h)))))

protected theorem KeepsMem.doRewind {q i k : Nat} : KeepsMem s (doRewind t q i k) := by
  simp only [Machine.doRewind]
  split
  · exact .reject h
  · exact .ite (.reject h) (.goBack (.count h))

protected theorem KeepsMem.runItem {q epoch : Nat} {it : List Byte} {fits : Bool} : KeepsMem s (runItem t q epoch it fits) :=
  .trans (.ite (.update h) h) (.ite (.ite (.reject (.refl _)) (.ite (.reject (.refl _)) (.reject (.refl _)))) (.ite (.refl _) (.ite (.doSubmit
    (.refl _)) (.ite (.reject (.refl _)) (.ite (.cancelReq (.refl _)) (.ite (.setEy (.refl _)) (.doRewind (.refl _))))))))

protected theorem KeepsMem.consume {n : Nat} : KeepsMem s (consume n t) := by
  induction n generalizing t with
  | zero => exact h
  | succ n ih =>
    simp only [Machine.consume]
    split
    · exact h
    · exact ih (.runItem (.count (.update (.setSq h))))

protected theorem KeepsMem.applyResult {r : SampleRes} : KeepsMem s (applyResult t r) := by
  simp only [Machine.applyResult]
  refine .trans ?_ (.ite (.setEy (.refl _)) (.refl _))
  split
  · exact .postFor h
  · exact h

protected theorem KeepsMem.applyResults : KeepsMem s (applyResults t) := .foldl (fun _ hu => .applyResult hu) _ (.update h)

protected theorem KeepsMem.missDead {d : Nat × Nat × Nat} : KeepsMem s (missDead t d) :=
  .ite (.update h) (.trans (.count (.setEy (.update h))) (.ite (.cancelReq (.raiseMs (.refl _))) (.raiseMs (.refl _))))

protected theorem KeepsMem.checkDeads : KeepsMem s (checkDeads t) := .foldl (fun _ hu => .missDead hu) _ h

protected theorem KeepsMem.finalReq {i : Nat} : KeepsMem s (finalReq t i) := .setEy (.postFor (.update h))

protected theorem KeepsMem.endReq {i : Nat} : KeepsMem s (endReq t i) := by
  simp only [Machine.endReq]
  refine .ite h ?_
  split
  · exact .finalReq h
  · exact .ite h (.setSs (.sendMask (.finalReq h)))

protected theorem KeepsMem.endReqs : KeepsMem s (endReqs t) := .foldl (fun _ hu => .endReq hu) _ h

protected theorem KeepsMem.addVt {t' n : Nat} : KeepsMem s (addVt t t' n) := .setTen h

protected theorem KeepsMem.chargeSlot {y : Nat × ServSlot} : KeepsMem s (chargeSlot t y) := by
  simp only [Machine.chargeSlot]
  split
  · exact h
  · exact .setSs (.addVt h)

protected theorem KeepsMem.chargePart {p : Nat} : KeepsMem s (chargePart t p) := by
  simp only [Machine.chargePart]
  split
  · exact h
  · refine .count (.foldl (fun _ hu => ?_) _ h)
    exact .setTen hu

protected theorem KeepsMem.chargeAll : KeepsMem s (chargeAll t) :=
  .foldl (fun _ hu => .chargePart hu) _ (.foldl (fun _ hu => .chargeSlot hu) _ h)

protected theorem KeepsMem.admitReq {i a : Nat} : KeepsMem s (admitReq t i a) := by
  unfold Machine.admitReq
  exact .trans (.setSs (.setEy (.addVt (.sendMask h)))) (.count (.ite (.refl _) (.pkgPut (.readAt (.refl _)))))

protected theorem KeepsMem.admitAll {n : Nat} : KeepsMem s (admitAll n t) := by
  induction n generalizing t with
  | zero => exact h
  | succ n ih =>
    simp only [Machine.admitAll]
    split
    · exact h
    · exact ih (.admitReq h)

omit h in
/-- As an equation of functions: applied, it would have the kernel evaluate the address. -/
theorem sendMirror_eq : sendMirror = fun s w =>
    (issue s false (mirrorAddr s w.1) 2 0 328 0 0 (2 ^ 64 - 1) (padTo 64 w.2) .mirror).1 := rfl

protected theorem KeepsMem.sendMirror {w : Nat × List Byte} : KeepsMem s (sendMirror t w) := by
  rw [sendMirror_eq]
  exact .issue h

protected theorem KeepsMem.startMirror : KeepsMem s (startMirror t) := by
  simp only [Machine.startMirror]
  split
  · exact h
  · refine .ite (.sendMirror (.update h)) (.foldl (fun _ hu => ?_) _ (.update h))
    exact .sendMirror hu

protected theorem KeepsMem.mirrorStep : KeepsMem s (mirrorStep t) := by
  simp only [Machine.mirrorStep]
  refine .ite h ?_
  split
  · exact h
  · exact .ite (.startMirror (.update h)) (.sendMirror (.update h))

protected theorem KeepsMem.endPass {old : State} : KeepsMem s (endPass t old) :=
  .trans (.foldl (fun _ hu => .pkgPut hu) _ h) (.ite (.update (.refl _)) (.trans (.ite (.update (.refl _)) (.raise (.update (.refl _)))) (.ite
    (.startMirror (.update (.refl _))) (.update (.refl _)))))

protected theorem KeepsMem.passOf : KeepsMem s (passOf t) :=
  .trans (.chargeAll (.endReqs (.checkDeads (.consume (.foldl (fun _ hu => .cancelReq hu) _ (.update (.applyResults (.drainHeld h)))))))) (.endPass
    (.ite (.refl _) (.admitAll (.refl _))))

protected theorem KeepsMem.pointGo {p ix ty : Nat} : KeepsMem s (pointGo t p ix ty).1 := by
  simp only [Machine.pointGo]
  split
  · exact h
  · split
    · exact h
    · refine .iteFst h ?_
      split
      · exact h
      · split
        next u _ hq =>
          have hu : KeepsMem s u := .fst hq (.atCycle h)
          exact .update hu
        next u hq =>
          have hu : KeepsMem s u := .fst hq (.atCycle h)
          exact hu

protected theorem KeepsMem.feedSlot {l : Nat} {x : SampleEnt} {p a i n0 : Nat} : KeepsMem s (feedSlot l x p a i n0 t) := by
  simp only [Machine.feedSlot]
  split
  · split
    · exact .spadPut h
    · exact .spadPut h
  next prompt _ => exact .setSs (.setEy (.spadPut (.iteFst (c := prompt = true) (.pair (.readAt h)) (.pair h))))

protected theorem Completes.execAdmitPoint {part : Part} {ix : Nat} : Completes s (execAdmitPoint part ix t) := by
  simp only [Machine.execAdmitPoint]
  split
  next u hq =>
    have hu : KeepsMem s u := .fst hq (.pointGo h)
    exact .next hu
  next u _ _ _ hq =>
    have hu : KeepsMem s u := .fst hq (.pointGo h)
    refine .ite (.next hu) (.next (.foldl (fun _ hu => ?_) _ (.fresh hu)))
    exact .feedSlot hu

omit h in
protected theorem KeepsMem.meetSlot {depth : Nat} {r : State × List Nat} {k : Nat} (hr : KeepsMem s r.1) : KeepsMem s (meetSlot depth r k).1 := by
  simp only [Machine.meetSlot]
  split
  · exact hr
  · refine .iteFst hr ?_
    split
    · exact hr
    · exact .iteFst (.setSs hr) (.iteFst (.setSs hr) (.update (.setSs hr)))

protected theorem Completes.execSamplePoint {part : Part} {ix : Nat} : Completes s (execSamplePoint part ix t) := by
  simp only [Machine.execSamplePoint]
  split
  next u hq =>
    have hu : KeepsMem s u := .fst hq (.pointGo h)
    exact .next hu
  next u _ _ _ hq =>
    have hu : KeepsMem s u := .fst hq (.pointGo h)
    refine .ite (.next hu) (.trans (.foldlFst (fun _ hu => ?_) _ hu) (.next (.update (.ite (.refl _) (.raise (.count (.refl _)))))))
    exact .meetSlot hu

protected theorem Completes.execReplayPoint {part : Part} {ix : Nat} : Completes s (execReplayPoint part ix t) := by
  simp only [Machine.execReplayPoint]
  split
  next u hq =>
    have hu : KeepsMem s u := .fst hq (.pointGo h)
    exact .next hu
  next u _ _ _ hq =>
    have hu : KeepsMem s u := .fst hq (.pointGo h)
    exact .next (.update hu)

protected theorem KeepsMem.sampleSlot {j : SampleJob} {k : Nat} : KeepsMem s (sampleSlot t j k).1 := by
  simp only [Machine.sampleSlot]
  split
  · exact .setSs h
  · refine .iteFst (.setSs h) ?_
    split
    · exact .update (.setSs (.raiseMs (.count (.readAt (.setSs h)))))
    · exact .update (.setSs (.setEy (.count (.readAt (.setSs h)))))

protected theorem KeepsMem.sampleOf {j : SampleJob} {k : Nat} : KeepsMem s (sampleOf t j k) := .badP16 (.sampleSlot h)

protected theorem KeepsMem.sampleOne : KeepsMem s (sampleOne t) := by
  simp only [Machine.sampleOne]
  split
  · exact h
  · split
    · exact .update h
    · exact .update (.sampleOf h)

protected theorem Completes.execSamplerResult : Completes s (execSamplerResult t) := by
  simp only [Machine.execSamplerResult]
  split
  · exact .next h
  · exact .ite (.next (.sampleOne h)) (.next h)

protected theorem KeepsMem.settleJobs {n m k : Nat} : KeepsMem s (settleJobs n m k t) := by
  induction n generalizing t m k with
  | zero => exact h
  | succ n ih =>
    simp only [Machine.settleJobs]
    split
    · exact h
    · refine .ite (ih (.update h)) (ih (.update (.foldl (fun _ hu => ?_) _ (.update h))))
      exact .sampleOf hu

omit h in
protected theorem KeepsMem.rewindOne {e v : Nat} {r : State × Nat × Nat} {y : Nat × ServSlot} (hr : KeepsMem s r.1)
    : KeepsMem s (rewindOne e v r y).1 := by
  simp only [Machine.rewindOne]
  split
  · exact hr
  · exact .iteFst (.setSs hr) (.goBack (.count (.setSs hr)))

protected theorem KeepsMem.rewindSwitch {p e v : Nat} : KeepsMem s (rewindSwitch t p e v) :=
  .ite h (.raise (.foldlFst (fun _ hu => .rewindOne hu) _ (.settleJobs h)))

protected theorem KeepsOk.wManager {v : Nat} : KeepsOk s (wManager t v) :=
  .ite .error (.ite (.ok (.setRole (.setRole h))) (.ite .error (.ite (.ite .error (.ite .error (.ok (.update h)))) (.ite .error (.ok (.setRole
    (.setRole h)))))))

protected theorem KeepsMem.restoreMirror : KeepsMem s (restoreMirror t) := by
  simp only [Machine.restoreMirror]
  refine .foldl (fun _ hu => ?_) _ (.update h)
  split
  · exact hu
  · exact .setSs hu

protected theorem Completes.execManagerTakeover : Completes s (execManagerTakeover t) := by
  simp only [Machine.execManagerTakeover]
  split
  · exact .next h
  · refine .ite (.next h) (.next (.raise (.foldl (fun _ hu => ?_) _ (.restoreMirror (.setRole (.setRole (.update h)))))))
    split
    · exact .goBack hu
    · exact hu

end Serving

/-! ### Cores -/

section Cores
variable {s t : State} (h : KeepsMem s t)
include h

protected theorem KeepsMem.takeTrap {hart : Hart} {cause val : Nat} : KeepsMem s (takeTrap t hart cause val) := .setHart h

protected theorem KeepsMem.setReg {hart : Hart} {rd v : Nat} : KeepsMem s (setReg t hart rd v) := .ite h (.setHart h)

protected theorem KeepsMem.setFstat {hart : Hart} {st : Nat} : KeepsMem s (setFstat t hart st) := .setHart h

protected theorem KeepsMem.fillLine {c a : Nat} {l : List Byte} : KeepsMem s (fillLine t c a l) := .ite (.setCtl h) h

protected theorem KeepsMem.patchLine {c a : Nat} {d : List Byte} : KeepsMem s (patchLine t c a d) := .setCtl h

protected theorem KeepsMem.waitFor {old : State} {hart : Hart} : KeepsMem s (waitFor t old hart) := .setHart h

protected theorem KeepsMem.issueWait {hart : Hart} {a op size8 lease mask : Nat} {data : List Byte} {sink : Sink} {rd : Nat}
    : KeepsMem s (issueWait t hart a op size8 lease mask data sink rd) := by
  simp only [Machine.issueWait]
  split
  next u hq =>
    have hu : KeepsMem s u := .fst hq (.issue h)
    exact .waitFor hu
  next u _ hq =>
    have hu : KeepsMem s u := .fst hq (.issue h)
    exact .setReg (.setFstat hu)

protected theorem KeepsMem.load {hart : Hart} {rd a n : Nat} {sgn : Bool} : KeepsMem s (load t hart rd a n sgn) := by
  simp only [Machine.load]
  refine .ite (.takeTrap h) ?_
  split
  · exact .takeTrap h
  · exact .setReg (.readAt h)
  · split
    · exact .setReg h
    · exact .issueWait h

protected theorem Completes.execControlCoreLoad {hart : Hart} {rd : Fin 32} {addr bytes : Nat} {sgn : Bool}
    : Completes s (execControlCoreLoad hart rd addr bytes sgn t) :=
  .ite (.next (.load h)) (.next h)

protected theorem KeepsMem.postWrite {hart : Hart} {a : Nat} {d : List Byte} : KeepsMem s (postWrite t hart a d) := by
  simp only [Machine.postWrite]
  split
  · exact .setFstat (.issueDone h)
  · exact .ite (.setHart (.stall (.patchLine h))) (.ite (.setHart (.sendOrStall (.patchLine h))) (.sendOrStall (.patchLine h)))

protected theorem KeepsMem.store {hart : Hart} {a n v : Nat} : KeepsMem s (store t hart a n v) := by
  simp only [Machine.store]
  refine .ite (.takeTrap h) ?_
  split
  · exact .takeTrap h
  · exact .writeAt h
  · exact .postWrite h

protected theorem Completes.execControlCoreStore {hart : Hart} {addr bytes data : Nat}
    : Completes s (execControlCoreStore hart addr bytes data t) :=
  .ite (.next (.store h)) (.next h)

protected theorem KeepsMem.loadReserved {hart : Hart} {rd a n : Nat} : KeepsMem s (loadReserved t hart rd a n) :=
  .setHart (.setReg (.readAt h))

protected theorem KeepsMem.storeCond {hart : Hart} {rd a n v : Nat} : KeepsMem s (storeCond t hart rd a n v) :=
  .ite (.setReg (.writeAt (.setHart h))) (.setReg (.setHart h))

protected theorem KeepsMem.localAmo {hart : Hart} {op : AmoOp} {rd a n v : Nat} : KeepsMem s (localAmo t hart op rd a n v) := by
  simp only [Machine.localAmo]
  split
  · exact .loadReserved h
  · exact .storeCond h
  · refine .setReg ?_
    split
    · exact .readAt h
    · exact .writeAt (.readAt h)

protected theorem KeepsMem.amo {hart : Hart} {op : AmoOp} {rd a n v : Nat} : KeepsMem s (amo t hart op rd a n v) := by
  simp only [Machine.amo]
  refine .ite (.takeTrap h) ?_
  split
  · exact .takeTrap h
  · exact .localAmo h
  · split
    · exact .takeTrap h
    · exact .issueWait h

protected theorem Completes.execAmo {hart : Hart} {op : AmoOp} {rd : Fin 32} {addr : Nat} {wide : Bool} {data : Nat}
    : Completes s (execAmo hart op rd addr wide data t) :=
  .ite (.next (.amo h)) (.next h)

protected theorem KeepsMem.fabInv {hart : Hart} {base len : Nat} : KeepsMem s (fabInv t hart base len) := by
  simp only [Machine.fabInv]
  refine .ite (.setCtl h) ?_
  split
  · exact .setCtl h
  · exact h

protected theorem KeepsMem.vendorAtomic {hart : Hart} {a n : Nat} {go : Nat → State} (hgo : ∀ {x0}, KeepsMem s (go x0))
    : KeepsMem s (vendorAtomic t hart a n go) := by
  simp only [Machine.vendorAtomic]
  refine .ite (.takeTrap h) ?_
  split
  · exact hgo
  · exact .takeTrap h

protected theorem Completes.execFabCas {hart : Hart} {rd : Fin 32} {addr : Nat} {wide : Bool} {data : Nat}
    : Completes s (execFabCas hart rd addr wide data t) :=
  .ite (.next (.vendorAtomic h (.issueWait h))) (.next h)

protected theorem KeepsMem.lease {hart : Hart} {op rd a len : Nat} : KeepsMem s (lease t hart op rd a len) :=
  .vendorAtomic h (.issueWait h)

protected theorem Completes.execLeaseRenew {hart : Hart} {rd : Fin 32} {addr len : Nat} : Completes s (execLeaseRenew hart rd addr len t) :=
  .ite (.next (.lease h)) (.next h)

protected theorem Completes.csr {hart : Hart} {act : State → State} (hact : ∀ {u}, KeepsMem s u → KeepsMem s (act u))
    : Completes s (csr t hart act) :=
  .ite (.next h) (.ite (.next (.takeTrap h)) (.next (hact h)))

protected theorem Completes.execFnWorld {hart : Hart} {v : Nat} : Completes s (execFnWorld hart v t) :=
  .csr h (fun hu => .ite (.raise hu) (.setHart hu))

protected theorem KeepsMem.refuseDesc {c l e : Nat} : KeepsMem s (refuseDesc t c l e) := .setCtl (.raiseP (.count (.fresh h)))

protected theorem KeepsMem.submitDesc {hart : Hart} {o : Nat} : KeepsMem s (submitDesc t hart o) := by
  simp only [Machine.submitDesc]
  split
  · exact h
  · exact .ite (.refuseDesc h) (.ite (.setHart h) (.setAwl h))

protected theorem Completes.execFnAwlsub {hart : Hart} {v : Nat} : Completes s (execFnAwlsub hart v t) :=
  .csr h (fun hu => .ite (.takeTrap hu) (.submitDesc hu))

protected theorem Completes.execFnAwldone {hart : Hart} {rd : Fin 32} : Completes s (execFnAwldone hart rd t) :=
  .csr h (fun hu => .setReg (.setCtl hu))

protected theorem Completes.execFnFstat {hart : Hart} {v : Nat} : Completes s (execFnFstat hart v t) := .csr h (fun hu => .setHart hu)

protected theorem KeepsMem.startThread {hart : Hart} {v t' : Nat} : KeepsMem s (startThread t hart v t') := .ite (.setHart h) h

protected theorem Completes.execThreadStart {hart : Hart} {v : Nat} : Completes s (execThreadStart hart v t) := by
  refine .csr h (fun hu => ?_)
  refine .foldl (fun _ hu => ?_) _ hu
  exact .startThread hu

protected theorem Completes.execThreadReset {hart : Hart} {v : Nat} : Completes s (execThreadReset hart v t) := by
  refine .csr h (fun hu => ?_)
  refine .foldl (fun _ hu => ?_) _ hu
  exact .ite (.resetThread hu) hu

protected theorem KeepsMem.runCore {c : Nat} : KeepsMem s (runCore t c) := .ite (.releaseCore h) h

protected theorem Completes.execHostWindowWrite {req : Nat} {_secure : Bool} {off : Nat} {data : List Byte}
    : Completes s (execHostWindowWrite req _secure off data t) :=
  .next (.hostPost h)

end Cores

/-! ### Rdma -/

section Rdma
variable {s t : State} (h : KeepsMem s t)
include h

protected theorem KeepsOk.wStorage {v : Nat} : KeepsOk s (wStorage t v) := .ite .error (.ok (.setO h))

protected theorem KeepsMem.setQp {q : Nat} {x : QueuePair} : KeepsMem s (setQp t q x) := .update h

protected theorem KeepsMem.sendFrame {p : Nat} {f : List Byte} : KeepsMem s (sendFrame t p f) := .ite (.emit h) (.update h)

protected theorem KeepsMem.flushFrames : KeepsMem s (flushFrames t) := .foldl (fun _ hu => .emit hu) _ (.update h)

protected theorem KeepsMem.putComp {e : List Byte} : KeepsMem s (putComp t e) := .setO (.pkgPut h)

protected theorem KeepsMem.drainComps : KeepsMem s (drainComps t) := .foldl (fun _ hu => .ite (.putComp (.update hu)) hu) _ h

protected theorem KeepsMem.complete {desc status written : Nat} : KeepsMem s (complete t desc status written) :=
  .trans (.ite (.putComp h) (.update h)) (.ite (.raise (.refl _)) (.refl _))

protected theorem KeepsMem.settlePulls {l : List Pull} : KeepsMem s (settlePulls l t).1 := by
  induction l generalizing t with
  | nil => exact h
  | cons e r ih => exact .iteFst (ih (.complete h)) h

protected theorem KeepsMem.settleQp {q : Nat} : KeepsMem s (settleQp t q) := .setQp (.settlePulls h)

protected theorem KeepsMem.finishPull {q status : Nat} : KeepsMem s (finishPull t q status) := by
  simp only [Machine.finishPull]
  split
  · exact h
  · exact .settleQp (.setQp h)

protected theorem KeepsMem.sendRead {q : Nat} {x : QueuePair} {d : Pull} {psn off n : Nat} : KeepsMem s (sendRead t q x d psn off n) :=
  .sendFrame (.count h)

protected theorem KeepsMem.pump {n m : Nat} : KeepsMem s (pump n m t) := by
  induction n generalizing t m with
  | zero => exact h
  | succ n ih =>
    simp only [Machine.pump]
    split
    · exact h
    · exact .ite (ih (.sendRead (.setQp h))) h

protected theorem KeepsMem.pumpAll : KeepsMem s (pumpAll t) := .foldl (fun _ hu => .pump hu) _ h

protected theorem KeepsMem.pumpCycle : KeepsMem s (pumpCycle t) := .ite h (.pumpAll (.flushFrames h))

protected theorem KeepsMem.qpError {q cause : Nat} : KeepsMem s (qpError t q cause) := .raise (.settleQp (.setQp h))

protected theorem KeepsMem.resend {q : Nat} : KeepsMem s (resend t q) := by
  simp only [Machine.resend]
  split
  · refine .ite (.qpError h) (.foldl (fun _ hu => ?_) _ (.count (.setQp h)))
    exact .sendRead hu
  · exact h

protected theorem KeepsMem.oneOut {q : Nat} : KeepsMem s (oneOut t q) := by
  simp only [Machine.oneOut]
  split
  · exact .setQp h
  · exact h

protected theorem KeepsMem.forward {q a : Nat} {l : List Byte} {l' : List (Nat × Nat)} : KeepsMem s (forward q a l l' t).1 := by
  induction l' generalizing t with
  | nil => exact h
  | cons e r ih =>
    simp only [Machine.forward]
    split
    · exact .issue h
    · exact ih (.oneOut (.issue h))

protected theorem KeepsMem.deposit {q : Nat} {d : Pull} {off : Nat} {l : List Byte} : KeepsMem s (deposit t q d off l).1 :=
  .iteFst (.forward h) (.writeAt h)

protected theorem KeepsMem.arrived {q n : Nat} : KeepsMem s (arrived t q n) := by
  simp only [Machine.arrived]
  split
  · exact h
  · exact .ite (.finishPull (.setQp h)) (.settleQp (.setQp h))

protected theorem KeepsMem.pullAnswer {q n status : Nat} : KeepsMem s (pullAnswer t q n status) := by
  simp only [Machine.pullAnswer]
  split
  · exact h
  · exact .pumpAll (.ite (.arrived (.setQp h)) (.finishPull (.setQp h)))

protected theorem KeepsMem.sendCnp {q : Nat} : KeepsMem s (sendCnp t q) := .ite h (.sendFrame (.count (.setQp h)))

protected theorem KeepsMem.readResp {q op psn : Nat} {body : List Byte} : KeepsMem s (readResp t q op psn body) := by
  simp only [Machine.readResp]
  split
  · exact .ite h (.trans (.deposit (.setQp (.count h))) (.pumpAll (.ite (.finishPull (.refl _)) (.ite (.refl _) (.arrived (.refl _))))))
  · exact h

protected theorem Completes.execReadResponse {eth : Fin 4} {frame : List Byte} : Completes s (execReadResponse eth frame t) := by
  simp only [Machine.execReadResponse]
  refine .ite (.next h) ?_
  split
  · exact .ite (.next h) (.ite (.next (.count h)) (.next (.readResp (.ite (.sendCnp h) h))))
  · exact .next h

protected theorem KeepsMem.syndrome {q n : Nat} : KeepsMem s (syndrome t q n) :=
  .ite (.resend h) (.ite (.qpError h) (.ite (.qpError h) h))

protected theorem Completes.execAcknowledge {eth : Fin 4} {frame : List Byte} : Completes s (execAcknowledge eth frame t) := by
  simp only [Machine.execAcknowledge]
  refine .ite (.next h) ?_
  split
  · exact .ite (.next h) (.ite (.next (.count h)) (.next (.syndrome (.ite (.sendCnp h) h))))
  · exact .next h

protected theorem Completes.execQpResponseTimeout {qp : Fin 64} : Completes s (execQpResponseTimeout qp t) := by
  simp only [Machine.execQpResponseTimeout]
  split
  · exact .ite (.next (.resend h)) (.next h)
  · exact .next h

protected theorem Completes.execPfcFrame {eth : Fin 4} {frame : List Byte} : Completes s (execPfcFrame eth frame t) := by
  simp only [Machine.execPfcFrame]
  refine .ite (.next h) ?_
  split
  · exact .ite (.next (.pumpAll (.modPort h))) (.next h)
  · exact .next h

protected theorem Completes.execEthernetLinkChange {eth : Fin 4} {up : Bool} : Completes s (execEthernetLinkChange eth up t) :=
  .ite (.next (.pumpAll (.raise (.setPort h)))) (.next h)

protected theorem KeepsMem.takePull : KeepsMem s (takePull t) :=
  .ite (.complete (.setO h)) (.ite (.complete (.setO h)) (.pumpAll (.setQp (.setO h))))

protected theorem KeepsOk.wPull {v : Nat} : KeepsOk s (wPull t v) := .ite .error (.ok (.update h))

protected theorem KeepsMem.wCompHead {v : Nat} : KeepsMem s (wCompHead t v) := .pumpAll (.drainComps (.setO h))

protected theorem KeepsOk.readyQp {q : Nat} : KeepsOk s (readyQp t q) := .ite .error (.ite .error (.ok (.setQp h)))

protected theorem KeepsMem.resetQp {q : Nat} : KeepsMem s (resetQp t q) := .pumpAll (.settleQp (.setQp h))

protected theorem KeepsOk.wQp {v : Nat} : KeepsOk s (wQp t v) := .ite .error (.ite (.readyQp h) (.ite (.ok (.resetQp h)) .error))

end Rdma

/-! ### Routing -/

section Routing
variable {s t : State} (h : KeepsMem s t)
include h

protected theorem KeepsMem.wBind {slot id : Nat} : KeepsMem s (wBind t slot id).1 := by
  simp only [Machine.wBind]
  refine .iteFst h ?_
  split
  · exact h
  · refine .iteFst (.setO h) ?_
    split
    · exact .raise (.setO (.setO h))
    · exact .setO (.update h)

protected theorem KeepsMem.addCount {p : Plan} {x : Site} {word e n : Nat} : KeepsMem s (addCount t p x word e n) := .ite h (.update h)

protected theorem KeepsMem.addAll {p : Plan} {x : Site} {word : Nat} {l : List Nat} : KeepsMem s (addAll t p x word l) :=
  .foldl (fun _ hu => .addCount hu) _ h

protected theorem KeepsMem.dropEv {im : Image} {p : Plan} {x : Site} {g : Nat} {ds : List (Nat × Nat)} : KeepsMem s (dropEv t im p x g ds) :=
  .ite h (.raise (.addAll (.count h)))

protected theorem KeepsMem.startStep {ix e : Nat} {cells : List Host.Cell} : KeepsMem s (startStep t ix e cells) :=
  .count (.startLate (.scheduleAwl h))

protected theorem KeepsMem.atStep {l ix : Nat} {want : Site → Bool} : KeepsMem s (atStep t l ix want).1 := by
  simp only [Machine.atStep]
  split
  · exact h
  · split
    · refine .iteFst h ?_
      split
      next u hq =>
        have hu : KeepsMem s u := .fst hq (.atCycle h)
        exact hu
      next u _ hq =>
        have hu : KeepsMem s u := .fst hq (.atCycle h)
        exact .commitDue (.ite (.sbSet hu) hu)
    · exact h

protected theorem KeepsMem.stepEcc {x : Site} {core ix : Nat} {reads : List (Nat × Nat)} : KeepsMem s (stepEcc t x core ix reads) :=
  .count (.spadEcc h)

protected theorem KeepsMem.runRound {im : Image} {pl : Plan} {x : Site} {e ix g bank : Nat} {recs : List RRec}
    : KeepsMem s (runRound t im pl x e ix g bank recs) :=
  .dropEv (.addAll (.count (.startStep (.stepEcc h))))

protected theorem Completes.execRound0 {lcl : Lcl} {ix : Nat} : Completes s (execRound0 lcl ix t) := by
  simp only [Machine.execRound0]
  split
  next u hq =>
    have hu : KeepsMem s u := .fst hq (.atStep h)
    exact .next hu
  next u _ _ _ _ _ _ hq =>
    have hu : KeepsMem s u := .fst hq (.atStep h)
    exact .next (.runRound (.ite (.addAll (.count hu)) (.raise (.count (.addAll (.count hu))))))

protected theorem Completes.execDispatchRound {lcl : Lcl} {ix : Nat} : Completes s (execDispatchRound lcl ix t) := by
  simp only [Machine.execDispatchRound]
  split
  next u hq =>
    have hu : KeepsMem s u := .fst hq (.atStep h)
    exact .next hu
  next u _ _ _ _ _ _ hq =>
    have hu : KeepsMem s u := .fst hq (.atStep h)
    exact .next (.runRound hu)

protected theorem Completes.execCombine {lcl : Lcl} {ix : Nat} : Completes s (execCombine lcl ix t) := by
  simp only [Machine.execCombine]
  split
  next u hq =>
    have hu : KeepsMem s u := .fst hq (.atStep h)
    exact .next hu
  next u _ _ _ _ _ _ hq =>
    have hu : KeepsMem s u := .fst hq (.atStep h)
    exact .next (.badP16 (.startStep (.stepEcc hu)))

protected theorem Completes.execPopularityCountAdd : Completes s (execPopularityCountAdd t) := by
  simp only [Machine.execPopularityCountAdd]
  split
  · exact .next h
  · exact .ite (.next (.update h)) (.next (.putAt (.getAt (.update h))))

protected theorem KeepsOk.wArm {e : Nat} : KeepsOk s (wArm t e) := by
  simp only [Machine.wArm]
  refine .ite .error ?_
  split
  · refine .ite .error ?_
    split
    · exact .error
    · exact .ite .error (.ok (.update h))
  · exact .error

protected theorem Completes.execExpertPoint {part : Part} {ix : Nat} : Completes s (execExpertPoint part ix t) := by
  simp only [Machine.execExpertPoint]
  split
  · split
    · exact .next h
    · exact .ite (.next h) (.ite (.next (.raise (.count (.update h)))) (.next (.raise (.count (.update (.update h))))))
  · exact .next h

end Routing

/-! ### Images -/

section Images
variable {s t : State} (h : KeepsMem s t)
include h

protected theorem KeepsMem.setImg {i : Nat} {e : ImgEnt} : KeepsMem s (setImg t i e) := .update h

protected theorem KeepsMem.destroyImage {e : ImgEnt} : KeepsMem s (destroyImage t e) := by
  simp only [Machine.destroyImage]
  refine .foldl (fun _ hu => ?_) _ h
  split
  · exact .destroyObj hu
  · exact hu

protected theorem KeepsMem.demoteImg {i : Nat} : KeepsMem s (demoteImg t i) := by
  simp only [Machine.demoteImg]
  refine .setImg (.foldl (fun _ hu => ?_) _ h)
  refine .ite hu ?_
  split
  · exact .changeNow hu
  · exact hu

protected theorem KeepsMem.evictImg {i : Nat} : KeepsMem s (evictImg t i) := .setImg (.destroyImage h)

protected theorem KeepsMem.victimEv {v req act : Nat} : KeepsMem s (victimEv t v req act) := .raise h

protected theorem KeepsMem.pinObj {req id cls die n : Nat} : KeepsMem s (pinObj req id cls die n t).1 := by
  induction n generalizing t with
  | zero => exact h
  | succ n ih =>
    simp only [Machine.pinObj]
    split
    · exact h
    · refine .iteFst (.changeNow h) (.iteFst h ?_)
      split
      · exact h
      · exact .iteFst h (ih (.demoteImg (.victimEv h)))

protected theorem KeepsMem.pinImg {i : Nat} : KeepsMem s (pinImg t i).1 :=
  .trans (.foldlFst (fun _ hu => .iteFst (.pinObj hu) hu) _ h) (.ite (.setImg (.refl _)) (.refl _))

protected theorem KeepsMem.openObj {req id base len flags part region n : Nat} : KeepsMem s (openObj req id base len flags part region n t).1 := by
  induction n generalizing t with
  | zero => exact h
  | succ n ih =>
    simp only [Machine.openObj]
    split
    · exact .createObj h
    · refine .iteFst h ?_
      split
      · exact h
      · exact ih (.evictImg (.victimEv h))
    · exact h

protected theorem KeepsMem.openImg {i : Nat} : KeepsMem s (openImg t i).1 := by
  simp only [Machine.openImg]
  split
  · exact h
  · split
    · exact h
    · generalize hr : List.foldl _ (t, _) _ = r
      have hu : KeepsMem s r.1 := by
        rw [← hr]
        refine .foldlFst (r := (_, _)) (fun _ hu => ?_) _ h
        exact .iteFst hu (.openObj hu)
      refine .iteFst (.foldl (fun _ hu => ?_) _ hu) (.setImg hu)
      split
      · exact .destroyObj hu
      · exact hu

protected theorem KeepsMem.sealShard {i : Nat} {key : List Byte} {x : Shard} : KeepsMem s (sealShard i key t x) :=
  .ite h (.ite (.setImg (.putAt h)) (.raise (.putAt h)))

protected theorem KeepsMem.sealImg {i : Nat} : KeepsMem s (sealImg t i).1 := by
  have hs : ∀ (key : List Byte) (l : List Shard) {u}, KeepsMem s u → KeepsMem s (l.foldl (Machine.sealShard i key) u) :=
    fun _ l _ hu => .foldl (fun _ hu => .sealShard hu) l hu
  simp only [Machine.sealImg]
  refine .iteFst (.setImg h) ?_
  split
  · exact .setImg h
  · split
    · exact hs _ _ (.setImg h)
    · refine .iteFst (.pinImg (.foldl (fun _ hu => ?_) _ (hs _ _ (.setImg h)))) (.pinImg (.foldl (fun _ hu => ?_) _ (hs _ _ (.setImg h))))
      · split
        · exact .putObj hu
        · exact hu
      · split
        · exact .putObj hu
        · exact hu

protected theorem KeepsMem.runImg {i c : Nat} : KeepsMem s (runImg t i c).1 := by
  simp only [Machine.runImg]
  split
  · exact .iteFst (.openImg h) h
  · exact .iteFst (.sealImg h) h
  · refine .iteFst h ?_
    split
    · exact h
    · exact .demoteImg h
  · exact .iteFst h (.iteFst (.pinImg h) (.pinImg h))
  · refine .iteFst h ?_
    split
    · exact h
    · exact .evictImg h
  · refine .iteFst h ?_
    split
    · exact h
    · exact .setImg (.destroyImage h)

protected theorem KeepsOk.wImage {c : Nat} : KeepsOk s (wImage t c) :=
  .ite .error (.ite .error (.ite .error (.ok (.setO (.update (.runImg h))))))

protected theorem Completes.execImageCommandComplete : Completes s (execImageCommandComplete t) := by
  simp only [Machine.execImageCommandComplete]
  split
  · exact .next h
  · exact .next (.raise (.setO (.setO (.setO (.update (.ite (.setImg h) h))))))

protected theorem KeepsMem.clearRun {d f r : Nat} : KeepsMem s (clearRun t d f r) := .clearTiles h

protected theorem KeepsMem.setWords {p : Nat} {cs : List Nat} : KeepsMem s (setWords t p cs) := .foldl (fun _ hu => .setO hu) _ h

protected theorem KeepsMem.partEv {p c : Nat} {cs : List Nat} : KeepsMem s (partEv t p c cs) := .raise h

protected theorem KeepsMem.defined {p c : Nat} {cs : List Nat} {rs : List (Nat × Nat)} : KeepsMem s (defined t p c cs rs) :=
  .foldl (fun _ hu => .sweepDie hu) _ (.partEv (.setO (.setO (.setWords (.foldl (fun _ hu => .setO (.clearRun hu)) _ h)))))

protected theorem KeepsOk.define {p c : Nat} {cs : List Nat} : KeepsOk s (define t p c cs) := by
  unfold Machine.define
  cases placeRegions t p with
  | none => exact .error
  | some rs => exact .ok (.defined h)

protected theorem KeepsMem.released {p : Nat} : KeepsMem s (released t p) := .partEv (.setO (.setO (.setWords (.foldl (fun _ hu => .setO hu) _ h))))

protected theorem KeepsMem.cleared {p : Nat} : KeepsMem s (cleared t p) := .partEv (.setO (.setO (.setO (.setO h))))

protected theorem KeepsOk.wPartCmd {c : Nat} : KeepsOk s (wPartCmd t c) :=
  .ite .error (.ite (.ite .error (.ite .error (.define h))) (.ite (.ite .error (.ite (.define h) .error)) (.ite (.ite .error (.ok (.released h)))
    (.ite (.ite .error (.ok (.cleared h))) .error))))

protected theorem KeepsOk.wRange {p sub v : Nat} : KeepsOk s (wRange t p sub v) := .ite .error (.ite (.ok (.setO h)) .error)

protected theorem KeepsOk.wShare {p v : Nat} : KeepsOk s (wShare t p v) := .ite .error (.ok (.setO h))

end Images

/-! ### Timed -/

section Timed
variable {s t : State} (h : KeepsMem s t)
include h

protected theorem KeepsMem.takeMask {p l : Nat} {im : Image} {x : Timed} : KeepsMem s (takeMask t p l im x) := .ite h (.modCl h)

protected theorem KeepsMem.maskCluster {p l : Nat} {im : Image} : KeepsMem s (maskCluster t p l im) :=
  .ite h (.modCl (.foldl (fun _ hu => .takeMask hu) _ h))

protected theorem Completes.execMaskPoint {part : Part} {ix : Nat} : Completes s (execMaskPoint part ix t) := by
  simp only [Machine.execMaskPoint]
  split
  · exact .next h
  · split
    · exact .next h
    · refine .ite (.next h) (.next (.foldl (fun _ hu => ?_) _ h))
      refine .ite hu ?_
      split
      next u _ _ hq =>
        have hu : KeepsMem s u := .fst hq (.atCycle hu)
        exact .ite (.maskCluster hu) hu
      next u hq =>
        have hu : KeepsMem s u := .fst hq (.atCycle hu)
        exact hu

protected theorem KeepsMem.dueSym {ty : Nat} {u : State} {x : Timed} (hq : dueSym t ty = some (u, x)) : KeepsMem s u := by
  unfold Machine.dueSym at hq
  split_ifs at hq
  split at hq <;> [split_ifs at hq; cases hq]
  cases hq
  exact .update h

protected theorem KeepsMem.freshClusters {ls : List Nat} {keepMask : Bool} : KeepsMem s (freshClusters t ls keepMask) :=
  .foldl (fun _ hu => .ite hu (.setPort hu)) _ (.update (.foldl (fun _ hu => .setAwl (.setCl (.spadForget hu))) _ h))

protected theorem KeepsMem.enterRunning : KeepsMem s (enterRunning t) := .ite h (.foldl (fun _ hu => .sendCtl hu) _ (.setMode (.update h)))

protected theorem KeepsMem.startPart {p : Nat} : KeepsMem s (startPart t p) := by
  simp only [Machine.startPart]
  split
  · split
    · exact .raise h
    · exact .setPart (.freshClusters h)
  · exact h

protected theorem Completes.execRunningEntry : Completes s (execRunningEntry t) := by
  simp only [Machine.execRunningEntry]
  split
  · exact .next h
  next u _ hq =>
    have hu : KeepsMem s u := .dueSym h hq
    refine .ite (.next hu) (.next (.foldl (fun _ hu => ?_) _ (.enterRunning hu)))
    exact .startPart hu

protected theorem KeepsMem.switchEv {p ix id outcome : Nat} : KeepsMem s (switchEv t p ix id outcome) := .raise h

protected theorem KeepsMem.stopTimers {p : Nat} : KeepsMem s (stopTimers t p) := .update h

protected theorem KeepsMem.takeSwitch {p ix id n : Nat} {im : Image} : KeepsMem s (takeSwitch t p ix id n im) :=
  .trans (.setPart (.freshClusters (.bindSwitch h))) (.switchEv (.count (.ite (.enterRunning (.refl _)) (.refl _))))

protected theorem Completes.execFallbackSwitch {part : Part} : Completes s (execFallbackSwitch part t) := by
  simp only [Machine.execFallbackSwitch]
  split
  · exact .next h
  next u _ hq =>
    have hu : KeepsMem s u := .dueSym h hq
    refine .ite (.next h) (.ite (.next (.count (.update hu))) (.trans ?_ (.next (.rewindSwitch (.ite (.stopTimers (.refl _)) (.update (.stopTimers
      (.refl _))))))))
    split
    · exact .switchEv (.setPart (.count (.update hu)))
    · exact .ite (.switchEv (.setPart (.count (.update hu)))) (.takeSwitch (.count (.update hu)))

protected theorem KeepsMem.fence {n origin : Nat} : KeepsMem s (fence t n origin) :=
  .trans (.startTimer (.raise (.update (.stopSchedule h)))) (.ite (.setMode (.refl _)) (.refl _))

protected theorem Completes.execIdentityAdopted : Completes s (execIdentityAdopted t) := by
  simp only [Machine.execIdentityAdopted]
  split
  · exact .next h
  next u _ hq =>
    have hu : KeepsMem s u := .dueSym h hq
    exact .ite (.next (.raise (.update hu))) (.ite (.next (.fence (.update hu))) (.next (.update hu)))

protected theorem KeepsMem.endCores {im : Image} : KeepsMem s (endCores t im) := by
  refine .update (.foldl (fun _ hu => ?_) _ h)
  refine .foldl (fun _ hu => ?_) _ hu
  refine .foldl (fun _ hu => ?_) _ hu
  exact .commit hu

protected theorem Completes.execFaultedPartitionStop : Completes s (execFaultedPartitionStop t) := by
  simp only [Machine.execFaultedPartitionStop]
  split
  · exact .next h
  · refine .ite (.next h) (.next (.foldl (fun _ hu => ?_) _ (.foldl (fun _ hu => ?_) _ h)))
    · exact .setPart hu
    · split
      · exact .endCores hu
      · exact hu

end Timed

/-! ### Tick -/

section Tick
variable {s t : State} (h : KeepsMem s t)
include h

protected theorem KeepsMem.countPart {p : Nat} {im : Image} : KeepsMem s (countPart t p im) := .count (.count h)

protected theorem KeepsMem.useImages {im : Image} : KeepsMem s (useImages t im) := .update h

protected theorem KeepsMem.countTick : KeepsMem s (countTick t) := by
  simp only [Machine.countTick]
  refine .foldl (fun _ hu => ?_) _ h
  refine .ite ?_ hu
  split
  · exact .useImages (.countPart hu)
  · exact hu

protected theorem KeepsMem.markLate : KeepsMem s (markLate t) :=
  .foldl (fun _ hu => .ite (.modPort hu) hu) _ (.foldl (fun _ hu => .ite (.modCl hu) hu) _ h)

protected theorem KeepsMem.sleepCluster {l : Nat} : KeepsMem s (sleepCluster t l) := .foldl (fun _ hu => .setCore hu) _ (.modCl (.spadForget h))

protected theorem Completes.execSleepStart {part : Part} {ix : Nat} : Completes s (execSleepStart part ix t) := by
  simp only [Machine.execSleepStart]
  split
  · exact .ite (.next (.sleepCluster h)) (.next h)
  · exact .next h

protected theorem Completes.execPortSleep {part : Part} {ix : Nat} : Completes s (execPortSleep part ix t) := by
  simp only [Machine.execPortSleep]
  split
  · exact .ite (.next (.modPort h)) (.next h)
  · exact .next h

protected theorem Completes.execWakeUpStart {part : Part} {ix : Nat} : Completes s (execWakeUpStart part ix t) := by
  simp only [Machine.execWakeUpStart]
  split
  · exact .ite (.next (.modCl h)) (.ite (.next (.modPort h)) (.next h))
  · exact .next h

protected theorem KeepsMem.lateWake {kind target pt late : Nat} : KeepsMem s (lateWake t kind target pt late) :=
  .ite h (.raise (.count h))

protected theorem Completes.execWakeUpComplete {part : Part} {ix : Nat} : Completes s (execWakeUpComplete part ix t) := by
  simp only [Machine.execWakeUpComplete]
  split
  · exact .next h
  · exact .ite (.next (.lateWake (.modCl h))) (.ite (.next (.lateWake (.modPort h))) (.next h))

protected theorem KeepsMem.settleMasks : KeepsMem s (settleMasks t) := by
  simp only [Machine.settleMasks]
  refine .update (.foldl (fun _ hu => ?_) _ h)
  split
  · exact hu
  · refine .foldl (fun _ hu => ?_) _ hu
    exact .ite hu (.takeMask hu)

protected theorem KeepsMem.nextTick {k : Nat} : KeepsMem s (nextTick t k) :=
  .trans (.settleMasks (.countTick (.tellP16 h))) (.trans (.ite (.refl _) (.count (.count (.refl _)))) (.markLate (.sendEpoch (.ite (.rootValues
    (.update (.refl _))) (.update (.refl _))))))

protected theorem KeepsMem.idleFault {l : Nat} : KeepsMem s (idleFault t l) := .ite (.markUnhealthy h) h

protected theorem KeepsMem.endTick {k : Nat} {noK : Bool} : KeepsMem s (endTick t k noK) := by
  simp only [Machine.endTick]
  refine .trans (.foldl (fun _ hu => ?_) _ (.foldl (fun _ hu => ?_) _ h)) (.nextTick (.ite (.refl _) (.ite (.tickFault (.refl _)) ?_)))
  · exact .modCl hu
  · exact .idleFault hu
  · split
    · exact .refl _
    · exact .tickFault (.refl _)

protected theorem KeepsMem.clusterCycle {x : Nat × Nat × Image} : KeepsMem s (clusterCycle t x) := by
  simp only [Machine.clusterCycle]
  refine .ite h ?_
  split
  next u hq =>
    have hu : KeepsMem s u := .fst hq (.takeCycle h)
    refine .lateTransfers (.startLate (.foldl (fun _ hu => ?_) _ hu))
    exact .ite hu (.ringStep hu)
  next u hq =>
    have hu : KeepsMem s u := .fst hq (.takeCycle h)
    exact .count (.modCl hu)

protected theorem KeepsMem.clusterCycles : KeepsMem s (clusterCycles t) := .foldl (fun _ hu => .clusterCycle hu) _ h

protected theorem KeepsMem.settle : KeepsMem s (settle t) := by
  refine .foldl (fun _ hu => ?_) _ (.landAll h)
  refine .ite (.foldl (fun _ hu => ?_) _ hu) hu
  exact .ite hu (.writeDue hu)

protected theorem KeepsMem.advance : KeepsMem s (advance t) :=
  .ite (.update (.count h)) (.pumpCycle (.releasePads (.settle (.update (.count h)))))

protected theorem KeepsMem.idle : KeepsMem s (idle t) := by
  simp only [Machine.idle]
  refine .ite (.advance h) ?_
  generalize hs : (if laceRuns t = true then _ else _) = u
  have hu : KeepsMem s u := hs ▸ .ite (.clusterCycles h) h
  split
  · exact .advance (.endTick hu)
  · exact .advance (.ite (.castVotes (.update hu)) hu)

protected theorem Completes.execTickEnd : Completes s (execTickEnd t) := by
  simp only [Machine.execTickEnd]
  split
  · exact .next (.advance (.endTick (.ite (.clusterCycles h) h)))
  · exact .next h

end Tick

/-! ### Power -/

section Power
variable {s t : State} (h : KeepsMem s t)
include h

protected theorem KeepsOk.wFreq {e : Nat} : KeepsOk s (wFreq t e) := by
  simp only [Machine.wFreq]
  refine .ite .error (.ite .error (.ite .error ?_))
  split
  · exact .error
  next u hq =>
    have hu : KeepsMem s u := .of_eq hq (.sendTimed h)
    exact .ok (.beginChange hu)

protected theorem KeepsMem.pointEv {old new outcome : Nat} : KeepsMem s (pointEv t old new outcome) := .raise (.count h)

protected theorem KeepsMem.switchPoint {b : Nat} : KeepsMem s (switchPoint t b) := .pointEv (.ite (.writeVolts (.update h)) (.update h))

protected theorem Completes.execOperatingPointSwitch : Completes s (execOperatingPointSwitch t) := by
  simp only [Machine.execOperatingPointSwitch]
  split
  · exact .next h
  next u _ hq =>
    have hu : KeepsMem s u := .dueSym h hq
    exact .ite (.next (.symEv (.dropChange hu))) (.next (.switchPoint hu))

protected theorem Completes.execVoltageStepDone {group : Nat} : Completes s (execVoltageStepDone group t) := by
  simp only [Machine.execVoltageStepDone]
  split
  · exact .next h
  · exact .next (.update h)

protected theorem KeepsMem.setThermtrip {on : Bool} : KeepsMem s (setThermtrip t on) := .ite h (.emit (.update h))

protected theorem KeepsMem.currentTrip {rail amps : Nat} : KeepsMem s (currentTrip t rail amps) := .tripHalt h (fun hu => .raise hu)

protected theorem KeepsMem.readAmps {g amps n : Nat} {put : Nat → Vec4 → Vec4} : KeepsMem s (readAmps t g amps n put) :=
  .ite (.currentTrip (.update (.setO h))) (.update (.setO h))

protected theorem Completes.execAvsbusCurrentPoll {amps : Vec4} : Completes s (execAvsbusCurrentPoll amps t) :=
  .ite (.next h) (.next (.readAmps (.readAmps (.readAmps (.readAmps h)))))

protected theorem Completes.execThermalSample {temps : List Int} : Completes s (execThermalSample temps t) := by
  refine .ite (.next h) (.trans (.foldl (fun _ hu => ?_) _ h) (.ite (.next (.tripHalt (.setThermtrip (.setO (.setO (.refl _)))) (fun hu => ?_)))
    (.trans (.foldl (fun _ hu => ?_) _ (.setO (.setO (.refl _)))) (.next (.ite (.setThermtrip (.refl _)) (.refl _))))))
  · exact .setO hu
  · refine .raise (.foldl (fun _ hu => ?_) _ hu)
    exact .ite (.raiseSec hu) hu
  · exact .ite (.raiseSec hu) hu

protected theorem KeepsMem.watchLimit : KeepsMem s (watchLimit t) := .ite (.ite (.raiseSec (.update h)) (.update h)) (.update h)

protected theorem Completes.execEstimatorStep {volts : Vec4} {tele : Nat} : Completes s (execEstimatorStep volts tele t) :=
  .ite (.next h) (.trans (.ite (.update (.fresh (.fresh h))) (.fresh (.fresh h))) (.trans (.ite (.update (.refl _)) (.refl _)) (.next (.ite
    (.raise (.count (.watchLimit (.update (.refl _))))) (.watchLimit (.update (.refl _)))))))

protected theorem KeepsMem.watchRamp {before : List Nat} : KeepsMem s (watchRamp t before) := .ite (.raiseSec (.count h)) h

protected theorem KeepsMem.addEnergy : KeepsMem s (addEnergy t) := .ite (.update h) (.count (.update h))

protected theorem Completes.execGovernorStep : Completes s (execGovernorStep t) :=
  .ite (.next h) (.trans (.watchRamp (.addEnergy (.update (.fresh h)))) (.next (.ite (.raiseSec (.refl _)) (.refl _))))

protected theorem KeepsMem.wPreRamp {v : Nat} : KeepsMem s (wPreRamp t v) := .update h

end Power

/-! ### Firmware -/

section Firmware
variable {s t : State} (h : KeepsMem s t)
include h

protected theorem KeepsOk.wImageCheck {v : Nat} : KeepsOk s (wImageCheck t v) :=
  .ite .error (.ite .error (.ok (.setO (.setO (.update h)))))

protected theorem Completes.execImageCheckComplete : Completes s (execImageCheckComplete t) := by
  simp only [Machine.execImageCheckComplete]
  split
  · exact .next h
  · exact .next (.raise (.setO (.setO (.update h))))

end Firmware

/-! ### Startup -/

section Startup
variable {s t : State} (h : KeepsMem s t)
include h

protected theorem KeepsMem.applyStraps {p : Straps} : KeepsMem s (applyStraps t p) :=
  .setO (.setO (.setO (.setO (.setO (.setO (.update h))))))

protected theorem KeepsMem.restorePersist : KeepsMem s (restorePersist t) := .foldl (fun _ hu => .setO hu) _ h

omit h in
protected theorem KeepsMem.coldState : KeepsMem s (coldState t) :=
  .update (.restorePersist (.foldl (fun _ hu => .setO hu) _ (.applyStraps (.setO (.foldl (fun _ hu => .setCl hu) _ (.update .reset))))))

protected theorem KeepsMem.checkFuses : KeepsMem s (checkFuses t) := .ite h (.alarmIf (.fresh h))

protected theorem KeepsMem.enterKeeper : KeepsMem s (enterKeeper t) :=
  .ite (.update (.applyStraps (.update h))) (.update (.applyStraps (.update h)))

protected theorem KeepsMem.setEnable {r : Nat} {on : Bool} : KeepsMem s (setEnable t r on) := .ite h (.emit (.update h))

protected theorem KeepsMem.logPower {rail phase cause : Nat} : KeepsMem s (logPower t rail phase cause) := .raise (.update h)

protected theorem KeepsMem.downFrom {l : List (List Nat)} {n : Nat} : KeepsMem s (downFrom l n t) := by
  induction l generalizing t n with
  | nil => exact .enterKeeper h
  | cons e r ih =>
    have hf := fun l : List Nat => KeepsMem.foldl (fun b hu => KeepsMem.setEnable (r := b) (on := false) hu) l h
    exact .ite (.update (hf _)) (ih (hf _))

protected theorem KeepsMem.goDown {k : Nat} : KeepsMem s (goDown t k) := .downFrom h

protected theorem KeepsMem.packageReset {cause : Nat} : KeepsMem s (packageReset t cause) :=
  .ite (.update h) (.goDown (.checkFuses (.update (.setO (.setO (.coldState))))))

protected theorem KeepsMem.goUp {k : Nat} : KeepsMem s (goUp t k) := .update (.foldl (fun _ hu => .setEnable hu) _ h)

protected theorem KeepsMem.deriveDramKey : KeepsMem s (deriveDramKey t) := .update (.fresh h)

protected theorem KeepsMem.bootFails {code : Nat} : KeepsMem s (bootFails t code) := .packageReset (.setO h)

protected theorem KeepsMem.startFirmware {img : List Byte} {copy : Nat} : KeepsMem s (startFirmware t img copy) :=
  .update (.setHart (.setO (.update (.setO (.setO (.setO (.setO (.memPut (.memPut (.deriveDramKey h))))))))))

protected theorem KeepsMem.bootRom {b : BootIn} : KeepsMem s (bootRom t b) := by
  simp only [Machine.bootRom]
  refine .ite (.bootFails h) (.ite (.bootFails h) ?_)
  split
  · exact .ite (.startFirmware h) (.bootFails h)
  · exact .ite (.startFirmware h) (.ite (.startFirmware (.update h)) (.bootFails h))
  · exact .update h
  · exact .bootFails h

protected theorem Completes.execPowerGoodRise {rail : Nat} {boot : BootIn} : Completes s (execPowerGoodRise rail boot t) := by
  simp only [Machine.execPowerGoodRise]
  refine .ite (.next h) ?_
  split
  · exact .ite (.next (.update h)) (.ite (.next (.goUp (.update h))) (.next (.bootRom (.update h))))
  · exact .next (.update h)

protected theorem Completes.execPowerGoodTimeout : Completes s (execPowerGoodTimeout t) := by
  simp only [Machine.execPowerGoodTimeout]
  split
  · refine .ite (.next h) (.next (.packageReset (.foldl (fun _ hu => ?_) _ h)))
    exact .logPower hu
  · exact .next h

protected theorem KeepsMem.pgLow {rail : Nat} : KeepsMem s (pgLow t rail) := .ite (.update h) (.setThermtrip (.update h))

protected theorem KeepsMem.railLoss {rail cause : Nat} : KeepsMem s (railLoss t rail cause) := .logPower (.update (.pgLow h))

protected theorem Completes.execPowerGoodFall {rail : Nat} : Completes s (execPowerGoodFall rail t) := by
  simp only [Machine.execPowerGoodFall]
  refine .ite (.next h) (.ite (.next (.railLoss h)) ?_)
  split
  · exact .ite (.next (.pgLow h)) (.next (.goDown (.pgLow h)))
  · exact .next (.pgLow h)

protected theorem Completes.execPowerDownTimeout : Completes s (execPowerDownTimeout t) := by
  simp only [Machine.execPowerDownTimeout]
  split
  · refine .ite (.next h) (.next (.goDown (.foldl (fun _ hu => ?_) _ h)))
    exact .logPower hu
  · exact .next h

protected theorem Completes.execRailFault {rail : Nat} {regulator : Bool} : Completes s (execRailFault rail regulator t) := by
  simp only [Machine.execRailFault]
  refine .ite (.next h) ?_
  split
  · exact .next (.logPower h)
  · exact .next (.logPower h)
  · exact .next h
  · exact .next (.railLoss h)

protected theorem Completes.execBootLen {len : Nat} {image : List Byte} {rngOk : Bool} : Completes s (execBootLen len image rngOk t) :=
  .ite (.next h) (.ite (.next (.bootFails h)) (.ite (.next (.bootFails h)) (.next (.startFirmware h))))

protected theorem KeepsOk.wFirmwareReady {v : Nat} : KeepsOk s (wFirmwareReady t v) := .ite .error (.ite .error (.ok (.update h)))

omit h in
protected theorem Completes.execPowerOnReset {fuses : Fuses} : Completes s (execPowerOnReset fuses t) :=
  .next (.checkFuses (.setO (.foldl (fun _ hu => .setCl hu) _ (.update .reset))))

protected theorem KeepsMem.selfTest : KeepsMem s (selfTest t) := .foldl (fun _ hu => .ite hu (.raise (.setO (.setO (.setO hu))))) _ h

protected theorem KeepsMem.clearTables : KeepsMem s (clearTables t) := .ite h (.update (.memClear h))

protected theorem KeepsMem.bringUp : KeepsMem s (bringUp t) := by
  simp only [Machine.bringUp]
  refine .ite h (.trans (.ite (.ite (.setO (.clearTables h)) ?_) h) (.ite (.setO (.refl _)) (.refl _)))
  split <;> exact .startBuild (.setO (.clearTables h))

protected theorem KeepsMem.enterReady : KeepsMem s (enterReady t) := .startLace (.setMode (.update (.setO (.setO h))))

protected theorem Completes.execDramTrainingComplete {fail : Option DramFail} : Completes s (execDramTrainingComplete fail t) := by
  simp only [Machine.execDramTrainingComplete]
  refine .ite (.next h) ?_
  split
  · exact .next (.bringUp (.update (.setO (.setO h))))
  · exact .next (.raise (.portsDown (.update (.setO (.setO (.setO h))))))

protected theorem KeepsMem.configEv : KeepsMem s (configEv t) := .raise h

protected theorem KeepsMem.beginStandby : KeepsMem s (beginStandby t) :=
  .update (.portsDown (.update (.foldl (fun _ hu => .setO hu) _ (.foldl (fun _ hu => .qpError hu) _ (.stopAll (.abandonLoad h))))))

protected theorem KeepsMem.stateCmd {secure : Bool} {v : Nat} : KeepsMem s (stateCmd t secure v).1 := by
  simp only [Machine.stateCmd]
  refine .iteFst h (.iteFst h (.iteFst h (.iteFst h (.iteFst (.ite (.update h) h) ?_))))
  split
  · exact .goUp (.update h)
  · exact .setO (.selfTest (.setO (.update h)))
  · exact .packageReset h
  · exact .packageReset h
  · exact .packageReset h
  · exact .beginStandby h
  · exact .beginStandby h
  · exact .iteFst (.configEv h) (.iteFst h (.update h))
  · exact .update h
  · exact .update h
  · exact .setMode (.update h)
  · exact .iteFst h (.beginStandby h)
  · exact h

protected theorem KeepsMem.standbyFromKeeper : KeepsMem s (standbyFromKeeper t) := by
  unfold Machine.standbyFromKeeper
  extract_lets dev u b self sdev v dev' w
  have hv : KeepsMem s v := by
    clear_value b
    unfold v
    split
    · exact .raise (.update (.setMode (.update h)))
    · exact .setMode (.update h)
  have hw : KeepsMem s w := by
    unfold w
    split
    · exact .raise (.update hv)
    · exact hv
  exact .ite (.stateCmd (.update hw)) hw

protected theorem KeepsMem.leaveAlarm : KeepsMem s (leaveAlarm t) :=
  .raise (.setMode (.update (.ite (.update (.setO (.setO (.setO (.deriveDramKey (.update h)))))) (.update h))))

protected theorem Completes.execStateChangeComplete : Completes s (execStateChangeComplete t) := by
  simp only [Machine.execStateChangeComplete]
  split
  · exact .ite (.next (.ite (.standbyFromKeeper h) h)) (.ite (.next h) (.ite (.next (.leaveAlarm h)) (.next (.setMode (.update h)))))
  · exact .next (.ite (.enterReady (.bringUp h)) (.bringUp h))
  · exact .ite (.next (.setMode (.update h))) (.next h)
  · exact .ite (.next (.setMode (.update h))) (.next h)
  · exact .next h

protected theorem Completes.execResetNAssert {ns : Nat} : Completes s (execResetNAssert ns t) :=
  .ite (.next h) (.ite (.next (.packageReset (.update h))) (.next (.ite (.packageReset (.fresh h)) (.fresh h))))

end Startup

/-! ### Security -/

section Security
variable {s t : State} (h : KeepsMem s t)
include h

protected theorem KeepsMem.condFor {src ns : Nat} : KeepsMem s (condFor t src ns) := .update h

protected theorem KeepsMem.detect {src detail ns : Nat} : KeepsMem s (detect t src detail ns) := .alarmIf (.condFor h)

protected theorem Completes.execClockGlitch {clk permille : Nat} {lost : Bool} {ns : Nat} : Completes s (execClockGlitch clk permille lost ns t) :=
  .ite (.next h) (.next (.detect h))

protected theorem Completes.execDebugIntrusion {ir : TapInstr} {code ns : Nat} : Completes s (execDebugIntrusion ir code ns t) := by
  simp only [Machine.execDebugIntrusion]
  split
  · exact .next (.ite (.detect h) h)
  · exact .next h
  · exact .next h

protected theorem Completes.execFuseReadback {bad : Option Nat} : Completes s (execFuseReadback bad t) := by
  simp only [Machine.execFuseReadback]
  refine .ite (.next h) ?_
  split
  · exact .next (.update h)
  · exact .next (.alarmIf (.update h))

protected theorem Completes.execAlarmHotSetClear : Completes s (execAlarmHotSetClear t) := by
  simp only [Machine.execAlarmHotSetClear]
  refine .ite (.next h) (.next (.update (.foldl (fun _ hu => ?_) _ (.foldl (fun _ hu => ?_) _ h))))
  · exact .putObj hu
  · split
    · exact .putTile hu
    · exact hu

protected theorem KeepsMem.restartCount : KeepsMem s (restartCount t) := .update h

protected theorem KeepsMem.startFuses {sub v : Nat} : KeepsMem s (startFuses t sub v) := .update h

protected theorem KeepsOk.wRaiseSvn {v : Nat} : KeepsOk s (wRaiseSvn t v) := .ite .error (.ite .error (.ok (.startFuses h)))

protected theorem KeepsOk.wRevoke {k : Nat} : KeepsOk s (wRevoke t k) := .ite .error (.ite .error (.ok (.startFuses h)))

protected theorem Completes.execFusesProgrammed : Completes s (execFusesProgrammed t) := by
  simp only [Machine.execFusesProgrammed]
  split
  · exact .next h
  · exact .next (.raise (.update h))

protected theorem KeepsOk.wKeyCmd {v : Nat} : KeepsOk s (wKeyCmd t v) := by
  simp only [Machine.wKeyCmd]
  refine .ite .error (.ite .error ?_)
  split
  · split
    · exact .ok (.update h)
    · exact .error
  · refine .ite .error ?_
    split
    · exact .error
    · exact .ok (.update h)
  · exact .ok (.update h)

protected theorem KeepsOk.wArming {v : Nat} : KeepsOk s (wArming t v) :=
  .ite .error (.ite .error (.ite (.ok (.setO h)) (.ok (.ite (.raise (.count (.alarmActions (.setO h)))) (.alarmActions (.setO h))))))

protected theorem KeepsOk.wRegion {sub v : Nat} : KeepsOk s (wRegion t sub v) := .ite .error (.ite .error (.ite .error (.ok (.update h))))

end Security

/-! ### Writes -/

section Writes
variable {s t : State} (h : KeepsMem s t)
include h

protected theorem KeepsMem.ofW {w : WRes} (hw : KeepsOk s w) : KeepsMem s (ofW t w).1 := by
  cases w with
  | ok u => exact .of_eq rfl hw
  | error n => exact h

protected theorem KeepsMem.plain {i sub v : Nat} {c : Bool} : KeepsMem s (plain t i sub v c).1 := .iteFst (.setO h) h

protected theorem KeepsMem.lowerLimit {i sub v : Nat} : KeepsMem s (lowerLimit t i sub v).1 := .iteFst h (.iteFst h (.raise (.setO h)))

protected theorem KeepsMem.wTickShape {i v : Nat} : KeepsMem s (wTickShape t i v).1 := by
  simp only [Machine.wTickShape]
  split
  · exact .plain h
  · exact .iteFst h (.plain h)
  · exact .iteFst h (.plain h)

protected theorem KeepsMem.wVoteReach {v : Nat} : KeepsMem s (wVoteReach t v).1 := .iteFst h (.plain h)

protected theorem KeepsMem.wMark {v : Nat} : KeepsMem s (wMark t v).1 := .iteFst h (.markUnhealthy h)

protected theorem KeepsMem.wRoute {v : Nat} : KeepsMem s (wRoute t v) := .ite (.update h) (.update h)

protected theorem KeepsMem.wLmap {v : Nat} : KeepsMem s (wLmap t v).1 := .iteFst (.update h) h

protected theorem KeepsMem.wHead {v : Nat} {hart : Option Hart} : KeepsMem s (wHead t v hart).1 := by
  simp only [Machine.wHead]
  refine .iteFst h (.reportLoss ?_)
  split
  · exact .ite (.update (.setO h)) (.setO h)
  · exact .setO h

protected theorem KeepsMem.wEnable {v : Nat} : KeepsMem s (wEnable t v).1 := .ite (.flushHold (.setO h)) (.setO h)

protected theorem KeepsMem.wQueue {q sub v : Nat} : KeepsMem s (wQueue t q sub v).1 := by
  simp only [Machine.wQueue]
  refine .iteFst (.commitBell h) (.iteFst h ?_)
  split
  · exact .iteFst h (.plain h)
  · exact .ofW h (.wFlush h)
  · exact .iteFst h (.setO h)
  · exact .iteFst h (.setO h)
  · exact .iteFst h (.setO h)
  · exact .iteFst h (.plain h)
  · exact .setO h

protected theorem KeepsMem.wPullObj {sub v : Nat} : KeepsMem s (wPullObj t sub v).1 := by
  simp only [Machine.wPullObj]
  split
  · exact .ofW h (.wQp h)
  · exact .ofW h (.wPull h)
  · exact .iteFst h (.plain h)
  · exact .iteFst h (.plain h)
  · exact .iteFst h (.plain h)
  · exact .iteFst h (.setO h)
  · exact .iteFst h (.setO h)
  · exact .wCompHead h
  · exact .setO h

protected theorem KeepsMem.wPartObj {p sub v : Nat} : KeepsMem s (wPartObj t p sub v).1 :=
  .iteFst (.ofW h (.wRange h)) (.iteFst (.ofW h (.wShare h)) (.iteFst (.setO h) (.iteFst h (.setO h))))

protected theorem KeepsMem.keepPart {p : Nat} : KeepsMem s (keepPart t p) := .update h

protected theorem KeepsMem.wPartition {v : Nat} : KeepsMem s (wPartition t v).1 := by
  simp only [Machine.wPartition]
  split
  next u hq =>
    have hu : KeepsMem s u := .of_eq hq (.wPartCmd h)
    exact .keepPart hu
  · exact h

protected theorem KeepsMem.wr1 {i sub v : Nat} : KeepsMem s (wr1 t i sub v).1 :=
  .iteFst (.wMark h) (.iteFst (.lowerLimit h) (.iteFst (.ofW h (.wActive h)) (.iteFst (.ofW h (.wLastCmd h)) (.iteFst (.wTickShape h) (.iteFst
    (.wVoteReach h) (.iteFst (.ofW h (.wStart h)) (.iteFst (.ofW h (.ite (.wSwitch h) (.wSwitchTick h))) (.iteFst (.ofW h (.wHalt h)) (.iteFst
    (.ofW h (.ite (.wAdoptNode h) (.wAdoptTick h))) (.iteFst (.wBind h) (.iteFst (.ofW h (.wArm h)) (.setO h))))))))))))

protected theorem KeepsMem.wr2 {i sub v : Nat} : KeepsMem s (wr2 t i sub v).1 := by
  unfold Machine.wr2
  exact .iteFst (.iteFst h (.plain h)) (.iteFst (.ofW h (.wLastStore h)) (.iteFst (.pair (.sweepAll (.plain h))) (.iteFst (.wTablePlace h)
    (.iteFst (.plain h) (.iteFst (.plain h) (.iteFst (.ofW h (.wDoorbell h)) (.iteFst (.ofW h (.wTable h)) (.iteFst (.ofW h (.wPortCmd h))
    (.iteFst (.plain h) (.iteFst (.ofW h (.wStorage h)) (.iteFst (.plain h) (.iteFst (.wPullObj h) (.iteFst (.wRoute h) (.iteFst (.wLmap h)
    (.setO h)))))))))))))))

protected theorem KeepsMem.wr3 {i sub v : Nat} : KeepsMem s (wr3 t i sub v).1 :=
  .iteFst (.plain h) (.iteFst (.ofW h (.wManager h)) (.iteFst (.plain h) (.iteFst (.setTen h) (.iteFst (.iteFst (.ofW h (.wCancel h)) h) (.iteFst
    (.wQueue h) (.iteFst (.wPartObj h) (.iteFst (.wPartition h) (.iteFst (.ofW h (.wImage h)) (.setO h)))))))))

protected theorem KeepsMem.wr4 {r : Req} {i sub v : Nat} : KeepsMem s (wr4 t r i sub v).1 :=
  .iteFst (.ofW h (.wImageCheck h)) (.iteFst (.plain h) (.iteFst (.plain h) (.iteFst (.plain h) (.iteFst (.stateCmd h) (.iteFst (.packageReset h)
    (.iteFst (.ofW h (.wFirmwareReady h)) (.iteFst (.lowerLimit h) (.iteFst (.plain h) (.iteFst (.wPreRamp h) (.iteFst (.ofW h (.wFreq h))
    (.iteFst (.plain h) (.iteFst (.ofW h (.wRegion h)) (.iteFst (.ofW h (.ite (.wRaiseSvn h) (.wRevoke h))) (.iteFst (.ofW h (.wKeyCmd h))
    (.iteFst (.plain h) (.iteFst (.ofW h (.wArming h)) (.iteFst (.restartCount (.setO h)) (.iteFst (.iteFst h (.plain h)) (.iteFst (.iteFst h
    (.setO h)) (.iteFst (.wHead h) (.iteFst (.wEnable h) (.iteFst (.plain h) (.setO h)))))))))))))))))))))))

protected theorem KeepsMem.wrAny {r : Req} {i sub v : Nat} : KeepsMem s (wrAny t r i sub v).1 :=
  .iteFst (.wr1 h) (.iteFst (.wr2 h) (.iteFst (.wr3 h) (.wr4 h)))

protected theorem KeepsMem.wrNum {r : Req} {row : ObjRow} {i sub v : Nat} : KeepsMem s (wrNum t r row i sub v).1 :=
  .iteFst (.wrAny h) (.iteFst (.wrAny h) h)

protected theorem KeepsMem.wrData {row : ObjRow} {i sub : Nat} {data : List Byte} : KeepsMem s (wrData t row i sub data) := by
  simp only [Machine.wrData]
  split
  · exact .update h
  · exact .update h
  · exact .update h
  · exact .update h
  · exact .update h
  · exact h

protected theorem KeepsMem.persistAfter {row : ObjRow} {i sub : Nat} : KeepsMem s (persistAfter t row i sub) := .ite (.update h) h

protected theorem KeepsMem.writeEntry {r : Req} {cmd : State → Nat → State × Nat} {i sub : Nat} {ty : Option Nat} {data : List Byte}
    (hcmd : ∀ {u} {x0}, KeepsMem s u → KeepsMem s (cmd u x0).1) : KeepsMem s (writeEntry t r cmd i sub ty data).1 := by
  simp only [Machine.writeEntry]
  split
  · exact h
  · exact .iteFst h (.iteFst h (.iteFst h (.iteFst h (.iteFst h (.iteFst (.ite (.packageReset h) h) (.iteFst (.persistAfter (.iteFst (.wrData h)
      (.iteFst (hcmd h) (.wrNum h)))) (.iteFst (.wrData h) (.iteFst (hcmd h) (.wrNum h)))))))))

protected theorem KeepsMem.worldAbort : KeepsMem s (worldAbort t).1 := .ite (.violation h) h

protected theorem KeepsMem.importOne {r : Req} {e : List Byte} : KeepsMem s (importOne r t e).1 :=
  .iteFst (.worldAbort h) (.iteFst h (.writeEntry h id))

protected theorem KeepsMem.importAll {r : Req} {l : List (List Byte)} {n : Nat} : KeepsMem s (importAll r l n t).1 := by
  induction l generalizing t n with
  | nil => exact h
  | cons e l ih =>
    simp only [Machine.importAll]
    split
    next u hq => exact ih (.fst hq (.importOne h))
    next => exact h

protected theorem KeepsMem.wPersist {r : Req} {v : Nat} : KeepsMem s (wPersist r t v).1 := by
  simp only [Machine.wPersist]
  refine .iteFst h ?_
  split
  · exact .setO (.update h)
  · refine .iteFst h ?_
    split
    next u hq =>
      have hu : KeepsMem s u := .fst hq (.importAll h)
      exact .setO (.update hu)
    next u _ _ hq =>
      have hu : KeepsMem s u := .fst hq (.importAll h)
      exact .setO h
  · refine .foldl (fun _ hu => ?_) _ h
    exact .update (.setO hu)
  · exact h

protected theorem KeepsMem.renew {r : Req} : KeepsMem s (renew t r) := .update h

protected theorem KeepsMem.doWrite {r : Req} {i sub : Nat} {ty : Option Nat} {data : List Byte} : KeepsMem s (doWrite t r i sub ty data).1 :=
  .iteFst (.renew (.iteFst (.worldAbort h) (.writeEntry h (fun hu => .wPersist hu)))) (.count (.iteFst (.worldAbort h) (.writeEntry h
    (fun hu => .wPersist hu))))

protected theorem Completes.notServed {r : Req} : Completes s (notServed t r) := by
  simp only [Machine.notServed]
  split
  · exact .next (.emit (.count h))
  · exact .next (.emit (.count h))
  · exact .next h

protected theorem KeepsMem.countServed {p : Path} : KeepsMem s (countServed t p) := .ite h (.count h)

protected theorem Completes.writeData {r : Req} {i sub : Nat} {data : List Byte} : Completes s (writeData t r i sub data) :=
  .ite (.notServed h) (.next (.emit (.doWrite (.countServed h))))

protected theorem Completes.writeObj {a : Acc} {i sub v : Nat} : Completes s (writeObj a i sub v t) := .writeData h

end Writes

/-! ### Relum -/

section Relum
variable {s t : State} (h : KeepsMem s t)
include h

protected theorem KeepsMem.doRead {r : Req} {f : Frame} : KeepsMem s (doRead t r f).1 := by
  simp only [Machine.doRead]
  refine .iteFst (.worldAbort h) ?_
  split
  · exact h
  · exact .iteFst h (.iteFst h (.iteFst h (.renew h)))

protected theorem KeepsMem.doDescribe {r : Req} {f : Frame} : KeepsMem s (doDescribe t r f).1 := by
  simp only [Machine.doDescribe]
  refine .iteFst (.worldAbort h) ?_
  split
  · exact h
  · exact .renew h

protected theorem KeepsMem.doWriteFrame {r : Req} {f : Frame} : KeepsMem s (doWriteFrame t r f).1 := .doWrite h

protected theorem KeepsMem.doLock {r : Req} {f : Frame} : KeepsMem s (doLock t r f).1 := by
  simp only [Machine.doLock]
  refine .iteFst h (.iteFst h ?_)
  split
  · exact h
  · exact .iteFst h (.update (.fresh (.renew h)))

protected theorem KeepsMem.doUnlock {r : Req} {f : Frame} : KeepsMem s (doUnlock t r f).1 := by
  simp only [Machine.doUnlock]
  refine .iteFst h ?_
  split
  · exact h
  · exact .iteFst (.renew (.update h)) h

protected theorem KeepsMem.doFrame {r : Req} {f : Frame} : KeepsMem s (doFrame t r f).1 := by
  simp only [Machine.doFrame]
  refine .iteFst h ?_
  split
  · exact .doRead h
  · exact .doWriteFrame h
  · exact .doDescribe h
  · exact .doLock h
  · exact .doUnlock h

protected theorem KeepsMem.keepResp {o : Nat} {f rsp : Frame} : KeepsMem s (keepResp t o f rsp) := .update h

protected theorem KeepsMem.countAbort {f : Frame} {code : Nat} : KeepsMem s (countAbort t f code) := .ite h (.count h)

protected theorem KeepsMem.serveFrame {r : Req} {f : Frame} : KeepsMem s (serveFrame t r f).1 := by
  simp only [Machine.serveFrame]
  refine .iteFst (.count h) (.iteFst ?_ ?_)
  · split
    · exact .keepResp (.count h)
    · exact .keepResp (.count h)
    · exact h
  · split
    · exact .count (.countServed h)
    · exact .keepResp (.countAbort (.doFrame (.countServed h)))

protected theorem KeepsMem.setBox {k : Nat} {b : Mailbox} : KeepsMem s (setBox t k b) := .update h

protected theorem KeepsMem.sendRemote {k : Nat} {r : Req} {f : Frame} : KeepsMem s (sendRemote t k r f) := .mgmtOut (.setBox h)

protected theorem Completes.frameCmd {op : Nat} {a : Acc} {f : Frame} : Completes s (frameCmd op a f t) := by
  simp only [Machine.frameCmd]
  refine .ite (.next h) (.ite (.next (.sendRemote h)) ?_)
  split
  next u _ hq =>
    have hu : KeepsMem s u := .fst hq (.serveFrame h)
    exact .next (.emit hu)
  next u hq =>
    have hu : KeepsMem s u := .fst hq (.serveFrame h)
    exact .next hu

protected theorem Completes.execLockExpiry {entry : Nat} : Completes s (execLockExpiry entry t) := by
  simp only [Machine.execLockExpiry]
  split
  · exact .next h
  · exact .ite (.next h) (.next (.raise (.count (.update h))))

protected theorem KeepsMem.settleMeip {c : Nat} : KeepsMem s (settleMeip t c) := .setCtl h

protected theorem KeepsMem.ringBox {k : Nat} : KeepsMem s (ringBox t k) := by
  simp only [Machine.ringBox]
  refine .ite (.emit h) ?_
  split
  · exact .settleMeip h
  · exact h

protected theorem KeepsMem.answerBox {k : Nat} {rsp : Frame} : KeepsMem s (answerBox t k rsp) := .ringBox (.setBox h)

protected theorem KeepsMem.submitBox {k : Nat} {r : Req} : KeepsMem s (submitBox t k r) := by
  simp only [Machine.submitBox]
  refine .ite (.sendRemote h) ?_
  split
  next u _ hq =>
    have hu : KeepsMem s u := .fst hq (.serveFrame h)
    exact .answerBox hu
  next u hq =>
    have hu : KeepsMem s u := .fst hq (.serveFrame h)
    exact hu

protected theorem KeepsMem.ringDoorbell {k : Nat} {owner : Option Hart} {v : Nat} {r : State → Req} : KeepsMem s (ringDoorbell t k owner v r) :=
  .ite h (.ite (.setBox h) (.submitBox (.setBox h)))

protected theorem KeepsMem.putReq {k : Nat} {req : List Byte} : KeepsMem s (putReq t k req) := .ite h (.setBox h)

protected theorem KeepsMem.localDoorbell {k : Nat} {owner : Option Hart} {secure : Bool} {v : Nat}
    : KeepsMem s (localDoorbell t k owner secure v) :=
  .ringDoorbell h

protected theorem Completes.execLocalPortDoorbell {hart : Hart} {box : Nat} {req : List Byte} {v : Nat}
    : Completes s (execLocalPortDoorbell hart box req v t) :=
  .next (.localDoorbell (.putReq h))

protected theorem KeepsMem.clearStatus {k v : Nat} : KeepsMem s (clearStatus t k v) := by
  simp only [Machine.clearStatus]
  split
  · exact .settleMeip (.setBox h)
  · exact .setBox h

protected theorem Completes.execMailboxTimeout {box : Nat} : Completes s (execMailboxTimeout box t) := by
  simp only [Machine.execMailboxTimeout]
  split
  · exact .next h
  · exact .ite (.next (.ringBox (.setBox h))) (.next h)

protected theorem KeepsMem.mgmtIn {p : Nat} {b : List Byte} {act : State → State} (hact : ∀ {u}, KeepsMem s u → KeepsMem s (act u))
    : KeepsMem s (mgmtIn t p b act) :=
  .ite h (.ite (hact (.giveCredit h)) (.ite (.giveCredit h) (.rerouteMgmt (.giveCredit h))))

protected theorem KeepsMem.bandRequest {b : List Byte} : KeepsMem s (bandRequest t b) := by
  simp only [Machine.bandRequest]
  split
  next u _ hq =>
    have hu : KeepsMem s u := .fst hq (.serveFrame h)
    exact .mgmtOut hu
  next u hq =>
    have hu : KeepsMem s u := .fst hq (.serveFrame h)
    exact hu

protected theorem KeepsMem.bandResponse {b : List Byte} : KeepsMem s (bandResponse t b) := .ite (.answerBox h) h

protected theorem KeepsMem.bandNotify {b : List Byte} : KeepsMem s (bandNotify t b) := .ringBox (.setBox h)

protected theorem Completes.execInBandRequest {port : Port} {flit : List Byte} : Completes s (execInBandRequest port flit t) :=
  .next (.ite h (.mgmtIn h (fun hu => .bandRequest hu)))

protected theorem Completes.execInBandResponse {port : Port} {flit : List Byte} : Completes s (execInBandResponse port flit t) :=
  .next (.ite (.mgmtIn h (fun hu => .bandResponse hu)) h)

protected theorem Completes.execNotifyFlit {port : Port} {flit : List Byte} : Completes s (execNotifyFlit port flit t) :=
  .next (.ite (.mgmtIn h (fun hu => .bandNotify hu)) h)

protected theorem Completes.i3cCmd {act : State → State} (hact : ∀ {u}, KeepsMem s u → KeepsMem s (act u)) : Completes s (i3cCmd t act) :=
  .next (.ite (hact h) h)

protected theorem Completes.execEntdaa {addr : Nat} : Completes s (execEntdaa addr t) := .i3cCmd h (fun hu => .ite (.setO hu) hu)

protected theorem Completes.execSetdasa {addr : Nat} : Completes s (execSetdasa addr t) := .i3cCmd h (fun hu => .ite (.setO hu) hu)

protected theorem Completes.execSetnewda {addr : Nat} : Completes s (execSetnewda addr t) := .i3cCmd h (fun hu => .ite hu (.setO hu))

protected theorem Completes.execRstdaa : Completes s (execRstdaa t) := .i3cCmd h (fun hu => .setO hu)

protected theorem Completes.execEnec : Completes s (execEnec t) := .i3cCmd h (fun hu => .update hu)

protected theorem Completes.execDisec : Completes s (execDisec t) := .i3cCmd h (fun hu => .update hu)

protected theorem Completes.execGetpid : Completes s (execGetpid t) := .i3cCmd h (fun hu => .emit hu)

protected theorem Completes.execGetbcr : Completes s (execGetbcr t) := .i3cCmd h (fun hu => .emit hu)

protected theorem Completes.execGetdcr : Completes s (execGetdcr t) := .i3cCmd h (fun hu => .emit hu)

protected theorem Completes.execGetstatus : Completes s (execGetstatus t) := .i3cCmd h (fun hu => .emit hu)

protected theorem Completes.execGetmwl : Completes s (execGetmwl t) := .i3cCmd h (fun hu => .emit hu)

protected theorem Completes.execGetmrl : Completes s (execGetmrl t) := .i3cCmd h (fun hu => .emit hu)

protected theorem Completes.execSetmwl {n : Nat} : Completes s (execSetmwl n t) := .i3cCmd h (fun hu => .ite hu (.update hu))

protected theorem Completes.execSetmrl {n : Nat} : Completes s (execSetmrl n t) := .i3cCmd h (fun hu => .ite hu (.update hu))

protected theorem Completes.execI3cPrivateWrite {frame : List Byte} : Completes s (execI3cPrivateWrite frame t) :=
  .i3cCmd h (fun hu => .ite (.emit hu) (.update (.serveFrame (.update hu))))

protected theorem Completes.execI3cPrivateRead : Completes s (execI3cPrivateRead t) := by
  simp only [Machine.execI3cPrivateRead]
  refine .i3cCmd h (fun hu => ?_)
  split
  · exact .emit hu
  · exact .ite (.emit hu) (.emit hu)

end Relum

/-! ### Fabric -/

section Fabric
variable {s t : State} (h : KeepsMem s t)
include h

protected theorem KeepsMem.takePkt {src : FabIn} {p : Pkt} {u : State} (hq : takePkt t src p = some u) : KeepsMem s u := by
  cases src with
  | link q =>
    obtain ⟨-, rfl⟩ : _ ∧ giveCredit t q 4 = u := by simpa [Machine.takePkt] using hq
    exact .giveCredit h
  | inside =>
    simp only [Machine.takePkt] at hq
    split_ifs at hq with hresp hans
    · cases hq
      exact .update h
    · split at hq <;> [split_ifs at hq; cases hq]
      cases hq
      exact .update h

protected theorem KeepsMem.writeCtl {p : Pkt} {o : Nat} : KeepsMem s (writeCtl t p o) :=
  .foldl (fun _ hu => .ite hu (.ite (.runCore hu) (.resetCore hu))) _ h

protected theorem KeepsMem.writeBoxes {p : Pkt} {o : Nat} : KeepsMem s (writeBoxes t p o) :=
  .ite (.ite h (.setBox h)) (.ite (.trans (.ite (.localDoorbell h) h) (.ite (.clearStatus (.refl _)) (.refl _))) h)

protected theorem KeepsMem.writeDoors {p : Pkt} {o : Nat} : KeepsMem s (writeDoors t p o) := .foldl (fun _ hu => .ite (.commitBell hu) hu) _ h

protected theorem KeepsMem.writeMirror {o : Nat} {l : List Byte} : KeepsMem s (writeMirror t o l) :=
  .ite (.update h) (.ite (.update h) (.ite (.update h) (.setTen h)))

protected theorem KeepsMem.refusePkt {p : Pkt} {reason : Nat} : KeepsMem s (refusePkt t p reason).1 := .refuse h

protected theorem KeepsMem.mmioOp {p : Pkt} : KeepsMem s (mmioOp t p).1 := by
  unfold Machine.mmioOp
  refine .iteFst (.iteFst (.refusePkt h) (.iteFst (.refusePkt h) (.fresh h))) (.iteFst (.pair (.writeMirror h)) ?_)
  split
  · refine .iteFst (.iteFst (.pair (.writeCtl h)) (.pair h)) (.iteFst (.iteFst (.pair (.writeBoxes h)) (.pair h))
      (.iteFst (.iteFst (.pair (.writeDoors h)) (.pair h)) (.iteFst (.pair (.foldl (fun _ hu => ?_) _ h)) (.refusePkt h))))
    exact .hostPost hu
  · exact .refusePkt h

protected theorem KeepsMem.readOp {p : Pkt} : KeepsMem s (readOp t p).1 := by
  simp only [Machine.readOp]
  split
  next u _ _ _ hq =>
    have hu : KeepsMem s u := .fst hq (.readAt h)
    exact hu
  next u _ _ hq =>
    have hu : KeepsMem s u := .fst hq (.readAt h)
    exact hu

protected theorem KeepsMem.writeOp {p : Pkt} : KeepsMem s (writeOp t p).1 := by
  simp only [Machine.writeOp]
  split
  · exact .refuse h
  · refine .foldl (fun _ hu => ?_) _ h
    exact .putAt hu

protected theorem KeepsMem.operandOp {p : Pkt} {n : Nat} {f : Nat → Option Nat × Nat} : KeepsMem s (operandOp t p n f).1 := by
  simp only [Machine.operandOp]
  refine .iteFst h ?_
  split
  · exact .refuse h
  · split
    · exact .putAt (.getAt h)
    · exact .getAt h

protected theorem KeepsMem.atomicOp {p : Pkt} : KeepsMem s (atomicOp t p).1 := .operandOp h

protected theorem KeepsMem.casOp {p : Pkt} : KeepsMem s (casOp t p).1 := .operandOp h

protected theorem KeepsMem.leaseOp {p : Pkt} : KeepsMem s (leaseOp t p).1 :=
  .iteFst h (.ite (.count (.operandOp h)) (.ite (.count (.operandOp h)) (.operandOp h)))

protected theorem KeepsMem.perform {p : Pkt} : KeepsMem s (perform t p).1 := by
  simp only [Machine.perform]
  split
  · exact .iteFst (.mmioOp h) (.readOp h)
  · exact .iteFst (.mmioOp h) (.writeOp h)
  · exact .casOp h
  · exact .leaseOp h
  · exact .leaseOp h
  · exact .leaseOp h
  · exact .atomicOp h

protected theorem KeepsMem.serve {p : Pkt} : KeepsMem s (serve t p) := by
  simp only [Machine.serve]
  split
  · exact .sendResp (.perform h)
  · refine .foldl (fun _ hu => ?_) _ (.perform (.count (.update h)))
    exact .sendResp hu

protected theorem KeepsMem.hopStop {p : Pkt} : KeepsMem s (hopStop t p) := .ite h (.sendResp (.unreachable h))

protected theorem KeepsMem.request {op : Nat} {src : FabIn} {p : Pkt} : KeepsMem s (request op src p t) := by
  simp only [Machine.request]
  refine .ite h ?_
  split
  · exact h
  next u hq =>
    have hu : KeepsMem s u := .takePkt h hq
    refine .ite (.hopStop hu) ?_
    split
    · refine .ite h ?_
      split
      · exact .sendResp hu
      · exact .serve hu
    · refine .ite (.queueReq hu) ?_
      split
      · exact .sendResp hu
      · exact .serve hu

protected theorem KeepsMem.settleFence {hart : Hart} : KeepsMem s (settleFence t hart) := .ite (.setHart h) h

protected theorem KeepsMem.answerReg {hart : Hart} {rd n off : Nat} {sgn : Bool} {p : Pkt} {status : Nat} {data : List Byte}
    : KeepsMem s (answerReg t hart rd n off sgn p status data) :=
  .setHart (.ite (.fillLine (.setReg (.setFstat h))) (.setReg (.setFstat h)))

protected theorem KeepsMem.deliver {t' : Nat} {q : FabReq} {status : Nat} {data : List Byte} : KeepsMem s (deliver t t' q status data) := by
  simp only [Machine.deliver]
  split
  · exact .answerReg (.freeTag h)
  · exact .settleFence (.setFstat (.freeTag h))
  · exact .mirrorStep (.freeTag h)
  · exact .pullAnswer (.freeTag h)
  · exact .objCmdLine (.freeTag h)
  · exact .freeTag h
  · exact .freeTag h

protected theorem KeepsMem.answer {r : Pkt} : KeepsMem s (answer t r) := by
  simp only [Machine.answer]
  split
  · exact .count h
  · exact .ite (.deliver h) (.count h)

protected theorem KeepsMem.fanGroup {g : Machine.Group} {r : Pkt} : KeepsMem s (fanGroup t g r) := .foldl (fun _ hu => .sendResp hu) _ (.update h)

protected theorem KeepsMem.response {src : FabIn} {p : Pkt} : KeepsMem s (response src p t) := by
  simp only [Machine.response]
  refine .ite h (.ite h ?_)
  split
  · exact h
  next u hq =>
    have hu : KeepsMem s u := .takePkt h hq
    refine .ite (.hopStop hu) ?_
    split
    · exact .fanGroup hu
    · exact .answer hu

protected theorem KeepsMem.forwardPkt {q : Port} {p : Pkt} : KeepsMem s (forwardPkt t q p) := by
  simp only [Machine.forwardPkt]
  split
  · exact .ite h (.sendResp (.unreachable h))
  · exact .ite (.ite h (.sendResp (.count h))) (.enqueueFab h)

protected theorem KeepsMem.forwarded {src : FabIn} {p : Pkt} : KeepsMem s (forwarded src p t) := by
  simp only [Machine.forwarded]
  split
  · exact h
  · refine .ite h ?_
    split
    · exact h
    next u hq =>
      have hu : KeepsMem s u := .takePkt h hq
      refine .ite (.hopStop hu) ?_
      split
      · exact .fanGroup hu
      · exact .forwardPkt hu

protected theorem Completes.execFabricTagTimeout {tag : Nat} : Completes s (execFabricTagTimeout tag t) := by
  simp only [Machine.execFabricTagTimeout]
  split
  · exact .next h
  · exact .ite (.next h) (.next (.deliver (.raiseMs (.count (.update h)))))

protected theorem Completes.execRouteChangeEffect {node : Nat} : Completes s (execRouteChangeEffect node t) := by
  simp only [Machine.execRouteChangeEffect]
  split
  · exact .next h
  · refine .ite (.next h) (.next (.foldl (fun _ hu => ?_) _ (.update h)))
    exact .sendReq hu

end Fabric

/-! ### Line -/

section Line
variable {s t : State} (h : KeepsMem s t)
include h

protected theorem KeepsMem.ctlWord {p : Port} {eighth : Nat} {w : Word128} : KeepsMem s (ctlWord p eighth t w) := by
  simp only [Machine.ctlWord]
  split
  · exact .ackPort h
  · exact .nakPort h
  · exact .creditPort h
  · exact .probePort h
  · exact .probeReplyPort h
  · exact .identPort h
  · exact .losePort h
  · exact h

protected theorem KeepsMem.fabricFlit {p : Port} {b : Pkt} : KeepsMem s (fabricFlit p b t) :=
  .ite (.response h) (.ite (.ite (.hopStop (.giveCredit h)) (.queueReq (.giveCredit h))) (.forwarded h))

protected theorem KeepsMem.mgmtFlit {p : Port} {b : List Byte} : KeepsMem s (mgmtFlit p b t) :=
  .mgmtIn h (fun hu => .ite (.bandResponse hu) (.ite (.bandNotify hu) (.bandRequest hu)))

protected theorem KeepsMem.passUnit {p : Port} {eighth : Nat} {u : RxUnit} : KeepsMem s (passUnit p eighth u t) := by
  simp only [Machine.passUnit]
  split
  · exact .schedData h
  · exact .schedHead h
  · exact .laceFlitIn h
  · exact .fabricFlit h
  · exact .mgmtFlit h
  · refine .foldl (fun _ hu => ?_) _ h
    exact .ctlWord hu
  · exact .trainIdent h
  · exact h

protected theorem Completes.execLineBlock {port : Port} {bytes : List Byte} {eighth : Nat} : Completes s (execLineBlock port bytes eighth t) := by
  simp only [Machine.execLineBlock]
  split
  next u hq =>
    have hu : KeepsMem s u := .fst hq (.rxBlock h)
    exact .next hu
  next u _ hq =>
    have hu : KeepsMem s u := .fst hq (.rxBlock h)
    exact .next (.passUnit hu)

end Line

/-! ### Notify -/

section Notify
variable {s t : State} (h : KeepsMem s t)
include h

protected theorem Completes.execWeltFlitError {welt flit : Nat} : Completes s (execWeltFlitError welt flit t) :=
  .ite (.next h) (.ite (.next (.startTimer (.raise (.update h)))) (.next (.update h)))

end Notify

/-! ### ObjRows -/

section ObjRows
variable {s t : State} (h : KeepsMem s t)
include h

protected theorem Completes.execCommitDoorbell {acc : Acc} {q : Fin 64} {v : Nat} {page : Bool} : Completes s (execCommitDoorbell acc q v page t) :=
  .ite (.next (.ite h (.commitBell h))) (.writeObj h)

protected theorem Completes.execObjectWriteGeneric {acc : Acc} {index sub : Nat} {data : List Byte}
    : Completes s (execObjectWriteGeneric acc index sub data t) :=
  .writeData h

end ObjRows

/-! ### The instructions -/

section Dispatch
variable {s t : State} (h : KeepsMem s t)
include h

protected theorem Completes.exec : ∀ c, Completes s (exec c t)
  | .markUnhealthy .. | .lastLoad .. | .lastUnload .. | .activeSlotWrite .. | .startTick .. | .switchCommand .. | .haltCommand ..
      | .logicalNodeToAdopt .. | .adoptionTick .. | .commandRingDoorbell .. | .lastStoreResize .. | .tableBuildFromObject ..
      | .tableBuildFromSample .. | .tableInvalidate .. | .tableInstall .. | .portRetrain .. | .portTakeDown .. | .storageMode ..
      | .qpMakeReady .. | .qpReset .. | .pullDoorbell .. | .routeEntryWrite .. | .managerRelease .. | .managerActive .. | .managerStandby ..
      | .managerTakeOver .. | .queueFlush .. | .cancelEyelet .. | .routePlanBind .. | .revisionArm .. | .openImage .. | .sealImage ..
      | .demoteImage .. | .pinImage .. | .evictImage .. | .closeImage .. | .defineCount .. | .defineSet .. | .releasePartition ..
      | .clearPartition .. | .imageCheck .. | .stateCommandKeeper .. | .stateCommandStandby .. | .stateCommandReady .. | .stateCommandRunning ..
      | .stateCommandDraining .. | .persistExport .. | .persistImport .. | .persistDefaults .. | .raiseMinimumSvn .. | .revokeKeyHash ..
      | .keyWrite .. | .keyDerive .. | .keyClear .. | .armingLevel .. | .eventQueueEnable .. | .freqCommand .. | .preRampStart ..
      | .preRampStop .. | .resetCommand .. | .firmwareReady .. => .writeObj h
  | .opNop .. => .execOpNop h
  | .setdesc .. => .execSetdesc h
  | .matmul .. | .packmm .. | .requant .. | .rotate .. | .vectAdd .. | .vectSub .. | .vectMul .. | .vectMax .. | .vectMin .. | .vectExp ..
      | .vectRecip .. | .vectRsqrt .. | .vectSilu .. | .vectTanh .. | .rowsum .. | .rowmax .. | .vectCopy .. => .seqOp h
  | .operationComplete .. => .execOperationComplete h
  | .resoleFlagArrival .. => .next (.setResole h)
  | .resoleWindowOpen .. => .execResoleWindowOpen h
  | .resoleRecomputationDone .. => .execResoleRecomputationDone h
  | .resoleWindowClose .. => .execResoleWindowClose h
  | .lastLoadComplete => .execLastLoadComplete h
  | .arrival .. => .execArrival h
  | .transferStart .. => .execTransferStart h
  | .awlDescriptorStart .. => .execAwlDescriptorStart h
  | .awlDescriptorComplete .. => .execAwlDescriptorComplete h
  | .reductionStart .. => .execReductionStart h
  | .reductionContribution .. => .execReductionContribution h
  | .maskPoint .. => .execMaskPoint h
  | .admitPoint .. => .execAdmitPoint h
  | .samplePoint .. => .execSamplePoint h
  | .expertPoint .. => .execExpertPoint h
  | .replayPoint .. => .execReplayPoint h
  | .sleepStart .. => .execSleepStart h
  | .portSleep .. => .execPortSleep h
  | .wakeUpStart .. => .execWakeUpStart h
  | .wakeUpComplete .. => .execWakeUpComplete h
  | .syncSend => .ite (.next (.toChildren (.update h))) (.next h)
  | .syncSymbol .. => .execSyncSymbol h
  | .epochSymbol .. => .execEpochSymbol h
  | .rootSymbol .. => .execRootSymbol h
  | .electionEnd => .execElectionEnd h
  | .configSymbol .. => .execConfigSymbol h
  | .voteSymbol .. => .execVoteSymbol h
  | .faultSymbol .. => .execFaultSymbol h
  | .haltReceived .. => .execHaltReceived h
  | .startSymbol .. => .execStartSymbol h
  | .switchSymbol .. => .execSwitchSymbol h
  | .freqSymbol .. => .execFreqSymbol h
  | .adoptSymbol .. => .execAdoptSymbol h
  | .maskSymbol .. => .execMaskSymbol h
  | .parentLoss => .execParentLoss h
  | .holdover => .ite (.next (.raise (.count (.update h)))) (.next h)
  | .rootTakeover => .ite (.next (.originate (.takeRoot (.update h)))) (.next h)
  | .tickEnd => .execTickEnd h
  | .faultedPartitionStop => .execFaultedPartitionStop h
  | .runningEntry => .execRunningEntry h
  | .fallbackSwitch .. => .execFallbackSwitch h
  | .identityAdopted => .execIdentityAdopted h
  | .objCreate .. => .execObjCreate h
  | .objSetclass .. => .execObjSetclass h
  | .objRead .. | .objWrite .. => .runCopy h
  | .objDestroy .. => .execObjDestroy h
  | .tileAccess .. => .execTileAccess h
  | .migrationComplete .. => .execMigrationComplete h
  | .scrub .. => .execScrub h
  | .tableBuildComplete => .next (.bringUp (.finishBuild h))
  | .lineBlock .. => .execLineBlock h
  | .scheduleHead .. => .next (.schedHead h)
  | .scheduleData .. => .next (.schedData h)
  | .transferRelease .. => .next (.releaseTransfer h)
  | .ackWord .. => .next (.ackPort h)
  | .nakWord .. => .next (.nakPort h)
  | .creditWord .. => .next (.creditPort h)
  | .probeWord .. => .next (.probePort h)
  | .probeReplyWord .. => .execProbeReplyWord h
  | .identWord .. => .next (.identPort h)
  | .downWord .. => .next (.ite (.losePort h) h)
  | .ackInterval .. => .ite (.next (.setPort h)) (.next h)
  | .ackTimeout .. => .ite (.next (.losePort h)) (.next h)
  | .portTrainingStart .. | .trainingRetry .. => .ite (.next (.tryTraining h)) (.next h)
  | .portTrainingComplete .. => .next (.bringUp (.trainPort h))
  | .probeInterval .. => .ite (.next (.sendCtl (.setPort h))) (.next h)
  | .pullDescriptor => .ite (.next (.takePull h)) (.next h)
  | .readResponse .. => .execReadResponse h
  | .acknowledge .. => .execAcknowledge h
  | .qpResponseTimeout .. => .execQpResponseTimeout h
  | .pfcFrame .. => .execPfcFrame h
  | .frameDropped .. => .ite (.next (.count h)) (.next h)
  | .ethernetLinkChange .. => .execEthernetLinkChange h
  | .fabricRead .. | .fabricWrite .. | .fabricAdd .. | .fabricOr .. | .fabricAnd .. | .fabricMin .. | .fabricMax .. | .fabricMinu ..
      | .fabricMaxu .. | .fabricSwap .. | .fabricCas .. | .fabricLeaseAcq .. | .fabricLeaseRenew .. | .fabricLeaseRel .. => .next (.request h)
  | .fabricResponse .. => .next (.response h)
  | .fabricPacketForward .. => .next (.forwarded h)
  | .fabricTagTimeout .. => .execFabricTagTimeout h
  | .routeChangeEffect .. => .execRouteChangeEffect h
  | .managerTakeover => .execManagerTakeover h
  | .commitDoorbell .. => .execCommitDoorbell h
  | .tickPass => .ite (.next (.passOf h)) (.next h)
  | .samplerResult => .execSamplerResult h
  | .round0 .. => .execRound0 h
  | .dispatchRound .. => .execDispatchRound h
  | .combine .. => .execCombine h
  | .popularityCountAdd => .execPopularityCountAdd h
  | .imageCommandComplete => .execImageCommandComplete h
  | .controlCoreLoad .. => .execControlCoreLoad h
  | .controlCoreStore .. => .execControlCoreStore h
  | .amo .. => .execAmo h
  | .fabFence .. | .timerInterrupt .. => .ite (.next (.setHart h)) (.next h)
  | .fabInv .. => .ite (.next (.fabInv h)) (.next h)
  | .fabCas .. => .execFabCas h
  | .leaseAcq .. | .leaseRel .. => .ite (.next (.lease h)) (.next h)
  | .leaseRenew .. => .execLeaseRenew h
  | .fnWorld .. => .execFnWorld h
  | .fnAwlsub .. => .execFnAwlsub h
  | .fnAwldone .. => .execFnAwldone h
  | .fnFstat .. => .execFnFstat h
  | .threadStart .. => .execThreadStart h
  | .threadReset .. => .execThreadReset h
  | .coreRun .. => .next (.runCore h)
  | .coreReset .. => .next (.resetCore h)
  | .hostWindowWrite .. => .next (.hostPost h)
  | .imageCheckComplete => .execImageCheckComplete h
  | .relumRead .. | .relumWrite .. | .relumDescribe .. | .relumLock .. | .relumUnlock .. => .frameCmd h
  | .lockExpiry .. => .execLockExpiry h
  | .entdaa .. => .execEntdaa h
  | .setdasa .. => .execSetdasa h
  | .setnewda .. => .execSetnewda h
  | .rstdaa => .execRstdaa h
  | .enec => .execEnec h
  | .disec => .execDisec h
  | .getpid => .execGetpid h
  | .getbcr => .execGetbcr h
  | .getdcr => .execGetdcr h
  | .getstatus => .execGetstatus h
  | .getmwl => .execGetmwl h
  | .getmrl => .execGetmrl h
  | .setmwl .. => .execSetmwl h
  | .setmrl .. => .execSetmrl h
  | .i3cPrivateWrite .. => .execI3cPrivateWrite h
  | .i3cPrivateRead => .execI3cPrivateRead h
  | .hostMailboxDoorbell .. => .next (.ringDoorbell (.putReq h))
  | .mailboxStatus .. => .next (.clearStatus h)
  | .localPortDoorbell .. => .execLocalPortDoorbell h
  | .mailboxTimeout .. => .execMailboxTimeout h
  | .inBandRequest .. => .execInBandRequest h
  | .inBandResponse .. => .execInBandResponse h
  | .notifyFlit .. => .execNotifyFlit h
  | .stateChangeComplete => .execStateChangeComplete h
  | .fusesProgrammed => .execFusesProgrammed h
  | .voltageGlitch .. => .ite (.next h) (.next (.detect h))
  | .clockGlitch .. => .execClockGlitch h
  | .debugIntrusion .. => .execDebugIntrusion h
  | .fuseReadback .. => .execFuseReadback h
  | .alarmHotSetClear => .execAlarmHotSetClear h
  | .violationWindow => .ite (.next h) (.next (.update (.restartCount h)))
  | .eventQueueHead .. => .writeData h
  | .msiXInterval .. => .ite (.next (.emit (.update h))) (.next h)
  | .recoveryOverdue .. => .ite (.next (.update (.raise (.count h)))) (.next h)
  | .weltFlitError .. => .execWeltFlitError h
  | .operatingPointSwitch => .execOperatingPointSwitch h
  | .voltageStepDone .. => .execVoltageStepDone h
  | .avsbusCurrentPoll .. => .execAvsbusCurrentPoll h
  | .ocpN => .ite (.next h) (.next (.currentTrip h))
  | .estimatorStep .. => .execEstimatorStep h
  | .governorStep => .execGovernorStep h
  | .thermalSample .. => .execThermalSample h
  | .powerGoodRise .. => .execPowerGoodRise h
  | .powerGoodTimeout => .execPowerGoodTimeout h
  | .powerGoodFall .. => .execPowerGoodFall h
  | .powerDownTimeout => .execPowerDownTimeout h
  | .railFault .. => .execRailFault h
  | .powerOnReset .. => .execPowerOnReset
  | .strapSample .. => .ite (.next (.applyStraps (.update h))) (.next h)
  | .autoStart => .ite (.next h) (.ite (.next (.stateCmd (.update (.update h)))) (.next (.update h)))
  | .resetNAssert .. => .execResetNAssert h
  | .resetNDeassert => .ite (.next (.update (.setO (.update h)))) (.next (.update h))
  | .perstNDeassert => .next (.update h)
  | .bootLen .. => .execBootLen h
  | .bootTimeout => .ite (.next (.bootFails h)) (.next h)
  | .dramTrainingComplete .. => .execDramTrainingComplete h
  | .objectWriteGeneric .. => .execObjectWriteGeneric h
  | .vddAonLoss => .next (.update .reset)
  | .ibiSpacing | .pcieLinkUp => .ite (.next (.update h)) (.next h)
  | .ibiServed => .ite (.next (.update (.emit (.count h)))) (.next h)
  | .blockBoundary .. => .next (.blockBoundary h)

end Dispatch

/-- Settles O59: every instruction's arm answers a next state (`Completes.exec`). -/
theorem everyCommandCompletes : Obligations.EveryCommandCompletes := fun c s =>
  (Completes.exec (.refl s) c).imp fun _ h => h.1

/-- Settles O60: by `Completes.exec` for the front command, and `KeepsMem.idle` on an empty queue. -/
theorem stepKeepsMemoryCanonical : Obligations.StepKeepsMemoryCanonical := by
  intro s t hs ht
  cases hp : s.pending with
  | nil =>
    rw [step, hp] at ht
    cases ht
    exact (KeepsMem.idle (.refl s)).wf hs
  | cons c r =>
    rw [step, hp] at ht
    obtain ⟨u, hu, hkeeps⟩ := Completes.exec (.update (.refl s)) c
    cases hu.symm.trans ht
    exact hkeeps.wf hs
end Sys2Proof.Proofs
end

section
/-! Timer, run, reset and host window of a control core (13 R435, R436, R445, R448, R449); the ends of state changes and of
image commands and checks (12 R412, R413; 13 R452; 14 R474, R475; 18 R587). -/
namespace Sys2Proof.Proofs
open Sys2Proof.Machine Sys2Proof.Claims

section Cores
variable {s : State}

theorem runCore_of_bound {c : Nat} (hb : isBound s (c / 20) (c % 20) = true) (hr : (getCtl s c).run = false) :
    runCore s c = releaseCore s c := if_pos (by simp [hb, hr])

theorem hostPost_linked (req o : Nat) (data : List Byte) (h : s.dev.pcieUp = true) :
    hostPost s req o data = emit s (.hostWrite (getO s 0x1040 1 + o) data) := if_pos h

theorem hostPost_unlinked (req o : Nat) (data : List Byte) (h : s.dev.pcieUp = false) :
    hostPost s req o data = raiseMs (count s 0x1040 2 1) 0x1005 0 (leBytes 3 req ++ f32 o ++ f32 (inInterval s 0x1005)) :=
  if_neg (by simp [h])

end Cores

/-- Settles O18: the timer's row by its condition, the others through what runs, resets and posts. -/
theorem coreControlCompletes : Obligations.CoreControlCompletes := fun _ _ =>
  ⟨fun _ hdue => if_pos hdue,
    fun _ hb hr => congrArg Host.Outcome.next (runCore_of_bound hb hr),
    fun _ => rfl,
    fun req off data => ⟨fun hp => congrArg Host.Outcome.next (hostPost_linked req off data hp),
      fun hp => congrArg Host.Outcome.next (hostPost_unlinked req off data hp)⟩⟩

/-! ## State changes, image commands, image checks -/

section StateChanges
variable {s : State}

theorem execStateChangeComplete_standby (h : s.dev.target = some .standby) : execStateChangeComplete s =
    if s.dev.mode = .keeper then
      .next (if s.dev.boot = .firmware && s.dev.fwReady && s.dev.pcieUp then standbyFromKeeper s else s)
    else if s.memSt.cmd.isSome || s.imgCmd.isSome then .next s
    else if s.dev.mode = .alarm then .next (leaveAlarm s)
    else .next (setMode { s with dev := { s.dev with target := none, selfRefresh := true } } .standby 1 0) := by
  unfold execStateChangeComplete
  rw [h]

theorem execStateChangeComplete_ready (h : s.dev.target = some .ready) : execStateChangeComplete s =
    .next (if getO (bringUp s) 0x2004 1 = 6 then enterReady (bringUp s) else bringUp s) := by
  unfold execStateChangeComplete
  rw [h]

/-- DRAINING and RUNNING at phase 0 of a lace that runs. -/
theorem execStateChangeComplete_laced {m : DevState} (hm : m = .draining ∨ m = .running) (h : s.dev.target = some m)
    (hl : laceRuns s = true) (hp : s.lace.phase = 0) :
    execStateChangeComplete s = .next (setMode { s with dev := { s.dev with target := none } } m 1 0) := by
  have hc : (laceRuns s && decide (s.lace.phase = 0)) = true := by simp [hl, hp]
  unfold execStateChangeComplete
  rcases hm with rfl | rfl <;> rw [h] <;> exact if_pos hc

theorem settled_iff : settled s ↔ (s.memSt.cmd.isSome || s.imgCmd.isSome) = false := by
  simp [settled, Option.isNone_iff_eq_none]

theorem stateChangesComplete : StateChangesComplete := by
  intro s
  refine ⟨fun ht hk hb hf hp => ?_, fun ht hs => ⟨fun ha => ?_, fun hk ha => ?_⟩, fun ht => ⟨fun h6 => ?_, fun h6 => ?_⟩,
    fun hl hp => ⟨fun ht => execStateChangeComplete_laced (.inl rfl) ht hl hp,
      fun ht => execStateChangeComplete_laced (.inr rfl) ht hl hp⟩⟩
  · refine (execStateChangeComplete_standby ht).trans ((if_pos hk).trans (congrArg _ (if_pos ?_)))
    simp [hb, hf, hp]
  · refine (execStateChangeComplete_standby ht).trans ?_
    rw [settled_iff.1 hs, ha]
    rfl
  · refine (execStateChangeComplete_standby ht).trans ?_
    rw [if_neg hk, settled_iff.1 hs, if_neg Bool.false_ne_true, if_neg ha]
  · exact (execStateChangeComplete_ready ht).trans (congrArg _ (if_pos h6))
  · exact (execStateChangeComplete_ready ht).trans (congrArg _ (if_neg h6))

theorem imageChecksComplete : ImageChecksComplete := by
  refine fun s => ⟨fun c hc => ?_, fun a len hc => ?_⟩
  · change execImageCommandComplete s = _
    unfold execImageCommandComplete
    rw [hc]
  · change execImageCheckComplete s = _
    unfold execImageCheckComplete
    rw [hc]

/-- Settles O48, by its two families. -/
theorem stateAndImageRowsComplete : Obligations.StateAndImageRowsComplete := ⟨stateChangesComplete, imageChecksComplete⟩

end StateChanges

end Sys2Proof.Proofs
end

section
/-! Detectors, fuses, the violation window and the level-2 clear (15 R498, R499, R506, R507, R508; log entry 88). -/
namespace Sys2Proof.Proofs
open Sys2Proof.Machine Sys2Proof.Claims

section Detectors
variable {s : State} (haon : s.dev.aonUp = true)
include haon

theorem voltageGlitch_detected {rail pm ns : Nat} (hns : 5 ≤ ns) (hpm : pm < 850 ∨ 1150 < pm) (hk : s.dev.mode = .keeper → rail = 6) :
    execVoltageGlitch rail pm ns s = .next (detect s 1 rail ns) := by
  refine if_neg ?_
  simp only [haon, Bool.not_true, Bool.false_or, Bool.or_eq_true, Bool.and_eq_true, decide_eq_true_eq, bne_iff_ne]
  rintro ((hshort | hmid) | ⟨hm, hr⟩)
  · omega
  · omega
  · exact hr (hk hm)

theorem clockGlitch_detected {clk pm : Nat} {lost : Bool} (ns : Nat) (hpm : pm < 750 ∨ 1250 < pm ∨ lost = true ∧ clk = 0)
    (hk : s.dev.mode = .keeper → clk = 19) : execClockGlitch clk pm lost ns s = .next (detect s 2 clk ns) := by
  refine if_neg ?_
  simp only [haon, Bool.not_true, Bool.false_or, Bool.or_eq_true, Bool.and_eq_true, decide_eq_true_eq, bne_iff_ne,
    Bool.not_eq_true', Bool.or_eq_false_iff, Bool.and_eq_false_iff, decide_eq_false_iff_not, beq_eq_false_iff_ne]
  rintro (⟨hlow, hhigh⟩ | ⟨hm, hc⟩)
  · rcases hpm with h | h | ⟨rfl, rfl⟩
    · exact hlow.1 h
    · exact hlow.2 h
    · simp at hhigh
  · exact hc (hk hm)

theorem debugIntrusion_other (code ns : Nat) : execDebugIntrusion .other code ns s = .next (detect s 4 code ns) :=
  congrArg Host.Outcome.next (if_pos haon)

theorem fuseReadback_bad (w : Nat) : execFuseReadback (some w) s =
    .next (alarmIf { s with sec := { s.sec with condUntil := mset 0 s.sec.condUntil 3 (2 ^ 128) } } 3 w) :=
  if_neg (by simp [haon])

theorem fuseReadback_good : execFuseReadback none s = .next { s with sec := { s.sec with condUntil := mset 0 s.sec.condUntil 3 0 } } :=
  if_neg (by simp [haon])

theorem violationWindow_over (hw : max s.sec.windowAt s.dev.aonAt + getO s 0x7110 3 * msec ≤ s.now) :
    execViolationWindow s = .next { s with sec := { s.sec with
      violations := 0,
      windowAt := s.dev.aonAt + (s.now - s.dev.aonAt) / max 1 (getO s 0x7110 3 * msec) * max 1 (getO s 0x7110 3 * msec) } } :=
  if_neg (by simpa [haon] using hw)

end Detectors

theorem execFusesProgrammed_next {s : State} {k v : Nat} (h : s.sec.programming = some (k, v)) : execFusesProgrammed s =
    let f := programmed s.sec.fuses (some (k, v))
    .next (raise { s with sec := { s.sec with fuses := f, shadow := programmed s.sec.shadow (some (k, v)), programming := none } } 0x7002
      (f8 k ++ f16 v ++ f16 (if k = 1 then f.svnMin else f.revoke))) := by
  unfold execFusesProgrammed
  rw [h]

theorem detectorsComplete : DetectorsComplete := fun _ haon =>
  ⟨fun _ _ _ hns hpm hk => voltageGlitch_detected haon hns hpm hk, fun _ _ _ ns hpm hk => clockGlitch_detected haon ns hpm hk,
    fun code ns => ⟨debugIntrusion_other haon code ns, rfl, rfl⟩, fun w => fuseReadback_bad haon w, fuseReadback_good haon,
    fun _ _ hp => execFusesProgrammed_next hp, fun hw => violationWindow_over haon hw⟩

theorem hotClearCompletes : HotClearCompletes := fun _ =>
  ⟨fun h => if_pos (by simp [h]), fun h => if_neg (by simp [h])⟩

/-- Settles O49, by its two families. -/
theorem securityRowsComplete : Obligations.SecurityRowsComplete := ⟨detectorsComplete, hotClearCompletes⟩

end Sys2Proof.Proofs
end

section
/-! Straps, auto-start, RESET_N, the links' resets and the image loads of start-up (15 R500; 18 R575 to R588). -/
namespace Sys2Proof.Proofs
open Sys2Proof.Machine Sys2Proof.Claims

section Startup
variable {s : State}

theorem execStrapSample_due (st : Straps) (haon : s.dev.aonUp = true) (hdue : s.dev.strapsDue = true) (hat : s.dev.aonAt + msec ≤ s.now) :
    execStrapSample st s = .next (applyStraps { s with dev := { s.dev with lands := st, strapsDue := false } } st) :=
  if_pos (by simp [haon, hdue, hat])

/-- The moment of the auto-start: what the row then does, by the target that object 0x2003 names. -/
theorem execAutoStart_due (haon : s.dev.aonUp = true) (hdone : s.dev.autoDone = false) (hdue : s.dev.strapsDue = false)
    (hm : s.dev.mode = .keeper) (ht : s.dev.target = none) :
    let u := { s with dev := { s.dev with autoDone := true } }
    execAutoStart s = if getO u 0x2003 1 = 2 || getO u 0x2003 1 = 3 then
      .next (stateCmd { u with dev := { u.dev with nextReady := getO u 0x2003 1 == 3 && !u.persistLost } } true 2).1 else .next u :=
  if_neg (by simp [haon, hdone, hdue, hm, ht])

theorem execAutoStart_standby (haon : s.dev.aonUp = true) (hdone : s.dev.autoDone = false) (hdue : s.dev.strapsDue = false)
    (hm : s.dev.mode = .keeper) (ht : s.dev.target = none) :
    let u := { s with dev := { s.dev with autoDone := true } }
    getO u 0x2003 1 = 2 ∨ getO u 0x2003 1 = 3 → execAutoStart s = .next (goUp { u with dev := { u.dev with
      nextReady := getO u 0x2003 1 == 3 && !u.persistLost, target := some .standby, fwReady := false } } 0) := by
  intro u hto
  have hup := stateCmd_powerUp (s := { u with dev := { u.dev with nextReady := getO u 0x2003 1 == 3 && !u.persistLost } })
    (secure := true) ht hm
  exact (execAutoStart_due haon hdone hdue hm ht).trans ((if_pos (by simpa using hto)).trans
    (congrArg (fun p : State × Nat => Host.Outcome.next p.1) hup))

theorem execAutoStart_none (haon : s.dev.aonUp = true) (hdone : s.dev.autoDone = false) (hdue : s.dev.strapsDue = false)
    (hm : s.dev.mode = .keeper) (ht : s.dev.target = none) :
    let u := { s with dev := { s.dev with autoDone := true } }
    getO u 0x2003 1 ≠ 2 → getO u 0x2003 1 ≠ 3 → execAutoStart s = .next u := fun h2 h3 =>
  (execAutoStart_due haon hdone hdue hm ht).trans (if_neg (by simp [h2, h3]))

theorem execResetNAssert_long {ns : Nat} (haon : s.dev.aonUp = true) (hns : 1000 ≤ ns) :
    execResetNAssert ns s = .next (packageReset { s with dev := { s.dev with resetN := true } } 2) :=
  (if_neg (by simp [haon]; omega)).trans (if_pos hns)

theorem execResetNAssert_between {ns : Nat} (haon : s.dev.aonUp = true) (hlow : 200 ≤ ns) (hhigh : ns < 1000) : execResetNAssert ns s =
    .next (if Config.freeValue (fresh s).1 % 2 = 1 then packageReset (fresh s).2 2 else (fresh s).2) :=
  (if_neg (by simp [haon]; omega)).trans (if_neg (by omega))

theorem execResetNAssert_short {ns : Nat} (hns : ns < 200) : execResetNAssert ns s = .next s :=
  if_pos (by simp [hns])

theorem execPcieLinkUp_next (hx : xdiesUp s = true) (hp : s.dev.perstN = true) (hl : s.dev.pcieUp = false) :
    execPcieLinkUp s = .next { s with dev := { s.dev with pcieUp := true, linkAt := s.now } } :=
  if_pos (by simp [hx, hp, hl])

/-- The host's image: its length, then its check, then the random numbers that the boot needs. -/
theorem execBootLen_waiting (len : Nat) (image : List Byte) (rng : Bool) (h : s.dev.boot = .waitHost) :
    let img := padTo (min len fwMax) image
    let c := if fwMax < len then 2 else verify s img
    execBootLen len image rng s =
      if c != 0 then .next (bootFails s c) else if !rng then .next (bootFails s 6) else .next (startFirmware s img 2) :=
  if_neg (by simp [h])

theorem execBootTimeout_next (hb : s.dev.boot = .waitHost) (hp : s.dev.pcieUp = true) (hat : s.dev.linkAt + 60000 * msec ≤ s.now) :
    execBootTimeout s = .next (bootFails s 2) :=
  if_pos (by simp [hb, hp, hat])

theorem execDramTrainingComplete_due (fail : Option DramFail) (hm : s.dev.mode = .standby) (ht : s.dev.target = some .ready)
    (hstep : getO s 0x2004 1 = 2) (hd : s.dev.dramDone = false) : execDramTrainingComplete fail s = match fail with
      | none => .next (bringUp { setO (setO s 0x2004 2 96) 0x2004 3 0xffff with
          dev := { s.dev with dramTrained := true, dramDone := true, selfRefresh := false } })
      | some d => .next (raise (portsDown { setO (setO (setO s 0x2004 1 0) 0x2004 2 95) 0x2004 3 (d.channel + 256 * d.step) with
          dev := { s.dev with target := none, selfRefresh := true } }) 0x2202 (f8 d.channel ++ f8 d.step ++ f8 3)) :=
  (if_neg (by simp [hm, ht, hstep, hd])).trans (by cases fail <;> rfl)

end Startup

/-- Settles O27, row by row. -/
theorem startupRowsComplete : Obligations.StartupRowsComplete := by
  refine fun s => ⟨fun st => execStrapSample_due st, fun haon hdone hdue hm ht =>
    ⟨execAutoStart_standby haon hdone hdue hm ht, execAutoStart_none haon hdone hdue hm ht⟩,
    fun ns haon => ⟨execResetNAssert_long haon, execResetNAssert_between haon, execResetNAssert_short⟩,
    ⟨fun h => if_neg (by simp [h]), fun h => if_pos h⟩, rfl, execPcieLinkUp_next, fun len image rng hb => ?_, execBootTimeout_next,
    fun hm ht hstep hd => ⟨execDramTrainingComplete_due none hm ht hstep hd, fun d => execDramTrainingComplete_due (some d) hm ht hstep hd⟩⟩
  have hboot := execBootLen_waiting len image rng hb
  exact ⟨fun hc => hboot.trans (if_pos (bne_iff_ne.2 hc)),
    fun hc hr => hboot.trans ((if_neg (by simp [hc])).trans (if_pos (by simp [hr]))),
    fun hc hr => hboot.trans ((if_neg (by simp [hc])).trans (if_neg (by simp [hr])))⟩

end Sys2Proof.Proofs
end

section
/-! The steps of the power-up and the power-down (17 R567 to R571). -/
namespace Sys2Proof.Proofs
open Sys2Proof.Machine Sys2Proof.Claims

section Sequence
variable {s : State} {k : Nat}

/-- A rail comes good in step `k` of the power-up. -/
theorem execPowerGoodRise_up (rail : Nat) (boot : BootIn) (haon : s.dev.aonUp = true) (hseq : s.dev.seq = .up k) :
    let u := { s with dev := { s.dev with powerGood := orBit s.dev.powerGood rail } }
    execPowerGoodRise rail boot s = if !(upSteps.getD k []).all (fun r => fbit u.dev.powerGood r) then .next u
      else if k < 6 then .next (goUp u (k + 1)) else .next (bootRom u boot) := by
  refine (if_neg (by simp [haon])).trans ?_
  dsimp only
  rw [hseq]

theorem execPowerGoodTimeout_due (hseq : s.dev.seq = .up k) (hat : s.dev.stepAt + 10 * msec ≤ s.now) :
    execPowerGoodTimeout s = .next (packageReset
      (((upSteps.getD k []).filter (fun r => !fbit s.dev.powerGood r)).foldl (fun s r => logPower s r 1 1) s) 5) := by
  unfold execPowerGoodTimeout
  rw [hseq]
  exact if_neg (Nat.not_lt.2 hat)

theorem execPowerGoodFall_operating {rail : Nat} (hgood : fbit s.dev.powerGood rail = true) (hm : s.dev.mode ≠ .keeper) (hr : rail ≠ 10) :
    execPowerGoodFall rail s = .next (railLoss s rail 3) :=
  (if_neg (by simp [hgood])).trans (if_pos (by simp [hm, hr]))

/-- A rail of the step in force goes low in KEEPER: the next step follows when none of its rails is left. -/
theorem execPowerGoodFall_down {rail : Nat} (hgood : fbit s.dev.powerGood rail = true) (hm : s.dev.mode = .keeper)
    (hseq : (pgLow s rail).dev.seq = .down k) : execPowerGoodFall rail s =
      if (downSteps.getD k []).any (fun r => fbit (pgLow s rail).dev.powerGood r) then .next (pgLow s rail)
      else .next (goDown (pgLow s rail) (k + 1)) := by
  refine (if_neg (by simp [hgood])).trans ((if_neg (by simp [hm])).trans ?_)
  dsimp only
  rw [hseq]

theorem execPowerDownTimeout_due (hseq : s.dev.seq = .down k) (hat : s.dev.stepAt + 20 * msec ≤ s.now) :
    execPowerDownTimeout s = .next (goDown
      (((downSteps.getD k []).filter (fun r => fbit s.dev.powerGood r)).foldl (fun s r => logPower s r 2 4) s) (k + 1)) := by
  unfold execPowerDownTimeout
  rw [hseq]
  exact if_neg (Nat.not_lt.2 hat)

section RailFault
variable {rail : Nat} (reg : Bool) (hr : rail ≠ 10) (haon : s.dev.aonUp = true)
include hr haon

theorem execRailFault_operating (hm : s.dev.mode ≠ .keeper) :
    execRailFault rail reg s = .next (railLoss s rail (if reg then 4 else 3)) := by
  refine (if_neg (by simp [hr, haon])).trans ?_
  cases h : s.dev.mode with
  | keeper => exact absurd h hm
  | standby | ready | running | draining | halted | alarm => rfl

theorem execRailFault_down (hm : s.dev.mode = .keeper) (hseq : s.dev.seq = .down k) :
    execRailFault rail reg s = .next (logPower s rail 2 (if reg then 4 else 3)) := by
  refine (if_neg (by simp [hr, haon])).trans ?_
  rw [hm, hseq]

theorem execRailFault_up (hm : s.dev.mode = .keeper) (hseq : s.dev.seq = .up k) :
    execRailFault rail reg s = .next (logPower s rail 1 (if reg then 4 else 3)) := by
  refine (if_neg (by simp [hr, haon])).trans ?_
  rw [hm, hseq]

end RailFault

end Sequence

/-- Settles O26, row by row. -/
theorem powerSequencesComplete : Obligations.PowerSequencesComplete := by
  refine fun s => ⟨fun rail boot k haon hseq => ?_, fun _ => execPowerGoodTimeout_due, fun rail hgood =>
    ⟨execPowerGoodFall_operating hgood, fun hm k hseq => ?_⟩, fun _ => execPowerDownTimeout_due, fun rail reg hr haon =>
    ⟨execRailFault_operating reg hr haon, fun _ => execRailFault_down reg hr haon, fun _ => execRailFault_up reg hr haon⟩⟩
  · have hrise := execPowerGoodRise_up rail boot haon hseq
    intro u all
    change execPowerGoodRise rail boot s = if !all then _ else _ at hrise
    exact ⟨fun h => hrise.trans (if_pos (by simp [h])),
      fun h hk => hrise.trans ((if_neg (by simp [h])).trans (if_pos hk)),
      fun h hk => hrise.trans ((if_neg (by simp [h])).trans (if_neg (Nat.not_lt.2 hk)))⟩
  · have hfall := execPowerGoodFall_down hgood hm hseq
    exact ⟨fun h => hfall.trans (if_pos h), fun h => hfall.trans (if_neg (Bool.eq_false_iff.1 h))⟩

end Sys2Proof.Proofs
end

section
/-! One step of the estimator and of the governor (17 R554 to R563). -/
namespace Sys2Proof.Proofs
open Sys2Proof.Machine Sys2Proof.Claims

section Estimator
variable {s : State} (volts : Vec4) (tele n m : Nat)

/-- The estimator's first part: when the arrays were last busy, and last rested. -/
def noteRest (s : State) : State :=
  let s := if arraysBusy s then { s with power := { s.power with busyAt := s.now } } else s
  if s.power.busyAt + 2 * usec ≤ s.now then { s with power := { s.power with restAt := s.now } } else s

theorem noteRest_eq (s : State) :
    let busy := if arraysBusy s then s.now else s.power.busyAt
    noteRest s = { s with power := { s.power with
      busyAt := busy, restAt := if busy + 2 * usec ≤ s.now then s.now else s.power.restAt } } := by
  unfold noteRest
  split
  · dsimp only
    split <;> rfl
  · dsimp only
    split <;> rfl

/-- The estimator's offset, by its free value `m`. -/
def offsetOf (s : State) : Int :=
  lowPass s.power.offset (Int.ofNat (coreTelemetry s volts) - Int.ofNat (Config.freeValue m))

/-- The estimator's power, by its free values `n` and `m`, at `age` since the arrays rested. -/
def pestOf (age : Nat) (s : State) : Nat :=
  let est := (Int.ofNat (Config.freeValue n + activityPower s + s.power.ballast) + offsetOf volts m s).toNat
  if stageOf age = 2 then max est (tele * 1000) * 105 / 100 else est

/-- The estimator's second part: its state and the watch over the limit. -/
def estimated (s : State) : State :=
  watchLimit { s with power := { s.power with
    offset := offsetOf volts m s, pest := pestOf volts tele n m (s.now - s.power.restAt) s, stage := stageOf (s.now - s.power.restAt)
    units := 0 } }

theorem execEstimatorStep_eq (hm : s.dev.mode ≠ .keeper) : execEstimatorStep volts tele s =
    let n := (fresh s).1
    let m := (fresh (fresh s).2).1
    let v := noteRest (fresh (fresh s).2).2
    let e := estimated volts tele n m v
    .next (if stageOf (v.now - v.power.restAt) = 2 && v.power.stage != 2 then
      raise (count e 0x2160 3 1) 0x2106 (f32 (restAge e) ++ f16 (watts (pestOf volts tele n m (v.now - v.power.restAt) v))) else e) :=
  if_neg hm

/-- The step, from what its first part noted. -/
theorem execEstimatorStep_noted {busy rest : Nat} (hm : s.dev.mode ≠ .keeper)
    (hnote : noteRest (fresh (fresh s).2).2 = { (fresh (fresh s).2).2 with power := { s.power with busyAt := busy, restAt := rest } }) :
    let n := (fresh s).1
    let m := (fresh (fresh s).2).1
    let stage := stageOf (s.now - rest)
    let pest := pestOf volts tele n m (s.now - rest) s
    let e := watchLimit { (fresh (fresh s).2).2 with power := { s.power with
      busyAt := busy, restAt := rest, offset := offsetOf volts m s, pest := pest, stage := stage, units := 0 } }
    execEstimatorStep volts tele s = .next (if stage = 2 && s.power.stage != 2 then
      raise (count e 0x2160 3 1) 0x2106 (f32 (restAge e) ++ f16 (watts pest)) else e) := by
  refine (execEstimatorStep_eq volts tele hm).trans ?_
  rw [hnote]
  rfl

end Estimator

section Governor
variable {s : State}

@[simp] theorem raiseGap_power (gap : Nat) (s : State) (code key : Nat) (pl : List Byte) : (raiseGap gap s code key pl).power = s.power := by
  unfold raiseGap
  dsimp only
  split
  · rfl
  · exact raise_power ..

@[simp] theorem watchRamp_power (s : State) (before : List Nat) : (watchRamp s before).power = s.power := by
  unfold watchRamp
  dsimp only
  split
  · exact raiseGap_power ..
  · rfl

/-- The energy that ballast takes is counted; its power stands. -/
theorem addEnergy_power_power (s : State) : (addEnergy s).power.power = s.power.power := by
  unfold addEnergy
  dsimp only
  split <;> rfl

theorem execGovernorStep_eq (hm : s.dev.mode ≠ .keeper) : execGovernorStep s =
    let p := s.power
    let d := p.pest - p.ballast
    let floor := if p.floor < goalOf s then min (goalOf s) (p.floor + min (getO s 0x2100 1) (getO s 0x2180 3))
      else max (goalOf s) (p.power - min (getO s 0x2100 2) (getO s 0x2180 3))
    let cap := if ballastMay s then Config.freeValue (fresh s).1 else 0
    let most := min cap (getO s 0x2180 4 * 1000 - marginM s - d)
    let fill := min (Int.ofNat (min (floor - d) most) + dither s).toNat most
    let v := (fresh s).2
    let g := watchRamp (addEnergy { v with power := { p with floor := floor, ballast := fill, power := d + fill
                                                             recent := ((d + fill) :: p.recent).take 101 } }) p.recent
    .next (if ballastMay g && cap < floor - d then
      raiseSec g 0x2105 (f16 (watts floor) ++ f16 (watts g.power.power) ++ f16 (watts cap)) else g) :=
  if_neg hm

end Governor

/-- Settles O25: the estimator by `execEstimatorStep_noted`, the governor by `execGovernorStep_eq`. -/
theorem estimatorAndGovernorStep : Obligations.EstimatorAndGovernorStep := by
  intro s volts tele hm p n m busy rest stage off est d goal floor cap most fill pest u e v g
  have hest : execEstimatorStep volts tele s = .next (if stage = 2 && p.stage != 2 then
      raise (count e 0x2160 3 1) 0x2106 (f32 (restAge e) ++ f16 (watts pest)) else e) :=
    execEstimatorStep_noted volts tele hm (noteRest_eq _)
  have hgov : execGovernorStep s = .next (if ballastMay g && cap < floor - d then
      raiseSec g 0x2105 (f16 (watts floor) ++ f16 (watts g.power.power) ++ f16 (watts cap)) else g) := execGovernorStep_eq hm
  have hpower : g.power.power = d + fill := (congrArg _ (watchRamp_power ..)).trans (addEnergy_power_power _)
  exact ⟨fun h => hest.trans (congrArg _ (if_neg (by simpa [imp_iff_not_or] using h))),
    fun h2 hp => hest.trans (congrArg _ (if_pos (by simpa using ⟨h2, hp⟩))),
    fun h => hgov.trans (congrArg _ (if_neg (by simpa [imp_iff_not_or] using h))),
    fun hb hc => hgov.trans (congrArg _ ((if_pos (by simpa using ⟨hb, hc⟩)).trans
      (congrArg (fun w => raiseSec g 0x2105 (f16 (watts floor) ++ f16 (watts w) ++ f16 (watts cap))) hpower)))⟩

end Sys2Proof.Proofs
end

section
/-! Operating points, voltages, limits and sensors (17 R546, R547, R564 to R566; log entry 67). -/
namespace Sys2Proof.Proofs
open Sys2Proof.Machine Sys2Proof.Claims

section Power
variable {s : State}

theorem execOperatingPointSwitch_due {u : State} {x : Timed} (hq : dueSym s 0x23 = some (u, x)) : execOperatingPointSwitch s =
    if 4 < x.arg % 8 || aboveActive u (x.arg % 8) then .next (symEv (dropChange u) x x.tick x.rcv)
    else .next (switchPoint u (x.arg % 8)) := by
  unfold execOperatingPointSwitch
  rw [hq]

theorem execVoltageStepDone_change {g : Nat} {c : FreqChange} {w : Option FreqChange} (hc : s.power.change = some c)
    (hw : (if orBit c.voltsDone g = 15 && c.switched then none else some { c with voltsDone := orBit c.voltsDone g }) = w) :
    execVoltageStepDone g s = .next { s with power := { s.power with change := w } } := by
  subst hw
  unfold execVoltageStepDone
  rw [hc]

theorem execAvsbusCurrentPoll_on (amps : Vec4) (hm : s.dev.mode ≠ .keeper) : execAvsbusCurrentPoll amps s =
    let u := readAmps s 0 amps.g0 s.power.overLim.g0 (fun k v => { v with g0 := k })
    let v := readAmps u 1 amps.g1 u.power.overLim.g1 (fun k v => { v with g1 := k })
    let w := readAmps v 2 amps.g2 v.power.overLim.g2 (fun k v => { v with g2 := k })
    .next (readAmps w 3 amps.g3 w.power.overLim.g3 (fun k v => { v with g3 := k })) := if_neg hm

/-- A sample of the sensors, once its values stand in their objects. -/
theorem execThermalSample_on (temps : List Int) (hm : s.dev.mode ≠ .keeper) : execThermalSample temps s =
    let u := sampled s temps
    let h := hottest temps 0 (temps.headD 0, 0)
    let trip := getO u 0x2180 1
    if Int.ofNat (10 * trip) < h.1 && !u.power.thermtrip then .next (tripHalt
      (fun s => raise (hotEvents temps s) 0x2108 (f8 h.2 ++ f16 (unsigned 16 h.1) ++ f8 trip)) (setThermtrip u true) 2)
    else .next (if temps.all (fun t => t ≤ Int.ofNat (10 * trip) - 100) then setThermtrip (hotEvents temps u) false
      else hotEvents temps u) := if_neg hm

end Power

/-- Settles O24, row by row. -/
theorem powerRowsComplete : Obligations.PowerRowsComplete := by
  refine fun s => ⟨fun u x hq => ?_, fun g c hc => ?_, fun hm => ⟨fun a => execAvsbusCurrentPoll_on a hm, if_neg hm, fun temps => ?_⟩⟩
  · have hsw := execOperatingPointSwitch_due hq
    exact ⟨fun hb ha => hsw.trans (if_neg (by simpa [ha] using hb)), fun h => hsw.trans (if_pos (by simpa using h))⟩
  · intro v
    exact ⟨fun hv hs => execVoltageStepDone_change hc (if_pos (by simpa using ⟨hv, hs⟩)),
      fun h => execVoltageStepDone_change hc (if_neg (by simpa [imp_iff_not_or] using h))⟩
  · intro u h trip trips
    have hsample : execThermalSample temps s = if Int.ofNat (10 * trip) < h.1 && !u.power.thermtrip then .next (tripHalt
        (fun s => raise (hotEvents temps s) 0x2108 (f8 h.2 ++ f16 (unsigned 16 h.1) ++ f8 trip)) (setThermtrip u true) 2)
      else .next (if temps.all (fun t => t ≤ Int.ofNat (10 * trip) - 100) then setThermtrip (hotEvents temps u) false
        else hotEvents temps u) := execThermalSample_on temps hm
    have htrips : (decide (Int.ofNat (10 * trip) < h.1) && !u.power.thermtrip) = true ↔ trips := by simp [trips]
    have hstays (ht : ¬ trips) := hsample.trans (if_neg (mt htrips.1 ht))
    exact ⟨fun ht => hsample.trans (if_pos (htrips.2 ht)),
      fun ht hcool => (hstays ht).trans (congrArg _ (if_pos (by simpa using hcool))),
      fun ht hwarm => (hstays ht).trans (congrArg _ (if_neg (by simpa using hwarm)))⟩

end Sys2Proof.Proofs
end

section
/-! relum requests (14 R460 to R465, R472, R479 to R482; log entries 21 and 91): how a frame is served, and what each operation answers. -/
namespace Sys2Proof.Proofs
open Sys2Proof.Machine Sys2Proof.Claims

/-! ## Serving a frame -/

section Serve
variable {s : State} {r : Req} {f : Frame}

theorem serveFrame_bad (hg : frameGood f = false) : serveFrame s r f = (count s 0x1051 5 1, none) := if_pos (by simp [hg])

/-- Where the state does not serve the path, only the host mailbox and the local port get an answer. -/
theorem serveFrame_unserved (hg : frameGood f = true) (hp : pathServed s r = false) : serveFrame s r f =
    match r.path with
    | .hostMailbox | .localPort =>
      (keepResp (count s 0x1051 7 1) r.origin f (respFrame f ⟨0x0401, 0, []⟩), some (respFrame f ⟨0x0401, 0, []⟩))
    | _ => (s, none) :=
  (if_neg (by simp [hg])).trans (if_pos (by simp [hp]))

theorem serveFrame_repeat {k : Kept} (hg : frameGood f = true) (hp : pathServed s r = true)
    (hk : s.relum.kept.find? (fun k => k.origin == r.origin && k.request == f) = some k) :
    serveFrame s r f = (count (countServed s r.path) 0x1051 6 1, some k.response) := by
  refine (if_neg (by simp [hg])).trans ((if_neg (by simp [hp])).trans ?_)
  rw [hk]

theorem serveFrame_new (hg : frameGood f = true) (hp : pathServed s r = true)
    (hk : s.relum.kept.find? (fun k => k.origin == r.origin && k.request == f) = none) : serveFrame s r f =
    let y := doFrame (countServed s r.path) r f
    (keepResp (countAbort y.1 f y.2.code) r.origin f (respFrame f y.2), some (respFrame f y.2)) := by
  refine (if_neg (by simp [hg])).trans ((if_neg (by simp [hp])).trans ?_)
  rw [hk]

/-- The response of a requester's last request is the one that is found for it. -/
theorem find_keepResp (s : State) (o : Nat) (f rsp : Frame) :
    (keepResp s o f rsp).relum.kept.find? (fun k => k.origin == o && k.request == f) = some ⟨o, f, rsp⟩ :=
  List.find?_cons_of_pos (by simp)

end Serve

/-- Settles O20: the frame's checks in their order; a repeat finds the response that its first execution kept. -/
theorem framesAreServedOnce : Obligations.FramesAreServedOnce := by
  refine fun s r f => ⟨serveFrame_bad, fun hg hp => ⟨fun hpath => ?_, fun hpath => ?_⟩, fun hg hp hk => ?_⟩
  · rw [serveFrame_unserved hg hp]
    rcases hpath with h | h <;> rw [h]
  · rw [serveFrame_unserved hg hp]
    rcases hpath with h | h <;> rw [h]
  · refine ⟨_, _, serveFrame_new hg hp hk, fun u hu hpu => serveFrame_repeat (k := ⟨r.origin, f, _⟩) hg hpu ?_⟩
    rw [hu]
    exact find_keepResp ..

/-! ## The operations -/

section Operations
variable {s : State} {a : Acc} {f : Frame} {op : Nat} {row : ObjRow}

theorem frameCmd_answered {t : State} {y : Answer} (h : asked s a op f) (hd : doFrame (countServed s a.path) (asker s a f) f = (t, y)) :
    frameCmd op a f s = answered s a f t y := by
  obtain ⟨hop, hlocal, hgood, hserved, hnew, -⟩ := h
  have hserve := serveFrame_new hgood hserved hnew
  refine (if_neg (by simp [hop])).trans ((if_neg (by simpa [asker] using hlocal)).trans ?_)
  rw [show serveFrame s { reqOf s a with key := rKey f } f = _ from hserve, show doFrame (countServed s (asker s a f).path) _ f = _ from hd]
  rfl

section Do
variable {t : State} {r : Req}

theorem doRead_ok (hbar : worldBar r (rIndex f) (rSub f) = false) (he : entryOf (rIndex f) (rSub f) = .ok row) (ha : row.acc ≠ .wo)
    (hty : rType f = 0 ∨ rType f = tyCode row.ty) (hk : keeperBar t row r = false) :
    doRead t r f = (renew t r, ⟨0, tyCode row.ty, readRow t row (rIndex f) (rSub f)⟩) := by
  unfold doRead
  dsimp only
  rw [hbar, he]
  refine (if_neg Bool.false_ne_true).trans ((if_neg ha).trans ((if_neg ?_).trans (if_neg (Bool.eq_false_iff.1 hk))))
  rcases hty with h | h <;> simp [h]

theorem doDescribe_ok (hbar : worldBar r (rIndex f) (rSub f) = false) (he : entryOf (rIndex f) (rSub f) = .ok row) :
    doDescribe t r f = (renew t r, ⟨0, tyCode row.ty, describeRow row (rIndex f) (rSub f)⟩) := by
  unfold doDescribe
  dsimp only
  rw [hbar, he]
  rfl

theorem doWriteFrame_ok {u : State} {c : Nat} (hbar : worldBar r (rIndex f) (rSub f) = false) (he : entryOf (rIndex f) (rSub f) = .ok row)
    (hw : doWrite t r (rIndex f) (rSub f) (some (rType f)) (rData f) = (u, c)) : doWriteFrame t r f = (u, ⟨c, tyCode row.ty, []⟩) := by
  unfold doWriteFrame
  dsimp only
  rw [hbar, he, hw]
  rfl

theorem doLock_ok {n : Nat} (ha : t.dev.mode ≠ .alarm)
    (hfree : t.relum.locks.any (fun e => e.2.first ≤ fieldB f 14 2 && fieldB f 12 2 ≤ e.2.last) = false)
    (hord : fieldB f 12 2 ≤ fieldB f 14 2) (hn : (List.range 16).find? (fun n => (mfind t.relum.locks n).isNone) = some n) :
    let u := (fresh (renew t r)).2
    let key := Config.random (fresh t).1 % 65535 + 1
    let l : LockEntry := ⟨fieldB f 12 2, fieldB f 14 2, r.origin, key, u.now + getO u 0x1060 0x11 * msec⟩
    doLock t r f = ({ u with relum := { u.relum with locks := mbind u.relum.locks n l } }, ⟨0, 0, f16 key ++ f8 n⟩) := by
  refine (if_neg ha).trans ((if_neg (Bool.eq_false_iff.1 hfree)).trans ?_)
  rw [hn]
  exact if_neg (Nat.not_lt.2 hord)

/-- Who may free a lock: its holder, or the secure world by force. -/
def mayFree (r : Req) (f : Frame) (l : LockEntry) : Prop := l.origin = r.origin ∧ l.key = r.key ∨ r.secure = true ∧ rForce f = true

theorem mayFree_iff {l : LockEntry} : ((l.origin == r.origin && l.key == r.key) || (r.secure && rForce f)) = true ↔ mayFree r f l := by
  simp [mayFree]

section Unlock
variable {n : Nat} {l : LockEntry} (ha : t.dev.mode ≠ .alarm)
  (hl : t.relum.locks.find? (fun e => e.2.first ≤ rIndex f && rIndex f ≤ e.2.last) = some (n, l))
include ha hl

theorem doUnlock_eq : doUnlock t r f = if (l.origin == r.origin && l.key == r.key) || (r.secure && rForce f) then
    (renew { t with relum := { t.relum with locks := mdrop t.relum.locks n } } r, ⟨0, 0, []⟩) else (t, ⟨0x0402, 0, []⟩) := by
  refine (if_neg ha).trans ?_
  rw [hl]

theorem doUnlock_mine (hm : mayFree r f l) :
    doUnlock t r f = (renew { t with relum := { t.relum with locks := mdrop t.relum.locks n } } r, ⟨0, 0, []⟩) :=
  (doUnlock_eq ha hl).trans (if_pos (mayFree_iff.2 hm))

theorem doUnlock_other (hm : ¬ mayFree r f l) : doUnlock t r f = (t, ⟨0x0402, 0, []⟩) :=
  (doUnlock_eq ha hl).trans (if_neg (mt mayFree_iff.1 hm))

end Unlock

end Do

/-- The execution of a well-formed request, by its OP. -/
def doOp (t : State) (r : Req) (f : Frame) : Nat → State × Answer
  | 1 => doRead t r f
  | 2 => doWriteFrame t r f
  | 3 => doDescribe t r f
  | 4 => doLock t r f
  | _ => doUnlock t r f

theorem doFrame_asked (t : State) (r : Req) (h : asked s a op f) : doFrame t r f = doOp t r f op := by
  obtain ⟨rfl, -, -, -, -, hform⟩ := h
  exact if_neg (Bool.eq_false_iff.1 hform)

end Operations

/-- Settles O19: each operation's own lemma, through the serving of its frame. -/
theorem relumRequestsComplete : Obligations.RelumRequestsComplete := by
  intro a f s row r t i j fst' lst mine
  refine ⟨fun h ⟨hbar, he⟩ ha hty hk => ?_, fun h ⟨hbar, he⟩ u c hw => ?_, fun h ⟨hbar, he⟩ => ?_, fun h ha hfree hord n hn => ?_,
    fun h ha n l hl => ⟨fun hm => ?_, fun hm => ?_⟩⟩
  · exact frameCmd_answered h ((doFrame_asked _ _ h).trans (doRead_ok hbar he ha hty hk))
  · exact frameCmd_answered h ((doFrame_asked _ _ h).trans (doWriteFrame_ok hbar he hw))
  · exact frameCmd_answered h ((doFrame_asked _ _ h).trans (doDescribe_ok hbar he))
  · exact frameCmd_answered h ((doFrame_asked _ _ h).trans (doLock_ok ha hfree hord hn))
  · exact frameCmd_answered h ((doFrame_asked _ _ h).trans (doUnlock_mine ha hl hm))
  · exact frameCmd_answered h ((doFrame_asked _ _ h).trans (doUnlock_other ha hl hm))

end Sys2Proof.Proofs
end

section
/-! Lock expiry, the I3C target, mailboxes and in-band flits (14 R465, R467 to R471, R478, R481; log entries 92, 94 and 95). -/
namespace Sys2Proof.Proofs
open Sys2Proof.Machine Sys2Proof.Claims

/-! ## Locks and the I3C target -/

theorem lockExpiryCompletes : LockExpiryCompletes := by
  intro s n l hl hat
  change execLockExpiry n s = _
  unfold execLockExpiry
  rw [hl]
  exact if_neg (Nat.not_lt.2 hat)

section I3c
variable {s : State}

theorem i3cOn_iff : i3cOn s = true ↔ s.dev.aonUp = true ∧ getO s 0x1050 3 = 1 := by simp [i3cOn]

end I3c

theorem i3cCommandsComplete : I3cCommandsComplete := by
  refine fun s addr n => ⟨fun haon hone => ?_, fun hoff => ?_⟩
  · have hon := i3cOn_iff.2 ⟨haon, hone⟩
    have row {t : State} : Host.Outcome.next (if i3cOn s then t else s) = (.next t : Out) := congrArg _ (if_pos hon)
    exact ⟨fun h => ⟨row.trans (congrArg _ (if_pos h)), row.trans (congrArg _ (if_pos h))⟩,
      fun h => row.trans (congrArg _ (if_neg h)), row, row, row, row, row, row, row, row, row,
      fun h => ⟨row.trans (congrArg _ (if_neg (Nat.not_le.2 h))), row.trans (congrArg _ (if_neg (Nat.not_le.2 h)))⟩,
      fun h => ⟨row.trans (congrArg _ (if_pos h)), row.trans (congrArg _ (if_pos h))⟩⟩
  · have hon : ¬ i3cOn s = true := mt i3cOn_iff.1 (by simpa [imp_iff_not_or] using hoff)
    have row {t : State} : Host.Outcome.next (if i3cOn s then t else s) = (.next s : Out) := congrArg _ (if_neg hon)
    simp only [List.forall_mem_cons]
    exact ⟨row, row, row, row, row, row, row, row, row, row, row, row, row, row, row, row, by simp⟩

theorem i3cTransfersComplete : I3cTransfersComplete := by
  intro s f hon r y
  have row {t : State} : Host.Outcome.next (if i3cOn s then t else s) = (.next t : Out) := congrArg _ (if_pos hon)
  have hread : execI3cPrivateRead s = .next (match s.relum.i3cRsp with
    | none => emit s .i3cNack
    | some r => if s.relum.mrl < r.length then emit s .i3cNack else emit s (.i3c r)) := row
  refine ⟨fun h => row.trans (congrArg _ (if_neg (Nat.not_lt.2 h))), fun h => row.trans (congrArg _ (if_pos h)),
    fun rsp hrsp => ?_, fun hrsp => ?_⟩
  · rw [hrsp] at hread
    exact ⟨fun h => hread.trans (congrArg _ (if_neg (Nat.not_lt.2 h))), fun h => hread.trans (congrArg _ (if_pos h))⟩
  · rw [hrsp] at hread
    exact hread

/-- Settles O44, by its three families. -/
theorem i3cAndLocksComplete : Obligations.I3cAndLocksComplete := ⟨lockExpiryCompletes, i3cCommandsComplete, i3cTransfersComplete⟩

/-! ## Mailboxes -/

section Mailboxes
variable {s : State} {k : Nat} {req : List Byte} {own : Option Hart} {r : State → Req}

theorem ringDoorbell_busy (h : (getBox s k).busy = true) :
    ringDoorbell (putReq s k req) k own 1 r = setBox s k { getBox s k with overrun := true } := by
  have hput : putReq s k req = s := if_pos h
  rw [hput]
  exact if_pos h

theorem ringDoorbell_free (h : (getBox s k).busy = false) :
    let u := setBox s k { getBox s k with req := padTo 80 req }
    let w := setBox u k { getBox u k with busy := true, owner := own, sentAt := none }
    (getBox u k).busy = false → ringDoorbell (putReq s k req) k own 1 r = submitBox w k (r w) := by
  intro u w hu
  have hput : putReq s k req = u := if_neg (Bool.eq_false_iff.1 h)
  rw [hput]
  exact if_neg (Bool.eq_false_iff.1 hu)

section Submit
variable {w : State} {q : Req}

theorem submitBox_remote (h : goesRemote w { q with key := rKey (bufFrame (getBox w k).req) } (bufFrame (getBox w k).req) = true) :
    submitBox w k q = sendRemote w k { q with key := rKey (bufFrame (getBox w k).req) } (bufFrame (getBox w k).req) := if_pos h

theorem submitBox_local (h : goesRemote w { q with key := rKey (bufFrame (getBox w k).req) } (bufFrame (getBox w k).req) = false) :
    submitBox w k q = match serveFrame w { q with key := rKey (bufFrame (getBox w k).req) } (bufFrame (getBox w k).req) with
      | (t, some rsp) => answerBox t k rsp
      | (t, none) => t := if_neg (Bool.eq_false_iff.1 h)

end Submit

/-- A doorbell of 1, as the two mailboxes share it. -/
theorem ringDoorbell_completes (s : State) (k : Nat) (req : List Byte) (own : Option Hart) (r : State → Req) :
    let b := getBox s k
    let u := setBox s k { b with req := padTo 80 req }
    let w := setBox u k { getBox u k with busy := true, owner := own, sentAt := none }
    let f := bufFrame (getBox w k).req
    let q := { r w with key := rKey f }
    let run := ringDoorbell (putReq s k req) k own 1 r
    (b.busy = true → run = setBox s k { b with overrun := true }) ∧
    (b.busy = false → (getBox u k).busy = false →
      (goesRemote w q f = true → run = sendRemote w k q f) ∧
      (goesRemote w q f = false →
        (∀ t rsp, serveFrame w q f = (t, some rsp) → run = answerBox t k rsp) ∧
        (∀ t, serveFrame w q f = (t, none) → run = t))) := by
  intro b u w f q run
  refine ⟨ringDoorbell_busy, fun hb hu => ⟨fun hr => (ringDoorbell_free hb hu).trans (submitBox_remote hr), fun hl => ?_⟩⟩
  have hrun : run = match serveFrame w q f with | (t, some rsp) => answerBox t k rsp | (t, none) => t :=
    (ringDoorbell_free hb hu).trans (submitBox_local hl)
  refine ⟨fun t rsp hs => ?_, fun t hs => ?_⟩
  · rw [hrun, hs]
  · rw [hrun, hs]

theorem clearStatus_unowned {v : Nat} (h : (getBox s k).owner = none) : clearStatus s k v =
    setBox s k { getBox s k with done := (getBox s k).done && !fbit v 1, overrun := (getBox s k).overrun && !fbit v 2,
                                 timeout := (getBox s k).timeout && !(fbit v 3 && k != 8) } := by
  unfold clearStatus
  dsimp only
  rw [h]

theorem clearStatus_owned {v : Nat} {o : Hart} (h : (getBox s k).owner = some o) : clearStatus s k v =
    settleMeip (setBox s k { getBox s k with
      done := (getBox s k).done && !fbit v 1, overrun := (getBox s k).overrun && !fbit v 2,
      timeout := (getBox s k).timeout && !(fbit v 3 && k != 8) }) o.core := by
  unfold clearStatus
  dsimp only
  rw [h]

theorem execMailboxTimeout_due {t : Nat} (ht : (getBox s k).sentAt = some t) (hb : (getBox s k).busy = true) (hat : t + 10 * msec ≤ s.now) :
    execMailboxTimeout k s = .next (ringBox (setBox s k { getBox s k with busy := false, timeout := true, sentAt := none }) k) := by
  unfold execMailboxTimeout
  dsimp only
  rw [ht]
  exact if_pos (by simp [hb, hat])

end Mailboxes

theorem mailboxesComplete : MailboxesComplete := by
  intro h k v req s ring
  have hring (k : Nat) (own : Option Hart) (r : State → Req) :
      ring k own r (.next (ringDoorbell (putReq s k req) k own 1 r)) := by
    obtain ⟨hbusy, hfree⟩ := ringDoorbell_completes s k req own r
    refine ⟨fun hb => congrArg _ (hbusy hb), fun hb hu => ?_⟩
    obtain ⟨hremote, hlocal⟩ := hfree hb hu
    refine ⟨fun hr => congrArg _ (hremote hr), fun hl => ?_⟩
    obtain ⟨hsome, hnone⟩ := hlocal hl
    exact ⟨fun t rsp hs => congrArg _ (hsome t rsp hs), fun t hs => congrArg _ (hnone t hs)⟩
  exact ⟨hring 8 none _, hring k (some h) _, fun ho => congrArg _ (clearStatus_unowned ho),
    fun o ho => congrArg _ (clearStatus_owned ho), fun t ht hb hat => execMailboxTimeout_due ht hb hat⟩

/-! ## In-band flits -/

section InBand
variable {p : Nat} {b : List Byte} {s : State} {act : State → State} (hup : portUp s p = true)
include hup

/-- A flit of an up port frees its buffer, then is taken here or passed on. -/
theorem mgmtIn_up : mgmtIn s p b act = if mDst b = pnode (giveCredit s p 5) then act (giveCredit s p 5)
    else if getO (giveCredit s p 5) 0x4040 4 ≤ fieldB b 4 1 then giveCredit s p 5
    else rerouteMgmt (giveCredit s p 5) (pSet b 4 (f8 (fieldB b 4 1 + 1))) := if_neg (by simp [hup])

theorem mgmtIn_here (hd : mDst b = pnode (giveCredit s p 5)) : mgmtIn s p b act = act (giveCredit s p 5) :=
  (mgmtIn_up hup).trans (if_pos hd)

theorem mgmtIn_limit (hd : mDst b ≠ pnode (giveCredit s p 5)) (hh : getO (giveCredit s p 5) 0x4040 4 ≤ fieldB b 4 1) :
    mgmtIn s p b act = giveCredit s p 5 := (mgmtIn_up hup).trans ((if_neg hd).trans (if_pos hh))

theorem mgmtIn_hop (hd : mDst b ≠ pnode (giveCredit s p 5)) (hh : fieldB b 4 1 < getO (giveCredit s p 5) 0x4040 4) :
    mgmtIn s p b act = rerouteMgmt (giveCredit s p 5) (pSet b 4 (f8 (fieldB b 4 1 + 1))) :=
  (mgmtIn_up hup).trans ((if_neg hd).trans (if_neg (Nat.not_le.2 hh)))

end InBand

section Flits
variable {p : Port} {b : List Byte} {s : State}

theorem exec_inBandRequest (h1 : fbit (mFlags b) 1 = false) (h2 : fbit (mFlags b) 2 = false) :
    exec (.inBandRequest p b) s = .next (mgmtIn s p b (fun s => bandRequest s b)) := congrArg _ (if_neg (by simp [h1, h2]))

theorem exec_inBandResponse (h1 : fbit (mFlags b) 1 = true) :
    exec (.inBandResponse p b) s = .next (mgmtIn s p b (fun s => bandResponse s b)) := congrArg _ (if_pos h1)

theorem exec_notifyFlit (h1 : fbit (mFlags b) 1 = false) (h2 : fbit (mFlags b) 2 = true) :
    exec (.notifyFlit p b) s = .next (mgmtIn s p b (fun s => bandNotify s b)) := congrArg _ (if_pos (by simp [h1, h2]))

/-- The three rows of a management flit. -/
theorem exec_flit {i : Instr}
    (hi : (i, true) ∈ [(Instr.inBandRequest p b, decide (fbit (mFlags b) 1 = false ∧ fbit (mFlags b) 2 = false)),
      (.inBandResponse p b, fbit (mFlags b) 1), (.notifyFlit p b, decide (fbit (mFlags b) 2 = true ∧ fbit (mFlags b) 1 = false))]) :
    ∃ act, exec i s = .next (mgmtIn s p b act) := by
  simp only [List.mem_cons, Prod.mk.injEq, List.not_mem_nil, or_false, eq_comm (a := true), decide_eq_true_eq] at hi
  obtain ⟨rfl, h1, h2⟩ | ⟨rfl, h1⟩ | ⟨rfl, h2, h1⟩ := hi
  · exact ⟨_, exec_inBandRequest h1 h2⟩
  · exact ⟨_, exec_inBandResponse h1⟩
  · exact ⟨_, exec_notifyFlit h1 h2⟩

theorem bandResponse_awaited {t : State} (hb : (getBox t (mBox b)).busy = true) (hs : (getBox t (mBox b)).sentAt.isSome = true) :
    bandResponse t b = answerBox t (mBox b) (mFrame b) := if_pos (by simp [hb, hs])

end Flits

theorem inBandCompletes : InBandCompletes := by
  intro p b s hup t rows
  refine ⟨fun i hi => ?_, fun hd => ⟨fun h1 h2 => ?_, fun h1 hb hs => ?_, fun h1 h2 => ?_⟩⟩
  · obtain ⟨act, hact⟩ := exec_flit (s := s) hi
    exact ⟨fun hd hh => hact.trans (congrArg _ (mgmtIn_limit hup hd hh)), fun hd hh => hact.trans (congrArg _ (mgmtIn_hop hup hd hh))⟩
  · have hrun := (exec_inBandRequest (s := s) h1 h2).trans (congrArg _ (mgmtIn_here hup hd))
    refine ⟨fun u rsp hs => hrun.trans (congrArg _ ?_), fun u hs => hrun.trans (congrArg _ ?_)⟩
    · unfold bandRequest
      dsimp only
      rw [hs]
    · unfold bandRequest
      dsimp only
      rw [hs]
  · exact (exec_inBandResponse h1).trans (congrArg _ ((mgmtIn_here hup hd).trans (bandResponse_awaited hb hs)))
  · exact (exec_notifyFlit h1 h2).trans (congrArg _ (mgmtIn_here hup hd))

/-- Settles O45, by its two families. -/
theorem mailboxesAndInBandComplete : Obligations.MailboxesAndInBandComplete := ⟨mailboxesComplete, inBandCompletes⟩

end Sys2Proof.Proofs
end

section
/-! The frame of an accepted write (14 R482 to R484): objects as a map whose keys rise, whatever the defaults of its entries. -/
namespace Sys2Proof.Proofs
open Sys2Proof.Machine Sys2Proof.Claims

/-! ## Maps whose keys rise -/

section Sorted
variable {α : Type} [DecidableEq α] {d e v : α} {i j : Nat}

/-- The keys of a map rise. -/
def Rising (m : SMap α) : Prop := m.Pairwise (fun x y => x.1 < y.1)

omit [DecidableEq α] in
theorem mget_of_forall_lt {m : SMap α} (h : ∀ x ∈ m, j < x.1) : mget d m j = d := by
  cases m with
  | nil => rfl
  | cons x r =>
    have hx := h x List.mem_cons_self
    rw [mget, if_neg hx.ne', if_pos hx]

theorem mem_mset {m : SMap α} {x : Nat × α} (h : x ∈ mset d m i v) : x = (i, v) ∨ x ∈ m := by
  induction m with
  | nil =>
    rw [mset] at h
    split at h
    · exact .inr h
    · exact .inl (List.mem_singleton.1 h)
  | cons y r ih =>
    rw [mset] at h
    split_ifs at h with hlt hd heq hd
    · exact .inr h
    · exact List.mem_cons.1 h
    · exact .inr (List.mem_cons_of_mem _ h)
    · exact (List.mem_cons.1 h).imp (heq ▸ ·) (List.mem_cons_of_mem _)
    · obtain rfl | h := List.mem_cons.1 h
      · exact .inr List.mem_cons_self
      · exact (ih h).imp id (List.mem_cons_of_mem _)

theorem Rising.mset {m : SMap α} (hm : Rising m) : Rising (mset d m i v) := by
  induction m with
  | nil =>
    rw [Machine.mset]
    split
    · exact hm
    · exact List.pairwise_singleton ..
  | cons y r ih =>
    obtain ⟨hy, hr⟩ := List.pairwise_cons.1 hm
    rw [Machine.mset]
    split_ifs with hlt hd heq hd
    · exact hm
    · refine List.pairwise_cons.2 ⟨fun x hx => ?_, hm⟩
      obtain rfl | hx := List.mem_cons.1 hx
      · exact hlt
      · exact hlt.trans (hy x hx)
    · exact hr
    · exact List.pairwise_cons.2 ⟨hy, hr⟩
    · refine List.pairwise_cons.2 ⟨fun x hx => ?_, ih hr⟩
      obtain rfl | hx := mem_mset hx
      · exact lt_of_le_of_ne (Nat.not_lt.1 hlt) (Ne.symm heq)
      · exact hy x hx

theorem mget_mset_same_of_rising {m : SMap α} (hm : Rising m) : mget d (mset d m i v) i = v := by
  induction m with
  | nil =>
    rw [mset]
    split
    next h => exact h.symm
    next => rw [mget, if_pos rfl]
  | cons y r ih =>
    obtain ⟨hy, hr⟩ := List.pairwise_cons.1 hm
    rw [mset]
    split_ifs with hlt hd heq hd
    · rw [mget, if_neg hlt.ne', if_pos hlt, hd]
    · rw [mget, if_pos rfl]
    · rw [mget_of_forall_lt (heq ▸ hy), hd]
    · rw [mget, if_pos heq.symm]
    · rw [mget, if_neg (Ne.symm heq), if_neg hlt, ih hr]

theorem mget_mset_ne_of_rising {m : SMap α} (hm : Rising m) (hne : j ≠ i) : mget e (mset d m i v) j = mget e m j := by
  by_cases hv : v = d
  case neg => exact mget_mset_ne_of_ne_default hv hne m
  induction m with
  | nil => rw [mset, if_pos hv]
  | cons y r ih =>
    obtain ⟨hy, hr⟩ := List.pairwise_cons.1 hm
    rw [mset]
    split_ifs with hlt heq
    · rfl
    · rw [mget, if_neg (heq ▸ hne.symm)]
      split
      next hj => exact mget_of_forall_lt fun x hx => hj.trans (hy x hx)
      next => rfl
    · simp only [mget, ih hr]

end Sorted

theorem okey_inj {i j sub k : Nat} (hsub : sub < 256) (hk : k < 256) (h : (j, k) ≠ (i, sub)) : okey j k ≠ okey i sub := by
  simp only [okey, ne_eq, Prod.mk.injEq, not_and] at h ⊢
  omega

/-! ## An accepted write -/

theorem served_rising {s : State} {a : Acc} (h : Rising s.obj) : Rising (served s a).obj := by
  unfold served countServed
  split
  · exact h
  · exact h.mset

theorem count_eq (s : State) (i sub n : Nat) : ∃ o, count s i sub n = { s with obj := o } := ⟨_, rfl⟩

/-- An access that is served changes objects only. -/
theorem served_eq (s : State) (a : Acc) : ∃ o, served s a = { s with obj := o } := by
  by_cases h : a.path = .keeper
  · exact ⟨s.obj, if_pos h⟩
  · obtain ⟨o, ho⟩ := count_eq s 0x1051 (servedSub a.path) 1
    exact ⟨o, (if_neg h).trans ho⟩

/-- What a lock is besides its expiry. -/
def lockOf (l : Nat × LockEntry) : Nat × Nat × Nat × Nat × Nat := (l.1, l.2.first, l.2.last, l.2.origin, l.2.key)

theorem map_lockOf_renewed (p : Nat × LockEntry → Bool) (e : Nat) (l : List (Nat × LockEntry)) :
    (l.map (fun l => if p l then (l.1, { l.2 with expiry := e }) else l)).map lockOf = l.map lockOf := by
  rw [List.map_map]
  refine List.map_congr_left fun x _ => ?_
  rw [Function.comp_apply]
  split <;> rfl

/-- Renewal moves expiries only. -/
theorem renew_locks (s : State) (r : Req) : (renew s r).relum.locks.map lockOf = s.relum.locks.map lockOf :=
  map_lockOf_renewed (fun l => r.key != 0 && l.2.origin == r.origin && l.2.key == r.key) _ _

theorem persistAfter_eq (s : State) (row : ObjRow) (i sub : Nat) : ∃ p, persistAfter s row i sub = { s with persist := p } := by
  unfold persistAfter
  split
  · exact ⟨_, rfl⟩
  · exact ⟨s.persist, rfl⟩

/-- Settles O56: the state that an accepted write leaves, by `writeObj_written`; its objects by what serving and the write set. -/
theorem writeFrame : Obligations.WriteFrame := by
  intro a i sub v s t hm hc hi hsub hw ht
  obtain ⟨row, hf⟩ := findRow_of_mayWrite hm
  have hrun := (writeObj_written hm hc hw).trans (written_of_findRow hf ..)
  obtain rfl := Host.Outcome.next.inj (ht.symm.trans hrun)
  obtain ⟨p, hp⟩ := persistAfter_eq (setO (served s a) i sub v) row i sub
  obtain ⟨o, ho⟩ := served_eq s a
  rw [hp]
  refine ⟨by rw [ho]; rfl, (renew_locks ..).trans (by rw [ho]; rfl), fun hrise => ⟨?_, fun j k hk hne hj => ?_⟩⟩
  · exact mget_mset_same_of_rising (served_rising hrise)
  · exact (mget_mset_ne_of_rising (served_rising hrise) (okey_inj hsub hk hne)).trans (getO_served hj hk)

end Sys2Proof.Proofs
end

section
/-! Placement in round 0 (11 R391, R392): every open choice is settled once, and no share gives more rows than it has. -/
namespace Sys2Proof.Proofs
open Sys2Proof.Machine Sys2Proof.Claims

section Placement
variable {s : State} {im : Image} {pl : Plan} {x : Site} {g : Nat}

/-- A choice as round 0 leaves it: placed, carried to a later round where one follows, or dropped. -/
def Settles (x : Site) (c d : RRec) : Prop :=
  d.expert = c.expert ∧ d.weight = c.weight ∧ d.bank = c.bank ∧
    (d.state = 0 ∨ d.state = 1 ∧ 1 < x.nrounds ∨ d.state = 2 ∧ x.nrounds ≤ 1)

theorem Settles.state_ne {c d : RRec} (h : Settles x c d) : d.state ≠ 4 := by
  obtain ⟨-, -, -, h⟩ := h
  omega

/-- The entry of a choice in the record, by its row and rank. -/
def entry (x : Site) (v : Nat × Nat) : Nat := v.1 * x.topk + v.2

/-- The entry of the record that a placement works on. -/
def choice (x : Site) (st : Placing) (v : Nat × Nat) : RRec := st.recs.getD (entry x v) ⟨0, 0, 0, 3, 0⟩

/-- One choice is served: a row of a share that has one left, or none. -/
theorem placeOne_cases (s : State) (pl : Plan) (x : Site) (v : Nat × Nat) (st : Placing) :
    let c := choice x st v
    let t := placeOne s pl x 0 v.1 v.2 st
    (∃ d, t.recs = st.recs.set (entry x v) d ∧ Settles x c d) ∧
    (t.taken = st.taken ∨ ∃ q < x.pref, mget 0 st.taken (c.expert * 16 + q) < (shareAt s pl c.bank x c.expert q).rows ∧
      t.taken = mset 0 st.taken (c.expert * 16 + q) (mget 0 st.taken (c.expert * 16 + q) + 1)) := by
  intro c t
  unfold t placeOne
  dsimp only
  split
  next q hq =>
    have hfit := List.find?_some hq
    simp only [Bool.and_eq_true, decide_eq_true_eq] at hfit
    exact ⟨⟨_, rfl, rfl, rfl, rfl, .inl rfl⟩, .inr ⟨q, List.mem_range.1 (List.mem_of_find?_eq_some hq), hfit.2, rfl⟩⟩
  next =>
    split
    next h => exact ⟨⟨_, rfl, rfl, rfl, rfl, .inr (.inl ⟨rfl, by omega⟩)⟩, .inl rfl⟩
    next h => exact ⟨⟨_, rfl, rfl, rfl, rfl, .inr (.inr ⟨rfl, by omega⟩)⟩, .inl rfl⟩

/-- Round 0 at one row and rank: an open choice is served. -/
def visit (s : State) (pl : Plan) (x : Site) (st : Placing) (v : Nat × Nat) : Placing :=
  if (choice x st v).state = 4 then placeOne s pl x 0 v.1 v.2 st else st

/-- The rows and ranks of a site, in the order of their placement. -/
def visits (x : Site) : List (Nat × Nat) := (List.range x.topk).flatMap fun j => (List.range x.m).map fun m => (m, j)

theorem placeAll_eq (recs : List RRec) : placeAll s im pl x g 0 recs = (visits x).foldl (visit s pl x) ⟨recs, [], [], [], []⟩ := by
  simp only [visits, List.foldl_flatMap, List.foldl_map]
  rfl

theorem exists_visit {i : Nat} (h : i < x.m * x.topk) : ∃ v ∈ visits x, entry x v = i := by
  have hk : 0 < x.topk := Nat.pos_of_mul_pos_left (Nat.zero_lt_of_lt h)
  refine ⟨(i / x.topk, i % x.topk), ?_, Nat.div_add_mod' ..⟩
  simp [visits, Nat.mod_lt _ hk, Nat.div_lt_of_lt_mul (Nat.mul_comm .. ▸ h)]

/-- What holds after one visit whatever came before, and is kept by every visit, holds after all of them. -/
theorem foldl_of_mem {α β : Type} {f : α → β → α} {P : α → Prop} {l : List β} {v : β} (hv : v ∈ l) (hset : ∀ a, P (f a v))
    (hkeep : ∀ a b, P a → P (f a b)) (a : α) : P (l.foldl f a) := by
  obtain ⟨l₁, l₂, rfl⟩ := List.append_of_mem hv
  rw [List.foldl_append, List.foldl_cons]
  exact List.foldlRecOn l₂ f (hset _) fun a ha b _ => hkeep a b ha

/-! ## The record -/

/-- Each entry of the record stands as it was, or was an open choice and is settled. -/
def Follows (x : Site) (recs now : List RRec) : Prop :=
  now.length = recs.length ∧ ∀ (i : Nat) (c : RRec), recs[i]? = some c → ∃ d, now[i]? = some d ∧ (d = c ∨ c.state = 4 ∧ Settles x c d)

theorem choice_of_open {st : Placing} {v : Nat × Nat} (h : (choice x st v).state = 4) : st.recs[entry x v]? = some (choice x st v) := by
  unfold choice at h ⊢
  rw [List.getD_eq_getElem?_getD] at h ⊢
  cases hc : st.recs[entry x v]? with
  | none => simp [hc] at h
  | some c => rfl

theorem Follows.visit {recs : List RRec} {st : Placing} (h : Follows x recs st.recs) (v : Nat × Nat) :
    Follows x recs (visit s pl x st v).recs := by
  unfold Proofs.visit
  split
  case isFalse => exact h
  case isTrue hopen =>
    obtain ⟨⟨d, hrecs, hd⟩, -⟩ := placeOne_cases s pl x v st
    obtain ⟨hlen, hall⟩ := h
    rw [hrecs]
    refine ⟨by rw [List.length_set, hlen], fun i c hi => ?_⟩
    obtain ⟨e, he, hec⟩ := hall i c hi
    by_cases hiv : entry x v = i
    · subst hiv
      obtain rfl : e = choice x st v := Option.some.inj (he.symm.trans (choice_of_open hopen))
      have hlt := (List.getElem?_eq_some_iff.1 he).1
      refine ⟨d, List.getElem?_set_self hlt, .inr ?_⟩
      obtain hec | ⟨-, hs⟩ := hec
      · exact hec ▸ ⟨hopen, hd⟩
      · exact absurd hopen hs.state_ne
    · exact ⟨e, by rw [List.getElem?_set_ne hiv, he], hec⟩

/-- No open choice stands at an entry. -/
def ClosedAt (i : Nat) (st : Placing) : Prop := ∀ c : RRec, st.recs[i]? = some c → c.state ≠ 4

theorem closedAt_visit_self (st : Placing) (v : Nat × Nat) : ClosedAt (entry x v) (visit s pl x st v) := by
  intro c hc
  unfold visit at hc
  split at hc
  case isTrue hopen =>
    obtain ⟨⟨d, hrecs, hd⟩, -⟩ := placeOne_cases s pl x v st
    rw [hrecs, List.getElem?_set_self (List.getElem?_eq_some_iff.1 (choice_of_open hopen)).1] at hc
    exact Option.some.inj hc ▸ hd.state_ne
  case isFalse hclosed =>
    rwa [choice, List.getD_eq_getElem?_getD, hc] at hclosed

theorem ClosedAt.visit {i : Nat} {st : Placing} (h : ClosedAt i st) (v : Nat × Nat) : ClosedAt i (visit s pl x st v) := by
  by_cases hi : entry x v = i
  · exact hi ▸ closedAt_visit_self st v
  · unfold Proofs.visit
    split
    case isFalse => exact h
    case isTrue =>
      obtain ⟨⟨d, hrecs, -⟩, -⟩ := placeOne_cases s pl x v st
      intro c hc
      rw [hrecs, List.getElem?_set_ne hi] at hc
      exact h c hc

theorem follows_placeAll (recs : List RRec) : Follows x recs (placeAll s im pl x g 0 recs).recs := by
  rw [placeAll_eq]
  exact List.foldlRecOn (motive := fun st : Placing => Follows x recs st.recs) _ _ ⟨rfl, fun _ c hc => ⟨c, hc, .inl rfl⟩⟩
    fun _ h v _ => h.visit v

theorem closedAt_placeAll {recs : List RRec} {i : Nat} (h : i < x.m * x.topk) : ClosedAt i (placeAll s im pl x g 0 recs) := by
  rw [placeAll_eq]
  obtain ⟨v, hv, rfl⟩ := exists_visit h
  exact foldl_of_mem hv (closedAt_visit_self · v) (fun _ w h => h.visit w) _

/-! ## The shares -/

/-- Every choice is of bank `b`, and no share of it has given more rows than it has. -/
def WithinShares (s : State) (pl : Plan) (x : Site) (b : Nat) (st : Placing) : Prop :=
  (∀ c ∈ st.recs, c.bank = b) ∧ mapWf 0 st.taken = true ∧
    ∀ e q, q < 16 → mget 0 st.taken (e * 16 + q) ≤ (shareAt s pl b x e q).rows

theorem WithinShares.visit {b : Nat} {st : Placing} (hpref : x.pref ≤ 16) (h : WithinShares s pl x b st) (v : Nat × Nat) :
    WithinShares s pl x b (visit s pl x st v) := by
  unfold Proofs.visit
  split
  case isFalse => exact h
  case isTrue hopen =>
    obtain ⟨⟨d, hrecs, -, -, hdb, -⟩, htaken⟩ := placeOne_cases s pl x v st
    obtain ⟨hbank, hwf, hrows⟩ := h
    have hb : (choice x st v).bank = b := hbank _ (List.mem_of_getElem? (choice_of_open hopen))
    refine ⟨fun c hc => ?_, ?_, fun e q hq => ?_⟩
    · obtain hc | rfl := List.mem_or_eq_of_mem_set (hrecs ▸ hc)
      · exact hbank c hc
      · exact hdb.trans hb
    · obtain ht | ⟨p, -, -, ht⟩ := htaken <;> rw [ht]
      · exact hwf
      · exact mapWf_mset _ _ hwf
    · obtain ht | ⟨p, hp, hlt, ht⟩ := htaken <;> rw [ht]
      · exact hrows e q hq
      · by_cases hkey : e * 16 + q = (choice x st v).expert * 16 + p
        · obtain ⟨rfl, rfl⟩ : e = (choice x st v).expert ∧ q = p := by omega
          rw [mget_mset_same _ _ hwf, ← hb]
          exact hlt
        · rw [mget_mset_ne _ hkey hwf]
          exact hrows e q hq

theorem withinShares_placeAll {recs : List RRec} {b : Nat} (hbank : ∀ c ∈ recs, c.bank = b) (hpref : x.pref ≤ 16) :
    WithinShares s pl x b (placeAll s im pl x g 0 recs) := by
  rw [placeAll_eq]
  exact List.foldlRecOn (motive := WithinShares s pl x b) _ _ ⟨hbank, rfl, fun _ _ _ => Nat.zero_le _⟩ fun _ h v _ => h.visit hpref v

end Placement

/-- Settles O22: entries by `Follows`, which every visit keeps, and `ClosedAt`, which the entry's own visit brings; rows by `WithinShares`. -/
theorem roundSettlesEveryChoice : Obligations.RoundSettlesEveryChoice := by
  intro s im pl x g recs hlen st
  obtain ⟨hsame, hfollow⟩ := follows_placeAll (s := s) (im := im) (pl := pl) (x := x) (g := g) recs
  refine ⟨hsame, fun i c hc => ?_, fun b hbank hpref e q hq => ?_⟩
  · obtain ⟨d, hd, hdc⟩ := hfollow i c hc
    refine ⟨fun hclosed => ?_, fun hopen => ⟨d, hd, ?_⟩⟩
    · obtain rfl | ⟨hopen, -⟩ := hdc
      · exact hd
      · exact absurd hopen hclosed
    · obtain rfl | ⟨-, hs⟩ := hdc
      · have hi := hlen ▸ (List.getElem?_eq_some_iff.1 hc).1
        exact absurd hopen (closedAt_placeAll hi d hd)
      · exact hs
  · obtain ⟨-, -, hrows⟩ := withinShares_placeAll (s := s) (im := im) (pl := pl) (g := g) hbank hpref
    exact hrows e q hq

end Sys2Proof.Proofs
end
